-- ==== Sys2Proof/Word.lean ====
section
/-! DEFINITION. The data sizes of the module (00 R6) and plain helpers over them. -/

namespace Sys2Proof

/-- A word: 36 bits (R6). -/
abbrev Word := BitVec 36
/-- A doubleword: 72 bits (R6). -/
abbrev DWord := BitVec 72
/-- A nonet: 9 bits (R6). -/
abbrev Nonet := BitVec 9
/-- An octet: 8 bits (R6). -/
abbrev Octet := BitVec 8
/-- A virtual word address: 48 bits (R54). -/
abbrev VAddr := BitVec 48

end Sys2Proof
end

