-- ==== Sys2Proof/Syntax.lean ====
section
/-! DEFINITION. The commands of the module: one constructor of `Instr` per row of spec/opcode_table.json, and the
operand types the rows need. -/

namespace Sys2Proof

/-- A machine instruction as fetched: the header word and up to three descriptor words (R50). Words beyond the
instruction's operand count are not part of it and are ignored. -/
structure Insn where
  hdr : Word
  a : Word
  b : Word
  c : Word
deriving DecidableEq, Repr

/-- The register roles of R11. -/
inductive Role where
  | z | f | h | g | u
deriving DecidableEq, Repr

/-- Who makes a control-space access: the role and the logical core (R372). -/
structure Accessor where
  role : Role
  core : Nat
deriving DecidableEq, Repr

/-- The route of an object access: an SSP session, or in band from a logical core (R424). -/
inductive Route where
  | session (id : Nat)
  | inBand (core : Nat)
deriving DecidableEq, Repr

/-- The owner of an interrupt source (R374). -/
inductive Owner where
  | tenant (t : Nat)
  | host
  | sealed
deriving DecidableEq, Repr

/-- The report classes of R392; `rail` is the reporting-path fault (P equal to N). -/
inductive FaultClass where
  | corrected | contained | fatal
deriving DecidableEq, Repr

/-- The key switch (Table 14.9). -/
inductive KeyPos where
  | locked | run | service
deriving DecidableEq, Repr

/-- The key switch's contacts KEY_LK_N and KEY_SV_N (Table 15.9): a position, or both low. -/
inductive KeyContacts where
  | at_ (pos : KeyPos)
  | bothLow
deriving DecidableEq, Repr

/-- Where an SSP frame arrives, SVC-B or SVC-A, and the module that its SERIAL addresses (Table 14.5). -/
structure SspTo where
  segB : Bool
  serial : BitVec 64
deriving DecidableEq, Repr

/-- The Constellation header (Table 7.16), without VERSION and TYPE, and whether MACsec validation passed. -/
structure CHeader where
  valid : Bool
  reservedZero : Bool
  last : Bool
  retransmit : Bool
  srcMod : Nat
  dstMod : Nat
  srcSerial : BitVec 64
  fseq : BitVec 32
  fack : BitVec 32
  opid : DWord
  retire : BitVec 48
  attempt : Nat
  offset : Nat
  total : Nat
deriving DecidableEq, Repr

/-- A heartbeat (Table 13.10) and whether it authenticated. -/
structure Heartbeat where
  authentic : Bool
  serial : BitVec 64
  twinId : Bool
  state : Nat
  selfFenced : Bool
  takenOver : Bool
  localAck : Bool
  count : Nat
  time : BitVec 64
  reserve : Nat
deriving DecidableEq, Repr

/-- An SSP REQUEST (Table 14.6) and whether its TAG verified. -/
structure SspRequest where
  to_ : SspTo
  session : Nat
  counter : Nat
  authentic : Bool
  reqTag : Nat
  last : Bool
  index : Nat
  sub : Nat
  offset : Nat
  value : List Octet
deriving DecidableEq, Repr

/-- An image file on the medium (Tables 14.13, 14.14): its fields and the outcome of each check of staging. -/
structure ImageFile where
  complete : Bool
  formatOk : Bool
  keysOk : Bool
  signaturesOk : Bool
  version : Nat
  secver : Nat
  nblocks : Nat
  badBlock : Option Nat
  patchVersion : Nat
  /-- component 03h: patch words and match entries (Tables 6.2, 6.6) -/
  patch : List (BitVec 168)
  matches_ : List (BitVec 36)
  /-- component 04h: the fall-back store -/
  fallBack : List (BitVec 36)
deriving DecidableEq, Repr

/-- What the medium holds (R444, R445): a card that cannot be used, or the two files looked for. -/
structure MediumContents where
  usable : Bool
  enrollment : Option (List Octet)
  image : Option ImageFile
deriving DecidableEq, Repr

/-- One channel of a mirrored configuration (R410, Table 7.18): tenant-local number, class, alternate target
(requester ID and root port on this module, if set), namespace, timeout, retire mark. -/
structure MirrorChannel where
  chan : Nat
  localNo : Nat
  cls : Nat
  alternate : Option (Nat × Nat)
  nsid : Nat
  timeout : Nat
  retire : Nat
deriving DecidableEq, Repr

/-- The mirrored configuration of one TWIN tenant (R407, R416). -/
structure MirrorConfig where
  tenant : Nat
  chanSlice : Nat
  ledgerQuota : Nat
  energyQuota : Nat
  anvilQuota : Nat
  irqSlice : Nat
  ringSlice : Nat
  cipherRings : Nat
  handleSlice : Nat
  fallbackRefuse : Bool
  sealing : Bool
  epoch : Nat
  /-- the tenant's acknowledgement policy is TWIN -/
  twin : Bool
  failNow : Bool
  waitLimit : Nat
  compression : Bool
  laneLimit : Nat
  coreLimit : Nat
  hvPermitted : Bool
  drainTimeout : Nat
  channels : List MirrorChannel
deriving DecidableEq, Repr

/-- An item mirrored by the twin (R266, R227, R333). -/
inductive MirrorItem where
  | entry (tenant seq : Nat) (user : Word) (words : List Word) (toSeal : Bool)
  | ledger (tenant source chan seq digest : Nat) (done : Option Nat)
  | config (cfg : MirrorConfig)
  | key (tenant handle : Nat) (present : Bool)
  /-- the tenant no longer exists on the twin -/
  | gone (tenant : Nat)
deriving DecidableEq, Repr

/-- What the Dawn sequence finds outside the module's own state (Table 8.7, Table 11.17, Table 15.7). -/
structure DawnInput where
  /-- every rail in regulation in time (R463) -/
  railsOk : Bool
  /-- signatures of bank A and of bank B verify (R452) -/
  bankAOk : Bool
  bankBOk : Bool
  /-- measurement M0 of Zenith as loaded -/
  m0 : BitVec 384
  /-- the customer image's signatures verify again (R194) -/
  customerOk : Bool
  /-- the persistent configuration verifies (Table 11.17 step 5) -/
  configOk : Bool
  /-- sites that fail their self-test (R201) -/
  failedSites : List Nat
  /-- records whose HCRC or trailer fails, by stream and record number (R284) -/
  badRecords : List (Nat × Nat)
  /-- the Jetstream links that train and identify: link, group 0, group 1 (R172) -/
  links : List (Nat × Bool × Bool)
  /-- links that identify with a mismatch (Table 5.11) -/
  mismatched : List Nat
  /-- members reached at the end of step 7, directly or by a relay (R172, R177) -/
  reachable : List Nat
deriving DecidableEq, Repr


/-- What a flit that brings a message tells of its link (Table 5.10): the link it came on, ACKSEQ, and the credits it
returns. Of no account for a message between agents of this module. -/
structure FlitHead where
  link : Nat
  ack : Nat
  cvc : Nat
  ccnt : Nat
deriving DecidableEq, Repr

/-- The fields of a coherence message's header that its row's other operands do not name (Table 5.6), and its flit. -/
structure MsgHead where
  tag : Nat
  orig : Nat
  flit : FlitHead
  /-- the line that a data message carries is poisoned (R178). Assumption 57 (DESIGN CHOICE) -/
  poisoned : Bool
deriving DecidableEq, Repr

/-- The agent at one end of a coherence message (R144), with the rest of the message's header. -/
structure MsgEnd where
  agent : Nat
  head : MsgHead
deriving DecidableEq, Repr

/-- A link whose retraining ends, and the SEQ that its peer expects next (Table 5.11). -/
structure Retrained where
  link : Nat
  expected : Nat
deriving DecidableEq, Repr

/-- The module that a link-state flit speaks of, and the flit (Table 5.10). -/
structure LinkOrigin where
  module : Nat
  flit : FlitHead
deriving DecidableEq, Repr

/-- One command: one row of spec/opcode_table.json, with its operands. -/
inductive Instr where
  /-- MVW (R61). -/
  | mvw (core : Nat) (ins : Insn)
  /-- MVN (R65). -/
  | mvn (core : Nat) (ins : Insn) (stop : Option Nat)
  /-- FLN (R65). -/
  | fln (core : Nat) (ins : Insn) (stop : Option Nat)
  /-- XCH (R116). -/
  | xch (core : Nat) (ins : Insn)
  /-- LDR (R117). -/
  | ldr (core : Nat) (ins : Insn)
  /-- STC (R118). -/
  | stc (core : Nat) (ins : Insn)
  /-- ADD (R79). -/
  | add (core : Nat) (ins : Insn)
  /-- SUB (R79). -/
  | sub (core : Nat) (ins : Insn)
  /-- ADC (R79). -/
  | adc (core : Nat) (ins : Insn)
  /-- SBB (R79). -/
  | sbb (core : Nat) (ins : Insn)
  /-- NEG (R78). -/
  | neg (core : Nat) (ins : Insn)
  /-- ABS (R78). -/
  | abs (core : Nat) (ins : Insn)
  /-- MUL (R78). -/
  | mul (core : Nat) (ins : Insn)
  /-- MLF (R77). -/
  | mlf (core : Nat) (ins : Insn)
  /-- DIV (R80). -/
  | div (core : Nat) (ins : Insn)
  /-- REM (R80). -/
  | rem (core : Nat) (ins : Insn)
  /-- DVR (R80). -/
  | dvr (core : Nat) (ins : Insn)
  /-- CMP (R77). -/
  | cmp (core : Nat) (ins : Insn)
  /-- TST (R63). -/
  | tst (core : Nat) (ins : Insn)
  /-- AND (R63). -/
  | and (core : Nat) (ins : Insn)
  /-- ORR (R63). -/
  | orr (core : Nat) (ins : Insn)
  /-- XOR (R63). -/
  | xor (core : Nat) (ins : Insn)
  /-- NOT (R63). -/
  | not (core : Nat) (ins : Insn)
  /-- SLL (R82). -/
  | sll (core : Nat) (ins : Insn)
  /-- SRL (R82). -/
  | srl (core : Nat) (ins : Insn)
  /-- SLA (R82). -/
  | sla (core : Nat) (ins : Insn)
  /-- SRA (R82). -/
  | sra (core : Nat) (ins : Insn)
  /-- ROL (R82). -/
  | rol (core : Nat) (ins : Insn)
  /-- ROR (R82). -/
  | ror (core : Nat) (ins : Insn)
  /-- CLZ (R81). -/
  | clz (core : Nat) (ins : Insn)
  /-- PCT (R63). -/
  | pct (core : Nat) (ins : Insn)
  /-- XBT (R61). -/
  | xbt (core : Nat) (ins : Insn)
  /-- IBT (R61). -/
  | ibt (core : Nat) (ins : Insn)
  /-- DAD (R88). -/
  | dad (core : Nat) (ins : Insn)
  /-- DSB (R88). -/
  | dsb (core : Nat) (ins : Insn)
  /-- DMU (R88). -/
  | dmu (core : Nat) (ins : Insn)
  /-- DDV (R88). -/
  | ddv (core : Nat) (ins : Insn)
  /-- DCP (R88). -/
  | dcp (core : Nat) (ins : Insn)
  /-- DMV (R88). -/
  | dmv (core : Nat) (ins : Insn)
  /-- DSR (R89). -/
  | dsr (core : Nat) (ins : Insn)
  /-- CDB (R88). -/
  | cdb (core : Nat) (ins : Insn)
  /-- CBD (R88). -/
  | cbd (core : Nat) (ins : Insn)
  /-- DTS (R86). -/
  | dts (core : Nat) (ins : Insn)
  /-- FAD (R91). -/
  | fad (core : Nat) (ins : Insn)
  /-- FSB (R91). -/
  | fsb (core : Nat) (ins : Insn)
  /-- FMU (R91). -/
  | fmu (core : Nat) (ins : Insn)
  /-- FDV (R91). -/
  | fdv (core : Nat) (ins : Insn)
  /-- FSQ (R91). -/
  | fsq (core : Nat) (ins : Insn)
  /-- FMA (R91). -/
  | fma (core : Nat) (ins : Insn)
  /-- FCP (R96). -/
  | fcp (core : Nat) (ins : Insn)
  /-- FCV (R100). -/
  | fcv (core : Nat) (ins : Insn)
  /-- FCI (R98). -/
  | fci (core : Nat) (ins : Insn)
  /-- FFI (R100). -/
  | ffi (core : Nat) (ins : Insn)
  /-- FTD (R98). -/
  | ftd (core : Nat) (ins : Insn)
  /-- FFD (R100). -/
  | ffd (core : Nat) (ins : Insn)
  /-- FTX (R100). -/
  | ftx (core : Nat) (ins : Insn)
  /-- FFX (R100). -/
  | ffx (core : Nat) (ins : Insn)
  /-- FRI (R91). -/
  | fri (core : Nat) (ins : Insn)
  /-- BR (R61). -/
  | br (core : Nat) (ins : Insn)
  /-- BAL (R47). -/
  | bal (core : Nat) (ins : Insn)
  /-- BCT (R61). -/
  | bct (core : Nat) (ins : Insn)
  /-- CSV (R70). -/
  | csv (core : Nat) (ins : Insn)
  /-- CHS (R70). -/
  | chs (core : Nat) (ins : Insn)
  /-- CZN (R358). -/
  | czn (core : Nat) (ins : Insn)
  /-- ATTEST (R371). -/
  | attest (core : Nat) (ins : Insn)
  /-- ASSIGN_PAGES (R357). -/
  | assignPages (core : Nat) (ins : Insn)
  /-- DELETE_NOTICE (R358). -/
  | deleteNotice (core : Nat) (ins : Insn)
  /-- RTI (R49). -/
  | rti (core : Nat) (ins : Insn)
  /-- WAIT (R70). -/
  | wait (core : Nat) (ins : Insn)
  /-- MVC (R65). -/
  | mvc (core : Nat) (ins : Insn) (stop : Option Nat)
  /-- CPC (R477). -/
  | cpc (core : Nat) (ins : Insn) (stop : Option Nat)
  /-- TRC (R64). -/
  | trc (core : Nat) (ins : Insn) (stop : Option Nat)
  /-- SCN (R477). -/
  | scn (core : Nat) (ins : Insn) (stop : Option Nat)
  /-- FLC (R64). -/
  | flc (core : Nat) (ins : Insn) (stop : Option Nat)
  /-- NTO (R477). -/
  | nto (core : Nat) (ins : Insn) (stop : Option Nat)
  /-- OTN (R64). -/
  | otn (core : Nat) (ins : Insn) (stop : Option Nat)
  /-- MVB (R65). -/
  | mvb (core : Nat) (ins : Insn) (stop : Option Nat)
  /-- BAR (R123). -/
  | bar (core : Nat) (ins : Insn)
  /-- ENABLE (R134). -/
  | enable (core : Nat) (ins : Insn)
  /-- DISABLE (R133). -/
  | disable (core : Nat) (ins : Insn)
  /-- CLEAN_ALL (R135). -/
  | cleanAll (core : Nat) (ins : Insn)
  /-- CLEAN_AND_INVALIDATE_ALL (R135). -/
  | cleanAndInvalidateAll (core : Nat) (ins : Insn)
  /-- CLEAN_LINE (R139). -/
  | cleanLine (core : Nat) (ins : Insn)
  /-- INVALIDATE_LINE (R139). -/
  | invalidateLine (core : Nat) (ins : Insn)
  /-- ZERO_LINE (R139). -/
  | zeroLine (core : Nat) (ins : Insn)
  /-- PRELOAD_SHARED (R138). -/
  | preloadShared (core : Nat) (ins : Insn)
  /-- PRELOAD_OWNED (R138). -/
  | preloadOwned (core : Nat) (ins : Insn)
  /-- PRELOAD_AND_LOCK (R129). -/
  | preloadAndLock (core : Nat) (ins : Insn)
  /-- UNLOCK_LINE (R130). -/
  | unlockLine (core : Nat) (ins : Insn)
  /-- UNLOCK_ALL (R130). -/
  | unlockAll (core : Nat) (ins : Insn)
  /-- COM (R256). -/
  | com (core : Nat) (ins : Insn)
  /-- ODA_READ (R430). -/
  | odaRead (core : Nat) (ins : Insn)
  /-- ODA_WRITE (R430). -/
  | odaWrite (core : Nat) (ins : Insn)
  /-- ESB_COMPRESSION (R303). -/
  | esbCompression (core : Nat) (ins : Insn)
  /-- ESB_CIPHER (R323). -/
  | esbCipher (core : Nat) (ins : Insn)
  /-- EPL_COMPRESSION (R304). -/
  | eplCompression (core : Nat) (ins : Insn)
  /-- EPL_CIPHER (R323). -/
  | eplCipher (core : Nat) (ins : Insn)
  /-- SCH (R217). -/
  | sch (core : Nat) (ins : Insn)
  /-- LSW (R49). -/
  | lsw (core : Nat) (ins : Insn)
  /-- SSW (R61). -/
  | ssw (core : Nat) (ins : Insn)
  /-- SPM (R49). -/
  | spm (core : Nat) (ins : Insn)
  /-- RCC (R205). -/
  | rcc (core : Nat) (ins : Insn)
  /-- RTD (R251). -/
  | rtd (core : Nat) (ins : Insn)
  /-- STAGE_1_PAGE (R353). -/
  | stage1Page (core : Nat) (ins : Insn)
  /-- STAGE_1_ALL (R353). -/
  | stage1All (core : Nat) (ins : Insn)
  /-- STAGE_2_PAGE (R353). -/
  | stage2Page (core : Nat) (ins : Insn)
  /-- STAGE_2_TENANT (R353). -/
  | stage2Tenant (core : Nat) (ins : Insn)
  /-- MODULE (R353). -/
  | module (core : Nat) (ins : Insn)
  /-- CUSTOMER_OPCODE (R195). -/
  | customerOpcode (core : Nat) (ins : Insn)
  /-- EXTERNAL_INTERRUPTION (R382). -/
  | externalInterruption (core : Nat)
  /-- CONTAINED_MACHINE_CHECK (R395). -/
  | containedMachineCheck (core sub : Nat) (info : DWord)
  /-- UNCONTAINED_MACHINE_CHECK (R209). -/
  | uncontainedMachineCheck (line sub core : Nat)
  /-- REPLAY (R108). -/
  | replay (core line : Nat)
  /-- STORE_BUFFER_ENTRY_PERFORMED (R112). -/
  | storeBufferEntryPerformed (core : Nat)
  /-- RESERVATION_DEFERRAL_EXPIRY (R120). -/
  | reservationDeferralExpiry (core : Nat)
  /-- INSTRUCTION_RETRY (R199). -/
  | instructionRetry (core : Nat) (coreCopyIntact recoveryIntact : Bool)
  /-- MICROCODE_WATCHDOG_EXPIRY (R187). -/
  | microcodeWatchdogExpiry (core : Nat)
  /-- HALO_TAKEOVER (R203). -/
  | haloTakeover (site : Nat) (checkpointIntact linesIntact entriesIntact : Bool)
  /-- SPARE_SELF_TEST (R202). -/
  | spareSelfTest (site : Nat) (passed : Bool)
  /-- LOAD_STAGED_IMAGE (R194). -/
  | loadStagedImage (route : Route)
  /-- UNLOAD (R211). -/
  | unload (route : Route)
  /-- SELECTED_PROFILE (R34). -/
  | selectedProfile (route : Route) (value : Nat)
  /-- DEFERRED_PROFILE_CHANGE (R34). -/
  | deferredProfileChange
  /-- CUSTOM_CLOCK_ADJUST (R33). -/
  | customClockAdjust (mean1ms mean10ms : Nat) (below100ms : Bool)
  /-- INLET_TEMPERATURE_CHANGE (R472). -/
  | inletTemperatureChange (inlet : Int)
  /-- CAP_RAISE (R472). -/
  | capRaise
  /-- COOLANT_CAUSE_CLEAR (R31). -/
  | coolantCauseClear
  /-- DIE_OVERTEMPERATURE (R471). -/
  | dieOvertemperature (hottest : Int)
  /-- ORDERLY_STOP (R38). -/
  | orderlyStop (route : Route) (value : Nat)
  /-- START_PERMIT (R474). -/
  | startPermit (route : Route) (value : Nat)
  /-- VAUX_ACCEPTED (R38). -/
  | vauxAccepted (slot : Nat) (twinId : Bool) (millivolts : Nat)
  /-- VAUX_LOST (R42). -/
  | vauxLost
  /-- VIN48_ACCEPTED (R460). -/
  | vin48Accepted (millivolts : Nat)
  /-- VIN48_FAIL (R460). -/
  | vin48Fail (millivolts : Nat)
  /-- DAWN_START (R38). -/
  | dawnStart (found : DawnInput)
  /-- PORST_N_LOW (R467). -/
  | porstNLow
  /-- SYSCLK_LOSS (R466). -/
  | sysclkLoss
  /-- REFERENCE_CLOCK_LOSS (R466). -/
  | referenceClockLoss (which : Nat)
  /-- REVERSE_CURRENT (R272). -/
  | reverseCurrent (input : Nat)
  /-- LEVER_LIFTED (R446). -/
  | leverLifted
  /-- LEVER_LOWERED (R447). -/
  | leverLowered
  /-- LEVER_OPENED (R38). -/
  | leverOpened
  /-- STORE_BLEED_COMPLETE (R285). -/
  | storeBleedComplete
  /-- FUEL_GAUGE_SAMPLE (R268). -/
  | fuelGaugeSample (millivolts : Nat)
  /-- SELF_TEST (R270). -/
  | selfTest (microfarads microohms millivolts : Nat)
  /-- START_SELF_TEST (R270). -/
  | startSelfTest (route : Route) (value : Nat)
  /-- COMMIT_ADMISSION (R259). -/
  | commitAdmission (tenant : Nat)
  /-- WAIT_LIMIT (R259). -/
  | waitLimit (tenant : Nat)
  /-- ENTRY_WRITE (R275). -/
  | entryWrite (stream : Nat) (verified : Bool)
  /-- MIRRORED_ITEM (R266). -/
  | mirroredItem (item : MirrorItem)
  /-- JN_RD (R279). -/
  | jnRd (acc : Accessor) (tenant value : Nat)
  /-- JN_RELEASE (R280). -/
  | jnRelease (acc : Accessor) (tenant value : Nat)
  /-- RE_PROVISION_SEALING (R278). -/
  | reProvisionSealing (route : Route) (value : Nat)
  /-- SEALING (R277). -/
  | sealing (route : Route) (value : Nat)
  /-- NOP (R221). -/
  | nop (chan : Nat)
  /-- READ (R225). -/
  | read (chan : Nat)
  /-- WRITE (R227). -/
  | write (chan : Nat)
  /-- FLUSH (R221). -/
  | flush (chan : Nat)
  /-- WRITE_ZEROES (R221). -/
  | writeZeroes (chan : Nat)
  /-- DEALLOCATE (R221). -/
  | deallocate (chan : Nat)
  /-- CONTROL (R221). -/
  | control (chan : Nat)
  /-- QUERY (R238). -/
  | query (chan : Nat)
  /-- SEND (R250). -/
  | send (chan : Nat)
  /-- RECEIVE (R250). -/
  | receive (chan : Nat)
  /-- RETIRE (R228). -/
  | retire (chan : Nat)
  /-- CLOSE (R218). -/
  | close (chan : Nat)
  /-- LEDGER_ALLOCATION (R229). -/
  | ledgerAllocation (chan : Nat)
  /-- ISSUE (R227). -/
  | issue (chan : Nat)
  /-- COMPLETION_BLOCK (R238). -/
  | completionBlock (opid : DWord) (result : Nat) (duplicate : Bool) (attempt count : Nat) (detail : BitVec 64)
  /-- NVM_EXPRESS_COMPLETION (R240). -/
  | nvmExpressCompletion (port rid : Nat) (cid : Nat) (status dword0 dword3 : Nat)
  /-- COMPLETION_RECORD (R233). -/
  | completionRecord (chan : Nat)
  /-- ORDER_TIMEOUT (R234). -/
  | orderTimeout (chan slot : Nat)
  /-- LINK_DOWN_DETECTED (R124). -/
  | linkDownDetected (port link : Nat)
  /-- PCIE_LINK_UP (R234). -/
  | pcieLinkUp (port link rate width : Nat)
  /-- ADAPTER_RESET (R234). -/
  | adapterReset (port rid : Nat)
  /-- IO_LOAD_COMPLETION (R245). -/
  | ioLoadCompletion (core status : Nat) (data : DWord)
  /-- IO_LOAD_TIMEOUT (R245). -/
  | ioLoadTimeout (core : Nat)
  /-- DEVICE_WRITE (R241). -/
  | deviceWrite (port rid addr : Nat) (octets : List Octet)
  /-- DEVICE_READ (R241). -/
  | deviceRead (port rid addr len : Nat)
  /-- CONFIGURE_CHANNEL (R253). -/
  | configureChannel (route : Route) (record : List Octet)
  /-- CONSTELLATION_DATA (R250). -/
  | constellationData (hdr : CHeader) (payload : List Octet)
  /-- ACK (R249). -/
  | ack (hdr : CHeader)
  /-- COMPLETION (R250). -/
  | completion (hdr : CHeader) (status count : Nat) (time : BitVec 64)
  /-- NOT_READY (R250). -/
  | notReady (hdr : CHeader)
  /-- HELLO (R249). -/
  | hello (port : Nat) (hdr : CHeader)
  /-- HELLO_SEND (R249). -/
  | helloSend (peer : Nat)
  /-- FACK (R249). -/
  | fack (peer : Nat)
  /-- RETRANSMIT (R249). -/
  | retransmit (peer : Nat)
  /-- PEER_DOWN (R249). -/
  | peerDown (peer : Nat)
  /-- TIME_FLOOR (R251). -/
  | timeFloor
  /-- PTP_MESSAGE (R251). -/
  | ptpMessage (offset : Int) (atLock : Bool)
  /-- TIME_OF_DAY (R251). -/
  | timeOfDay (route : Route) (value : BitVec 64)
  /-- READ_SHARED (R156). -/
  | readShared (src : MsgEnd) (line : Nat)
  /-- READ_OWN (R156). -/
  | readOwn (src : MsgEnd) (line : Nat)
  /-- UPGRADE (R156). -/
  | upgrade (src : MsgEnd) (line : Nat)
  /-- READ_NO_ALLOCATE (R163). -/
  | readNoAllocate (src : MsgEnd) (line : Nat)
  /-- WRITE_BACK (R157). -/
  | writeBack (src : MsgEnd) (line : Nat) (words : Option (List Word))
  /-- MASKED_WRITE_BACK (R164). -/
  | maskedWriteBack (src : MsgEnd) (line : Nat) (words mask : List Word)
  /-- INVALIDATE (R152). -/
  | invalidate (dst : MsgEnd) (line : Nat)
  /-- SNOOP_SHARE (R152). -/
  | snoopShare (dst : MsgEnd) (line : Nat)
  /-- SNOOP_OWN (R152). -/
  | snoopOwn (dst : MsgEnd) (line : Nat)
  /-- SNOOP_READ (R152). -/
  | snoopRead (dst : MsgEnd) (line : Nat)
  /-- ACKNOWLEDGE (R157). -/
  | acknowledge (dst : Nat) (src : MsgEnd) (line : Nat) (wbf : Bool)
  /-- NEGATIVE_ACKNOWLEDGE (R159). -/
  | negativeAcknowledge (dst : MsgEnd) (line : Nat)
  /-- NAK_RETRY (R159). -/
  | nakRetry (agent line : Nat)
  /-- GRANT (R152). -/
  | grant (dst : MsgEnd) (line : Nat)
  /-- DATA (R156). -/
  | data (dst : Nat) (src : MsgEnd) (line : Nat) (words : List Word) (grant : Nat) (dirty : Bool)
  /-- HELD_SNOOP_RELEASE (R153). -/
  | heldSnoopRelease (tile line : Nat)
  /-- REPLAY_REQUEST (R171). -/
  | replayRequest (link seq : Nat)
  /-- BAD_CRC_OR_SEQUENCE_GAP (R171). -/
  | badCrcOrSequenceGap (link : Nat)
  /-- LINK_FAILURE (R172). -/
  | linkFailure (link : Nat)
  /-- RETRAINING (R172). -/
  | retraining (link : Retrained) (g0 g1 : Bool)
  /-- TRAINING (R172). -/
  | training (link : Nat) (g0 g1 : Bool)
  /-- IDENTIFY (R172). -/
  | identify (link : Nat) (matched : Bool)
  /-- TRAINING_RETRY (R172). -/
  | trainingRetry (link : Nat)
  /-- LANE_GROUP_FENCE (R174). -/
  | laneGroupFence (link group : Nat)
  /-- LINK_STATE (R175). -/
  | linkState (origin : LinkOrigin) (bits : Nat)
  /-- LINK_STATE_FLOOD (R175). -/
  | linkStateFlood
  /-- DELIVERED (R175). -/
  | delivered (link seq : Nat)
  /-- DRAIN_MARKER (R176). -/
  | drainMarker (link : Nat) (confirmed : Bool)
  /-- PARTITION_RULE (R177). -/
  | partitionRule (reachable : List Nat)
  /-- ADMIN (R172). -/
  | admin (acc : Accessor) (link : Nat) (value : Word)
  /-- DY_PROBE (R181). -/
  | dyProbe (acc : Accessor) (value : Word)
  /-- COMPRESS (R293). -/
  | compress (tenant ring lane : Nat)
  /-- DECOMPRESS (R308). -/
  | decompress (tenant ring lane : Nat)
  /-- COMPRESSION_COMPLETION (R310). -/
  | compressionCompletion (tenant ring : Nat)
  /-- CX_CLOSE (R302). -/
  | cxClose (acc : Accessor) (tenant : Nat) (value : Word)
  /-- ENCRYPT (R326). -/
  | encrypt (tenant ring aes : Nat)
  /-- DECRYPT (R326). -/
  | decrypt (tenant ring aes : Nat)
  /-- CIPHER_COMPLETION (R327). -/
  | cipherCompletion (tenant ring : Nat)
  /-- CI_CLOSE (R323). -/
  | ciClose (acc : Accessor) (tenant : Nat) (value : Word)
  /-- ERASE (R338). -/
  | erase (acc : Accessor) (tenant : Nat) (value : Word)
  /-- LOAD_PLAIN (R334). -/
  | loadPlain (acc : Accessor) (tenant : Nat) (value : Word)
  /-- LOAD_WRAPPED (R335). -/
  | loadWrapped (acc : Accessor) (tenant : Nat) (value : Word)
  /-- GENERATE (R334). -/
  | generate (acc : Accessor) (tenant : Nat) (value : Word)
  /-- EXPORT_WRAPPED (R335). -/
  | exportWrapped (acc : Accessor) (tenant : Nat) (value : Word)
  /-- EFFECT_POINT (R337). -/
  | effectPoint (tenant : Nat)
  /-- CREATE (R359). -/
  | create (route : Route)
  /-- RESET (R362). -/
  | reset (route : Route)
  /-- DELETE (R360). -/
  | delete (route : Route)
  /-- DRAIN_TIMEOUT (R362). -/
  | drainTimeout (tenant : Nat)
  /-- CLAIM (R365). -/
  | claim (acc : Accessor) (block : Nat)
  /-- RELEASE (R365). -/
  | release (acc : Accessor) (block : Nat)
  /-- MOVE_SOURCE (R365). -/
  | moveSource (acc : Accessor) (source : Nat)
  /-- HAND_OVER_COMPLETE (R365). -/
  | handOverComplete (selfCheckPassed : Bool)
  /-- GATING_REQUEST (R366). -/
  | gatingRequest (block : Nat)
  /-- GATING_TIMEOUT (R366). -/
  | gatingTimeout (block : Nat)
  /-- KICK (R367). -/
  | kick (acc : Accessor) (value : Word)
  /-- ZENITH_WATCHDOG_EXPIRY (R367). -/
  | zenithWatchdogExpiry
  /-- RESTART_ZENITH (R369). -/
  | restartZenith (route : Route) (value : Nat) (verified measured : Bool)
  /-- DOORBELL (R378). -/
  | doorbell (owner : Owner) (source : Nat)
  /-- IRT_SEND (R376). -/
  | irtSend (acc : Accessor) (page : Owner) (value : Word)
  /-- IRT_CLAIM (R382). -/
  | irtClaim (acc : Accessor) (page : Owner)
  /-- IRT_COMPLETE (R382). -/
  | irtComplete (acc : Accessor) (page : Owner) (value : Word)
  /-- IRT_SRC (R385). -/
  | irtSrc (acc : Accessor) (page : Owner) (source : Nat) (value : Word)
  /-- IRT_PRIO (R378). -/
  | irtPrio (acc : Accessor) (page : Owner) (source : Nat) (value : Word)
  /-- IRT_TGT (R383). -/
  | irtTgt (acc : Accessor) (page : Owner) (source : Option Nat) (value : Word)
  /-- FAULT_REPORT (R394). -/
  | faultReport (source : Nat) (cls : FaultClass) (detail : Nat)
  /-- REPORTING_PATH_FAULT (R393). -/
  | reportingPathFault (source : Nat)
  /-- SQUALL_EXIT (R397). -/
  | squallExit (source : Nat)
  /-- FORCE (R404). -/
  | force (route : Route) (value : Nat)
  /-- FORCED_REPORT (R404). -/
  | forcedReport (source : Nat)
  /-- SPARE_REBUILD_COMPLETE (R400). -/
  | spareRebuildComplete (region : Nat)
  /-- MODULE_RESET (R403). -/
  | moduleReset (route : Route) (value : Nat)
  /-- RETURN_UNIT (R397). -/
  | returnUnit (route : Route) (value : Nat)
  /-- RETURN_FAILED_SITES (R201). -/
  | returnFailedSites (route : Route) (value : Nat)
  /-- HEARTBEAT (R411). -/
  | heartbeat (hb : Heartbeat) (path : Nat)
  /-- HEARTBEAT_SEND (R411). -/
  | heartbeatSend (path : Nat)
  /-- WITNESS (R412). -/
  | witness (segment : Nat)
  /-- PAIRING (R408). -/
  | pairing (peerSerial : BitVec 64) (peerTwinId attested : Bool)
  /-- PAIRING_ENABLED (R413). -/
  | pairingEnabled (route : Route) (value : Nat)
  /-- BULK_COPY_COMPLETE (R413). -/
  | bulkCopyComplete
  /-- TWIN_LINK_SILENCE (R413). -/
  | twinLinkSilence
  /-- SELF_FENCE (R415). -/
  | selfFence
  /-- TAKEOVER (R416). -/
  | takeover
  /-- RELINQUISH (R419). -/
  | relinquish (hb : Heartbeat)
  /-- PLANNED_FAILOVER (R419). -/
  | plannedFailover (route : Route) (value : Nat)
  /-- SEND_RELINQUISH (R419). -/
  | sendRelinquish
  /-- PUBLIC_READ (R435). -/
  | publicRead (to_ : SspTo) (index sub offset : Nat)
  /-- OPEN (R433). -/
  | sspOpen (to_ : SspTo) (role : Nat) (nonce : BitVec 256)
  /-- REQUEST_READ (R435). -/
  | requestRead (req : SspRequest)
  /-- REQUEST_WRITE (R435). -/
  | requestWrite (req : SspRequest)
  /-- SSP_CLOSE (R436). -/
  | sspClose (session reason : Nat) (authentic : Bool) (counter : Nat)
  /-- SESSION_IDLE (R436). -/
  | sessionIdle (session : Nat)
  /-- OBJECT_WRITE (R427). -/
  | objectWrite (route : Route) (index sub : Nat) (octets : List Octet)
  /-- CREDENTIAL (R433). -/
  | credential (route : Route) (sub : Nat) (octets : List Octet)
  /-- KEY_SWITCH (R438). -/
  | keySwitch (contacts : KeyContacts)
  /-- REQUEST_PRESS (R439). -/
  | requestPress (milliseconds : Nat) (medium : MediumContents)
  /-- MEDIUM_ACTION (R444). -/
  | mediumAction (medium : MediumContents)
  /-- IDENTIFY_PRESS (R439). -/
  | identifyPress
  /-- MEDIUM_CHANGE (R445). -/
  | mediumChange (state : Nat)
  /-- STAGE (R449). -/
  | stage (route : Route) (medium : MediumContents)
  /-- ACTIVATE_AT_DAWN (R451). -/
  | activateAtDawn (route : Route) (verified : Bool)
  /-- ACTIVATE_LIVE (R451). -/
  | activateLive (route : Route) (verified sameOthers : Bool)
  /-- COMMIT_SECURITY_VERSION (R453). -/
  | commitSecurityVersion (route : Route)
  /-- ABANDON_STAGING (R450). -/
  | abandonStaging (route : Route)
  /-- REGISTER_WRITE (R476). -/
  | registerWrite (acc : Accessor) (addr : Nat) (value : Word)
  /-- SYSCLK_RETURN (R466). -/
  | sysclkReturn
  /-- PORST_N_HIGH (R467). -/
  | porstNHigh
  /-- CONSTELLATION_PORT_FAILURE (R249). -/
  | constellationPortFailure (port : Nat)
  /-- MIRROR_RECEIPT (R266). -/
  | mirrorReceipt (item : Nat) (received : Bool)
  /-- LINK_PROTOCOL_FAULT (R151). -/
  | linkProtocolFault (link : Nat)
  /-- AER_ERROR_MESSAGE (R245). -/
  | aerErrorMessage (port link : Nat)
deriving DecidableEq, Repr

end Sys2Proof
end

