-- ==== Sys2Proof/WellFormed.lean ====
section
/-! DEFINITION. Which commands are well formed: every operand names a thing the module has. -/

namespace Sys2Proof

/-- Logical cores 0 to 99, and service core 0 as 0o176 (R383). -/
def wfCore (n : Nat) : Bool := n < 100 || n == 126
/-- Module channels (Table 7.1). -/
def wfChan (n : Nat) : Bool := n < 32768
/-- Tenants 0 to 511. -/
def wfTenant (n : Nat) : Bool := n < 512
/-- PCIe root ports. -/
def wfPort (n : Nat) : Bool := n < 8
/-- Links of a root port (Table 7.15). -/
def wfQuad (n : Nat) : Bool := n < 4
def wfTwo (n : Nat) : Bool := n < 2
/-- Heartbeat paths: 0 Twin link, 1 SVC-A, 2 SVC-B (R411). -/
def wfPath (n : Nat) : Bool := n < 3
/-- Tiles of this module. -/
def wfTile (n : Nat) : Bool := n < 4
/-- Domain modules. -/
def wfModule (n : Nat) : Bool := n < 16
/-- Coherence agents (Table 5.1): local numbers 42 to 63 are never assigned. -/
def wfAgent (n : Nat) : Bool := n < 1024 && n % 64 < 42
/-- An end of a message: an agent, or the home of a module, 64 m + 63. Assumption 15 (PRESUMED). -/
def wfEnd (n : Nat) : Bool := wfAgent n || (n < 1024 && n % 64 == 63)
/-- The fields of a flit (Table 5.10): a link, ACKSEQ, a virtual channel or forwarding pool, and its credits. -/
def wfFlit (f : FlitHead) : Bool :=
  f.link < 15 && f.ack < 1024 && (f.cvc < 5 || (8 ≤ f.cvc && f.cvc < 13)) && f.ccnt < 32
/-- The fields of a message header (Table 5.6). -/
def wfHead (h : MsgHead) : Bool := h.tag < 4096 && h.orig < 1024 && wfFlit h.flit
/-- One end of a message with its header: an agent. -/
def wfMsg (m : MsgEnd) : Bool := wfAgent m.agent && wfHead m.head
/-- The same, where the end may be a home. -/
def wfMsgEnd (m : MsgEnd) : Bool := wfEnd m.agent && wfHead m.head
/-- Lines RA[39:4]. -/
def wfLine (n : Nat) : Bool := n < 2 ^ 36
/-- Core sites (R200). -/
def wfSite (n : Nat) : Bool := n < 104
def wfRing (n : Nat) : Bool := n < 16
def wfLane (n : Nat) : Bool := n < 48
def wfAes (n : Nat) : Bool := n < 24
/-- Blocks of SV_BLOCK_STATE (Table 11.20). -/
def wfBlock (n : Nat) : Bool := n < 107
/-- Memory regions (Table 13.1): 16 * stack + region. -/
def wfRegion (n : Nat) : Bool := n < 128
/-- Constellation modules. -/
def wfPeer (n : Nat) : Bool := n < 2048
/-- Jetstream links (R167). -/
def wfLink (n : Nat) : Bool := n < 15
/-- A Jetstream link, or the Twin link as number 15 (R407). -/
def wfAnyLink (n : Nat) : Bool := n < 16
/-- Fault sources that Table 13.1 assigns. -/
def wfFaultSource (n : Nat) : Bool :=
  n < 1002 || (1024 ≤ n && n < 1192) || n == 1192 || n == 1193 || (1200 ≤ n && n < 1204) || (1216 ≤ n && n < 1236)
/-- A register accessor: Firmament on service cores 1 to 3 is role F; every other role acts from a core. -/
def wfAccessor (a : Accessor) : Bool := wfCore a.core || a.role == .f
def wfOwner : Owner → Bool
  | .tenant t => wfTenant t
  | _ => true
def wfRoute : Route → Bool
  | .session _ => true
  | .inBand c => wfCore c
/-- OPC of an instruction's header (Table 2.3). -/
def opcOf (i : Insn) : Nat := i.hdr.toNat / 2 ^ 24
def varField (i : Insn) : Nat := i.hdr.toNat / 2 ^ 8 % 256
/-- A core, and an instruction whose opcode is the row's. Assumption 21 (DESIGN CHOICE). -/
def wfIns (core : Nat) (i : Insn) (opc : Nat) : Bool := wfCore core && opcOf i == opc
/-- A row that VAR selects, of `n` codes from 0: its own code, or a reserved one. -/
def wfVar (core : Nat) (i : Insn) (opc n v : Nat) : Bool := wfIns core i opc && (varField i == v || n ≤ varField i)
/-- A row of CACHE CONTROL (Table 4.7): its own action, or a reserved code. -/
def wfCct (core : Nat) (i : Insn) (act : Nat) : Bool :=
  wfIns core i 0o6001 && (varField i % 16 == act || 3 < varField i % 16 || varField i / 16 < 1 || 4 < varField i / 16)
/-- The opcodes of Tables 2.7 to 2.13 (R61). -/
def definedOpcodes : List Nat :=
  [0o10, 0o20, 0o21, 0o30, 0o40, 0o41] ++
  [0o1000, 0o1001, 0o1002, 0o1003, 0o1010, 0o1011, 0o1020, 0o1021, 0o1030, 0o1031, 0o1032, 0o1040, 0o1041, 0o1050, 0o1051, 0o1052, 0o1053, 0o1060, 0o1061, 0o1062, 0o1063, 0o1064, 0o1065, 0o1070, 0o1071, 0o1100, 0o1101] ++
  [0o2000, 0o2001, 0o2002, 0o2003, 0o2004, 0o2005, 0o2006, 0o2010, 0o2011, 0o2020] ++
  [0o3000, 0o3001, 0o3002, 0o3003, 0o3004, 0o3005, 0o3010, 0o3020, 0o3021, 0o3022, 0o3023, 0o3024, 0o3030, 0o3031, 0o3040] ++
  [0o4000, 0o4001, 0o4002, 0o4010, 0o4011, 0o4012, 0o4020, 0o4030] ++
  [0o5000, 0o5001, 0o5002, 0o5003, 0o5004, 0o5010, 0o5011, 0o5020] ++
  [0o6000, 0o6001, 0o6002, 0o6010, 0o6020, 0o6030, 0o6031, 0o6040, 0o6050, 0o6051, 0o6052, 0o6060, 0o6061, 0o6070]

/-- A line is 16 words. -/
def wfLineWords (ws : List Word) : Bool := ws.length == 16
def wfLineData : Option (List Word) → Bool
  | none => true
  | some ws => wfLineWords ws

/-- A command is well formed. -/
def Instr.wf : Instr → Bool
  | .mvw core ins => wfIns core ins 0o10
  | .mvn core ins _ => wfIns core ins 0o20
  | .fln core ins _ => wfIns core ins 0o21
  | .xch core ins => wfIns core ins 0o30
  | .ldr core ins => wfIns core ins 0o40
  | .stc core ins => wfIns core ins 0o41
  | .add core ins => wfIns core ins 0o1000
  | .sub core ins => wfIns core ins 0o1001
  | .adc core ins => wfIns core ins 0o1002
  | .sbb core ins => wfIns core ins 0o1003
  | .neg core ins => wfIns core ins 0o1010
  | .abs core ins => wfIns core ins 0o1011
  | .mul core ins => wfIns core ins 0o1020
  | .mlf core ins => wfIns core ins 0o1021
  | .div core ins => wfIns core ins 0o1030
  | .rem core ins => wfIns core ins 0o1031
  | .dvr core ins => wfIns core ins 0o1032
  | .cmp core ins => wfIns core ins 0o1040
  | .tst core ins => wfIns core ins 0o1041
  | .and core ins => wfIns core ins 0o1050
  | .orr core ins => wfIns core ins 0o1051
  | .xor core ins => wfIns core ins 0o1052
  | .not core ins => wfIns core ins 0o1053
  | .sll core ins => wfIns core ins 0o1060
  | .srl core ins => wfIns core ins 0o1061
  | .sla core ins => wfIns core ins 0o1062
  | .sra core ins => wfIns core ins 0o1063
  | .rol core ins => wfIns core ins 0o1064
  | .ror core ins => wfIns core ins 0o1065
  | .clz core ins => wfIns core ins 0o1070
  | .pct core ins => wfIns core ins 0o1071
  | .xbt core ins => wfIns core ins 0o1100
  | .ibt core ins => wfIns core ins 0o1101
  | .dad core ins => wfIns core ins 0o2000
  | .dsb core ins => wfIns core ins 0o2001
  | .dmu core ins => wfIns core ins 0o2002
  | .ddv core ins => wfIns core ins 0o2003
  | .dcp core ins => wfIns core ins 0o2004
  | .dmv core ins => wfIns core ins 0o2005
  | .dsr core ins => wfIns core ins 0o2006
  | .cdb core ins => wfIns core ins 0o2010
  | .cbd core ins => wfIns core ins 0o2011
  | .dts core ins => wfIns core ins 0o2020
  | .fad core ins => wfIns core ins 0o3000
  | .fsb core ins => wfIns core ins 0o3001
  | .fmu core ins => wfIns core ins 0o3002
  | .fdv core ins => wfIns core ins 0o3003
  | .fsq core ins => wfIns core ins 0o3004
  | .fma core ins => wfIns core ins 0o3005
  | .fcp core ins => wfIns core ins 0o3010
  | .fcv core ins => wfIns core ins 0o3020
  | .fci core ins => wfIns core ins 0o3021
  | .ffi core ins => wfIns core ins 0o3022
  | .ftd core ins => wfIns core ins 0o3023
  | .ffd core ins => wfIns core ins 0o3024
  | .ftx core ins => wfIns core ins 0o3030
  | .ffx core ins => wfIns core ins 0o3031
  | .fri core ins => wfIns core ins 0o3040
  | .br core ins => wfIns core ins 0o4000
  | .bal core ins => wfIns core ins 0o4001
  | .bct core ins => wfIns core ins 0o4002
  | .csv core ins => wfIns core ins 0o4010
  | .chs core ins => wfIns core ins 0o4011
  | .czn core ins => wfIns core ins 0o4012
  | .attest core ins => wfIns core ins 0o4012
  | .assignPages core ins => wfIns core ins 0o4012
  | .deleteNotice core ins => wfIns core ins 0o4012
  | .rti core ins => wfIns core ins 0o4020
  | .wait core ins => wfIns core ins 0o4030
  | .mvc core ins _ => wfIns core ins 0o5000
  | .cpc core ins _ => wfIns core ins 0o5001
  | .trc core ins _ => wfIns core ins 0o5002
  | .scn core ins _ => wfIns core ins 0o5003
  | .flc core ins _ => wfIns core ins 0o5004
  | .nto core ins _ => wfIns core ins 0o5010
  | .otn core ins _ => wfIns core ins 0o5011
  | .mvb core ins _ => wfIns core ins 0o5020
  | .bar core ins => wfIns core ins 0o6000
  | .enable core ins => wfCct core ins 0
  | .disable core ins => wfCct core ins 1
  | .cleanAll core ins => wfCct core ins 2
  | .cleanAndInvalidateAll core ins => wfCct core ins 3
  | .cleanLine core ins => wfVar core ins 0o6002 8 0
  | .invalidateLine core ins => wfVar core ins 0o6002 8 1
  | .zeroLine core ins => wfVar core ins 0o6002 8 2
  | .preloadShared core ins => wfVar core ins 0o6002 8 3
  | .preloadOwned core ins => wfVar core ins 0o6002 8 4
  | .preloadAndLock core ins => wfVar core ins 0o6002 8 5
  | .unlockLine core ins => wfVar core ins 0o6002 8 6
  | .unlockAll core ins => wfVar core ins 0o6002 8 7
  | .com core ins => wfIns core ins 0o6010
  | .odaRead core ins => wfIns core ins 0o6020
  | .odaWrite core ins => wfIns core ins 0o6020
  | .esbCompression core ins => wfVar core ins 0o6030 2 0
  | .esbCipher core ins => wfVar core ins 0o6030 2 1
  | .eplCompression core ins => wfVar core ins 0o6031 2 0
  | .eplCipher core ins => wfVar core ins 0o6031 2 1
  | .sch core ins => wfIns core ins 0o6040
  | .lsw core ins => wfIns core ins 0o6050
  | .ssw core ins => wfIns core ins 0o6051
  | .spm core ins => wfIns core ins 0o6052
  | .rcc core ins => wfIns core ins 0o6060
  | .rtd core ins => wfIns core ins 0o6061
  | .stage1Page core ins => wfVar core ins 0o6070 5 0
  | .stage1All core ins => wfVar core ins 0o6070 5 1
  | .stage2Page core ins => wfVar core ins 0o6070 5 2
  | .stage2Tenant core ins => wfVar core ins 0o6070 5 3
  | .module core ins => wfVar core ins 0o6070 5 4
  | .customerOpcode core ins => wfCore core && !definedOpcodes.contains (opcOf ins)
  | .externalInterruption core => wfCore core
  | .containedMachineCheck core code _ => wfCore core && decide (code < 6)
  | .uncontainedMachineCheck line code core => wfLine line && wfCore core && decide (1 ≤ code) && decide (code ≤ 5)
  | .replay core line => wfCore core && wfLine line
  | .storeBufferEntryPerformed core => wfCore core
  | .reservationDeferralExpiry core => wfCore core
  | .instructionRetry core _ _ => wfCore core
  | .microcodeWatchdogExpiry core => wfCore core
  | .haloTakeover site _ _ _ => wfSite site
  | .spareSelfTest site _ => wfSite site
  | .loadStagedImage route => wfRoute route
  | .unload route => wfRoute route
  | .selectedProfile route _ => wfRoute route
  | .deferredProfileChange => true
  | .customClockAdjust _ _ _ => true
  | .inletTemperatureChange _ => true
  | .capRaise => true
  | .coolantCauseClear => true
  | .dieOvertemperature _ => true
  | .orderlyStop route _ => wfRoute route
  | .startPermit route _ => wfRoute route
  | .vauxAccepted _ _ _ => true
  | .vauxLost => true
  | .vin48Accepted _ => true
  | .vin48Fail _ => true
  | .dawnStart _ => true
  | .porstNLow => true
  | .sysclkLoss => true
  | .referenceClockLoss which => wfTwo which
  | .reverseCurrent _ => true
  | .leverLifted => true
  | .leverLowered => true
  | .leverOpened => true
  | .storeBleedComplete => true
  | .fuelGaugeSample _ => true
  | .selfTest _ _ _ => true
  | .startSelfTest route _ => wfRoute route
  | .commitAdmission tenant => wfTenant tenant
  | .waitLimit tenant => wfTenant tenant
  | .entryWrite _ _ => true
  | .mirroredItem _ => true
  | .jnRd acc tenant value => wfAccessor acc && wfTenant tenant && decide (value < 2 ^ 36)
  | .jnRelease acc tenant value => wfAccessor acc && wfTenant tenant && decide (value < 2 ^ 48)
  | .reProvisionSealing route _ => wfRoute route
  | .sealing route _ => wfRoute route
  | .nop chan => wfChan chan
  | .read chan => wfChan chan
  | .write chan => wfChan chan
  | .flush chan => wfChan chan
  | .writeZeroes chan => wfChan chan
  | .deallocate chan => wfChan chan
  | .control chan => wfChan chan
  | .query chan => wfChan chan
  | .send chan => wfChan chan
  | .receive chan => wfChan chan
  | .retire chan => wfChan chan
  | .close chan => wfChan chan
  | .ledgerAllocation chan => wfChan chan
  | .issue chan => wfChan chan
  | .completionBlock _ _ _ _ _ _ => true
  | .nvmExpressCompletion port _ _ _ _ _ => wfPort port
  | .completionRecord chan => wfChan chan
  | .orderTimeout chan _ => wfChan chan
  | .linkDownDetected port link => wfPort port && wfQuad link
  | .pcieLinkUp port link _ _ => wfPort port && wfQuad link
  | .adapterReset port _ => wfPort port
  | .ioLoadCompletion core _ _ => wfCore core
  | .ioLoadTimeout core => wfCore core
  | .deviceWrite port _ _ _ => wfPort port
  | .deviceRead port _ _ _ => wfPort port
  | .configureChannel route _ => wfRoute route
  | .constellationData _ _ => true
  | .ack _ => true
  | .completion _ _ _ _ => true
  | .notReady _ => true
  | .hello port _ => wfTwo port
  | .helloSend peer => wfPeer peer
  | .fack peer => wfPeer peer
  | .retransmit peer => wfPeer peer
  | .peerDown peer => wfPeer peer
  | .timeFloor => true
  | .ptpMessage _ _ => true
  | .timeOfDay route _ => wfRoute route
  | .readShared src line => wfMsg src && wfLine line
  | .readOwn src line => wfMsg src && wfLine line
  | .upgrade src line => wfMsg src && wfLine line
  | .readNoAllocate src line => wfMsg src && wfLine line
  | .writeBack src line words => wfMsg src && wfLine line && wfLineData words
  | .maskedWriteBack src line words mask => wfMsg src && wfLine line && (wfLineWords words && wfLineWords mask)
  | .invalidate dst line => wfMsg dst && wfLine line
  | .snoopShare dst line => wfMsg dst && wfLine line
  | .snoopOwn dst line => wfMsg dst && wfLine line
  | .snoopRead dst line => wfMsg dst && wfLine line
  | .acknowledge dst src line _ => wfEnd dst && wfMsgEnd src && wfLine line
  | .negativeAcknowledge dst line => wfMsg dst && wfLine line
  | .nakRetry agent line => wfAgent agent && wfLine line
  | .grant dst line => wfMsg dst && wfLine line
  | .data dst src line words g _ => wfEnd dst && wfMsgEnd src && wfLine line && wfLineWords words && decide (g < 5)
  | .heldSnoopRelease tile line => wfTile tile && wfLine line
  | .replayRequest link _ => wfAnyLink link
  | .badCrcOrSequenceGap link => wfLink link
  | .linkFailure link => wfAnyLink link
  | .retraining link _ _ => wfAnyLink link.link && decide (link.expected < 1024)
  | .training link _ _ => wfAnyLink link
  | .identify link _ => wfAnyLink link
  | .trainingRetry link => wfAnyLink link
  | .laneGroupFence link group => wfLink link && wfTwo group
  | .linkState origin _ => wfModule origin.module && wfFlit origin.flit
  | .linkStateFlood => true
  | .delivered link _ => wfLink link
  | .drainMarker link _ => wfLink link
  | .partitionRule reachable => reachable.all wfModule
  | .admin acc link _ => wfAccessor acc && wfLink link
  | .dyProbe acc _ => wfAccessor acc
  | .compress tenant ring lane => wfTenant tenant && wfRing ring && wfLane lane
  | .decompress tenant ring lane => wfTenant tenant && wfRing ring && wfLane lane
  | .compressionCompletion tenant ring => wfTenant tenant && wfRing ring
  | .cxClose acc tenant _ => wfAccessor acc && wfTenant tenant
  | .encrypt tenant ring aes => wfTenant tenant && wfRing ring && wfAes aes
  | .decrypt tenant ring aes => wfTenant tenant && wfRing ring && wfAes aes
  | .cipherCompletion tenant ring => wfTenant tenant && wfRing ring
  | .ciClose acc tenant _ => wfAccessor acc && wfTenant tenant
  | .erase acc tenant _ => wfAccessor acc && wfTenant tenant
  | .loadPlain acc tenant _ => wfAccessor acc && wfTenant tenant
  | .loadWrapped acc tenant _ => wfAccessor acc && wfTenant tenant
  | .generate acc tenant _ => wfAccessor acc && wfTenant tenant
  | .exportWrapped acc tenant _ => wfAccessor acc && wfTenant tenant
  | .effectPoint tenant => wfTenant tenant
  | .create route => wfRoute route
  | .reset route => wfRoute route
  | .delete route => wfRoute route
  | .drainTimeout tenant => wfTenant tenant
  | .claim acc block => wfAccessor acc && wfBlock block
  | .release acc block => wfAccessor acc && wfBlock block
  | .moveSource acc source => wfAccessor acc && decide (source < 8192)
  | .handOverComplete _ => true
  | .gatingRequest block => wfBlock block
  | .gatingTimeout block => wfBlock block
  | .kick acc _ => wfAccessor acc
  | .zenithWatchdogExpiry => true
  | .restartZenith route _ _ _ => wfRoute route
  | .doorbell owner _ => wfOwner owner
  | .irtSend acc page _ => wfAccessor acc && wfOwner page
  | .irtClaim acc page => wfAccessor acc && wfOwner page
  | .irtComplete acc page _ => wfAccessor acc && wfOwner page
  | .irtSrc acc page _ _ => wfAccessor acc && wfOwner page
  | .irtPrio acc page _ _ => wfAccessor acc && wfOwner page
  | .irtTgt acc page _ _ => wfAccessor acc && wfOwner page
  | .faultReport source _ _ => wfFaultSource source
  | .reportingPathFault source => wfFaultSource source
  | .squallExit source => wfFaultSource source
  | .force route _ => wfRoute route
  | .forcedReport source => wfFaultSource source
  | .spareRebuildComplete region => wfRegion region
  | .moduleReset route _ => wfRoute route
  | .returnUnit route _ => wfRoute route
  | .returnFailedSites route _ => wfRoute route
  | .heartbeat _ path => wfPath path
  | .heartbeatSend path => wfPath path
  | .witness segment => wfTwo segment
  | .pairing _ _ _ => true
  | .pairingEnabled route _ => wfRoute route
  | .bulkCopyComplete => true
  | .twinLinkSilence => true
  | .selfFence => true
  | .takeover => true
  | .relinquish _ => true
  | .plannedFailover route _ => wfRoute route
  | .sendRelinquish => true
  | .publicRead _ _ _ _ => true
  | .sspOpen _ _ _ => true
  | .requestRead _ => true
  | .requestWrite _ => true
  | .sspClose _ _ _ _ => true
  | .sessionIdle _ => true
  | .objectWrite route _ _ _ => wfRoute route
  | .credential route obj _ => wfRoute route && decide (4 ≤ obj) && decide (obj ≤ 6)
  | .keySwitch _ => true
  | .requestPress _ _ => true
  | .mediumAction _ => true
  | .identifyPress => true
  | .mediumChange state => decide (state < 3)
  | .stage route _ => wfRoute route
  | .activateAtDawn route _ => wfRoute route
  | .activateLive route _ _ => wfRoute route
  | .commitSecurityVersion route => wfRoute route
  | .abandonStaging route => wfRoute route
  | .registerWrite acc addr _ => wfAccessor acc && decide (addr < 2 ^ 48)
  | .sysclkReturn => true
  | .porstNHigh => true
  | .constellationPortFailure port => wfTwo port
  | .mirrorReceipt _ _ => true
  | .linkProtocolFault link => wfAnyLink link
  | .aerErrorMessage port link => wfPort port && wfQuad link

end Sys2Proof
end

