-- ==== Sys2Proof/Decode.lean ====
section
/-! DEFINITION. The decoder of the host's table words. No row of spec/opcode_table.json gives bits: the commands come
from outside, so no word spells one. -/

namespace Sys2Proof

/-- No row of the table gives bits, so no word spells a command. Assumption 18 (DESIGN CHOICE). -/
def decodeTableWord (_nbits _w : Nat) : Option Instr := none

end Sys2Proof
end

