-- ==== Sys2Proof/Config.lean ====
section
/-! DEFINITION. What one module's fuses and the unmodelled outside fix, and the free values the spec leaves open.
A constant without a body is a FREE VALUE, a DESIGN CHOICE: nothing can be proved of its value (assumptions 3 to 12 and 30). -/

namespace Sys2Proof.Config

/-- Nanoseconds that pass on the time of day between two of its reads, by the step counter (R251).
Assumption 3 (DESIGN CHOICE). -/
opaque elapsedNs : Nat → Nat
/-- Core cycles that pass before a read of the cycle count, by the step counter (R205). Assumption 3 (DESIGN CHOICE). -/
opaque elapsedCycles : Nat → Nat
/-- Which of the translations that caches hold for a page an access uses; beyond them, a new walk (R353). By the step
counter and the page. Assumption 4 (DEDUCED). -/
opaque pickTranslation : Nat → Nat → Nat
/-- Random octets of the generator of R334, by the step counter. Assumption 5 (DESIGN CHOICE). -/
opaque randomBits : Nat → BitVec 256
/-- ECDSA P-384 signature by the attestation key (R371), by the step counter. Assumption 5 (DESIGN CHOICE). -/
opaque ecSignature : Nat → List Octet
/-- ML-DSA-87 signature by the attestation key (R371), by the step counter. Assumption 5 (DESIGN CHOICE). -/
opaque mlSignature : Nat → List Octet
/-- SHA-384 of an octet string (FIPS 180-4), used for key digests (R194, R449). Assumption 5 (DESIGN CHOICE). -/
opaque sha384 : List Octet → BitVec 384
/-- Whether an ECDSA P-384 or ML-DSA-87 signature verifies: message, public key, signature (R194).
Assumption 5 (DESIGN CHOICE). -/
opaque ecdsaVerify : List Octet → List Octet → List Octet → Bool
/-- Assumption 5 (DESIGN CHOICE). -/
opaque mldsaVerify : List Octet → List Octet → List Octet → Bool
/-- One decimal-unit or floating-unit step of a vertical micro-operation (Table 6.8): unit, code, two sources.
Assumption 11 (DESIGN CHOICE). -/
opaque unitStep : Bool → Nat → BitVec 72 → BitVec 72 → BitVec 72
/-- Which of its detectors a core fault comes from, by the step counter (Table 13.1, R196): the row does not say.
Assumption 6 (DESIGN CHOICE). -/
opaque faultDetector : Nat → Nat
/-- The device certificate chain (OD 1500h.0B) is fused. Assumption 5 (DESIGN CHOICE). -/
opaque certificate : List Octet
/-- Destination octets that a NO-GAIN request has overwritten before it ends (R298), by the step counter.
Assumption 6 (DESIGN CHOICE). -/
opaque noGainWritten : Nat → Nat
/-- The binding of an owner's local source number to a module number (R374), as (owner code, local number).
Assumption 7 (DESIGN CHOICE). -/
opaque sourceOf : Nat → Option (Nat × Nat)


/-- The sealed world's local number of a source that it holds (R374): the module's own choice.
Assumption 7 (DESIGN CHOICE). -/
opaque sealedLocal : Nat → Nat

/-- Energy in mJ that a Dusk draws from the store (OD 1100h.0C): measured. By the step counter.
Assumption 6 (DESIGN CHOICE). -/
opaque duskEnergy : Nat → Nat

/-- Pending items that the halt sequence can still write when the fatal fault lies in the journal write path (R402). By the
step counter. Assumption 6 (DESIGN CHOICE). -/
opaque haltWrites : Nat → Nat
/-- Whether the array takes the halt record, by the step counter (R402). Assumption 6 (DESIGN CHOICE). -/
opaque haltRecordKept : Nat → Bool
/-- The unit-specific cause of a report that its source drives, by the step counter (Table 13.7). Assumption 6 (DESIGN CHOICE). -/
opaque faultDetail : Nat → Nat

/-- The link of a bifurcated root port below which a function lies: port and requester ID (Table 7.15).
Assumption 7 (DESIGN CHOICE). -/
opaque linkOf : Nat → Nat → Nat
/-- The link of a bifurcated root port whose windows hold an I/O word address: port and word (R244).
Assumption 7 (DESIGN CHOICE). -/
opaque ioLink : Nat → Nat → Nat
/-- A root port's link can transmit when it is handed a store (R124), by the step counter and the link: from the moment it
cannot until link-down is detected, the port holds the store. Assumption 58 (DESIGN CHOICE). -/
opaque transmits : Nat → Nat → Bool
/-- The tenant to which the Host has bound a class D function: port and requester ID (R242).
Assumption 7 (DESIGN CHOICE). -/
opaque classDTenant : Nat → Nat → Option Nat
/-- The result of attesting a function (OD 1330h.04) and the digest of its measurements: port and requester ID (R246).
Assumption 7 (DESIGN CHOICE). -/
opaque attestation : Nat → Nat → Nat
/-- Assumption 7 (DESIGN CHOICE). -/
opaque functionDigest : Nat → Nat → BitVec 384
/-- A selective IDE stream is active on a link: port and link (R246). Assumption 7 (DESIGN CHOICE). -/
opaque ideActive : Nat → Nat → Bool
/-- Block size of a namespace and largest transfer of its controller, in octets: port, requester ID, namespace (R223).
Assumption 7 (DESIGN CHOICE). -/
opaque blockSize : Nat → Nat → Nat → Nat
/-- Assumption 7 (DESIGN CHOICE). -/
opaque maxTransfer : Nat → Nat → Nat
/-- The peer's module channel number of a sender's channel: peer, tenant, local channel (R250).
Assumption 7 (DESIGN CHOICE). -/
opaque peerChannel : Nat → Nat → Nat → Nat

/-- Which of the two checks of step 2 of an activation failed (R451), by the step counter: the row does not say.
Assumption 8 (DESIGN CHOICE). -/
opaque activationCheck : Nat → Bool

/-- The main ROM (Table 6.1): the spec gives none of its words. Assumption 54 (DESIGN CHOICE). -/
opaque mainRom : BitVec 16 → BitVec 168
/-- A word of patch memory past the patch set's last, by its number. Assumption 54 (DESIGN CHOICE). -/
opaque patchBeyond : Nat → BitVec 168
/-- The microaddress of the header fetch (Table 6.4). Assumption 54 (DESIGN CHOICE). -/
opaque headerFetch : BitVec 16
/-- The entries of the dispatch tables, by table and key (Table 6.2, VEC). Assumption 54 (DESIGN CHOICE). -/
opaque dispatchEntry : Nat → Nat → BitVec 16
/-- The key of a dispatch table that the spec does not state, by the step counter and the table.
Assumption 54 (DESIGN CHOICE). -/
opaque dispatchKey : Nat → Nat → Nat
/-- What the check bits of a fetched microword show (R185): 0 no error, 1 a single-bit error, else one that is not
corrected. By the step counter and the core. Assumption 54 (DESIGN CHOICE). -/
opaque microError : Nat → Nat → Nat
/-- A step of the divider (0), the decimal unit (1) or the floating unit (2), by its code and the A and B buses.
Assumption 54 (DESIGN CHOICE). -/
opaque horizontalUnit : Nat → Nat → BitVec 76 → BitVec 76 → BitVec 76
/-- A condition of Table 6.5 that the model's state does not hold, by the step counter, the core and the code.
Assumption 54 (DESIGN CHOICE). -/
opaque horizontalCond : Nat → Nat → Nat → Bool
/-- The resume index of a hand-off or of an I/O-space load (R198): 0 a commit, 1 a load; an instruction's microcode fixes it.
Assumption 54 (DESIGN CHOICE). -/
opaque resumeIndex : Nat → BitVec 4
/-- In lockstep, the site that its own checks name for a core fault: 0 the primary, 1 the checker, else neither (R207). By
the step counter. Assumption 64 (DESIGN CHOICE). -/
opaque faultSite : Nat → Nat
/-- Which dirty line or store-buffer entry a takeover cannot read, of those that it reads, by the step counter.
Assumption 64 (DESIGN CHOICE). -/
opaque lostIndex : Nat → Nat
/-- A word of a line whose data is lost (R208), by the step counter and its place. Assumption 64 (DESIGN CHOICE). -/
opaque lostWord : Nat → Nat → BitVec 36
/-- What a core's registers hold once both checkpoint slots are lost (R204), by the step counter and the register: 16 is SW
and 17 IC. Assumption 64 (DESIGN CHOICE). -/
opaque lostRegister : Nat → Nat → BitVec 72

/-- Measurements M1 to M4 of what Zenith loads at DAWN (Table 11.17), by the step counter and their number: the contents
measured are not given. Assumption 8 (DESIGN CHOICE). -/
opaque measurement : Nat → Nat → BitVec 384
/-- The lanes of the Twin link that train at Dawn step 7, as a 4-bit mask, by the step counter (R407): the row does not say.
Assumption 6 (DESIGN CHOICE). -/
opaque twinTrains : Nat → BitVec 4
/-- The store's voltage below 5.0 V at the end of a bleed, mV before reduction (R285), by the step counter.
Assumption 6 (DESIGN CHOICE). -/
opaque bledVoltage : Nat → Nat

/-- What the module finds when an object write, not a row of its own, starts a check whose outcome the row would carry:
the banks of an activation verify, a live activation's other components match, Zenith verifies and measures as at DAWN on
a restart, and what the medium holds; each by the step counter. Assumption 12 (DESIGN CHOICE). -/
opaque bankVerified : Nat → Bool
/-- Assumption 12 (DESIGN CHOICE). -/
opaque sameComponents : Nat → Bool
/-- Assumption 12 (DESIGN CHOICE). -/
opaque zenithVerified : Nat → Bool
/-- Assumption 12 (DESIGN CHOICE). -/
opaque zenithMeasured : Nat → Bool
/-- The service segments that are up, bit 0 SVC-A and bit 1 SVC-B, by the step counter: the spec states no
rule. Assumption 6 (DESIGN CHOICE). -/
opaque segmentsUp : Nat → BitVec 2
/-- Assumption 12 (DESIGN CHOICE). -/
opaque mediumUsable : Nat → Bool
/-- Assumption 12 (DESIGN CHOICE). -/
opaque mediumImage : Nat → Option (List Nat)
/-- The patch words, match entries and fall-back micro-operations of that image. Assumption 12 (DESIGN CHOICE). -/
opaque mediumPatch : Nat → List (BitVec 168)
/-- Assumption 12 (DESIGN CHOICE). -/
opaque mediumMatches : Nat → List (BitVec 36)
/-- Assumption 12 (DESIGN CHOICE). -/
opaque mediumFallBack : Nat → List (BitVec 36)

/-- The check bits of a directory entry over its bits [95:8] (Table 5.3): the code itself is not given.
Assumption 9 (DESIGN CHOICE). -/
opaque entryCheck : BitVec 88 → BitVec 8
/-- What the check of a directory entry read for a request finds (R162): 0 no error, 1 a correctable error, else an
uncorrectable one. By the step counter and the line. Assumption 9 (DESIGN CHOICE). -/
opaque entryError : Nat → Nat → Nat
/-- Blocks of a running cipher request that have been dispatched when something stops it (R322, R337, R340), by the step
counter. Assumption 6 (DESIGN CHOICE). -/
opaque dispatched : Nat → Nat
/-- The random bit generator fails its health tests at a draw (Table 10.3), by the step counter.
Assumption 6 (DESIGN CHOICE). -/
opaque entropyFails : Nat → Bool
/-- Whether the ledger's hot part holds the state of a fenced processor's channel intact (R214), by the step counter and the
channel. Assumption 6 (DESIGN CHOICE). -/
opaque procStateIntact : Nat → Nat → Bool
/-- Queues that a class C adapter offers (Table 7.11), by port and requester. Assumption 6 (DESIGN CHOICE). -/
opaque adapterQueues : Nat → Nat → Nat
/-- Whether an NVM Express controller supports SGLs, by port and requester. Assumption 6 (DESIGN CHOICE). -/
opaque usesSgl : Nat → Nat → Bool
/-- Whether a request of the module's own was lost with a PCIe link (R236), by the step counter and the link.
Assumption 6 (DESIGN CHOICE). -/
opaque ownRequestLost : Nat → Nat → Bool
/-- Whether a record read for JN_RD fails its tag, CRC or header (R279), by the step counter and its sequence number.
Assumption 65 (DESIGN CHOICE). -/
opaque recordFails : Nat → Nat → Bool
/-- Whether a record written in a Dusk or a halt fails write-verify (Table 8.6 step 4), by the step counter.
Assumption 65 (DESIGN CHOICE). -/
opaque flushFails : Nat → Bool
/-- The epoch key (R277): the KDF's label and the encoding of its context are not given. By the root key, the module's
serial number and the epoch. Assumption 65 (DESIGN CHOICE). -/
opaque epochKey : List Octet → BitVec 64 → Nat → BitVec 256
/-- Blocks that deriving an epoch key uses, at most 8 (R343), by the step counter. Assumption 65 (DESIGN CHOICE). -/
opaque derivationBlocks : Nat → Nat
/-- The sealing counter of an entry mirrored by the twin: the mirrored item does not carry it. By the step counter.
Assumption 65 (DESIGN CHOICE). -/
opaque mirrorCounter : Nat → Nat
/-- Process slices held within a phase of R364, by the step counter. Assumption 66 (DESIGN CHOICE). -/
opaque processSlices : Nat → Nat
/-- What a mirrored slot copy holds once it is unwrapped (R416 step 2): attributes, key, and the tenant's key-wrapping key;
the mirrored item names the slot alone. Assumption 10 (DESIGN CHOICE). -/
opaque mirroredAttr : Nat → Nat → BitVec 6
/-- Assumption 10 (DESIGN CHOICE). -/
opaque mirroredKey : Nat → Nat → BitVec 256
/-- Assumption 10 (DESIGN CHOICE). -/
opaque mirroredKek : Nat → BitVec 256
/-- Assumption 10 (DESIGN CHOICE). -/
opaque mirroredRoot : Nat → BitVec 256

/-- A register named as a source of more than a doubleword: register value and words (R47, R83).
Assumption 30 (DESIGN CHOICE). -/
opaque wideSource : BitVec 72 → Nat → Nat
/-- What a register holds after a result of more than a doubleword: value and words (R47, R83).
Assumption 30 (DESIGN CHOICE). -/
opaque wideResult : Nat → Nat → BitVec 72

/-- What a vertical register holds when a customer opcode begins, beyond the contents that R191 states; registers 16 and 17
stand for the less and equal flags. By the step counter. Assumption 11 (DESIGN CHOICE). -/
opaque microStart : Nat → Nat → BitVec 72
/-- The micro-operation at an address past the end of the customer image (R193), by the address.
Assumption 11 (DESIGN CHOICE). -/
opaque microBeyond : Nat → BitVec 36
/-- Where a RET with an empty stack goes (Table 6.8), by the step counter. Assumption 11 (DESIGN CHOICE). -/
opaque microReturn : Nat → Nat
/-- The operand number, and the class-specific words, of an exception that a micro-operation raises without an operand
(R192, Table 6.8), by the step counter. Assumption 11 (DESIGN CHOICE). -/
opaque microOperand : Nat → BitVec 2
/-- Assumption 11 (DESIGN CHOICE). -/
opaque microInfo : Nat → BitVec 72

end Sys2Proof.Config
end

