-- ==== Sys2Proof/Machine/State.lean ====
section
/-! DEFINITION. The state of the module as plain data, the reasons a step can stop, and the state after reset. -/

namespace Sys2Proof.Machine

/-- Why the machine stops with a fault. No meaning raises one: every failure the spec describes has an effect. -/
inductive Fault where
  /-- raised by nobody; kept because the outcome type needs a fault type. Safe. -/
  | none
deriving DecidableEq, Repr

/-- Why a command has no meaning. -/
inductive Refusal where
  /-- the command is not modelled; raised by `exec` for an arm without a meaning. Safe. -/
  | notModelled (mnemonic : String)
  /-- the command's operands name no thing of the module (`WellFormed` is false); raised by every meaning. Safe. -/
  | illFormed
deriving DecidableEq, Repr

/-- A finite table: keys strictly rising; an absent key reads as the table's default. -/
abbrev Tab (α : Type) := List (Nat × α)

/-! ## Memory -/

/-- Memory of this module: words by 40-bit real word address, sealing tags by page, poisoned lines. -/
structure Mem where
  /-- words; absent: 0 (R370) -/
  words : Tab Word
  /-- sealing tags by real page number RA[39:12]; absent: the tag of Dawn step 3a (R370) -/
  tags : Tab (BitVec 16)
  /-- poisoned lines RA[39:4] (R178) -/
  poison : Tab Bool
deriving DecidableEq, Repr

/-! ## Cores -/

/-- State of a cache (Tables 4.11, 4.15). -/
inductive CacheState where
  | enabled | disabling | disabled
deriving DecidableEq, Repr

/-- Kinds of store-buffer entry (R112). -/
inductive SbKind where
  | cached | control | io | cleanLine | invalidateLine | zeroLine
deriving DecidableEq, Repr

/-- One word of a store-buffer entry: its place, the bits written, and the number of the instruction it belongs to. -/
structure SbWord where
  off : Nat
  val : Word
  mask : Word
  seq : Nat
deriving DecidableEq, Repr

/-- A store-buffer entry (R112): a line for cached and maintenance kinds, an address for control and I/O. -/
structure SbEntry where
  kind : SbKind
  addr : Nat
  /-- I/O: the whole doubleword to send, if the access is a doubleword (R244) -/
  wide : Bool
  /-- level that issued it, for reports (R124) -/
  level : Nat
  /-- virtual address, for reports (R395) -/
  vaddr : Nat
  words : List SbWord
  /-- it has begun to be performed (R113) -/
  begun : Bool := false
  /-- the tag of the masked write-back whose acknowledge it awaits (Table 4.5) -/
  sent : Option Nat := none
deriving DecidableEq, Repr

/-- A line that a cache of a core holds: its way, and whether it is newer than the next level (Table 4.6). -/
structure CLine where
  line : Nat
  way : Nat
  dirty : Bool
deriving DecidableEq, Repr

/-- A cache of a core: its lines, the least recently used first, and an L1's tree bits by set (Table 4.6). -/
structure Tags where
  lines : List CLine
  tree : Tab Nat
deriving DecidableEq, Repr

/-- A core's reservation (R117): the line, whether the deferral window of R120 is open, and whether a snoop waits. -/
structure Reservation where
  line : Nat
  deferring : Bool
  snooped : Bool
deriving DecidableEq, Repr

/-- A checkpoint of an instruction boundary (R197). The reservation is kept beside it for a replay. -/
structure Checkpoint where
  x : Vector DWord 16
  sw : DWord
  ic : BitVec 48
  cycles : Nat
  res : Option Reservation
  /-- 0 at a boundary -/
  resume : Nat
  l1i : CacheState
  l1d : CacheState
  l2 : CacheState
  /-- the hand-off tag and the held I/O-load data (R198) -/
  tag : Option (BitVec 16)
  held : List (Nat × DWord)
deriving DecidableEq, Repr

/-- The two slots that a site has in the tile's recovery store, and which is current (R197). -/
structure Slots where
  first : Checkpoint
  second : Checkpoint
  useSecond : Bool
deriving DecidableEq, Repr

/-- The datapath that horizontal microwords drive (Tables 6.2 to 6.5). -/
structure Datapath where
  /-- the microaddress; none: at the boundary, before the next instruction's header fetch -/
  at_ : Option (BitVec 16)
  /-- the 8-deep micro-stack (R188) -/
  stack : List (BitVec 16)
  /-- control is with the vertical sequencer, at a vendor address (Table 6.4) -/
  vertical : Option (BitVec 13)
  x : Vector DWord 16
  sw : DWord
  ic : BitVec 48
  nextIC : BitVec 48
  ea : BitVec 48
  oa : BitVec 76
  ob : BitVec 76
  oc : BitVec 76
  mdr : BitVec 76
  prodHi : BitVec 76
  prodLo : BitVec 76
  quot : BitVec 76
  rem : BitVec 76
  dec : BitVec 76
  fpu : BitVec 76
  shf : BitVec 76
  hand : BitVec 76
  hdr : Word
  desc : Word
  loop : BitVec 76
  unit : BitVec 76
  scratch : Vector (BitVec 76) 16
  /-- gated stores: MEM code, address, data (R113) -/
  gated : List (Nat × Nat × BitVec 76)
deriving DecidableEq, Repr

/-- An exposed load (R108): its line, its instruction's number and that instruction's checkpoint. -/
structure Exposed where
  line : Nat
  seq : Nat
  ck : Checkpoint
deriving DecidableEq, Repr

/-- Where a hand-off's status word goes (R198): a register, real words of memory, control space or I/O space. -/
inductive StatusDest where
  | reg (n : Nat)
  | mem (ra : Nat)
  | ctl (addr : Nat)
  | io (addr : Nat)
  | drop
deriving DecidableEq, Repr

/-- An instruction past its irrevocable point, waiting for its response: its tag and resume index (R198). -/
structure HandOff where
  tag : BitVec 16
  resume : BitVec 4
  dest : StatusDest
  regs : List (Nat × DWord)
  nextIC : BitVec 48
  level : Nat
  vaddr : Nat
deriving DecidableEq, Repr

/-- An I/O-space load that has been sent (R244, R245), with its resume index (R198). -/
structure IoLoad where
  resume : BitVec 4
  addr : Nat
  wide : Bool
  vaddr : Nat
  /-- the instruction waiting for it -/
  ins : Insn
deriving DecidableEq, Repr

/-- A machine check that waits for a core's instruction boundary: its class, the level that takes it, the tenant for whom,
its sub-code and words 6-7 (R124, R178, R209, R395). -/
structure Check where
  cls : Nat
  level : Nat
  tenant : Nat
  sub : Nat
  info : Nat
deriving DecidableEq, Repr

/-- What a logical core is doing. -/
inductive CoreRun where
  | running
  /-- in WAIT -/
  | waiting
  /-- past a hand-off, waiting for the response -/
  | handOff (h : HandOff)
  /-- waiting for an I/O-space load -/
  | ioLoad (l : IoLoad)
  /-- stopped by an uncontained machine check (R209) -/
  | stopped
deriving DecidableEq, Repr

/-- One logical core. -/
structure Core where
  /-- X0 to X15 -/
  x : Vector DWord 16
  /-- the state word SW (Table 2.2) -/
  sw : DWord
  /-- the instruction counter IC -/
  ic : BitVec 48
  /-- cycle count (R205) -/
  cycles : Nat
  run : CoreRun
  res : Option Reservation
  sb : List SbEntry
  exposed : List Exposed
  /-- number of the next instruction -/
  seq : Nat
  /-- data of I/O loads that have returned for the instruction in progress: address and value (R198) -/
  ioHeld : List (Nat × DWord)
  /-- core faults of one instruction, its number, and its miscompares that no site's checks attribute (R199, R207) -/
  retries : Nat
  retryAt : Nat
  miscompares : Nat
  /-- the recovery store's slots of its site (R197) -/
  slots : Slots
  /-- the horizontal datapath (R184) -/
  dp : Datapath
  /-- SV_CORE_CTX -/
  ctxValid : Bool
  vcore : Nat
  tenant : Nat
  /-- SV_S1ROOT and its staged HI half (R373) -/
  s1root : Nat
  s1rootHi : Nat
  /-- SV_VEC2 and its staged HI half -/
  vec2 : Nat
  vec2Hi : Nat
  /-- IRT_THRESH of bands 0, 1, 2 (R380) -/
  thresh0 : Nat
  thresh1 : Nat
  thresh2 : Nat
  /-- IRT_CORE (Table 12.7) -/
  gwen : Bool
  gwait : Bool
  gwsrc : Nat
  l1i : CacheState
  l1d : CacheState
  l2 : CacheState
  /-- what L1I, L1D and L2 hold (R125, R126) -/
  tagsI : Tags
  tagsD : Tags
  tags2 : Tags
  /-- locked L2 lines and the ways they hold, the data present or not (R129, R130) -/
  locks : List (Nat × Nat)
  /-- CC_REPLAY -/
  replays : Nat
  /-- machine checks to take before the next instruction (R124, R178, R209, R395) -/
  checks : List Check
deriving DecidableEq, Repr

/-- A translation-cache entry (R353): stage-1 or stage-2 leaf of a regime. `stage2` false: key (regime, virtual page,
root); true: (tenant, intermediate page). -/
structure TcEntry where
  stage2 : Bool
  /-- level-0 and level-1 regimes: 1024 and 1025; else the tenant -/
  regime : Nat
  page : Nat
  root : Nat
  /-- the leaf entry and its level -/
  leaf : DWord
  large : Bool
deriving DecidableEq, Repr

/-! ## Module, power, time -/

/-- The module states (Table 0.1). -/
inductive ModState where
  | off | standby | dawn | run | dusk | extracting | safe | halted
deriving DecidableEq, Repr

/-- The ejector lever (OD 1A00h.04). -/
inductive Lever where
  | closed | lifted | opened
deriving DecidableEq, Repr

/-- Settings of a profile (Table 1.7, OD 1001h). -/
structure ProfileSet where
  clock : Nat
  lockstep : Bool
  constTime : Bool
  ceiling : Nat
  margin : Nat
  ackTwin : Bool
  lanes : Nat
  power : Nat
deriving DecidableEq, Repr

/-- Module state, profiles, inputs and sequencing (chapters 1 and 15). -/
structure ModuleCtl where
  st : ModState
  /-- OD 1000h.01, .02 -/
  selected : Nat
  active : Nat
  /-- OD 1000h.03: store weak, store charging, coolant -/
  weak : Bool
  charging : Bool
  coolant : Bool
  /-- lockstep pairing now in force (R30) -/
  lockstep : Bool
  /-- OD 1000h.05-08 -/
  clock0 : Nat
  clock1 : Nat
  clock2 : Nat
  clock3 : Nat
  /-- cap of R28 and R472, MHz; 5600 is no cap -/
  cap : Nat
  /-- clock, MHz, to which R33 limits the custom profile; 5600 is no limit -/
  customLimit : Nat
  startPermit : Bool
  custom : ProfileSet
  /-- in force: ceiling MiB, margin percent, lanes, power W -/
  ceiling : Nat
  margin : Nat
  lanes : Nat
  power : Nat
  /-- R34: a change that waits in step 4 for a lane's block; 1: to a higher maximum power -/
  change : Option Bool
  /-- R34: the most recent change requested during a change -/
  deferred : Option Nat
  /-- an orderly stop under way, and the tenants whose drain timeout has passed in it (Table 1.12) -/
  stopping : Option (List Nat)
  /-- telemetry OD 1B00h.01-05 -/
  inlet : Int
  hottest : Int
  powerMean : Nat
  vin48mV : Nat
  vauxmV : Nat
  /-- judgements of R460 -/
  vin48 : Bool
  vaux : Bool
  /-- isolation opened by reverse current (R272) -/
  vin48Open : Bool
  vauxOpen : Bool
  porstHigh : Bool
  sysclk : Bool
  /-- AON on its internal oscillator (R466) -/
  internalOsc : Bool
  lever : Lever
  /-- OD 1A00h.05 -/
  extractStep : Nat
  latchReleased : Bool
  /-- a PORST_N or OD 1600h.06 reset started the DAWN now under way (R403) -/
  resetDawn : Bool
  /-- straps of R468 -/
  slot : Nat
  twinId : Bool
  /-- FAULT_P/FAULT_N asserted (R469) -/
  faultPins : Bool
deriving DecidableEq, Repr

/-- The hold-up store and its gauge (R267-R272, R285). -/
structure Store where
  /-- store voltage, mV -/
  mv : Nat
  /-- C in microfarads and R in microohms of the last accepted self-test -/
  held : Bool
  uf : Nat
  uohm : Nat
  /-- reserve in mJ -/
  reserve : Nat
  short : Bool
  bleeding : Bool
  bled : Bool
  /-- self-test due or requested -/
  testDue : Bool
  lastTest : Nat
  testResult : Nat
  updateThreshold : Nat
  duskCount : Nat
  lastDuskFlushed : Nat
  lastDuskEnergy : Nat
deriving DecidableEq, Repr

/-- The time of day (R251). -/
structure Clock where
  tod : Nat
  floor : Nat
  lock : Nat
  domain : Nat
  discipline : Bool
  /-- nanoseconds still to slew back -/
  slewBack : Nat
deriving DecidableEq, Repr

/-! ## Caches and coherence -/

/-- A coherence message: its header (Table 5.6), the data and the mask that follow it as words of the line, and whether the
line it carries is poisoned, for which Table 5.6 shows no bit. Assumption 57 (DESIGN CHOICE). -/
structure Msg where
  type : Nat
  src : Nat
  dst : Nat
  /-- the requester's transaction tag -/
  tag : Nat
  line : Nat
  /-- the original requester, in snoops, invalidates and data -/
  orig : Nat
  /-- header bits [10:5], in their place -/
  aux : Nat
  words : List Word
  mask : List Word
  poisoned : Bool
deriving DecidableEq, Repr

/-- What a flit carries (Table 5.10): message headers, a line, a mask, or a control code with octets 5 and on. -/
inductive FlitBody where
  | messages (ms : List Msg)
  | data (words : List Word)
  | mask (words : List Word)
  | control (code : Nat) (args : List Octet)
deriving DecidableEq, Repr

/-- A flit (Table 5.10), without its CRC. -/
structure Flit where
  seq : Nat
  ackSeq : Nat
  cvc : Nat
  ccnt : Nat
  body : FlitBody
deriving DecidableEq, Repr

/-- Cache control of the tiles (R131, R141). -/
structure CacheCtl where
  l3 : Tab CacheState
  /-- the core whose CACHE CONTROL action a cache is serving, keyed 256 * cache + number (R137) -/
  acting : Tab Nat
  /-- CC_L3_MASK by 16 * tile + class; absent: all ways -/
  masks : Tab (BitVec 16)
  /-- CC_L3_CLASS by tenant -/
  classes : Tab Nat
  rejectH : Bool
  rejectZ : Bool
deriving DecidableEq, Repr

/-- States of a directory entry (Table 5.4). -/
inductive DirState where
  | shared | owned | busy | recall
deriving DecidableEq, Repr

/-- What an open transaction at the home does when its answers are in (Table 5.8). -/
inductive DirReq where
  | readShared | readOwn | upgrade | readNoAllocate | masked (words mask : List Word) | recall
deriving DecidableEq, Repr

/-- A request waiting at the home, in arrival order (R155). -/
structure DirWait where
  req : DirReq
  src : Nat
  tag : Nat
  line : Nat
  /-- the line whose recall frees the entry it needs (R160) -/
  behind : Option Nat
deriving DecidableEq, Repr

/-- An open transaction (R157). -/
structure DirTx where
  req : DirReq
  src : Nat
  tag : Nat
  /-- the entry's state before it (Table 5.4) -/
  prior : DirState
  /-- agents whose acknowledge or data is awaited -/
  awaits : List Nat
  /-- waiting for a write-back after an answer with WBF -/
  wbWait : List Nat
  /-- data returned: words and whether dirty -/
  got : Option (List Word × Bool)
deriving DecidableEq, Repr

/-- A directory entry (Table 5.3), for the line homed here that its key names. -/
structure DirEntry where
  st : DirState
  ioh : Bool
  /-- tiles that hold the line, or the one holding agent when `ioh` -/
  holders : List Nat
  way : Nat
  tx : Option DirTx
deriving DecidableEq, Repr

/-- States of a line at a tile (Table 5.7). -/
inductive TileState where
  | s | e | m | isS | imS | smS | miS | eiS | siS
deriving DecidableEq, Repr

/-- A line of a tile's L3 (Tables 4.6, 5.7): its coherence state, its way, its age in uses, and of the request in flight
the tag and the access that caused it: a core, its instruction's number, and whether it is a store (R153). -/
structure TileLine where
  st : TileState
  way : Nat
  age : Nat
  tag : Nat
  waiter : Option (Nat × Nat × Bool)
  /-- the write-back in flight is that of a clean, which reads the line again (Table 4.9) -/
  keep : Bool
deriving DecidableEq, Repr

/-- A read-no-allocate of a tile or of an agent without a cache: its tag, and the copy once it has come (R163). -/
structure Copy where
  tag : Nat
  words : Option (List Word)
deriving DecidableEq, Repr

/-- What an agent without a cache has to do with a line: a read-own in flight, an I/O hold (R165), or a masked write-back
that the home has not acknowledged. -/
inductive AgentSt where
  | asked | held | writing
deriving DecidableEq, Repr

/-- A line of an agent without a cache, with its transaction tag. -/
structure AgentLine where
  tag : Nat
  st : AgentSt
deriving DecidableEq, Repr

/-- Snoops and invalidates (Table 5.5). -/
inductive Snoop where
  | invalidate | share | own | read
deriving DecidableEq, Repr

/-- A snoop that a tile holds (R153, R120): its kind and the header fields that its answer echoes. -/
structure Held where
  kind : Snoop
  tag : Nat
  orig : Nat
deriving DecidableEq, Repr

/-- States of a Jetstream link (Table 5.11). -/
inductive LinkSt where
  | unused | down | training | identify | active | retraining | detoured | mismatch
deriving DecidableEq, Repr

/-- One Jetstream link. -/
structure Link where
  st : LinkSt
  g0 : Bool
  g1 : Bool
  fenced0 : Bool
  fenced1 : Bool
  admin : Nat
  via : Nat
  /-- next SEQ to send, last SEQ received in order -/
  seq : Nat
  rxSeq : Nat
  /-- replay buffer: message and data flits that ACKSEQ does not cover, oldest first (R171) -/
  replayBuf : List Flit
  /-- messages for the peer that wait for credit, for room in the replay buffer, or for a path (R170) -/
  queue : List Msg
  /-- messages of other modules to the peer, carried as its relay (R175) -/
  forward : List Msg
  /-- credits held, and credits to return, in flits by virtual channel: REQ, WR, SNP, RSP, DAT, and the five forwarding
  pools (R170) -/
  credits : List Nat
  owed : List Nat
  /-- replay requests for one SEQ without progress -/
  lastReplay : Nat
  replayCount : Nat
  /-- DY_LINK_REPLAY, DY_LINK_FENCES -/
  replays : Nat
  fences : Nat
  /-- R175, R176 -/
  deliveredSent : Bool
  /-- the replay buffer has been sent again through the relay, and new messages may follow it -/
  resent : Bool
  drainSent : Bool
  drainSeen : Bool
deriving DecidableEq, Repr

/-- Directory, tiles' lines and links (chapter 5). -/
structure Domain where
  /-- OD 0110h.01 as stored and in force -/
  modNext : Nat
  modnum : Nat
  membersNext : BitVec 16
  members : BitVec 16
  inService : BitVec 16
  entries : Tab DirEntry
  /-- lines of a set in LRU order, oldest first -/
  lru : Tab (List Nat)
  /-- requests waiting for their line, in arrival order -/
  waiting : List DirWait
  /-- R159: requests refused, in order of first refusal -/
  refused : List DirWait
  /-- attempts of an agent for a line, keyed by agent * 2^36 + line -/
  attempts : Tab Nat
  /-- copies for the loads of a core whose L3 is passed by, keyed by (64 + core) * 2^36 + line, and for agents without
  caches, keyed by local agent * 2^36 + line (R163, R166) -/
  passes : Tab Copy
  /-- lines of this module's L3s, keyed by tile * 2^36 + line -/
  tiles : Tab TileLine
  /-- snoops held by R153, keyed as `tiles` -/
  heldSnoops : Tab Held
  /-- lines of this module's agents without caches, keyed by local agent * 2^36 + line -/
  agents : Tab AgentLine
  /-- doorbells that await the acknowledge of an agent's writes: agent, owner, source (R26, R389) -/
  rings : List (Nat × Nat × Nat)
  /-- messages between agents of this module that are on their way; empty between commands -/
  inbox : List Msg
  /-- the next transaction tag, and the count of L3 uses that orders replacement -/
  nextTag : Nat
  uses : Nat
  links : Tab Link
  /-- link-state view: bits by origin module (R175) -/
  view : Tab Nat
  partition : Bool
  poisonSet : Bool
  rejectH : Bool
  rejectZ : Bool
  naks : Nat
  recalls : Nat
  poisoned : Nat
  entryErrors : Nat
  probeSet : Nat
  probeWay : Nat
  probe : BitVec 96
deriving DecidableEq, Repr

/-! ## Control store and sparing -/

/-- A customer opcode entry (Table 6.10). -/
structure CustEntry where
  opcode : Nat
  count : Nat
  uses : Nat
  priv : Bool
  cls : Nat
  entry : Nat
  hdrFields : Nat
deriving DecidableEq, Repr

/-- A takeover that has been decided (R203): the site, or its pair's primary; whether its checkpoint, lines and entries have
been read; and the sub-code of what could not be read, 0 for nothing, with the owner of it. -/
structure Taking where
  site : Nat
  begun : Bool
  sub : Nat
  owner : Nat
deriving DecidableEq, Repr

/-- Control stores, site map, customer region (chapter 6). -/
structure Sparing where
  spareCount : Nat
  /-- spare count and lockstep with which the map was built (R201) -/
  builtSpares : Nat
  builtLockstep : Bool
  built : Bool
  /-- site of a logical core; absent: LOST or not configured -/
  siteOf : Tab Nat
  configured : Nat
  failed : List Nat
  /-- takeovers decided and not ended, in order of detection (R202) -/
  taking : List Taking
  /-- responses that wait for a core in takeover: core, tag, status word (R198) -/
  responses : List (Nat × BitVec 16 × Word)
  returnFailed : Bool
  retries : Nat
  takeovers : Nat
  uncontained : Nat
  patchVersion : Nat
  /-- patch memory, the match registers and the vendor fall-back store, alike in every tile (Table 6.1) -/
  patch : List (BitVec 168)
  matches_ : List Word
  fallBack : List Word
  /-- 1902h.01, .02 -/
  ecDigest : BitVec 384
  mlDigest : BitVec 384
  staged : List Octet
  loadStatus : Nat
  custEntries : List CustEntry
  custOps : List Word
  custVersion : Nat
  custSecver : Nat
deriving DecidableEq, Repr

/-! ## Channels -/

/-- Channel classes (R213). -/
inductive ChanClass where
  | c | n | send | receive
deriving DecidableEq, Repr

/-- Where an order stands (R225, R232). -/
inductive OrderStage where
  /-- waits at allocation for a free ledger entry -/
  | waitAlloc
  /-- entry open; waits for the OPEN record's cover -/
  | opened
  | issued
  /-- attached to an entry of another order -/
  | attached
  /-- outcome known; the DONE record and the completion record are to come -/
  | done
deriving DecidableEq, Repr

/-- An order that has started (Table 7.4) and is not yet complete. -/
structure Order where
  slot : Nat
  w0 : DWord
  w2 : Word
  w3 : Word
  w4 : DWord
  w6 : DWord
  stage : OrderStage
  grant : Option Nat
  /-- the completion record to write -/
  status : Nat
  dup : Bool
  attempts : Nat
  count : Nat
  time : Nat
  detail : DWord
  /-- the answer was lost with the link; waits for PCIE_LINK_UP -/
  lostAnswer : Bool
  /-- a RETIRE whose mark is mirrored and awaits receipt (R227) -/
  item : Option Nat
  /-- RECEIVE: the message that filled it, by source module and identifier (R250) -/
  sender : Option (Nat × DWord)
  /-- class N: the command identifier of the present attempt (Table 7.10) -/
  cid : Nat
  /-- the DONE record is still to be written, once the data writes are acknowledged (R233) -/
  unrecorded : Bool
deriving DecidableEq, Repr

/-- Ledger entry states (Table 7.7), FREE being absence. -/
inductive LedgerState where
  | opened | issued | done | inDoubt | resetAbandoned
deriving DecidableEq, Repr

/-- A ledger entry. -/
structure LedgerEntry where
  source : Nat
  opid : DWord
  digest : BitVec 32
  st : LedgerState
  persistent : Bool
  attempt : Nat
  series : Nat
  status : Nat
  count : Nat
  time : Nat
  detail : DWord
  /-- record mirrored and awaiting the twin's receipt (R227) -/
  item : Option Nat
deriving DecidableEq, Repr

/-- A module channel: its configuration record (Table 7.18) and its run-time state. -/
structure Chan where
  tenant : Nat
  localNo : Nat
  cls : ChanClass
  proc : Nat
  target : Nat
  port : Nat
  select : Nat
  timeout : Nat
  opened : Bool
  k : Nat
  isrc : Nat
  problem : Bool
  oring : Nat
  cring : Nat
  submitted : Nat
  completed : Nat
  started : Nat
  retire : Nat
  orders : List Order
  /-- after a CLOSE in the same batch (R218) -/
  closing : Bool
  /-- taken over without an alternate target (R416) -/
  noTarget : Bool
  /-- last RETIRE received from the sender channel (R250) -/
  peerRetire : Nat
deriving DecidableEq, Repr

/-- A data grant (R241): handle, tenant, port and requester, and the segments as (octet address, length). -/
structure Grant where
  tenant : Nat
  port : Nat
  rid : Nat
  chan : Nat
  segs : List (Nat × Nat)
deriving DecidableEq, Repr

/-- Channel registers of a tenant (Tables 7.21-7.24). -/
structure ChTenant where
  slice : Nat
  quota : Nat
  table : Nat
  rejectH : Bool
  rejectG : Bool
  ioValid : Bool
  ioFault : Bool
  ioWrite : Bool
  ioCause : Nat
  ioRid : Nat
  ioAddr : Nat
deriving DecidableEq, Repr

/-- A PCIe link (Table 7.25). -/
structure PcieLink where
  up : Bool
  rate : Nat
  width : Nat
  ide : Bool
deriving DecidableEq, Repr

/-- A sequenced frame of a pair of modules (R248, R249). -/
structure Sent where
  hdr : CHeader
  type : Nat
  payload : List Octet
deriving DecidableEq, Repr

/-- A Constellation peer (R249). -/
structure Peer where
  nextFseq : Nat
  /-- frames that wait while 256 are unacknowledged -/
  queue : List Sent
  /-- frames sent and not acknowledged -/
  retained : List Sent
  rxFseq : Nat
  sinceAck : Nat
  alive : Bool
  down : Bool
  used : Bool
deriving DecidableEq, Repr

/-- A partly received Constellation message. -/
structure RxMsg where
  src : Nat
  opid : DWord
  octets : List Octet
deriving DecidableEq, Repr

/-- An I/O-space store that a root port has accepted and not yet transmitted (R124). -/
structure IoStore where
  core : Nat
  link : Nat
  addr : Nat
  wide : Bool
  data : DWord
  level : Nat
  vaddr : Nat
deriving DecidableEq, Repr

/-- Channel subsystem (chapter 7). -/
structure Channels where
  chans : Tab Chan
  ledger : List LedgerEntry
  grants : Tab Grant
  tenants : Tab ChTenant
  procFenced : List Nat
  links : Tab PcieLink
  mRejectH : Bool
  mRejectZ : Bool
  /-- 1300h.05-.09 -/
  dups : Nat
  stale : Nat
  redrives : Nat
  unknown : Nat
  late : Nat
  /-- 1301h stored -/
  bifurcation : Tab Nat
  /-- the bifurcation in force since the last DAWN -/
  bifNow : Tab Nat
  /-- 1320h.01 stored, and in force -/
  consNext : Nat
  consNum : Nat
  cak : List Octet
  ckn : List Octet
  portUp0 : Bool
  portUp1 : Bool
  peers : Tab Peer
  rx : List RxMsg
  /-- I/O-space stores that root ports hold while they cannot transmit, oldest first (R124) -/
  ioQueued : List IoStore
  /-- logical core and port, as 8 * core + port, whose discarded I/O stores have been reported since the link went
  down (R124) -/
  ioReported : List Nat
  /-- 1330h.01, .02 -/
  needAttest : Bool
  needIde : Bool
  /-- adapter and controller queues by their place in the private region: order-queue tail, completion-queue head (R237) -/
  queues : Tab (Nat × Nat)
  /-- octets of the private region that are not zero, by PCIe address (Table 7.14) -/
  priv : Tab Nat
  /-- the next NVM Express command identifier -/
  nextCid : Nat
  /-- configuration records that await the twin's receipt, by mirrored item (R227) -/
  configs : List (Nat × List Octet)
  /-- Constellation frames discarded (R247, R248) -/
  dropped : Nat
deriving DecidableEq, Repr

/-! ## Journal -/

/-- An entry or record in the durable-pending region (R261, R262). -/
structure Pend where
  stream : Nat
  /-- entry sequence number or record number -/
  seq : Nat
  type : Nat
  user : Word
  words : List Word
  toSeal : Bool
  toCompress : Bool
  charge : Nat
  time : Nat
deriving DecidableEq, Repr

/-- A record in Anvil (Table 8.5). -/
structure Rec where
  stream : Nat
  seq : Nat
  type : Nat
  user : Word
  words : List Word
  sealedRec : Bool
  compressed : Bool
  epoch : Nat
  counter : Nat
  stored : Nat
  segment : Nat
  time : Nat
  damaged : Bool
deriving DecidableEq, Repr

/-- A commit not yet answered: the core that waits, its descriptor, its place. -/
structure Commit where
  core : Nat
  user : Word
  words : List Word
  poisoned : Bool
  toSeal : Bool
  toCompress : Bool
  /-- admitted, waiting for the twin: its sequence number and mirrored item -/
  mirrored : Option (Nat × Nat)
deriving DecidableEq, Repr

/-- Journal of a tenant (Tables 8.9-8.12). -/
structure JnTenant where
  energyQuota : Nat
  anvilQuota : Nat
  ackTwin : Bool
  ackSet : Bool
  failPolicy : Bool
  waitLimit : Nat
  refuseFallback : Bool
  sealing : Bool
  compression : Bool
  epoch : Nat
  counter : Nat
  reserved : Nat
  /-- blocks counted against the epoch key (R343) -/
  sealBlocks : Nat
  exhausted : Bool
  /-- the sealing slot: the root key and the blocks counted against it, and the epoch key (R277, R343) -/
  rootKey : Option (List Octet)
  rootUsed : Nat
  epochKey : List Octet
  committed : Nat
  written : Nat
  released : Nat
  releaseHi : Nat
  loss : Bool
  damaged : Bool
  rejectH : Bool
  rejectG : Bool
  rdBaseHi : Nat
  rdBase : Nat
  rdSize : Nat
  rdFromHi : Nat
  rdFrom : Nat
  rdResult : Nat
  rdEntries : Nat
  rdWords : Nat
  /-- lines that the last read wrote and whose acknowledge it awaits (R279) -/
  rdLines : List Nat
  /-- HI halves latched by the last LO read (R287): committed, written, release, read base, first sequence -/
  latchCommitted : Nat
  latchWritten : Nat
  latchRelease : Nat
  latchBase : Nat
  latchFrom : Nat
  /-- commits in the tenant's order -/
  waiting : List Commit
  localAck : Bool
deriving DecidableEq, Repr

/-- Journal controller and Anvil (chapter 8). -/
structure Journal where
  tenants : Tab JnTenant
  pending : List Pend
  records : List Rec
  /-- next record number of the module's own stream -/
  ownSeq : Nat
  /-- last segment allocated, and retired segments -/
  lastSeg : Nat
  retired : List Nat
  /-- the spare pool (R276) -/
  spares : List Nat
  /-- octets written into each segment since it was allocated -/
  fill : Tab Nat
  rewrites : Nat
  mirrorAllowance : Nat
  lossEvents : Nat
  tailsNoClosing : Nat
  /-- closing records: stream to tail -/
  closing : Tab Nat
  mRejectH : Bool
  mRejectZ : Bool
deriving DecidableEq, Repr

/-! ## Engines -/

/-- A request of an engine ring that has been read and run, waiting for its completion record (R310, R327). -/
structure Ran where
  slot : Nat
  /-- words 0-7 of the completion record, the phase bit and the time being added when it is written -/
  words : List Word
  irq : Bool
  unit : Nat
  /-- compression: the context area; cipher: the handle -/
  handle : Nat
  /-- cipher: decrypt, blocks not yet written, all blocks, source and destination octets -/
  dec : Bool := false
  left : Nat := 0
  total : Nat := 0
  src : Nat := 0
  dst : Nat := 0
deriving DecidableEq, Repr

/-- An engine ring (R302, R323). -/
structure Ring where
  opened : Bool
  closing : Bool
  k : Nat
  problem : Bool
  isrc : Nat
  oring : Nat
  cring : Nat
  sub : Nat
  comp : Nat
  cons : Nat
  started : Nat
  ran : List Ran
  /-- the tenant drains: requests not started complete SQUASHED (R314, R340) -/
  squash : Bool
deriving DecidableEq, Repr

/-- Compression state of a tenant (Table 9.11). -/
structure CxTenant where
  slice : Nat
  laneLimit : Nat
  rings : Tab Ring
  table : Nat
  rejectH : Bool
  rejectG : Bool
  squashed : Nat
deriving DecidableEq, Repr

/-- Compression engine (chapter 9). -/
structure Compression where
  tenants : Tab CxTenant
  fenced : List Nat
  busy : List Nat
  completed : Nat
  noGain : Nat
  reruns : Nat
  moduleLimit : Nat
deriving DecidableEq, Repr

/-- A key slot (Table 10.4, R331, R333). -/
structure KeySlot where
  loaded : Bool
  size : Nat
  enc : Bool
  dec : Bool
  exportOk : Bool
  origin : Bool
  key : List Octet
  used : Nat
  reservedTo : Nat
  /-- requests of a ring accepted before the last change (R337): ring to submitted count -/
  before : Tab Nat
deriving DecidableEq, Repr

/-- A key command whose change waits for its effect point (R333, R337). -/
structure KeyChange where
  handle : Nat
  slot : KeySlot
  /-- mirrored record awaiting the twin's receipt (R333) -/
  item : Option Nat
deriving DecidableEq, Repr

/-- Cipher state of a tenant (Table 10.9). -/
structure CiTenant where
  ringSlice : Nat
  handleSlice : Nat
  coreLimit : Nat
  rings : Tab Ring
  keys : Tab KeySlot
  /-- the key-wrapping key (R336) -/
  kek : Option (List Octet)
  table : Nat
  rejectH : Bool
  rejectG : Bool
  squashed : Nat
  /-- CI_KEY_CMD fields as last written -/
  cmdOp : Nat
  cmdSize : Nat
  cmdEnc : Bool
  cmdDec : Bool
  cmdExport : Bool
  cmdHandle : Nat
  busy : Bool
  addrHi : Nat
  addrLo : Nat
  resValid : Bool
  resStatus : Nat
  change : Option KeyChange
deriving DecidableEq, Repr

/-- Cipher engine (chapter 10). -/
structure Cipher where
  tenants : Tab CiTenant
  fenced : List Nat
  busy : List Nat
  completed : Nat
  keyCommands : Nat
  resumptions : Nat
  moduleLimit : Nat
  mRejectH : Bool
  mRejectZ : Bool
deriving DecidableEq, Repr

/-! ## Tenants and worlds -/

/-- Tenant states (Table 11.10). -/
inductive TenSt where
  | absent | active | draining | stopped | deleting
deriving DecidableEq, Repr

/-- A tenant's life (Table 11.19). -/
structure Tenant where
  st : TenSt
  /-- the reset under way ends in deletion -/
  deleting : Bool
  hvPermitted : Bool
  hvOk : Bool
  initialSW : DWord
  drainTimeout : Nat
  abandoned : Nat
  s2root : Nat
  s2rootHi : Nat
deriving DecidableEq, Repr

/-- States of a block (Table 11.21). -/
inductive BlockSt where
  | opened | claiming | sealed | releasing | fenced
deriving DecidableEq, Repr

/-- A block that can change worlds (R365, R366). -/
structure Block where
  st : BlockSt
  revoked : Bool
  gateHeld : Bool
  gated : Bool
deriving DecidableEq, Repr

/-- Tenancy, worlds and Zenith (chapter 11). -/
structure Tenancy where
  tenants : Tab Tenant
  blocks : Tab Block
  z1root : Nat
  z1rootHi : Nat
  h1root : Nat
  h1rootHi : Nat
  vec0 : Nat
  vec0Hi : Nat
  vec1 : Nat
  vec1Hi : Nat
  rejectH : Bool
  rejectZ : Bool
  absent : Bool
  restarting : Bool
  /-- time of the last kick of SV_WDOG -/
  wdogKick : Nat
  hoBusy : Bool
  hoOp : Nat
  hoTarget : Nat
  hoValid : Bool
  hoStatus : Nat
  /-- notices that Zenith has received at level 0: the block named -/
  notices : List Nat
  loanLanes : Nat
  loanAes : Nat
  loanProcs : Nat
  restarts : Nat
  measurements : Vector (BitVec 384) 5
  discarded : Nat
  /-- Zenith's sealing log (R356): core and address refused -/
  sealLog : List (Nat × Nat)
deriving DecidableEq, Repr

/-! ## Interrupt router -/

/-- States of a source (Table 12.1). -/
inductive SrcSt where
  | inactive | pending | active | activePending
deriving DecidableEq, Repr

/-- An interrupt source (Table 12.6). -/
structure Src where
  st : SrcSt
  enable : Bool
  defer : Bool
  acore : Nat
  apri : Nat
  prio : Nat
  tgt : Nat
  /-- held by the sealed world while it belongs to an open owner's page (R387) -/
  away : Bool
deriving DecidableEq, Repr

/-- The sources of one owner. -/
structure SrcPage where
  slice : Nat
  dflt : Nat
  rejectH : Bool
  rejectG : Bool
  srcs : Tab Src
deriving DecidableEq, Repr

/-- Interrupt router (chapter 12): pages by owner: tenant t at t, the Host at 512, the sealed world at 513. -/
structure Router where
  pages : Tab SrcPage
  mRejectH : Bool
  mRejectZ : Bool
deriving DecidableEq, Repr

/-! ## Faults and the twin -/

/-- A fault source (Table 13.9, R392, R396). -/
structure FSrc where
  /-- report held on the rails: code 0 none to 3 fatal -/
  held : Nat
  merged : Bool
  squall : Bool
  fenced : Bool
  rail : Bool
  last : Nat
  /-- times of the events in the window, newest first -/
  events : List Nat
  /-- last log entry's time, by class -/
  logged : List (Nat × Nat)
  n : Nat
  t : Nat
  returning : Bool
  /-- forced reports still to come, and their class (0: rail fault) -/
  forceLeft : Nat
  forceCls : Nat
deriving DecidableEq, Repr

/-- A log entry (Table 13.7). -/
structure LogEntry where
  time : Nat
  forced : Bool
  rail : Bool
  merged : Bool
  squall : Bool
  fenced : Bool
  cls : Nat
  source : Nat
  count : Nat
  detail : Nat
deriving DecidableEq, Repr

/-- Fault collector (chapter 13). -/
structure Faults where
  srcs : Tab FSrc
  /-- newest first, at most 4096 -/
  log : List LogEntry
  head : Nat
  /-- the 256 entries saved in the system area, and whether VAUX was lost since the last DAWN (R405) -/
  saved : List LogEntry
  lost : Bool
  halted : Bool
  rejectH : Bool
  rejectZ : Bool
  selZ : Nat
  selF : Nat
  selH : Nat
  contained : Nat
  hostSource : Nat
  lastFatal : Nat
  injection : Nat
  forced : Nat
  /-- halt record: present, each tenant's committed sequence (R402) -/
  haltRecorded : Bool
  haltSeqs : Tab Nat
  /-- the record is in both superblocks too; a record of which no copy is left -/
  haltInAnvil : Bool
  haltLost : Bool
  /-- L3 way groups fenced (R399), regions whose spare device is in use or being rebuilt (R400) -/
  spareUsed : List Nat
  rebuilding : List Nat
  /-- contained faults since the last acknowledgement (R440) -/
  lightContained : Bool
deriving DecidableEq, Repr

/-- Pair states (Table 13.15). -/
inductive PairSt where
  | unpaired | pairing | resync | inService | detached | selfFenced | solo
deriving DecidableEq, Repr

/-- A ledger record mirrored by the twin. -/
structure MLedger where
  tenant : Nat
  source : Nat
  chan : Nat
  seq : Nat
  digest : Nat
  done : Option Nat
deriving DecidableEq, Repr

/-- A message on the Twin link. -/
inductive TwinMsg where
  /-- a mirrored item and its number (R227, R266) -/
  | item (n : Nat) (content : MirrorItem)
  /-- answer to a mirrored item of the twin (R266): stream or kind, number, received -/
  | receipt (stream seq : Nat) (received : Bool)
  | heartbeat (hb : Heartbeat)
  | relinquish
deriving DecidableEq, Repr

/-- A message as the Twin link carries it: the SEQ of its flits, and the key epoch and message count of its nonce (R407). -/
structure TwinFrame where
  seq : Nat
  epoch : Nat
  count : Nat
  msg : TwinMsg
deriving DecidableEq, Repr

/-- The twin (chapter 13). -/
structure Twin where
  enabled : Bool
  expected : BitVec 64
  st : PairSt
  peer : BitVec 64
  takeovers : Nat
  resyncs : Nat
  conflicts : List Nat
  /-- a witness heard since DAWN, and the time of the last (R412) -/
  witness : Bool
  witnessAt : Nat
  /-- times of the last heartbeat heard on the link and on the segments -/
  heardLink : Nat
  heardSvc : Nat
  takenOver : Bool
  iTookOver : Bool
  selfFence : Bool
  /-- the self-fence of a planned failover (R419) -/
  plannedFence : Bool
  relinquishSent : Bool
  mismatch : Bool
  rejectH : Bool
  rejectZ : Bool
  lanes : Nat
  linkSt : LinkSt
  /-- items sent and awaiting receipt -/
  unacked : List Nat
  nextItem : Nat
  lastHb : Option Heartbeat
  /-- heartbeat number accepted last, by path, and numbers sent -/
  rxCount : Tab Nat
  txCount : Tab Nat
  mLedger : List MLedger
  mConfig : List MirrorConfig
  mKeys : List (Nat × Nat)
  /-- tenants taken over from the twin -/
  adopted : List Nat
  /-- pairing agreed keys; the key epoch and the messages sent under it (R407) -/
  keysAgreed : Bool
  keyEpoch : Nat
  sent : Nat
  /-- next SEQ, the replay buffer, and the replay requests for one SEQ (R171, R407) -/
  seq : Nat
  replayBuf : List TwinFrame
  lastReplay : Nat
  replayCount : Nat
deriving DecidableEq, Repr

/-! ## Service -/

/-- An SSP session (R433-R436). -/
structure Session where
  id : Nat
  /-- the segment of its last accepted frame (R432) -/
  segB : Bool
  role : Nat
  hasKey : Bool
  rxCounter : Nat
  txCounter : Nat
  lastTag : Option Nat
  lastReply : Nat × List Octet
  badTags : Nat
  /-- pieces of a STR or BLOB value: index, sub, octets -/
  piece : Option (Nat × Nat × List Octet)
deriving DecidableEq, Repr

/-- State of a firmware bank (Table 14.15). -/
inductive BankSt where
  | empty | staging | staged | active | invalid
deriving DecidableEq, Repr

/-- A firmware bank. -/
structure Bank where
  st : BankSt
  version : Nat
  secver : Nat
  patchVersion : Nat
  patch : List (BitVec 168)
  matches_ : List Word
  fallBack : List Word
deriving DecidableEq, Repr

/-- Fuses, object dictionary, panel, medium, firmware (chapter 14). -/
structure Service where
  /-- fused serial number (R15), part E (R1), fused security version (R453) -/
  serial : BitVec 64
  partE : Bool
  fusedSecver : Nat
  /-- select objects (R426), keyed by accessor and object -/
  selects : Tab Nat
  nodeCount : Nat
  /-- PLCA node count in use since DAWN (R432) -/
  nodesNow : Nat
  /-- segments and times of the OPENs accepted in the last second, newest first (R433) -/
  opens : List (Bool × Nat)
  idleLimit : Nat
  discarded : Nat
  ownerLock : Bool
  reenroll : Bool
  /-- credentials and their always-on copies (R474) -/
  credOwner : List Octet
  credOperator : List Octet
  credService : List Octet
  copyOwner : List Octet
  copyOperator : List Octet
  copyService : List Octet
  sessions : List Session
  nextSession : Nat
  key : KeyPos
  identify : Bool
  /-- medium state OD 1A00h.03 -/
  medium : Nat
  bankA : Bank
  bankB : Bank
  activeB : Bool
  selectedB : Bool
  blocksStaged : Nat
  updateStatus : Nat
  /-- the image of a running staging (R449) -/
  staging : Option ImageFile
  mediumEnable : Bool
  /-- answer of the last object access: abort code and value -/
  answerAbort : Nat
  answer : List Octet
  /-- value returned by the last register read row -/
  regAnswer : Word
  alternate : Tab (List Octet)
deriving DecidableEq, Repr

/-- What the module sends outside. -/
inductive Output where
  /-- an order block or NVM Express command placed in a function's queue, and its doorbell: port, requester, queue, tail
  (R237, R239) -/
  | orderQueued (port rid queue tail : Nat) (octets : List Octet)
  /-- the completion-queue head doorbell -/
  | completionTaken (port rid queue head : Nat)
  /-- Constellation frame: port, type, header, payload (R248) -/
  | frame (port type : Nat) (hdr : CHeader) (payload : List Octet)
  /-- a flit on a Jetstream link (R169) -/
  | flit (link : Nat) (f : Flit)
  /-- I/O-space store or load as a TLP: core, address, wide, data -/
  | ioStore (core addr : Nat) (wide : Bool) (data : DWord)
  | ioLoad (core addr : Nat) (wide : Bool)
  /-- answer to a device read; none: Unsupported Request -/
  | devRead (port rid : Nat) (octets : Option (List Octet))
  /-- function level or adapter reset: port, requester -/
  | reset (port rid : Nat)
  /-- Bus Master Enable of a tenant's class D functions cleared (Table 11.12 step 3) -/
  | busMasterOff (tenant : Nat)
  /-- Function Level Reset of a tenant's class D functions (Table 11.12 step 4) -/
  | resetClassD (tenant : Nat)
  | heartbeat (path : Nat) (hb : Heartbeat)
  /-- a message on the Twin link (R407) -/
  | twin (f : TwinFrame)
  /-- SSP frame: segment, SERIAL, type, session, counter, abort or reason, octets (Table 14.5) -/
  | ssp (segB : Bool) (serial : BitVec 64) (type session counter code : Nat) (octets : List Octet)
  | latchPulse
  | perst (low : Bool)
deriving DecidableEq, Repr

/-! ## The machine -/

/-- The whole module and the queue of its waiting commands. -/
structure State where
  /-- commands waiting, first in first out -/
  pending : List Instr
  /-- the model's own counter of free values (assumption 2); no field of the spec -/
  fresh : Nat
  /-- everything sent outside, oldest first (assumption 13) -/
  out : List Output
  md : ModuleCtl
  es : Store
  tm : Clock
  mem : Mem
  cores : Tab Core
  tc : List TcEntry
  cc : CacheCtl
  dy : Domain
  sp : Sparing
  ch : Channels
  jn : Journal
  cx : Compression
  ci : Cipher
  tn : Tenancy
  ir : Router
  fc : Faults
  tw : Twin
  sv : Service
deriving DecidableEq, Repr

/-! ## Defaults -/

def Checkpoint.init : Checkpoint :=
  { x := Vector.replicate 16 0, sw := 0, ic := 0, cycles := 0, res := none, resume := 0, l1i := .enabled, l1d := .enabled,
    l2 := .enabled, tag := none, held := [] }

def Datapath.init : Datapath :=
  { at_ := none, stack := [], vertical := none, x := Vector.replicate 16 0, sw := 0, ic := 0, nextIC := 0, ea := 0, oa := 0,
    ob := 0, oc := 0, mdr := 0, prodHi := 0, prodLo := 0, quot := 0, rem := 0, dec := 0, fpu := 0, shf := 0, hand := 0, hdr := 0,
    desc := 0, loop := 0, unit := 0, scratch := Vector.replicate 16 0, gated := [] }

def Core.init : Core :=
  { x := Vector.replicate 16 0, sw := 0, ic := 0, cycles := 0, run := .running, res := none, sb := [], exposed := [],
    seq := 0, ioHeld := [], retries := 0, retryAt := 0, miscompares := 0,
    slots := { first := Checkpoint.init, second := Checkpoint.init, useSecond := false }, dp := Datapath.init, ctxValid := false, vcore := 0, tenant := 0, s1root := 0, s1rootHi := 0,
    vec2 := 0, vec2Hi := 0, thresh0 := 0, thresh1 := 0, thresh2 := 0, gwen := false, gwait := false, gwsrc := 0,
    l1i := .enabled, l1d := .enabled, l2 := .enabled, tagsI := { lines := [], tree := [] },
    tagsD := { lines := [], tree := [] }, tags2 := { lines := [], tree := [] }, locks := [], replays := 0, checks := [] }

def ProfileSet.customInit : ProfileSet :=
  { clock := 4400, lockstep := false, constTime := false, ceiling := 4096, margin := 15, ackTwin := false,
    lanes := 48, power := 1300 }

def ModuleCtl.init : ModuleCtl :=
  { st := .off, selected := 0, active := 0, weak := false, charging := false, coolant := false, lockstep := false,
    clock0 := 5600, clock1 := 5600, clock2 := 5600, clock3 := 5600, cap := 5600, customLimit := 5600, startPermit := true,
    custom := ProfileSet.customInit, ceiling := 4096, margin := 15, lanes := 48, power := 1750, change := none, deferred := none, stopping := none,
    inlet := 300, hottest := 300, powerMean := 0, vin48mV := 0, vauxmV := 0, vin48 := false, vaux := false,
    vin48Open := false, vauxOpen := false, porstHigh := false, sysclk := true,
    internalOsc := false, lever := .closed, extractStep := 0, latchReleased := false, resetDawn := false, slot := 0,
    twinId := false, faultPins := false }

def Store.init : Store :=
  { mv := 0, held := false, uf := 0, uohm := 0, reserve := 0, short := false, bleeding := false, bled := false,
    testDue := false, lastTest := 0, testResult := 0, updateThreshold := 8000, duskCount := 0, lastDuskFlushed := 0,
    lastDuskEnergy := 0 }

def Clock.init : Clock :=
  { tod := 0, floor := 0, lock := 0, domain := 0, discipline := false, slewBack := 0 }

def CacheCtl.init : CacheCtl := { l3 := [], acting := [], masks := [], classes := [], rejectH := false, rejectZ := false }

/-- Flits that a receiver's buffers hold, by virtual channel, and the same again for the forwarding pools (R170). -/
def linkBuffers : List Nat := [64, 32, 64, 128, 128, 64, 32, 64, 128, 128]

/-- A link that has not trained: the first flit has SEQ 1, and 0 counts as received. Assumption 57 (DESIGN CHOICE). -/
def Link.init : Link :=
  { st := .unused, g0 := false, g1 := false, fenced0 := false, fenced1 := false, admin := 0, via := 0, seq := 1,
    rxSeq := 0, replayBuf := [], queue := [], forward := [], credits := linkBuffers, owed := List.replicate 10 0,
    lastReplay := 0, replayCount := 0, replays := 0, fences := 0, deliveredSent := false, resent := false,
    drainSent := false, drainSeen := false }

def Domain.init : Domain :=
  { modNext := 0, modnum := 0, membersNext := 1, members := 1, inService := 1, entries := [], lru := [], waiting := [],
    refused := [], attempts := [], passes := [], tiles := [], heldSnoops := [], agents := [], rings := [], inbox := [], nextTag := 0, uses := 0, links := [], view := [], partition := false,
    poisonSet := false, rejectH := false, rejectZ := false, naks := 0, recalls := 0, poisoned := 0, entryErrors := 0,
    probeSet := 0, probeWay := 0, probe := 0 }

def Sparing.init : Sparing :=
  { spareCount := 8, builtSpares := 8, builtLockstep := false, built := false, siteOf := [], configured := 0,
    failed := [], taking := [], responses := [], returnFailed := false, retries := 0, takeovers := 0, uncontained := 0, patchVersion := 0,
    patch := [], matches_ := [], fallBack := [], ecDigest := 0, mlDigest := 0, staged := [], loadStatus := 0, custEntries := [],
    custOps := [], custVersion := 0, custSecver := 0 }

def ChTenant.init : ChTenant :=
  { slice := 0, quota := 0, table := 0, rejectH := false, rejectG := false, ioValid := false, ioFault := false,
    ioWrite := false, ioCause := 0, ioRid := 0, ioAddr := 0 }

def PcieLink.init : PcieLink := { up := false, rate := 0, width := 0, ide := false }

def Peer.init : Peer :=
  { nextFseq := 1, queue := [], retained := [], rxFseq := 0, sinceAck := 0, alive := false, down := false, used := false }

def Channels.init : Channels :=
  { chans := [], ledger := [], grants := [], tenants := [], procFenced := [], links := [], mRejectH := false,
    mRejectZ := false, dups := 0, stale := 0, redrives := 0, unknown := 0, late := 0, bifurcation := [], bifNow := [], consNext := 0,
    consNum := 0, cak := [], ckn := [], portUp0 := false, portUp1 := false, peers := [], rx := [], ioQueued := [], ioReported := [], needAttest := true,
    needIde := false, queues := [], priv := [], nextCid := 0, configs := [], dropped := 0 }

def JnTenant.init : JnTenant :=
  { energyQuota := 0, anvilQuota := 0, ackTwin := false, ackSet := false, failPolicy := false, waitLimit := 10000,
    refuseFallback := false, sealing := false, compression := false, epoch := 0, counter := 0, reserved := 0,
    sealBlocks := 0, exhausted := false, rootKey := none, rootUsed := 0, epochKey := [], committed := 0, written := 0, released := 0, releaseHi := 0, loss := false, damaged := false,
    rejectH := false, rejectG := false, rdBaseHi := 0, rdBase := 0, rdSize := 0, rdFromHi := 0, rdFrom := 0,
    rdResult := 0, rdEntries := 0, rdWords := 0, rdLines := [], latchCommitted := 0, latchWritten := 0, latchRelease := 0, latchBase := 0, latchFrom := 0, waiting := [],
    localAck := false }

/-- The 256 spare segments of a new module: the last of the pool. Assumption 65 (DESIGN CHOICE). -/
def spareSegments : List Nat := (List.range 256).map (3840 + ·)

def Journal.init : Journal :=
  { tenants := [], pending := [], records := [], ownSeq := 0, lastSeg := 31, retired := [], spares := spareSegments, fill := [],
    rewrites := 0, mirrorAllowance := 1024, lossEvents := 0, tailsNoClosing := 0, closing := [], mRejectH := false,
    mRejectZ := false }

def Ring.init : Ring :=
  { opened := false, closing := false, k := 0, problem := false, isrc := 0, oring := 0, cring := 0, sub := 0,
    comp := 0, cons := 0, started := 0, ran := [], squash := false }

def CxTenant.init : CxTenant :=
  { slice := 0, laneLimit := 48, rings := [], table := 0, rejectH := false, rejectG := false,
    squashed := 0 }

def Compression.init : Compression :=
  { tenants := [], fenced := [], busy := [], completed := 0, noGain := 0, reruns := 0, moduleLimit := 8 }

def KeySlot.init : KeySlot :=
  { loaded := false, size := 0, enc := false, dec := false, exportOk := false, origin := false, key := [], used := 0,
    reservedTo := 0, before := [] }

def CiTenant.init : CiTenant :=
  { ringSlice := 0, handleSlice := 0, coreLimit := 24, rings := [], keys := [], kek := none, table := 0,
    rejectH := false, rejectG := false, squashed := 0, cmdOp := 0, cmdSize := 0, cmdEnc := false, cmdDec := false,
    cmdExport := false, cmdHandle := 0, busy := false, addrHi := 0, addrLo := 0, resValid := false, resStatus := 0,
    change := none }

def Cipher.init : Cipher :=
  { tenants := [], fenced := [], busy := [], completed := 0, keyCommands := 0, resumptions := 0, moduleLimit := 4,
    mRejectH := false, mRejectZ := false }

def Tenant.init : Tenant :=
  { st := .absent, deleting := false, hvPermitted := true, hvOk := false, initialSW := 0, drainTimeout := 100,
    abandoned := 0, s2root := 0, s2rootHi := 0 }

def Block.init : Block := { st := .opened, revoked := false, gateHeld := false, gated := false }

def Tenancy.init : Tenancy :=
  { tenants := [], blocks := [], z1root := 0, z1rootHi := 0, h1root := 0, h1rootHi := 0, vec0 := 0, vec0Hi := 0,
    vec1 := 0, vec1Hi := 0, rejectH := false, rejectZ := false, absent := false, restarting := false, wdogKick := 0,
    hoBusy := false, hoOp := 0, hoTarget := 0, hoValid := false, hoStatus := 0, notices := [], loanLanes := 2,
    loanAes := 1, loanProcs := 0, restarts := 0, measurements := Vector.replicate 5 0, discarded := 0,
    sealLog := [] }

def Src.init : Src :=
  { st := .inactive, enable := false, defer := false, acore := 0, apri := 0, prio := 0, tgt := 127, away := false }

def SrcPage.init : SrcPage := { slice := 0, dflt := 127, rejectH := false, rejectG := false, srcs := [] }

def Router.init : Router := { pages := [(513, { SrcPage.init with slice := 256 })], mRejectH := false, mRejectZ := false }

def FSrc.init : FSrc :=
  { held := 0, merged := false, squall := false, fenced := false, rail := false, last := 0, events := [], logged := [],
    n := 8, t := 60000, returning := false, forceLeft := 0, forceCls := 0 }

def Faults.init : Faults :=
  { srcs := [], log := [], head := 0, saved := [], lost := false, halted := false, rejectH := false, rejectZ := false, selZ := 0,
    selF := 0, selH := 0, contained := 0, hostSource := 65535, lastFatal := 65535, injection := 0, forced := 0,
    haltRecorded := false, haltSeqs := [], haltInAnvil := false, haltLost := false, spareUsed := [], rebuilding := [], lightContained := false }

def Twin.init : Twin :=
  { enabled := true, expected := 0, st := .unpaired, peer := 0, takeovers := 0, resyncs := 0, conflicts := [],
    witness := false, witnessAt := 0, heardLink := 0, heardSvc := 0, takenOver := false, iTookOver := false,
    selfFence := false, plannedFence := false, relinquishSent := false, mismatch := false, rejectH := false,
    rejectZ := false, lanes := 0, linkSt := .unused, unacked := [], nextItem := 0, lastHb := none, rxCount := [],
    txCount := [], mLedger := [], mConfig := [], mKeys := [], adopted := [], keysAgreed := false,
    keyEpoch := 0, sent := 0, seq := 1, replayBuf := [], lastReplay := 0, replayCount := 0 }

def Bank.init : Bank :=
  { st := .empty, version := 0, secver := 0, patchVersion := 0, patch := [], matches_ := [], fallBack := [] }

def Service.init : Service :=
  { serial := 0x4E2A07C19B3D0056, partE := false, fusedSecver := 0, selects := [], nodeCount := 0x41, nodesNow := 0x41, opens := [], idleLimit := 300,
    discarded := 0, ownerLock := false, reenroll := false, credOwner := [],
    credOperator := [], credService := [], copyOwner := [], copyOperator := [], copyService := [], sessions := [],
    nextSession := 1, key := .run, identify := false, medium := 0, bankA := { Bank.init with st := .active },
    bankB := Bank.init, activeB := false, selectedB := false, blocksStaged := 0, updateStatus := 0, staging := none,
    mediumEnable := true, answerAbort := 0, answer := [], regAnswer := 0, alternate := [] }

/-- The module right after reset: OFF, without power (Table 0.1). Assumption 17 (DESIGN CHOICE) names the values that no table gives. -/
def State.reset : State :=
  { pending := [], fresh := 0, out := [], md := .init, es := .init, tm := .init,
    mem := { words := [], tags := [], poison := [] }, cores := [], tc := [], cc := .init, dy := .init, sp := .init,
    ch := .init, jn := .init, cx := .init, ci := .init, tn := .init, ir := .init, fc := .init, tw := .init,
    sv := .init }

end Sys2Proof.Machine
end

