-- ==== Sys2Proof/Machine/Table.lean ====
section
/-! DEFINITION. Finite tables in canonical form, bit fields, and the outcome of a command. -/

namespace Sys2Proof.Machine

/-- The value at a key. -/
def tget {α : Type} (t : Tab α) (d : α) (k : Nat) : α :=
  match t with
  | [] => d
  | (k', v) :: r => if k' = k then v else tget r d k

/-- Remove a key. -/
def tdel {α : Type} (t : Tab α) (k : Nat) : Tab α :=
  match t with
  | [] => []
  | (k', v) :: r => if k' = k then tdel r k else (k', v) :: tdel r k

/-- Insert a key that is absent, keeping the order. -/
def tins {α : Type} (t : Tab α) (k : Nat) (v : α) : Tab α :=
  match t with
  | [] => [(k, v)]
  | (k', v') :: r => if k < k' then (k, v) :: (k', v') :: r else (k', v') :: tins r k v

/-- Set a key; the default value removes it, so equal tables are equal data. -/
def tput {α : Type} [DecidableEq α] (t : Tab α) (d : α) (k : Nat) (v : α) : Tab α :=
  if v = d then tdel t k else tins (tdel t k) k v

/-- Canonical form: keys strictly rising, no entry equal to the default. -/
def twf {α : Type} [DecidableEq α] (d : α) : Tab α → Bool
  | [] => true
  | (_, v) :: [] => decide (v ≠ d)
  | (k, v) :: (k', v') :: r => decide (v ≠ d) && decide (k < k') && twf d ((k', v') :: r)

/-- Field [hi:lo] of a bit vector, as a number (R3). -/
def fld {n : Nat} (w : BitVec n) (hi lo : Nat) : Nat := (w.toNat >>> lo) % 2 ^ (hi + 1 - lo)

/-- One bit. -/
def bit {n : Nat} (w : BitVec n) (i : Nat) : Bool := w.getLsbD i

/-- Field [hi:lo] of a number. -/
def nfld (w hi lo : Nat) : Nat := (w >>> lo) % 2 ^ (hi + 1 - lo)

def b2n (b : Bool) : Nat := if b then 1 else 0

/-- A word from values at bit positions. -/
def packW (l : List (Nat × Nat)) : Word := BitVec.ofNat 36 (l.foldl (fun a p => a + p.1 <<< p.2) 0)

/-- Counters that stop at 0o777_777_777_777 (Table 5.17). -/
def sat36 (n : Nat) : Nat := min n (2 ^ 36 - 1)

/-- Word `i` of a list, zero beyond its end. -/
def wordAt (ws : List Word) (i : Nat) : Word := ws.getD i 0

/-- The doubleword of words `i` and `i + 1` (R7). -/
def dwordAt (ws : List Word) (i : Nat) : DWord := (wordAt ws i) ++ (wordAt ws (i + 1))

def hiWord (d : DWord) : Word := d.extractLsb' 36 36
def loWord (d : DWord) : Word := d.extractLsb' 0 36

/-- A number from octets, most significant first. -/
def octNat (l : List Octet) : Nat := l.foldl (fun a o => a * 256 + o.toNat) 0

/-- `n` octets of a number, most significant first. -/
def natOct (n v : Nat) : List Octet := (List.range n).map (fun i => BitVec.ofNat 8 (v >>> (8 * (n - 1 - i))))

/-- A state with the queue of another: a command's effect is on everything but the queue. -/
def State.withQueue (t s : State) : State := { t with pending := s.pending }

/-- The outcome of a well-formed command is its next state; another command is refused. Assumption 20 (DEDUCED). -/
def State.runIf (s : State) (ok : Bool) (t : State) : Host.Outcome State Fault Refusal :=
  if ok then .next (t.withQueue s) else .refused .illFormed

/-- The table of cores. -/
def State.core (s : State) (c : Nat) : Core := tget s.cores Core.init c

def State.setCore (s : State) (c : Nat) (v : Core) : State := { s with cores := tput s.cores Core.init c v }

/-- Update one core. -/
def State.modCore (s : State) (c : Nat) (f : Core → Core) : State := s.setCore c (f (s.core c))

/-- Send something outside. Assumption 13 (DESIGN CHOICE). -/
def State.emit (s : State) (o : Output) : State := { s with out := s.out ++ [o] }

/-- A fresh index of a free value. Assumption 2 (DESIGN CHOICE). -/
def State.tick (s : State) : Nat × State := (s.fresh, { s with fresh := s.fresh + 1 })

/-- A read of the time of day: the count as time passes, never at or above an unpersisted floor (R251).
Assumption 3 (DESIGN CHOICE). -/
def State.now (s : State) : Nat × State :=
  let t := max s.tm.tod (min (s.tm.tod + Config.elapsedNs s.fresh) (s.tm.floor - 1)) % 2 ^ 64
  (t, { s with fresh := s.fresh + 1, tm := { s.tm with tod := t } })

end Sys2Proof.Machine
end

