-- ==== Sys2Proof/Machine/Codec.lean ====
section
/-! DEFINITION. The check values, the dictionary method and the cipher that the module computes: CRC-32C, CRC-64,
chapter 9's method, AES (FIPS 197) and the key wrap KW (NIST SP 800-38F). -/

namespace Sys2Proof.Machine

/-! ## Check values -/

/-- One bit of a most-significant-first CRC-64 register (R297). -/
def crc64Bit (r : BitVec 64) (b : Bool) : BitVec 64 :=
  let t := r <<< 1
  if r.getLsbD 63 != b then t ^^^ 0x42F0E1EBA9EA3693 else t

/-- CRC-64 over symbols of `q` bits each (R297). -/
def crc64 (q : Nat) (syms : List Nat) : BitVec 64 :=
  syms.foldl (fun r x => (List.range q).foldl (fun r i => crc64Bit r (x.testBit (q - 1 - i))) r) 0

/-- One bit of the reflected CRC-32C register. -/
def crc32cBit (r : BitVec 32) : BitVec 32 :=
  if r.getLsbD 0 then (r >>> 1) ^^^ 0x82F63B78 else r >>> 1

/-- CRC-32C, generator 1EDC6F41h (R169, R224). -/
def crc32c (l : List Octet) : BitVec 32 :=
  ~~~ (l.foldl (fun r o => (List.range 8).foldl (fun r _ => crc32cBit r) (r ^^^ o.setWidth 32)) (BitVec.allOnes 32))

/-! ## The dictionary method (R290-R294) -/

/-- A dictionary: the root width and the entries from code Q + 2 upward, as (prefix code, symbol). -/
structure Dict where
  q : Nat
  maxbits : Nat
  entries : List (Nat × Nat)
deriving DecidableEq, Repr

/-- The number of roots Q. -/
def Dict.roots (d : Dict) : Nat := 2 ^ d.q
/-- The next free code D. -/
def Dict.next (d : Dict) : Nat := d.roots + 2 + d.entries.length
/-- The code width for the present D (R291). -/
def Dict.width (d : Dict) : Nat :=
  min d.maxbits (((List.range 20).map (· + d.q + 1)).find? (fun w => d.next + 1 ≤ 2 ^ w) |>.getD d.maxbits)
def Dict.full (d : Dict) : Bool := 2 ^ d.maxbits ≤ d.next
/-- Define one entry when the dictionary is not full (R292). -/
def Dict.define (d : Dict) (pfx sym : Nat) : Dict :=
  if d.full then d else { d with entries := d.entries ++ [(pfx, sym)] }
def Dict.clear (d : Dict) : Dict := { d with entries := [] }
/-- The codes of the strings of `cs` followed by `sym`. -/
def Dict.extend (d : Dict) (cs : List Nat) (sym : Nat) : List Nat :=
  (d.entries.zipIdx.filter (fun e => cs.contains e.1.1 && e.1.2 == sym)).map (fun e => d.roots + 2 + e.2)

/-- The longest defined string that begins the input, after the string of the codes `cs`: its codes, and the rest. -/
def Dict.longest (d : Dict) (cs : List Nat) : List Nat → List Nat × List Nat
  | [] => (cs, [])
  | x :: r =>
    let cs' := d.extend cs x
    if cs'.isEmpty then (cs, x :: r) else d.longest cs' r

/-- Compressor (R293): codes with their widths, and the dictionary left. `prev` is the previous code and its first
symbol; `fuel` bounds the codes by the input's length. Of several codes of one string, which a restored dictionary may hold,
the lowest is emitted: assumption 66 (DESIGN CHOICE). -/
def lzwCodes (clear : Bool) : Nat → Dict → Option (Nat × Nat) → List Nat → List (Nat × Nat) × Dict
  | 0, d, _, _ => ([(d.roots + 1, d.width)], d)
  | _, d, _, [] => ([(d.roots + 1, d.width)], d)
  | fuel + 1, d, prev, x :: r =>
    let wasFull := clear && d.full
    let pre := if wasFull then [(d.roots, d.width)] else []
    let d := if wasFull then d.clear else d
    let prev := if wasFull then none else prev
    let w := d.width
    let (cs, rest) := d.longest [x] r
    let (c, rest) := match prev, rest with
      | some (pc, ph), y :: rest' => if cs.contains pc && ph == y && !d.full then (d.next, rest') else (cs.headD x, rest)
      | _, _ => (cs.headD x, rest)
    let d := match prev with
      | some (pc, _) => d.define pc x
      | none => d
    let (cs, d) := lzwCodes clear fuel d (some (c, x)) rest
    (pre ++ (c, w) :: cs, d)

def codeBits (c : Nat × Nat) : List Bool := (List.range c.2).map (fun i => c.1.testBit (c.2 - 1 - i))

/-- Octets of a bit string, bit 7 first, zero bits completing the last (R295). -/
def bitsToOctets (fuel : Nat) (l : List Bool) : List Octet :=
  match fuel, l with
  | 0, _ => []
  | _, [] => []
  | f + 1, l =>
    BitVec.ofNat 8 ((List.range 8).foldl (fun a i => 2 * a + b2n (l.getD i false)) 0) :: bitsToOctets f (l.drop 8)

/-- The code stream of a block and the dictionary left (R295). -/
def lzwStream (clear : Bool) (d : Dict) (syms : List Nat) : List Octet × Dict :=
  let (cs, d) := lzwCodes clear syms.length d none syms
  let bs := cs.flatMap codeBits
  (bitsToOctets (bs.length + 1) bs, d)

/-- The string of a code, by following prefixes (at most `fuel` of them). -/
def Dict.string (d : Dict) : Nat → Nat → List Nat
  | 0, _ => []
  | f + 1, c =>
    if c < d.roots then [c]
    else match d.entries[c - (d.roots + 2)]? with
      | some (p, x) => d.string f p ++ [x]
      | none => []

/-- How decoding ends: the symbols produced, the dictionary, and the failure as (reason, bit of the failing code). -/
structure Decoded where
  syms : List Nat
  dict : Dict
  failure : Option (Nat × Nat)
deriving DecidableEq, Repr

/-- Decoder (R292, Table 9.5 reasons 5 to 7) over the bits of the stream from bit `pos`. `want` is SYMBOLS. -/
def lzwDecode (total want : Nat) : Nat → Nat → Dict → Option (List Nat × Nat) → List Nat → List Bool → Decoded
  | 0, pos, d, _, out, _ => ⟨out, d, some (6, pos)⟩
  | fuel + 1, pos, d, prev, out, bits =>
    let w := d.width
    if bits.length < w then ⟨out, d, some (6, pos)⟩ else
    let c := (bits.take w).foldl (fun a b => 2 * a + b2n b) 0
    let rest := bits.drop w
    if c == d.roots then lzwDecode total want fuel (pos + w) d.clear none out rest
    else if c == d.roots + 1 then
      if 8 ≤ rest.length || rest.any id then ⟨out, d, some (6, pos)⟩
      else if out.length != want then ⟨out, d, some (7, pos)⟩
      else ⟨out, d, none⟩
    else
      let special := c == d.next && prev.isSome && !d.full
      if d.next ≤ c && !special then ⟨out, d, some (5, pos)⟩ else
      let str := match prev with
        | some (ps, _) => if special then ps ++ ps.take 1 else d.string (d.next + 1) c
        | none => d.string (d.next + 1) c
      if want < out.length + str.length then ⟨out, d, some (7, pos)⟩ else
      let d' := match prev with
        | some (_, pc) => d.define pc (str.headD 0)
        | none => d
      lzwDecode total want fuel (pos + w) d' (some (str, c)) (out ++ str) rest

def octetBits (o : Octet) : List Bool := (List.range 8).map (fun i => o.getLsbD (7 - i))

/-- The trailer of a compressed block (Table 9.1). -/
def cxTrailer (params nsyms streamLen blockNo : Nat) (crc : BitVec 64) : List Octet :=
  natOct 4 0x4358424C ++ natOct 1 params ++ natOct 3 0 ++ natOct 4 nsyms ++ natOct 4 streamLen ++ natOct 4 blockNo ++
    natOct 4 0 ++ natOct 8 crc.toNat

/-! ## AES (FIPS 197) -/

def xtime (a : Octet) : Octet := if a.getLsbD 7 then (a <<< 1) ^^^ 0x1B else a <<< 1

def gmul (a b : Octet) : Octet :=
  ((List.range 8).foldl (fun (p : Octet × Octet) i => (if b.getLsbD i then p.1 ^^^ p.2 else p.1, xtime p.2)) (0, a)).1

/-- Inverse in GF(2^8): a to the power 254. -/
def ginv (a : Octet) : Octet :=
  let a2 := gmul a a; let a4 := gmul a2 a2; let a8 := gmul a4 a4; let a16 := gmul a8 a8
  let a32 := gmul a16 a16; let a64 := gmul a32 a32; let a128 := gmul a64 a64
  gmul a128 (gmul a64 (gmul a32 (gmul a16 (gmul a8 (gmul a4 a2)))))

def sbox (a : Octet) : Octet :=
  let b := ginv a
  b ^^^ b.rotateLeft 1 ^^^ b.rotateLeft 2 ^^^ b.rotateLeft 3 ^^^ b.rotateLeft 4 ^^^ 0x63

def invSbox (a : Octet) : Octet :=
  ginv (a.rotateLeft 1 ^^^ a.rotateLeft 3 ^^^ a.rotateLeft 6 ^^^ 0x05)

def oxor (a b : List Octet) : List Octet := List.zipWith (· ^^^ ·) a b

def oct (l : List Octet) (i : Nat) : Octet := l.getD i 0

/-- Key expansion: `n` words of 4 octets from the `nk` words of the key, newest last. -/
def aesExpand (nk : Nat) : Nat → Octet → List (List Octet) → List (List Octet)
  | 0, _, ws => ws
  | n + 1, rcon, ws =>
    let i := ws.length
    let t := ws.getLastD []
    let first := i % nk == 0
    let t := if first then oxor ((t.drop 1 ++ t.take 1).map sbox) [rcon, 0, 0, 0]
             else if 6 < nk && i % nk == 4 then t.map sbox else t
    aesExpand nk n (if first then xtime rcon else rcon) (ws ++ [oxor (ws.getD (i - nk) []) t])

def aesKeyWords (key : List Octet) : List (List Octet) :=
  (List.range (key.length / 4)).map (fun i => (key.drop (4 * i)).take 4)

/-- Round keys of 16 octets. -/
def aesRoundKeys (key : List Octet) : List (List Octet) :=
  let nk := key.length / 4
  let ws := aesExpand nk (4 * (nk + 7) - nk) 1 (aesKeyWords key)
  (List.range (nk + 7)).map (fun r => ((ws.drop (4 * r)).take 4).flatten)

def shiftRows (s : List Octet) : List Octet := (List.range 16).map (fun i => oct s ((i + 4 * (i % 4)) % 16))
def invShiftRows (s : List Octet) : List Octet := (List.range 16).map (fun i => oct s ((i + 16 - 4 * (i % 4)) % 16))

def mixWith (m : List Octet) (s : List Octet) : List Octet :=
  (List.range 16).map (fun i =>
    let c := 4 * (i / 4)
    (List.range 4).foldl (fun a j => a ^^^ gmul (oct m ((j + 4 - i % 4) % 4)) (oct s (c + j))) 0)

def mixColumns : List Octet → List Octet := mixWith [2, 3, 1, 1]
def invMixColumns : List Octet → List Octet := mixWith [14, 11, 13, 9]

def aesRounds : List (List Octet) → List Octet → List Octet
  | [], s => s
  | [k], s => oxor (shiftRows (s.map sbox)) k
  | k :: r, s => aesRounds r (oxor (mixColumns (shiftRows (s.map sbox))) k)

/-- The AES cipher on one block. -/
def aesEncrypt (key blk : List Octet) : List Octet :=
  match aesRoundKeys key with
  | [] => blk
  | k :: r => aesRounds r (oxor blk k)

def aesInvRounds : List (List Octet) → List Octet → List Octet
  | [], s => s
  | [k], s => oxor ((invShiftRows s).map invSbox) k
  | k :: r, s => aesInvRounds r (invMixColumns (oxor ((invShiftRows s).map invSbox) k))

/-- The AES inverse cipher on one block. -/
def aesDecrypt (key blk : List Octet) : List Octet :=
  match (aesRoundKeys key).reverse with
  | [] => blk
  | k :: r => aesInvRounds r (oxor blk k)

/-! ## Key wrap KW (NIST SP 800-38F, R335) -/

def kwStep (key : List Octet) (p : List Octet × List (List Octet)) (t i : Nat) : List Octet × List (List Octet) :=
  let b := aesEncrypt key (p.1 ++ p.2.getD i [])
  (oxor (b.take 8) (natOct 8 t), p.2.set i (b.drop 8))

def kwUnstep (key : List Octet) (p : List Octet × List (List Octet)) (t i : Nat) : List Octet × List (List Octet) :=
  let b := aesDecrypt key (oxor p.1 (natOct 8 t) ++ p.2.getD i [])
  (b.take 8, p.2.set i (b.drop 8))

def semiblocks (l : List Octet) : List (List Octet) :=
  (List.range (l.length / 8)).map (fun i => (l.drop (8 * i)).take 8)

/-- Wrap a plaintext of whole semiblocks. -/
def kwWrap (key plain : List Octet) : List Octet :=
  let r := semiblocks plain
  let n := r.length
  let p := (List.range (6 * n)).foldl (fun p j => kwStep key p (j + 1) (j % n)) (List.replicate 8 0xA6, r)
  p.1 ++ p.2.flatten

/-- Unwrap; nothing when the integrity check fails. -/
def kwUnwrap (key cipher : List Octet) : Option (List Octet) :=
  let r := (semiblocks cipher).drop 1
  let n := r.length
  let p := (List.range (6 * n)).foldl (fun p j => kwUnstep key p (6 * n - j) ((6 * n - 1 - j) % n)) (cipher.take 8, r)
  if p.1 == List.replicate 8 0xA6 then some p.2.flatten else none

end Sys2Proof.Machine
end

