-- ==== Sys2Proof/Machine/Mem.lean ====
section
/-! DEFINITION. Memory of the domain as the total order of R105 leaves it: words, octets, tags and poison. -/

namespace Sys2Proof.Machine

/-- Lines hold 16 words. -/
def lineOf (ra : Nat) : Nat := ra / 16

/-- The module a real address is homed on (R143). -/
def homeOf (ra : Nat) : Nat := nfld ra 39 36

/-- One word. -/
def State.rd (s : State) (ra : Nat) : Word := tget s.mem.words 0 ra

/-- Write one word. -/
def State.wr (s : State) (ra : Nat) (w : Word) : State :=
  { s with mem := { s.mem with words := tput s.mem.words 0 ra w } }

/-- Write the bits of a word that a mask selects. -/
def State.wrMask (s : State) (ra : Nat) (w mask : Word) : State :=
  s.wr ra ((s.rd ra &&& ~~~mask) ||| (w &&& mask))

/-- A doubleword (R7). -/
def State.rdD (s : State) (ra : Nat) : DWord := s.rd ra ++ s.rd (ra + 1)

def State.wrWords (s : State) (ra : Nat) (ws : List Word) : State :=
  match ws with
  | [] => s
  | w :: r => (s.wr ra w).wrWords (ra + 1) r

def State.rdWords (s : State) (ra n : Nat) : List Word := (List.range n).map (fun i => s.rd (ra + i))

/-- A line's 16 words. -/
def State.rdLine (s : State) (line : Nat) : List Word := s.rdWords (line * 16) 16

def State.poisoned (s : State) (line : Nat) : Bool := tget s.mem.poison false line

def State.setPoison (s : State) (line : Nat) (b : Bool) : State :=
  { s with mem := { s.mem with poison := tput s.mem.poison false line b } }

/-- A whole-line write clears poison (R178). -/
def State.wrLine (s : State) (line : Nat) (ws : List Word) : State :=
  (s.wrWords (line * 16) ((List.range 16).map (wordAt ws))).setPoison line false

/-- A masked write-back (R164): the selected bits as one store; a mask of all bits clears poison (R178). -/
def State.wrLineMask (s : State) (line : Nat) (ws mask : List Word) : State :=
  let t := (List.range 16).foldl (fun s i => s.wrMask (line * 16 + i) (wordAt ws i) (wordAt mask i)) s
  if (List.range 16).all (fun i => wordAt mask i == BitVec.allOnes 36) then t.setPoison line false else t

/-- The word within module `m`, of a page number's first word: the two areas that Dawn tags SEALED (R370). -/
def sealedArea (ra : Nat) : Bool := 0o766_000_000_000 ≤ ra % 2 ^ 36

/-- The tag Dawn step 3a gives a page (R370). -/
def dawnTag (page : Nat) : BitVec 16 :=
  BitVec.ofNat 16 (b2n (sealedArea (page * 4096)) * 0o140000 + homeOf (page * 4096) * 512)

/-- The sealing tag of the page that holds a word (R354). -/
def State.tag (s : State) (ra : Nat) : BitVec 16 := tget s.mem.tags (dawnTag (ra / 4096)) (ra / 4096)

/-- Canonical form of the tags: pages rising, and none that reads as Dawn left it. -/
def tagsWf : Tab (BitVec 16) → Bool
  | [] => true
  | (k, v) :: [] => decide (v ≠ dawnTag k)
  | (k, v) :: (k', v') :: r => decide (v ≠ dawnTag k) && decide (k < k') && tagsWf ((k', v') :: r)

/-- Memory is in canonical form: addresses rising, and no entry equal to what an unlisted address reads as. -/
def Mem.wf (m : Mem) : Bool := twf 0 m.words && tagsWf m.tags && twf false m.poison

/-- Set a page's tag. -/
def State.setTag (s : State) (page : Nat) (t : BitVec 16) : State :=
  { s with mem := { s.mem with tags := tput s.mem.tags (dawnTag page) page t } }

/-- Zero the words and clear the poison of a page (R357). -/
def State.zeroPage (s : State) (page : Nat) : State :=
  { s with mem := { s.mem with words := s.mem.words.filter (fun p => p.1 / 4096 != page),
                               poison := s.mem.poison.filter (fun p => p.1 / 256 != page) } }

/-- Kind of a tag: 0 FREE, 1 TENANT, 2 HOST, 3 SEALED (Table 11.4). -/
def tagKind (t : BitVec 16) : Nat := fld t 15 14

/-- The member a real address is homed on is in service (R143). -/
def State.homeServes (s : State) (ra : Nat) : Bool :=
  ra < 2 ^ 40 && (homeOf ra == s.dy.modnum || (s.dy.members.getLsbD (homeOf ra) && s.dy.inService.getLsbD (homeOf ra)))

/-- The words that octets `k` to `k + n - 1` lie in, by word address (R9). -/
def octetWords (k n : Nat) : List Nat :=
  if n = 0 then [] else
    let first := 2 * (k / 9)
    let last := 2 * ((k + n - 1) / 9) + 1
    (List.range (last + 1 - first)).map (first + ·)

/-- Octet `k` of a doubleword view given by a word reader (R9). -/
def octetOf (rd : Nat → Word) (k : Nat) : Octet :=
  let d := rd (2 * (k / 9)) ++ rd (2 * (k / 9) + 1)
  d.extractLsb' (64 - 8 * (k % 9)) 8

/-- The doubleword with octet `j` of it replaced. -/
def putOctet (d : DWord) (j : Nat) (o : Octet) : DWord :=
  let sh := 64 - 8 * j
  (d &&& ~~~((255 : DWord) <<< sh)) ||| ((o.setWidth 72) <<< sh)

/-- Nonet `m` of a word reader (R8). -/
def nonetOf (rd : Nat → Word) (m : Nat) : Nonet := (rd (m / 4)).extractLsb' (27 - 9 * (m % 4)) 9

def nonetMask (j : Nat) : Word := (511 : Word) <<< (27 - 9 * j)

end Sys2Proof.Machine
end

