-- ==== Sys2Proof/Machine/Lines.lean ====
section
/-! DEFINITION. The lines that the caches of cores and tiles hold (R125-R131), their replacement, replays (R108-R111), and
how a core's copies end (Table 4.4). A line's data stands once, in memory; a cache holds where the line is and in what
state (assumption 22). -/

namespace Sys2Proof.Machine

/-! ## Sites and tiles -/

/-- A logical core has a site: it is configured and not LOST (R200). -/
def State.bound (s : State) (c : Nat) : Bool := tget s.sp.siteOf 0xFFFF c != 0xFFFF

/-- The site a core runs on (R200). -/
def State.siteOfCore (s : State) (c : Nat) : Nat := tget s.sp.siteOf 0xFFFF c

/-- The core's site is being taken over: it is neither running nor fenced (R203). -/
def State.inTakeover (s : State) (c : Nat) : Bool := s.sp.taking.any (fun k => k.site == s.siteOfCore c)

/-- The core that a site, or its pair, carries. -/
def State.coreAt (s : State) (site : Nat) : Option Nat :=
  (s.sp.siteOf.find? (fun e => e.2 == site || (s.md.lockstep && e.2 + 1 == site))).map (·.1)

/-- The tile of a core's site; service core 0 lies with tile 0. Assumption 47 (DESIGN CHOICE). -/
def State.tileOf (s : State) (c : Nat) : Nat := if s.bound c then s.siteOfCore c / 26 % 4 else 0

/-! ## Checkpoints (R197) -/

/-- The checkpoint of the core as it stands, past an irrevocable point where it waits for an answer (R198). -/
def Core.checkpoint (k : Core) : Checkpoint :=
  { x := k.x, sw := k.sw, ic := k.ic, cycles := k.cycles, res := k.res,
    resume := match k.run with
      | .handOff h => h.resume.toNat
      | .ioLoad l => l.resume.toNat
      | _ => 0,
    l1i := k.l1i, l1d := k.l1d, l2 := k.l2,
    tag := match k.run with
      | .handOff h => some h.tag
      | _ => none,
    held := k.ioHeld }

/-- The slot that is not current takes the checkpoint and becomes current. -/
def Slots.save (v : Slots) (ck : Checkpoint) : Slots :=
  if v.useSecond then { v with first := ck, useSecond := false } else { v with second := ck, useSecond := true }

def Slots.current (v : Slots) : Checkpoint := if v.useSecond then v.second else v.first

/-- The datapath at an instruction boundary: the micro-stack is empty, and no store is gated (R188). -/
def Datapath.boundary (d : Datapath) : Datapath := { d with at_ := none, stack := [], vertical := none, gated := [] }

/-- The core passes an instruction boundary: the next instruction has the next number, and the checkpoint is saved. -/
def Core.boundary (k : Core) : Core :=
  let k := { k with seq := k.seq + 1, ioHeld := [], dp := k.dp.boundary }
  { k with slots := k.slots.save k.checkpoint }

/-- The core has passed its irrevocable point, and takes a checkpoint there (R198). -/
def Core.pastPoint (k : Core) (r : CoreRun) : Core :=
  let k := { k with run := r }
  { k with slots := k.slots.save k.checkpoint }

/-! ## Replay (R108-R111) -/

/-- From the oldest exposed load that the test picks, the instruction that made it and every later one are discarded with
their buffered stores; the core goes back to that instruction's checkpoint. -/
def Core.replayWhere (k : Core) (p : Nat → Bool) : Core :=
  match k.exposed.find? (fun e => p e.line) with
  | none => k
  | some e =>
    let keep := k.sb.map (fun b => { b with words := b.words.filter (fun w => w.seq < e.seq) })
    { k with x := e.ck.x, sw := e.ck.sw, ic := e.ck.ic, res := e.ck.res, seq := e.seq, run := .running,
             sb := keep.filter (fun b => !b.words.isEmpty), exposed := k.exposed.filter (fun x => x.seq < e.seq),
             ioHeld := [], replays := sat36 (k.replays + 1) }

/-- Words of the store buffer that an instruction not yet complete has written, or that an exposed load gates (R109). -/
def Core.gated (k : Core) (seq : Nat) : Bool := seq == k.seq || k.exposed.any (fun e => e.seq ≤ seq)

/-- Exposure ends when every older store has been performed. -/
def Core.unexpose (k : Core) : Core :=
  { k with exposed := k.exposed.filter (fun x => k.sb.any (fun e => e.words.any (fun w => w.seq < x.seq))) }

/-! ## The caches of a core (R125, R126) -/

def Tags.empty : Tags := { lines := [], tree := [] }

def Tags.has (t : Tags) (line : Nat) : Bool := t.lines.any (fun x => x.line == line)

def Tags.drop (t : Tags) (line : Nat) : Tags := { t with lines := t.lines.filter (fun x => x.line != line) }

/-- Lines of a set, the least recently used first. -/
def Tags.inSet (t : Tags) (sets line : Nat) : List CLine := t.lines.filter (fun x => x.line % sets == line % sets)

/-- A line becomes the most recently used, and dirty by a store. -/
def Tags.touch (t : Tags) (line : Nat) (store : Bool) : Tags :=
  match t.lines.find? (fun x => x.line == line) with
  | some x => { t with lines := t.lines.filter (fun y => y.line != line) ++ [{ x with dirty := x.dirty || store }] }
  | none => t

/-- The lowest way that no listed way takes. -/
def freeWay (ways : Nat) (used : List Nat) : Option Nat := (List.range ways).find? (fun w => !used.contains w)

/-- The tree bits of eight ways after a use of a way: each node on its path points away from it. Node 1 is the root and
node n has the children 2n and 2n + 1. Assumption 59 (DESIGN CHOICE). -/
def treeUse (bits way : Nat) : Nat :=
  let n1 := way / 4
  let n2 := 2 + way / 4
  let n3 := 4 + way / 2
  let put (b n v : Nat) : Nat := if v == 0 then b ||| 2 ^ n else b &&& (255 - 2 ^ n)
  put (put (put bits 1 n1) n2 (way / 2 % 2)) n3 (way % 2)

/-- The way to which the tree bits point. -/
def treeVictim (bits : Nat) : Nat :=
  let a := bits / 2 % 2
  let b := bits / 2 ^ (2 + a) % 2
  let c := bits / 2 ^ (4 + 2 * a + b) % 2
  4 * a + 2 * b + c

/-- A line is used in an L1, and filled into it on a miss, in place of the tree's victim (Table 4.6). -/
def Tags.useL1 (t : Tags) (line : Nat) : Tags :=
  let set := line % 256
  let bits := tget t.tree 0 set
  match t.lines.find? (fun x => x.line == line) with
  | some x => { t with tree := tput t.tree 0 set (treeUse bits x.way) }
  | none =>
    let here := t.inSet 256 line
    let way := (freeWay 8 (here.map (·.way))).getD (treeVictim bits)
    { lines := t.lines.filter (fun x => !(x.line % 256 == set && x.way == way)) ++ [{ line := line, way := way, dirty := false }],
      tree := tput t.tree 0 set (treeUse bits way) }

/-- A core's copies of a line end, in L2 and L1s; a lock keeps its way (R126, R130). -/
def Core.dropLine (k : Core) (line : Nat) : Core :=
  { k with tagsI := k.tagsI.drop line, tagsD := k.tagsD.drop line, tags2 := k.tags2.drop line }

def Core.locked (k : Core) (line : Nat) : Bool := k.locks.any (fun l => l.1 == line)

/-- An L2 line that a fill may replace: not locked, not reserved, not held by an exposed load (R111). -/
def Core.eligible (k : Core) (line : Nat) : Bool :=
  !k.locked line && !k.res.any (fun r => r.line == line) && !k.exposed.any (fun e => e.line == line)

/-- The way that an L2 fill of a line takes, and the line it replaces: the way of its lock, else one that is free, else
the least recently used eligible line's (Table 4.6, R129, R130). None: no way is eligible. -/
def Core.wayL2 (k : Core) (line : Nat) : Option (Nat × Option Nat) :=
  let here := k.tags2.inSet 1024 line
  match k.locks.find? (fun l => l.1 == line) with
  | some l => some (l.2, none)
  | none =>
    let locked := (k.locks.filter (fun l => l.1 % 1024 == line % 1024)).map (·.2)
    match freeWay 16 (here.map (·.way) ++ locked) with
    | some w => some (w, none)
    | none => (here.find? (fun x => k.eligible x.line)).map (fun x => (x.way, some x.line))

/-- A line is used in the L2, and filled on a miss; a dirty victim's data goes to the L3 first (R128). While the L2 is
not ENABLED it takes no new line (R133). None: no way is eligible (R111). -/
def Core.useL2 (k : Core) (line : Nat) (store : Bool) : Option Core :=
  if k.tags2.has line then some { k with tags2 := k.tags2.touch line store }
  else if k.l2 != .enabled then some k
  else match k.wayL2 line with
    | none => none
    | some (w, victim) =>
      let k := match victim with | some v => k.dropLine v | none => k
      some { k with tags2 := { k.tags2 with lines := k.tags2.lines ++ [{ line := line, way := w, dirty := store }] } }

/-- A load of a line by way of L1D or L1I (`fetch`): a hit there leaves the L2 alone. -/
def Core.useLoad (k : Core) (fetch : Bool) (line : Nat) : Option Core :=
  let t := if fetch then k.tagsI else k.tagsD
  let st := if fetch then k.l1i else k.l1d
  let put (k : Core) (t : Tags) : Core := if fetch then { k with tagsI := t } else { k with tagsD := t }
  if t.has line then some (put k (t.useL1 line))
  else (k.useL2 line false).map (fun k => if st == .enabled && k.tags2.has line then put k (t.useL1 line) else k)

/-- The loads of an instruction, in order. None: an L2 set has no eligible way for one of them. -/
def Core.useLoads (k : Core) (fetch : Bool) : List Nat → Except Nat Core
  | [] => .ok k
  | l :: r => match k.useLoad fetch l with
    | none => .error l
    | some k => k.useLoads fetch r

/-- A store performed in the L2, by a fill on a miss; where no way is eligible, the core first replays from its oldest
exposed load in that set (R111, R126). -/
def Core.useStore (k : Core) (line : Nat) : Core :=
  match k.useL2 line true with
  | some k => k
  | none =>
    let k := k.replayWhere (fun l => l % 1024 == line % 1024)
    (k.useL2 line true).getD k

/-! ## How a core's copies end -/

/-- An invalidation of a line reaches a core: its copies end, exposed loads of the line replay, and a reservation on it is
lost (R108, R110, Table 4.4). -/
def Core.invalidated (k : Core) (p : Nat → Bool) : Core :=
  let k := k.replayWhere p
  { k with res := if k.res.any (fun r => p r.line) then none else k.res,
           tagsI := { k.tagsI with lines := k.tagsI.lines.filter (fun x => !p x.line) },
           tagsD := { k.tagsD with lines := k.tagsD.lines.filter (fun x => !p x.line) },
           tags2 := { k.tags2 with lines := k.tags2.lines.filter (fun x => !p x.line) } }

/-- The lines that a test picks are invalidated at the cores of the tiles it picks, but for one core. -/
def State.invalidateAt (s : State) (tile : Nat → Bool) (p : Nat → Bool) (except_ : Option Nat) : State :=
  { s with cores := s.cores.map (fun e =>
      if except_ != some e.1 && tile (s.tileOf e.1) then (e.1, e.2.invalidated p) else e) }

/-- A line leaves a tile's cores: another agent's store, or an L3 back-invalidation (R126). -/
def State.loseLine (s : State) (t line : Nat) (except_ : Option Nat) : State :=
  s.invalidateAt (· == t) (· == line) except_

/-! ## Lines at the tiles (R152) -/

def tileKey (t line : Nat) : Nat := t * 2 ^ 36 + line

def TileLine.none_ : TileLine := { st := .s, way := 16, age := 0, tag := 0, waiter := none, keep := false }

def State.tileLine (s : State) (t line : Nat) : Option TileLine :=
  (s.dy.tiles.find? (fun e => e.1 == tileKey t line)).map (·.2)

/-- The coherence state of a line at a tile; none is I. -/
def State.tile (s : State) (t line : Nat) : Option TileState := (s.tileLine t line).map (·.st)

def State.putTile (s : State) (t line : Nat) (v : Option TileLine) : State :=
  let r := tdel s.dy.tiles (tileKey t line)
  { s with dy := { s.dy with tiles := match v with | some x => tins r (tileKey t line) x | none => r } }

/-- Change the coherence state of a line that the tile has an entry for; I removes it. -/
def State.setTile (s : State) (t line : Nat) (v : Option TileState) : State :=
  s.putTile t line (v.map (fun st => { (s.tileLine t line).getD TileLine.none_ with st := st }))

/-- Lines that a tile has an entry for. -/
def State.tileLines (s : State) (t : Nat) : List Nat :=
  s.dy.tiles.filterMap (fun e => if e.1 / 2 ^ 36 == t then some (e.1 % 2 ^ 36) else none)

/-- An L3 is used for a line: it is the youngest. -/
def State.touchL3 (s : State) (t line : Nat) : State :=
  match s.tileLine t line with
  | some x => { (s.putTile t line (some { x with age := s.dy.uses })) with
      dy := { (s.putTile t line (some { x with age := s.dy.uses })).dy with uses := s.dy.uses + 1 } }
  | none => s

/-- The tile's L3 is not ENABLED: an access that misses passes it by (R133, R136). Assumption 36 (DEDUCED). -/
def State.passesBy (s : State) (t : Nat) : Bool := tget s.cc.l3 .enabled t != .enabled

/-- The copy that a read-no-allocate has brought, by its key in `passes`. -/
def State.copyAt (s : State) (key : Nat) : Option (List Word) :=
  (s.dy.passes.find? (fun e => e.1 == key)).bind (·.2.words)

/-- The key of a core's copy. -/
def coreCopy (c line : Nat) : Nat := (64 + c) * 2 ^ 36 + line

/-- A tile holds a line for a load, or with `own` for a store (Table 5.7). -/
def State.tileHas (s : State) (t line : Nat) (own : Bool) : Bool :=
  match s.tile t line with
  | some .s => !own
  | some .e => true
  | some .m => true
  | _ => false

/-- Whether a core's access to a line can be made now: from its tile's L3, or for a load from a copy. -/
def State.lineReady (s : State) (c line : Nat) (own : Bool) : Bool :=
  s.tileHas (s.tileOf c) line own || (!own && s.passesBy (s.tileOf c) && (s.copyAt (coreCopy c line)).isSome)

/-- The lines that a test picks leave every tile of this module where no request for them is in flight; with the last
holder their entries go. -/
def State.linesGone (s : State) (p : Nat → Bool) : State :=
  let s := s.invalidateAt (fun _ => true) p none
  let gone (e : Nat × DirEntry) : Bool :=
    p e.1 && e.2.tx.isNone && !e.2.ioh && e.2.holders.all (fun a => a / 64 == s.dy.modnum)
  { s with dy := { s.dy with
      tiles := s.dy.tiles.filterMap (fun e =>
        if !p (e.1 % 2 ^ 36) then some e else
        match e.2.st with
        | .s => none
        | .e => none
        | .m => none
        | .smS => some (e.1, { e.2 with st := .imS })
        | _ => some e),
      entries := s.dy.entries.filter (fun e => !gone e) } }

/-! ## Use of the caches by an instruction -/

/-- A load of a core uses its caches: a miss in L1 and L2 uses the L3. None: an L2 set has no eligible way (R111). -/
def State.useLoad (s : State) (c : Nat) (fetch : Bool) (line : Nat) : Option State :=
  let k := s.core c
  if !s.tileHas (s.tileOf c) line false then some s else
  (k.useLoad fetch line).map (fun k' =>
    let s := s.setCore c k'
    if k.tags2.has line then s else s.touchL3 (s.tileOf c) line)

/-- The loads of an instruction, in order; with an error the line that found no eligible way. -/
def State.useLoads (s : State) (c : Nat) (fetch : Bool) : List Nat → Except Nat State
  | [] => .ok s
  | l :: r => match s.useLoad c fetch l with
    | none => .error l
    | some s => s.useLoads c fetch r

/-! ## L3 allocation (R127, R131) -/

/-- The class under which a core's accesses allocate (R131). -/
def State.allocClass (s : State) (c : Nat) : Nat :=
  let k := s.core c
  let pl := fld k.sw 71 70
  if pl == 0 then 15 else if pl == 1 then 14 else tget s.cc.classes 0 k.tenant

/-- L3 way group `g` of tile `t` is fenced (R399). -/
def State.groupFenced (s : State) (t g : Nat) : Bool := (tget s.fc.srcs FSrc.init (832 + 4 * t + g)).fenced

/-- The effective mask of an allocation class: the written mask without the fenced ways; an empty one is every unfenced
way (R399). -/
def State.effectiveMask (s : State) (t cls : Nat) : BitVec 16 :=
  let open_ : BitVec 16 := BitVec.ofNat 16
    ((List.range 4).foldl (fun a g => if s.groupFenced t g then a else a + 15 * 2 ^ (4 * g)) 0)
  let m := tget s.cc.masks 0xFFFF (16 * t + cls) &&& open_
  if m == 0 then open_ else m

/-- A line is locked in an L2 of the tile. -/
def State.lockedIn (s : State) (t line : Nat) : Bool := s.cores.any (fun e => s.tileOf e.1 == t && e.2.locked line)

/-- The lines of a tile's L3 set. -/
def State.setL3Lines (s : State) (t line : Nat) : List (Nat × TileLine) :=
  (s.dy.tiles.filter (fun e => e.1 / 2 ^ 36 == t && e.1 % 65536 == line % 65536)).map (fun e => (e.1 % 2 ^ 36, e.2))

def TileState.stable : TileState → Bool
  | .s => true
  | .e => true
  | .m => true
  | _ => false

/-- A fill is in flight. -/
def TileState.filling : TileState → Bool
  | .isS => true
  | .imS => true
  | _ => false

/-- The least recently used of some lines. -/
def oldestLine (l : List (Nat × TileLine)) : Option (Nat × TileLine) :=
  l.foldl (fun b e => match b with
    | none => some e
    | some x => if e.2.age < x.2.age then some e else some x) none

/-- The way a fill under a class takes, and its victim: a free way of the class's mask, else the least recently used line
in the mask, those not locked in any L2 first (Table 4.6, R131). None: no way can be taken now. -/
def State.wayL3 (s : State) (t cls line : Nat) : Option (Nat × Option Nat) :=
  let mask := s.effectiveMask t cls
  let here := s.setL3Lines t line
  match (List.range 16).find? (fun w => mask.getLsbD w && !here.any (fun e => e.2.way == w)) with
  | some w => some (w, none)
  | none =>
    let may := here.filter (fun e => e.2.st.stable && mask.getLsbD e.2.way)
    let free := may.filter (fun e => !s.lockedIn t e.1)
    (oldestLine (if free.isEmpty then may else free)).map (fun e => (e.2.way, some e.1))

/-- Requests of a tile that are open: fills and upgrades (R127, R159). -/
def State.openRequests (s : State) (t : Nat) : Nat :=
  (s.dy.tiles.filter (fun e => e.1 / 2 ^ 36 == t && (e.2.st.filling || e.2.st == .smS))).length

/-- A tile may issue a fill of a line now: fewer than 64 are open, and none in its set (R127). -/
def State.mayFill (s : State) (t line : Nat) : Bool :=
  s.openRequests t < 64 && !(s.setL3Lines t line).any (fun e => e.2.st.filling)

end Sys2Proof.Machine
end

