-- ==== Sys2Proof/Machine/Router.lean ====
section
/-! DEFINITION. The interrupt router (chapter 12). -/

namespace Sys2Proof.Machine

/-- The key of an owner's source page. -/
def ownerKey : Owner → Nat
  | .tenant t => t
  | .host => 512
  | .sealed => 513

def State.page (s : State) (o : Nat) : SrcPage := tget s.ir.pages SrcPage.init o

def State.setPage (s : State) (o : Nat) (p : SrcPage) : State :=
  { s with ir := { s.ir with pages := tput s.ir.pages SrcPage.init o p } }

def State.src (s : State) (o n : Nat) : Src := tget (s.page o).srcs Src.init n

def State.setSrc (s : State) (o n : Nat) (v : Src) : State :=
  s.setPage o { s.page o with srcs := tput (s.page o).srcs Src.init n v }

/-- A valid target: a configured core that is not LOST, or service core 0 in the sealed page (R383). -/
def State.validTarget (s : State) (o c : Nat) : Bool :=
  (c < 100 && s.bound c) || (o == 513 && c == 126 && !s.tn.absent)

/-- The effective target of a source (R383). -/
def State.target (s : State) (o : Nat) (v : Src) : Option Nat :=
  if s.validTarget o v.tgt then some v.tgt
  else if s.validTarget o (s.page o).dflt then some (s.page o).dflt
  else none

/-- RUNPRI of an owner's band at a core (R380). -/
def State.runpri (s : State) (o c : Nat) : Nat :=
  (s.page o).srcs.foldl (fun m e =>
    if (e.2.st == .active || e.2.st == .activePending) && e.2.acore == c then max m e.2.apri else m) 0

/-- THRESH of the band of an owner at a core. -/
def Core.thresh (k : Core) (o : Nat) : Nat := if o == 513 then k.thresh0 else if o == 512 then k.thresh1 else k.thresh2

/-- A source qualifies at a core (R380); RUNPRI of band 2 is that of the tenant in SV_CORE_CTX. -/
def State.qualifies (s : State) (o : Nat) (v : Src) (c : Nat) : Bool :=
  let run := if o < 512 then (if (s.core c).ctxValid then s.runpri (s.core c).tenant c else 0) else s.runpri o c
  v.st == .pending && v.enable && v.prio != 0 && !v.away && s.target o v == some c &&
    decide (max ((s.core c).thresh o) run < v.prio)

/-- The qualifying source with the highest priority, lowest local number first (R382). -/
def State.best (s : State) (o c : Nat) : Option (Nat × Src) :=
  (s.page o).srcs.foldl (fun b e =>
    if s.qualifies o e.2 c then
      match b with
      | none => some e
      | some x => if x.2.prio < e.2.prio then some e else b
    else b) none

/-- A doorbell on a source's state (Table 12.1, R378). -/
def Src.ring (v : Src) : Src :=
  if v.prio == 0 then { v with defer := true }
  else match v.st with
    | .inactive => { v with st := .pending }
    | .active => { v with st := .activePending }
    | _ => v

/-- A write of PENDING (Table 12.1). -/
def Src.writePending (v : Src) (p : Bool) : Src :=
  match p, v.st with
  | true, .inactive => { v with st := .pending }
  | true, .active => { v with st := .activePending }
  | false, .pending => { v with st := .inactive }
  | false, .activePending => { v with st := .active }
  | _, _ => v

/-- A completion (Table 12.1). -/
def Src.complete (v : Src) : Src :=
  match v.st with
  | .active => { v with st := .inactive }
  | .activePending => { v with st := .pending }
  | _ => v

/-- Ring a source without the GWAIT rule. -/
def State.ringRaw (s : State) (o n : Nat) : State :=
  if n < (s.page o).slice then s.setSrc o n (s.src o n).ring else s

/-- GWAIT (R384): a band-2 source qualifies at a core that does not run for its tenant. -/
def State.gwaitRule (s : State) (o n : Nat) : State :=
  let v := s.src o n
  if o < 512 then
    match s.target o v with
    | some c =>
      let k := s.core c
      if s.qualifies o v c && !(k.ctxValid && k.tenant == o) && !k.gwait then
        let t := s.setCore c { k with gwait := true }
        if k.gwen then t.ringRaw 512 k.gwsrc else t
      else s
    | none => s
  else s

/-- GWAIT for every source: a core's context or threshold, or a source's completion, lets others qualify.
Assumption 55 (DEDUCED). -/
def State.gwaitAll (s : State) : State :=
  s.ir.pages.foldl (fun s p => if p.1 < 512 then p.2.srcs.foldl (fun s e => s.gwaitRule p.1 e.1) s else s) s

/-- A tenant's page is reached by levels 2 and 3 only for the tenant of the core's context (R372).
Assumption 47 (DESIGN CHOICE). -/
def State.reach (s : State) (a : Accessor) (t : Nat) : Bool :=
  match a.role with
  | .g | .u => (s.core a.core).ctxValid && (s.core a.core).tenant == t
  | _ => true

/-- A doorbell from a block or from software (R376, R387): a source that the sealed world holds reaches its band. -/
def State.doorbell (s : State) (o n : Nat) : State :=
  if n < (s.page o).slice then
    if (s.src o n).away then s.ringRaw 513 (Config.sealedLocal (o * 1024 + n) % 256)
    else (s.ringRaw o n).gwaitRule o n
  else s

/-- The Host fault source rings (Table 13.2, OD 1600h.03). -/
def State.ringHost (s : State) : State :=
  if s.fc.hostSource == 0xFFFF then s else s.doorbell 512 s.fc.hostSource

/-- Rights in a source page (R390, Table 12.6): `z h g u` are the columns of the tenant page. -/
def pageRight (o : Nat) (r : Role) (z h g u : Bool) : Bool :=
  if o == 513 then r == .z && z
  else if o == 512 then (match r with | .z => z | .h => h || g | _ => false)
  else match r with | .z => z | .h => h | .g => g | .u => u | .f => false

/-- The writer's REJECT bit of IRT_STATUS (R476). -/
def State.irtReject (s : State) (o : Nat) (r : Role) : State :=
  match r with
  | .h => s.setPage o { s.page o with rejectH := true }
  | .g => s.setPage o { s.page o with rejectG := true }
  | _ => s

/-- The own-core window is reached only from the page owner's band level (R390). -/
def State.ownWindow (s : State) (a : Accessor) (o : Nat) : Bool :=
  if o == 513 then a.role == .z
  else if o == 512 then a.role == .h
  else a.role == .g && (s.core a.core).ctxValid && (s.core a.core).tenant == o

/-- IRT_CLAIM (R382). -/
def State.irtClaim (s : State) (a : Accessor) (o : Nat) : Word × State :=
  if !s.ownWindow a o then (0, s) else
  match s.best o a.core with
  | none => (8191, s)
  | some (n, v) => (BitVec.ofNat 36 n, s.setSrc o n { v with st := .active, acore := a.core, apri := v.prio })

/-- IRT_COMPLETE (R382). -/
def State.irtComplete (s : State) (a : Accessor) (o : Nat) (w : Word) : State :=
  if !s.ownWindow a o then s else
  let n := fld w 9 0
  let v := s.src o n
  if n < (s.page o).slice && (v.st == .active || v.st == .activePending) && v.acore == a.core then
    (s.setSrc o n v.complete).gwaitAll
  else s.irtReject o a.role

/-- IRT_SEND (Table 12.6). -/
def State.irtSend (s : State) (a : Accessor) (o : Nat) (w : Word) : State :=
  if !pageRight o a.role true true true false then s
  else if (s.page o).slice ≤ fld w 9 0 then s.irtReject o a.role
  else if (s.src o (fld w 9 0)).away then s
  else s.doorbell o (fld w 9 0)

/-- A source of the page that its registers reach: in the slice and not held by the sealed world (R387, R390). -/
def State.srcHere (s : State) (o n : Nat) : Bool := n < (s.page o).slice && !(s.src o n).away

/-- IRT_SRC (R385). -/
def State.irtSrc (s : State) (a : Accessor) (o n : Nat) (w : Word) : State :=
  if s.srcHere o n && pageRight o a.role true true true false then
    (s.setSrc o n { (s.src o n).writePending (bit w 35) with enable := bit w 34 }).gwaitRule o n
  else s

/-- IRT_PRIO (R378). -/
def State.irtPrio (s : State) (a : Accessor) (o n : Nat) (w : Word) : State :=
  if s.srcHere o n && pageRight o a.role true true true false then
    let v := { s.src o n with prio := fld w 5 0 }
    let v := if v.prio != 0 && v.defer then Src.ring { v with defer := false } else v
    (s.setSrc o n v).gwaitRule o n
  else s

/-- A value IRT_TGT and IRT_DEFAULT accept (R383). -/
def tgtOk (o v : Nat) : Bool := v < 100 || v == 127 || (o == 513 && v == 126)

/-- IRT_TGT, or IRT_DEFAULT when no source is named (R383). -/
def State.irtTgt (s : State) (a : Accessor) (o : Nat) (n : Option Nat) (w : Word) : State :=
  if !pageRight o a.role true true false false then s else
  let v := fld w 6 0
  match n with
  | none =>
    if tgtOk o v then
      let t := s.setPage o { s.page o with dflt := v }
      (t.page o).srcs.foldl (fun t e => t.gwaitRule o e.1) t
    else s.irtReject o a.role
  | some n =>
    if !s.srcHere o n then s
    else if tgtOk o v then (s.setSrc o n { s.src o n with tgt := v }).gwaitRule o n
    else s.irtReject o a.role

/-- A write in a source page. -/
def State.irtWrite (s : State) (a : Accessor) (o off : Nat) (w : Word) : State :=
  let p := s.page o
  if off == 1 then s.irtComplete a o w
  else if off == 2 then
    if s.ownWindow a o then
      (s.modCore a.core (fun k =>
        if o == 513 then { k with thresh0 := fld w 5 0 }
        else if o == 512 then { k with thresh1 := fld w 5 0 } else { k with thresh2 := fld w 5 0 })).gwaitAll
    else s
  else if off == 0o10 then s.irtSend a o w
  else if off == 0o11 then s.irtTgt a o none w
  else if off == 0o13 then
    let hClr := bit w 1 && pageRight o a.role false true false false
    let gClr := bit w 0 && pageRight o a.role false false true false
    s.setPage o { p with rejectH := p.rejectH && !hClr, rejectG := p.rejectG && !gClr }
  else if 0o2000 ≤ off && off < 0o4000 then s.irtSrc a o (off - 0o2000) w
  else if 0o4000 ≤ off && off < 0o6000 then s.irtPrio a o (off - 0o4000) w
  else if 0o6000 ≤ off && off < 0o10000 then s.irtTgt a o (some (off - 0o6000)) w
  else s

def srcCode : SrcSt → Nat
  | .inactive => 0
  | .pending => 1
  | .active => 2
  | .activePending => 3

/-- A read in a source page; a read of IRT_CLAIM claims. Assumption 55 (DEDUCED). -/
def State.irtRead (s : State) (a : Accessor) (o off : Nat) : Word × State :=
  let p := s.page o
  let k := s.core a.core
  let may (z h g u : Bool) := pageRight o a.role z h g u
  if off == 0 then s.irtClaim a o
  else if off == 2 then (if s.ownWindow a o then packW [(k.thresh o, 0)] else 0, s)
  else if off == 3 then (if s.ownWindow a o then packW [(s.runpri o a.core, 0)] else 0, s)
  else if off == 0o11 then (if may true true false false then packW [(p.dflt, 0)] else 0, s)
  else if off == 0o12 then (if may true true true false then packW [(p.slice, 0)] else 0, s)
  else if off == 0o13 then
    (packW [(b2n (p.rejectH && may true true false false), 1), (b2n (p.rejectG && may true true true false), 0)], s)
  else if 0o2000 ≤ off && off < 0o4000 then
    let n := off - 0o2000
    let v := s.src o n
    if s.srcHere o n && may true true true false then
      (packW [(srcCode v.st % 2, 35), (b2n v.enable, 34), (srcCode v.st, 32), (b2n v.defer, 31),
        (if may true true false false then v.acore else 0, 16), (v.apri, 0)], s)
    else (0, s)
  else if 0o4000 ≤ off && off < 0o6000 then
    (if s.srcHere o (off - 0o4000) && may true true true false then packW [((s.src o (off - 0o4000)).prio, 0)] else 0, s)
  else if 0o6000 ≤ off && off < 0o10000 then
    (if s.srcHere o (off - 0o6000) && may true true false false then packW [((s.src o (off - 0o6000)).tgt, 0)] else 0, s)
  else (0, s)

/-- The router's module page (Table 12.7). -/
def State.irtModWrite (s : State) (a : Accessor) (off : Nat) (w : Word) : State :=
  if off == 0 then
    { s with ir := { s.ir with mRejectH := s.ir.mRejectH && !(a.role == .h && bit w 1),
                               mRejectZ := s.ir.mRejectZ && !(a.role == .z && bit w 0) } }
  else if 0o400 ≤ off && off < 0o544 && a.role == .h then
    let c := off - 0o400
    let k := s.core c
    if bit w 35 && (s.page 512).slice ≤ fld w 33 24 then { s with ir := { s.ir with mRejectH := true } }
    else
      let t := s.setCore c { k with gwen := bit w 35, gwait := k.gwait && !bit w 34, gwsrc := fld w 33 24, thresh2 := fld w 5 0 }
      if fld w 5 0 < k.thresh2 then t.gwaitAll else t
  else s

def State.irtModRead (s : State) (a : Accessor) (off : Nat) : Word :=
  if !(a.role == .z || a.role == .h) then 0
  else if off == 0 then packW [(b2n s.ir.mRejectH, 1), (b2n (s.ir.mRejectZ && a.role == .z), 0)]
  else if 0o400 ≤ off && off < 0o544 then
    let c := off - 0o400
    let k := s.core c
    packW [(b2n k.gwen, 35), (b2n k.gwait, 34), (k.gwsrc, 24), (if k.ctxValid then s.runpri k.tenant c else 0, 12), (k.thresh2, 0)]
  else 0

/-- Reset of a tenant's interrupt slice (R387). -/
def State.irtTenantReset (s : State) (t : Nat) : State :=
  s.setPage t { s.page t with srcs := ((s.page t).srcs.map (fun e =>
    (e.1, { e.2 with st := (match e.2.st with | .active => .inactive | .activePending => .pending | x => x),
                     enable := false, prio := 0 }))).filter (fun e => e.2 != Src.init) }

/-- The four meanings' doorbell row: any owner (R378). -/
def execDoorbell (owner : Owner) (source : Nat) (s : State) : Host.Outcome State Fault Refusal :=
  s.runIf (wfOwner owner) (s.doorbell (ownerKey owner) source)

def execIrtSend (acc : Accessor) (page : Owner) (value : Word) (s : State) : Host.Outcome State Fault Refusal :=
  s.runIf (wfAccessor acc && wfOwner page) (if s.reach acc (ownerKey page) then s.irtSend acc (ownerKey page) value else s)

/-- The claimed number is the register's answer. -/
def execIrtClaim (acc : Accessor) (page : Owner) (s : State) : Host.Outcome State Fault Refusal :=
  s.runIf (wfAccessor acc && wfOwner page)
    (let r := s.irtClaim acc (ownerKey page)
     { r.2 with sv := { r.2.sv with regAnswer := r.1 } })

def execIrtComplete (acc : Accessor) (page : Owner) (value : Word) (s : State) : Host.Outcome State Fault Refusal :=
  s.runIf (wfAccessor acc && wfOwner page) (if s.reach acc (ownerKey page) then s.irtComplete acc (ownerKey page) value else s)

def execIrtSrc (acc : Accessor) (page : Owner) (source : Nat) (value : Word) (s : State) :
    Host.Outcome State Fault Refusal :=
  s.runIf (wfAccessor acc && wfOwner page) (if s.reach acc (ownerKey page) then s.irtSrc acc (ownerKey page) source value else s)

def execIrtPrio (acc : Accessor) (page : Owner) (source : Nat) (value : Word) (s : State) :
    Host.Outcome State Fault Refusal :=
  s.runIf (wfAccessor acc && wfOwner page) (if s.reach acc (ownerKey page) then s.irtPrio acc (ownerKey page) source value else s)

def execIrtTgt (acc : Accessor) (page : Owner) (source : Option Nat) (value : Word) (s : State) :
    Host.Outcome State Fault Refusal :=
  s.runIf (wfAccessor acc && wfOwner page) (if s.reach acc (ownerKey page) then s.irtTgt acc (ownerKey page) source value else s)

end Sys2Proof.Machine
end

