-- ==== Sys2Proof/Machine/Rails.lean ====
section
/-! DEFINITION. Reports on the rails of the fault sources (R392), the log's entries (R405), the answer to a core's
hand-off (R198), and items mirrored to the twin (R227, R266). -/

namespace Sys2Proof.Machine

def State.fsrc (s : State) (n : Nat) : FSrc := tget s.fc.srcs FSrc.init n

def State.setFsrc (s : State) (n : Nat) (v : FSrc) : State :=
  { s with fc := { s.fc with srcs := tput s.fc.srcs FSrc.init n v } }

/-- A source raises a report: 1 corrected, 2 contained, 3 fatal; a held report takes the higher class and the next log
entry carries MERGED (R392). Assumption 42 (DEDUCED). -/
def State.report (s : State) (source cls : Nat) : State :=
  let v := s.fsrc source
  s.setFsrc source { v with held := max v.held cls, merged := v.merged || v.held != 0 }

/-- Add an entry to the fault log, which keeps the newest 4,096 (R405). -/
def State.logEntry (s : State) (e : LogEntry) : State :=
  { s with fc := { s.fc with log := (e :: s.fc.log).take 4096, head := (s.fc.head + 1) % 2 ^ 32 } }

/-- An event without a transition is logged with CLASS 00b (R38, R405). -/
def State.logEvent (s : State) (source : Nat) : State :=
  s.logEntry { time := s.tm.tod, forced := false, rail := false, merged := false, squall := false, fenced := false,
               cls := 0, source := source, count := 0, detail := 0 }

/-- The twin is in service (R413). -/
def State.twinServes (s : State) : Bool := s.tw.st == .inService

/-- Send a message on the Twin link under the pair's link key; the newest 256 are kept for a replay, and what is sent while
the link is not ACTIVE goes out when it has retrained (R407). Assumption 60 (DEDUCED). -/
def State.emitTwin (s : State) (m : TwinMsg) : State :=
  let f : TwinFrame := { seq := s.tw.seq, epoch := s.tw.keyEpoch, count := s.tw.sent, msg := m }
  let l := s.tw.replayBuf ++ [f]
  let s := { s with tw := { s.tw with seq := (s.tw.seq + 1) % 1024, sent := (s.tw.sent + 1) % 2 ^ 64,
                                      replayBuf := l.drop (l.length - 256) } }
  if s.tw.linkSt == .active then { s with out := s.out ++ [.twin f] } else s

/-- What a tenant does is mirrored: the twin is in service, and the tenant is not in conflict (R413, R420). -/
def State.twinCovers (s : State) (t : Nat) : Bool := s.twinServes && !s.tw.conflicts.contains t

/-- Mirror an item of a tenant when the twin covers it; its number awaits receipt. -/
def State.mirrorOut (s : State) (t : Nat) (m : MirrorItem) : Option Nat × State :=
  if s.twinCovers t then
    (some s.tw.nextItem,
     ({ s with tw := { s.tw with nextItem := s.tw.nextItem + 1,
                                 unacked := s.tw.unacked ++ [s.tw.nextItem] } }).emitTwin (.item s.tw.nextItem m))
  else (none, s)

/-- A block that can change worlds works for the open world: OPEN and not gated (R365, R366). -/
def State.blockOpen (s : State) (b : Nat) : Bool :=
  (tget s.tn.blocks Block.init b).st == .opened && !(tget s.tn.blocks Block.init b).gated

def State.setBlock (s : State) (b : Nat) (v : Block) : State :=
  { s with tn := { s.tn with blocks := tput s.tn.blocks Block.init b v } }

/-- The result of a hand-over: SV_HO_RESULT and the level-0 notice (Table 11.15 step 5). -/
def State.handOverResult (s : State) (status : Nat) (notice : Bool) : State :=
  { s with tn := { s.tn with hoBusy := false, hoValid := true, hoStatus := status,
                             notices := if notice then s.tn.notices ++ [s.tn.hoTarget] else s.tn.notices } }

/-- A fence makes a block FENCED in any state; a claim or release in progress ends BLOCK-REVOKED (R365). -/
def State.fenceBlock (s : State) (b : Nat) : State :=
  let moving := s.tn.hoBusy && s.tn.hoOp != 3 && s.tn.hoTarget == b
  let s := s.setBlock b { tget s.tn.blocks Block.init b with st := .fenced }
  if moving then s.handOverResult 4 true else s

/-- Add a store to a core's buffer as an entry of its own (R112). -/
def Core.pushStore (k : Core) (e : SbEntry) : Core := { k with sb := k.sb ++ [e] }

/-- Write a hand-off's status word to its destination, apply the register updates and complete the instruction. -/
def Core.answer (k : Core) (h : HandOff) (w : Word) : Core :=
  let put (kind : SbKind) (addr : Nat) (off : Nat) : SbEntry :=
    { kind := kind, addr := addr, wide := false, level := h.level, vaddr := h.vaddr,
      words := [{ off := off, val := w, mask := BitVec.allOnes 36, seq := k.seq }] }
  let k := { k with x := h.regs.foldl (fun (x : Vector DWord 16) (r : Nat × DWord) => x.setIfInBounds r.1 r.2) k.x }
  let k := match h.dest with
    | .reg n => { k with x := k.x.setIfInBounds n (w.setWidth 72) }
    | .mem ra => k.pushStore (put .cached (lineOf ra) (ra % 16))
    | .ctl a => k.pushStore (put .control a 0)
    | .io a => k.pushStore (put .io a 0)
    | .drop => k
  ({ k with ic := h.nextIC, run := .running } : Core).boundary

/-- Answer the hand-off a core waits for; in a takeover the response is kept for its core and tag (R198). -/
def State.answerCore (s : State) (c : Nat) (w : Word) : State :=
  match (s.core c).run with
  | .handOff h =>
    if s.inTakeover c then { s with sp := { s.sp with responses := s.sp.responses ++ [(c, h.tag, w)] } }
    else s.setCore c ((s.core c).answer h w)
  | _ => s

/-- The response kept for a core and its tag completes the instruction that waits for it. -/
def State.answerKept (s : State) (c : Nat) : State :=
  match (s.core c).run with
  | .handOff h =>
    (match s.sp.responses.find? (fun r => r.1 == c && r.2.1 == h.tag) with
     | some r =>
       let s := { s with sp := { s.sp with responses := s.sp.responses.filter (fun q => q.1 != c) } }
       s.setCore c ((s.core c).answer h r.2.2)
     | none => s)
  | _ => s

end Sys2Proof.Machine
end

