-- ==== Sys2Proof/Machine/Jetstream.lean ====
section
/-! DEFINITION. Coherence messages and the flits that carry them over Jetstream links: layout, virtual channels, credits,
sequence numbers, the replay buffer, and traffic through a relay (R149, R150, R167-R171, R175, R176). -/

namespace Sys2Proof.Machine

/-! ## Places -/

/-- The home of a line (R143). -/
def lineHome (line : Nat) : Nat := nfld line 35 32

/-- The link of module `m` to module `p` (R167). -/
def linkTo (m p : Nat) : Nat := (p + 16 - m - 1) % 16

def State.link (s : State) (k : Nat) : Link := tget s.dy.links Link.init k

def State.setLink (s : State) (k : Nat) (l : Link) : State :=
  { s with dy := { s.dy with links := tput s.dy.links Link.init k l } }

/-- The peer of a link (R167). -/
def State.linkPeer (s : State) (k : Nat) : Nat := (s.dy.modnum + k + 1) % 16

/-- An agent is a tile. -/
def isTile (a : Nat) : Bool := a % 64 < 4

/-- The name under which a home is addressed. Assumption 15 (PRESUMED). -/
def homeAgent (m : Nat) : Nat := 64 * m + 63

/-! ## Messages (Tables 5.5, 5.6) -/

/-- The virtual channel of a message type: 0 REQ, 1 WR, 2 SNP, 3 RSP, 4 DAT (Table 5.5). -/
def msgChannel (type : Nat) : Nat :=
  if type ≤ 4 then 0 else if type ≤ 7 then 1 else if type ≤ 15 then 2 else if type ≤ 18 then 3 else 4

/-- DATA: 00b none, 01b a data flit, 10b a data flit and then a mask flit. -/
def Msg.dataCode (m : Msg) : Nat := if m.words.isEmpty then 0 else if m.mask.isEmpty then 1 else 2

/-- Flits of a message: its header's flit and its data flits, which credits count (R170). -/
def Msg.flits (m : Msg) : Nat := 1 + m.dataCode

/-- The 96-bit header (Table 5.6). -/
def Msg.header (m : Msg) : BitVec 96 :=
  BitVec.ofNat 96 (m.type % 32 * 2 ^ 91 + m.src % 1024 * 2 ^ 81 + m.dst % 1024 * 2 ^ 71 + m.tag % 4096 * 2 ^ 59 +
    m.line % 2 ^ 36 * 2 ^ 23 + m.orig % 1024 * 2 ^ 13 + m.dataCode * 2 ^ 11 + m.aux % 2048)

/-! ## Flits (Table 5.10) -/

/-- FTYPE: 00b message, 01b data or mask, 10b control. -/
def FlitBody.ftype : FlitBody → Nat
  | .messages _ => 0
  | .data _ => 1
  | .mask _ => 1
  | .control _ _ => 2

/-- A line as 72 octets in the octet view (R9). -/
def lineOctets (ws : List Word) : List Octet := (List.range 72).map (octetOf (wordAt ws))

/-- Octets 4 to 75: six header slots of 12 octets, a line, a mask, or a control code with its octets. -/
def FlitBody.payload : FlitBody → List Octet
  | .messages ms => ((ms.flatMap (fun (m : Msg) => natOct 12 m.header.toNat)) ++ List.replicate 72 0).take 72
  | .data ws => lineOctets ws
  | .mask ws => lineOctets ws
  | .control code args => ((BitVec.ofNat 8 code :: args) ++ List.replicate 72 0).take 72

/-- Octets 0 to 75. -/
def Flit.body76 (f : Flit) : List Octet :=
  natOct 4 (f.seq % 1024 * 2 ^ 22 + f.ackSeq % 1024 * 2 ^ 12 + f.body.ftype * 2 ^ 10 + f.cvc % 16 * 2 ^ 6 + f.ccnt % 32 * 2) ++
    f.body.payload

/-- The 80 octets of a flit, with its CRC-32C. -/
def Flit.octets (f : Flit) : List Octet := f.body76 ++ natOct 4 (crc32c f.body76).toNat

/-- The flits of a message: one message to a flit, its data and mask flits after it (R169). -/
def Msg.bodies (m : Msg) : List FlitBody :=
  .messages [m] :: (if m.words.isEmpty then [] else .data m.words :: (if m.mask.isEmpty then [] else [.mask m.mask]))

/-! ## Credits, sequence numbers and the replay buffer (R170, R171) -/

/-- The credits to return with the next flit: the lowest pool that owes any, at most 31 flits of it (Table 5.10). -/
def Link.returns (l : Link) : Nat × Nat :=
  match (List.range 10).find? (fun v => 0 < l.owed.getD v 0) with
  | some v => (v, min 31 (l.owed.getD v 0))
  | none => (0, 0)

/-- The code of a pool in CVC: bit 3 set for the forwarding pools. -/
def cvcCode (v : Nat) : Nat := if v < 5 then v else v + 3

/-- The pool of a CVC code. -/
def cvcPool (c : Nat) : Nat := if c < 8 then c else c - 3

def addAt (l : List Nat) (i n : Nat) : List Nat := l.set i (l.getD i 0 + n)
def subAt (l : List Nat) (i n : Nat) : List Nat := l.set i (l.getD i 0 - n)

/-- Send one flit on a link. A control flit carries the next SEQ without consuming it and is not kept (R169). -/
def State.sendFlit (s : State) (k : Nat) (b : FlitBody) : State :=
  let l := s.link k
  let (v, n) := l.returns
  let f : Flit := { seq := l.seq, ackSeq := l.rxSeq, cvc := cvcCode v, ccnt := n, body := b }
  let l := { l with owed := subAt l.owed v n }
  let l := if b.ftype == 2 then l else { l with seq := (l.seq + 1) % 1024, replayBuf := l.replayBuf ++ [f] }
  (s.setLink k l).emit (.flit k f)

/-- A message can be sent on a link by a pool: it has the credits, and the replay buffer of 512 flits has room. -/
def Link.takes (l : Link) (pool : Nat) (m : Msg) : Bool :=
  l.st == .active && m.flits ≤ l.credits.getD pool 0 && l.replayBuf.length + m.flits ≤ 512

/-- Send a message on a link, using a pool's credits. -/
def State.sendOn (s : State) (k pool : Nat) (m : Msg) : State :=
  let s := m.bodies.foldl (fun s b => s.sendFlit k b) s
  s.setLink k { s.link k with credits := subAt (s.link k).credits pool m.flits }

/-- The first message of a queue that no earlier message of its virtual channel precedes and that a test lets go (R170). -/
def firstReady (ok : Msg → Bool) : List Nat → List Msg → Option Msg
  | _, [] => none
  | held, m :: r =>
    let v := msgChannel m.type
    if !held.contains v && ok m then some m else firstReady ok (v :: held) r

/-- The path of new messages for a link's peer: the link itself, or its relay's link once the replay buffer has been sent
again through it and while no drain marker has been sent (R175, R176). The pool is the virtual channel's own on the
direct path and its forwarding pool at a relay. Assumption 60 (DEDUCED). -/
def State.path (s : State) (k : Nat) : Option (Nat × Bool) :=
  let l := s.link k
  if l.st == .active then some (k, false)
  else if l.st == .detoured && l.resent && !l.drainSent then some (linkTo s.dy.modnum l.via, true)
  else none

def poolOf (relayed : Bool) (m : Msg) : Nat := msgChannel m.type + (if relayed then 5 else 0)

/-- Send what can go to a link's peer: this module's own messages, and those carried as the peer's relay, which take the
peer's own buffers. Each virtual channel keeps its order. -/
def State.transmitN : Nat → Nat → State → State
  | 0, _, s => s
  | n + 1, k, s =>
    let l := s.link k
    let own := match s.path k with
      | some (j, r) => (firstReady (fun m => (s.link j).takes (poolOf r m) m) [] l.queue).map (fun m => (m, j, poolOf r m))
      | none => none
    match own with
    | some (m, j, p) => State.transmitN n k ((s.setLink k { l with queue := l.queue.erase m }).sendOn j p m)
    | none =>
      match firstReady (fun m => l.takes (msgChannel m.type) m) [] l.forward with
      | some m => State.transmitN n k ((s.setLink k { l with forward := l.forward.erase m }).sendOn k (msgChannel m.type) m)
      | none => s

def State.transmit (s : State) (k : Nat) : State :=
  State.transmitN ((s.link k).queue.length + (s.link k).forward.length) k s

/-- Credits that no flit has carried back go with idle control flits, code 01h (R170). -/
def State.idleN : Nat → Nat → State → State
  | 0, _, s => s
  | n + 1, k, s =>
    if (s.link k).st == .active && (s.link k).owed.any (0 < ·) then State.idleN n k (s.sendFlit k (.control 1 [])) else s

/-- What a link sends once something has come in: messages for the peer, and for the peers that it relays to. -/
def State.serviceLink (s : State) (k : Nat) : State :=
  let s := (List.range 15).foldl (fun s j =>
    if j == k || ((s.link j).st == .detoured && linkTo s.dy.modnum (s.link j).via == k) then s.transmit j else s) s
  State.idleN 32 k s

/-- Flits that ACKSEQ covers leave the replay buffer (R171). -/
def Link.acked (l : Link) (ack : Nat) : Link :=
  match l.replayBuf.findIdx? (fun f => f.seq == ack) with
  | some i => { l with replayBuf := l.replayBuf.drop (i + 1), replayCount := 0 }
  | none => l

/-- A flit and the flits that follow it have come in order and intact on a link: ACKSEQ and returned credits are taken, and
the pool they filled is drained and owes its credits. `pool` 10 is a control flit. -/
def State.flitsIn (s : State) (f : FlitHead) (pool n : Nat) : State :=
  let l := (s.link f.link).acked f.ack
  s.setLink f.link { l with
    rxSeq := if pool == 10 then l.rxSeq else (l.rxSeq + n) % 1024,
    credits := addAt l.credits (cvcPool f.cvc) f.ccnt,
    owed := if pool == 10 then l.owed else addAt l.owed pool n }

/-! ## Sending a message -/

/-- Send a coherence message: to an agent of this module it is on its way within the module; to another module it waits in
its link's queue, in order, until it can go (R24, R170). -/
def State.sendMsg (s : State) (m : Msg) : State :=
  if m.dst / 64 == s.dy.modnum then { s with dy := { s.dy with inbox := s.dy.inbox ++ [m] } }
  else
    let k := linkTo s.dy.modnum (m.dst / 64)
    (s.setLink k { s.link k with queue := (s.link k).queue ++ [m] }).transmit k

/-- The next transaction tag (R150). -/
def State.newTag (s : State) : Nat × State :=
  (s.dy.nextTag, { s with dy := { s.dy with nextTag := (s.dy.nextTag + 1) % 4096 } })

/-- AUX of a data message (Table 5.6): grant in [7:5], dirty in bit 8. -/
def dataAux (grant : Nat) (dirty : Bool) : Nat := grant * 32 + b2n dirty * 256

end Sys2Proof.Machine
end

