-- ==== Sys2Proof/Machine/Directory.lean ====
section
/-! DEFINITION. The directory at the home, the tiles' lines, agents without caches, and the delivery of coherence messages
(R142-R166). -/

namespace Sys2Proof.Machine

/-! ## Entries -/

/-- Set index and tag of a line (R146). -/
def lineTag (line : Nat) : Nat := nfld line 31 18
def lineSet (line : Nat) : Nat := Nat.xor (nfld line 17 0) (lineTag line)

def DirEntry.none_ : DirEntry := { st := .shared, ioh := false, holders := [], way := 0, tx := none }

def State.dir (s : State) (line : Nat) : Option DirEntry := (s.dy.entries.find? (fun e => e.1 == line)).map (·.2)

def State.setDir (s : State) (line : Nat) (e : DirEntry) : State :=
  { s with dy := { s.dy with entries := tins (tdel s.dy.entries line) line e } }

def State.dropDir (s : State) (line : Nat) : State :=
  { s with dy := { s.dy with entries := tdel s.dy.entries line } }

/-- Lines of a set that have entries. -/
def State.setLines (s : State) (set : Nat) : List (Nat × DirEntry) := s.dy.entries.filter (fun e => lineSet e.1 == set)

/-- Mark a line the most recently used of its set. -/
def State.touch (s : State) (line : Nat) : State :=
  let k := lineSet line
  let l := tget s.dy.lru [] k
  { s with dy := { s.dy with lru := tput s.dy.lru [] k (l.filter (· != line) ++ [line]) } }

/-- A pinned entry (R148). -/
def DirEntry.pinned (e : DirEntry) : Bool := e.st == .busy || e.st == .recall

/-- What allocation finds (R159). -/
inductive Alloc where
  | way (w : Nat)
  | victim (line : Nat)
  | nak
deriving DecidableEq, Repr

/-- The oldest waiter of a set is this request's source. -/
def State.oldestWaiter (s : State) (src line : Nat) : Bool :=
  match s.dy.refused.find? (fun w => lineSet w.line == lineSet line) with
  | some w => w.src == src && w.line == line
  | none => false

def State.allocateWay (s : State) (src line : Nat) : Alloc :=
  let l := s.setLines (lineSet line)
  let used := l.map (·.2.way)
  match (List.range 15).find? (fun w => !used.contains w) with
  | some w => .way w
  | none =>
    let order := (tget s.dy.lru [] (lineSet line)).filterMap (fun x => l.find? (fun e => e.1 == x))
    let order := order ++ l.filter (fun e => !(order.any (fun x => x.1 == e.1)))
    match order.find? (fun e => e.2.way < 15 && !e.2.pinned) with
    | some e => .victim e.1
    | none =>
      if s.oldestWaiter src line then
        if !used.contains 15 then .way 15
        else match l.find? (fun e => e.2.way == 15 && !e.2.pinned) with
          | some e => .victim e.1
          | none => .nak
      else .nak

/-! ## Messages of the home and of the tiles -/

/-- The home sends a message of the transaction of a request. -/
def State.homeSays (s : State) (w : DirWait) (dst type aux : Nat) (words : List Word) (poisoned : Bool) : State :=
  s.sendMsg { type := type, src := homeAgent s.dy.modnum, dst := dst, tag := w.tag, line := w.line, orig := w.src,
              aux := aux, words := words, mask := [], poisoned := poisoned }

def State.tileAgent (s : State) (t : Nat) : Nat := 64 * s.dy.modnum + t

/-- An agent of this module sends a message to a line's home. -/
def State.sayHome (s : State) (a line type tag orig aux : Nat) (words mask : List Word) (poisoned : Bool) : State :=
  s.sendMsg { type := type, src := a, dst := homeAgent (lineHome line), tag := tag, line := line, orig := orig, aux := aux,
              words := words, mask := mask, poisoned := poisoned }

/-- An agent of this module starts a transaction: its request has a new tag. -/
def State.ask (s : State) (a line type : Nat) (words mask : List Word) : Nat × State :=
  let (tag, s) := s.newTag
  (tag, s.sayHome a line type tag 0 0 words mask false)

/-! ## Serving requests (R155-R157) -/

/-- The grant code for sole possession: E for a tile, I/O hold for an agent without a cache. -/
def soleGrant (src : Nat) : Nat := if isTile src then 1 else 3

/-- Data from memory to a requester (Table 5.8). -/
def State.dataTo (s : State) (w : DirWait) (grant : Nat) : State :=
  s.homeSays w w.src 19 (dataAux grant false) (s.rdLine w.line) (s.poisoned w.line)

/-- Snoops of an open transaction. -/
def State.snoopAll (s : State) (w : DirWait) (type : Nat) (l : List Nat) : State :=
  l.foldl (fun s a => s.homeSays w a type 0 [] false) s

/-- Open a transaction: the entry becomes BUSY or RECALL, its snoops go out, its answers are awaited. -/
def State.openTx (s : State) (w : DirWait) (e : DirEntry) (st : DirState) (type : Nat) (snoops awaits wbWait : List Nat) : State :=
  let tx : DirTx := { req := w.req, src := w.src, tag := w.tag, prior := e.st, awaits := awaits, wbWait := wbWait, got := none }
  (s.setDir w.line { e with st := st, tx := some tx }).snoopAll w type snoops

/-- The requester becomes the only holder. -/
def State.own (s : State) (src line : Nat) (way : Nat) : State :=
  s.setDir line { st := .owned, ioh := !isTile src, holders := [src], way := way, tx := none }

/-- A request waits behind those that came before it. -/
def State.enqueue (s : State) (w : DirWait) : State := { s with dy := { s.dy with waiting := s.dy.waiting ++ [w] } }

/-- A request that has been taken up goes on waiting before those that came after it (R155). -/
def State.requeue (s : State) (w : DirWait) : State := { s with dy := { s.dy with waiting := w :: s.dy.waiting } }

/-- A request that is served leaves the waiter queue (R159). -/
def State.unrefuse (s : State) (src line : Nat) : State :=
  { s with dy := { s.dy with refused := s.dy.refused.filter (fun w => !(w.src == src && w.line == line)) } }

/-- Recall an entry's holders (R160): invalidates to sharers, snoop-own to an owner or holding agent, whose write-back is
its answer. -/
def State.recall (s : State) (line : Nat) (e : DirEntry) : State :=
  let w : DirWait := { req := .recall, src := 0, tag := 0, line := line, behind := none }
  let s := { s with dy := { s.dy with recalls := sat36 (s.dy.recalls + 1) } }
  if e.ioh then s.openTx w e .recall 10 e.holders [] e.holders
  else s.openTx w e .recall (if e.st == DirState.owned then 10 else 8) e.holders e.holders []

/-- A new entry for a request that needs one (R159, R160). A poisoned line is not installed anywhere, so it takes no entry
(R178; assumption 57, DEDUCED). -/
def State.newEntry (s : State) (w : DirWait) : State :=
  if s.poisoned w.line then (s.dataTo w 4).unrefuse w.src w.line else
  match s.allocateWay w.src w.line with
  | .way n => (((s.own w.src w.line n).touch w.line).dataTo w (soleGrant w.src)).unrefuse w.src w.line
  | .victim v =>
    match s.dir v with
    | some e => (s.recall v e).requeue { w with behind := some v }
    | none => s.requeue w
  | .nak =>
    let s := if s.dy.refused.any (fun x => x.src == w.src && x.line == w.line) then s
      else { s with dy := { s.dy with refused := s.dy.refused ++ [w] } }
    { s with dy := { s.dy with naks := sat36 (s.dy.naks + 1) } }.homeSays w w.src 17 0 [] false

/-- Merge a masked write-back and acknowledge it (R164). -/
def State.mergeMasked (s : State) (w : DirWait) (ws mask : List Word) : State :=
  (s.wrLineMask w.line ws mask).homeSays w w.src 16 0 [] false

/-- The requester becomes the only holder, with data from memory. -/
def State.ownWithData (s : State) (w : DirWait) (way : Nat) : State :=
  if s.poisoned w.line then (s.dropDir w.line).dataTo w 4 else (s.own w.src w.line way).dataTo w (soleGrant w.src)

/-- Table 5.8, on a line without an open transaction. An owner that asks again is served from memory (assumption 16,
DEDUCED). -/
def State.serve (s : State) (w : DirWait) : State :=
  match s.dir w.line with
  | none =>
    match w.req with
    | .readNoAllocate => s.dataTo w 4
    | .masked ws m => s.mergeMasked w ws m
    | .recall => s
    | _ => s.newEntry w
  | some e =>
    let s := (s.touch w.line).unrefuse w.src w.line
    let others := e.holders.filter (· != w.src)
    if e.ioh then
      match w.req with
      | .readNoAllocate => s.openTx w e .busy 10 [] [] e.holders
      | .masked _ _ => s.openTx w e .busy 10 [] [] e.holders
      | .recall => s
      | _ => s.openTx w e .busy 10 e.holders [] e.holders
    else if e.st == .shared then
      match w.req with
      | .readShared =>
        if s.poisoned w.line then s.dataTo w 4 else (s.setDir w.line { e with holders := others ++ [w.src] }).dataTo w 0
      | .readOwn => if others.isEmpty then s.ownWithData w e.way else s.openTx w e .busy 8 others others []
      | .upgrade =>
        if others.isEmpty then
          if e.holders.contains w.src then (s.own w.src w.line e.way).homeSays w w.src 18 0 [] false
          else s.ownWithData w e.way
        else s.openTx w e .busy 8 others others []
      | .readNoAllocate => s.dataTo w 4
      | .masked ws m => if e.holders.isEmpty then (s.dropDir w.line).mergeMasked w ws m
                        else s.openTx w e .busy 8 e.holders e.holders []
      | .recall => s
    else if others.isEmpty then
      match w.req with
      | .readNoAllocate => s.openTx w e .busy 11 e.holders e.holders []
      | .masked _ _ => s.openTx w e .busy 10 e.holders e.holders []
      | .recall => s
      | _ => s.ownWithData w e.way
    else
      match w.req with
      | .readShared => s.openTx w e .busy 9 e.holders e.holders []
      | .readNoAllocate => s.openTx w e .busy 11 e.holders e.holders []
      | _ => s.openTx w e .busy 10 e.holders e.holders []

/-- Every tile of the members in service (R162). -/
def State.allTiles (s : State) : List Nat :=
  ((List.range 16).filter (fun m => s.dy.inService.getLsbD m)).flatMap (fun m => (List.range 4).map (64 * m + ·))

/-- The entry cannot be corrected: broadcast recall, which also waits for the write-back of an I/O hold (R162).
Assumption 9 (DESIGN CHOICE). -/
def State.broadcastRecall (s : State) (line : Nat) (e : DirEntry) : State :=
  let w : DirWait := { req := .recall, src := 0, tag := 0, line := line, behind := none }
  (s.openTx w { e with ioh := false } .recall 10 s.allTiles s.allTiles (if e.ioh then e.holders else [])).report 1200 1

/-- The home takes a request up: its entry is read, and corrected or recalled where it is in error (R162). -/
def State.takeRequest (s : State) (w : DirWait) : State :=
  match s.dir w.line with
  | none => s.serve w
  | some e =>
    let (n, s) := s.tick
    match Config.entryError n w.line with
    | 0 => s.serve w
    | n =>
      let s := { s with dy := { s.dy with entryErrors := sat36 (s.dy.entryErrors + 1) } }
      if n == 1 then s.serve w else (s.broadcastRecall w.line e).requeue w

/-- A line's request waits: a transaction is open, or earlier requests wait (R155). -/
def State.lineWaits (s : State) (line : Nat) : Bool :=
  (match s.dir line with | some e => e.tx.isSome | none => false) || s.dy.waiting.any (fun w => w.line == line)

/-- A request arrives at this home. -/
def State.request (s : State) (w : DirWait) : State :=
  if lineHome w.line != s.dy.modnum then s else if s.lineWaits w.line then s.enqueue w else s.takeRequest w

/-- A waiting request can go: no transaction is open on its line, and the entry it waits for is no longer recalled. -/
def State.canGo (s : State) (w : DirWait) : Bool :=
  (match s.dir w.line with | some e => e.tx.isNone | none => true) &&
    (match w.behind with
     | some v => (match s.dir v with | some e => e.st != .recall | none => true)
     | none => true)

/-- The first waiting request of each line that can go. -/
def State.nextWaiting (s : State) : List Nat → List DirWait → Option DirWait
  | _, [] => none
  | seen, w :: r => if !seen.contains w.line && s.canGo w then some w else s.nextWaiting (w.line :: seen) r

/-- Serve the requests that wait and now can go, in arrival order. -/
def State.drainWaiting : Nat → State → State
  | 0, s => s
  | f + 1, s =>
    match s.nextWaiting [] s.dy.waiting with
    | none => s
    | some w =>
      State.drainWaiting f (State.takeRequest { s with dy := { s.dy with waiting := s.dy.waiting.erase w } } { w with behind := none })

def State.drainHome (s : State) : State := State.drainWaiting (2 * s.dy.waiting.length + 2) s

/-- Agents recorded as having written back before their answer came. -/
def early (a : Nat) : Nat := 100000 + a

/-- The last answer of a transaction is in whose requester has been lost (R178): it is not made a holder. -/
def State.closeLost (s : State) (line : Nat) (e : DirEntry) (x : DirTx) : State :=
  match x.req with
  | .readShared =>
    if e.ioh || x.got.isNone then s.dropDir line else s.setDir line { e with st := .shared, tx := none }
  | .readNoAllocate =>
    if e.ioh || e.holders.isEmpty then s.dropDir line else s.setDir line { e with st := x.prior, tx := none }
  | _ => s.dropDir line

/-- The last answer of a transaction is in: the home's action of Table 5.8. Dirty data that goes on to a new owner is not
written to memory, which no one can tell here: the data of a line stands once (assumption 22, DEDUCED). -/
def State.closeTx (s : State) (line : Nat) (e : DirEntry) (x : DirTx) : State :=
  let w : DirWait := { req := x.req, src := x.src, tag := x.tag, line := line, behind := none }
  let s := match x.got with
    | some (ws, _) => s.wrWords (line * 16) ((List.range 16).map (wordAt ws))
    | none => s
  let dirty := x.got.elim false (·.2)
  let again (s : State) : State := (s.dropDir line).serve w
  let s := if !s.dy.inService.getLsbD (x.src / 64) && x.req != .recall then s.closeLost line e x else match x.req with
    | .readShared =>
      if e.ioh then again s
      else if x.got.isSome then
        (s.setDir line { e with st := .shared, tx := none, holders := e.holders.filter (· != x.src) ++ [x.src] }).dataTo w 0
      else s.ownWithData w e.way
    | .readOwn | .upgrade =>
      if e.ioh then again s
      else if x.req == DirReq.upgrade && e.holders.contains x.src && x.prior == DirState.shared then
        (s.own x.src line e.way).homeSays w x.src 18 0 [] false
      else if s.poisoned line then (s.dropDir line).dataTo w 4
      else (s.own x.src line e.way).homeSays w x.src 19
        (dataAux (if isTile x.src then (if dirty then 2 else 1) else 3) dirty) (s.rdLine line) false
    | .readNoAllocate =>
      (if e.ioh || e.holders.isEmpty then s.dropDir line else s.setDir line { e with st := x.prior, tx := none }).dataTo w 4
    | .masked ws m => (s.dropDir line).mergeMasked w ws m
    | .recall => s.dropDir line
  s.drainHome

/-- Close the transaction of a line when nothing is awaited any more (R157). -/
def State.tryClose (s : State) (line : Nat) : State :=
  match s.dir line with
  | some e => match e.tx with
    | some x => if x.awaits.isEmpty && !(x.wbWait.any (· < 100000)) then s.closeTx line e x else s
    | none => s
  | none => s

def State.modTx (s : State) (line : Nat) (f : DirTx → DirTx) : State :=
  match s.dir line with
  | some e => s.setDir line { e with tx := e.tx.map f }
  | none => s

/-- The home awaits an answer of this agent for the line. -/
def State.awaited (s : State) (src line : Nat) : Bool :=
  match (s.dir line).bind (·.tx) with
  | some x => x.awaits.contains src
  | none => false

/-- A write-back (R157): always accepted, applied to an open transaction, acknowledged. -/
def State.writeBackAt (s : State) (m : Msg) : State :=
  let line := m.line
  if lineHome line != s.dy.modnum then s else
  let s := if m.words.isEmpty then s else s.wrWords (line * 16) ((List.range 16).map (wordAt m.words))
  let s := s.homeSays { req := .recall, src := m.src, tag := m.tag, line := line, behind := none } m.src 16 0 [] false
  match s.dir line with
  | none => s
  | some e =>
    let left := e.holders.filter (· != m.src)
    match e.tx with
    | none => if left.isEmpty then (s.dropDir line).drainHome else s.setDir line { e with holders := left }
    | some x =>
      let wb := if x.wbWait.contains m.src then x.wbWait.filter (· != m.src)
                else if x.awaits.contains m.src then x.wbWait ++ [early m.src] else x.wbWait
      (s.setDir line { e with holders := left, tx := some { x with wbWait := wb } }).tryClose line

/-- An acknowledge at the home (R157): an answer with WBF waits for the write-back. -/
def State.ackHome (s : State) (m : Msg) : State :=
  let wbf := m.aux / 32 % 2 == 1
  if s.awaited m.src m.line then
    (s.modTx m.line (fun x => { x with
      awaits := x.awaits.filter (· != m.src),
      wbWait := if wbf then (if x.wbWait.contains (early m.src) then x.wbWait.filter (· != early m.src) else x.wbWait ++ [m.src])
                else x.wbWait })).tryClose m.line
  else s

/-- An owner's data at the home: dirty data prevails over clean. -/
def State.dataHome (s : State) (m : Msg) : State :=
  let dirty := m.aux / 256 % 2 == 1
  if s.awaited m.src m.line then
    (s.modTx m.line (fun x => { x with
      awaits := x.awaits.filter (· != m.src),
      got := match x.got with
        | some (o, true) => if dirty then some (m.words, true) else some (o, true)
        | _ => some (m.words, dirty) })).tryClose m.line
  else s

/-! ## Tiles of this module (R152-R154) -/

/-- A tile's answer to the home, echoing the transaction's tag and requester. -/
def State.tileAnswers (s : State) (t line type aux : Nat) (h : Held) (words : List Word) : State :=
  s.sayHome (s.tileAgent t) line type h.tag h.orig aux words [] false

def snoopCode : Snoop → Nat
  | .invalidate => 8
  | .share => 9
  | .own => 10
  | .read => 11

def snoopOf (type : Nat) : Snoop :=
  if type == 8 then .invalidate else if type == 9 then .share else if type == 10 then .own else .read

/-- A reservation of a core of the tile on the line whose window of R120 is open: an invalidating snoop is put off. -/
def State.deferred (s : State) (t line : Nat) : Bool :=
  s.cores.any (fun e => s.tileOf e.1 == t && e.2.res.any (fun r => r.line == line && r.deferring))

def State.holdSnoop (s : State) (t line : Nat) (h : Held) : State :=
  { s with dy := { s.dy with heldSnoops := tins (tdel s.dy.heldSnoops (tileKey t line)) (tileKey t line) h } }

/-- Mark the snoop that the cores of a tile with an open window on the line put off (R120). -/
def State.markDeferred (s : State) (t line : Nat) : State :=
  { s with cores := s.cores.map (fun e => match e.2.res with
      | some r => if s.tileOf e.1 == t && r.line == line && r.deferring then (e.1, { e.2 with res := some { r with snooped := true } }) else e
      | none => e) }

/-- Table 5.7, the four right-hand columns. -/
def State.snoop (s : State) (t line : Nat) (h : Held) : State :=
  let data (dirty : Bool) (next : Option TileState) : State :=
    (s.tileAnswers t line 19 (dataAux 4 dirty) h (s.rdLine line)).setTile t line next
  let ack (wbf : Bool) : State := s.tileAnswers t line 16 (b2n wbf * 32) h []
  let takes := h.kind == .invalidate || h.kind == .own
  match s.tile t line with
  | none => ack false
  | some .isS | some .imS => s.holdSnoop t line h
  | some .miS | some .eiS | some .siS => if h.kind == .invalidate then ack false else ack true
  | some st =>
    if takes && s.deferred t line then (s.holdSnoop t line h).markDeferred t line else
    match st, h.kind with
    | .s, .invalidate => ((ack false).setTile t line none).loseLine t line none
    | .smS, .invalidate => ((ack false).setTile t line (some .imS)).loseLine t line none
    | .smS, _ => s.holdSnoop t line h
    | .e, .share => data false (some .s)
    | .e, .own => (data false none).loseLine t line none
    | .e, .read => data false (some .e)
    | .m, .share => data true (some .s)
    | .m, .own => (data true none).loseLine t line none
    | .m, .read => data true (some .m)
    | _, _ => s

/-- A grant at an upgrading tile (R152). -/
def State.grantAt (s : State) (t : Nat) (m : Msg) : State :=
  match s.tileLine t m.line with
  | some x => if x.st == .smS && x.tag == m.tag then s.setTile t m.line (some .e) else s
  | none => s

/-- Attempts of an agent for a line (R159). -/
def attemptKey (a line : Nat) : Nat := a * 2 ^ 36 + line

/-- The words of a line as a message brings them. -/
def State.takeWords (s : State) (line : Nat) (ws : List Word) : State :=
  let l := (List.range 16).map (wordAt ws)
  if l == s.rdLine line then s else s.wrWords (line * 16) l

/-- Data at a requesting tile: the line is installed with its grant, or a copy is kept. Of a poisoned line nothing is
installed, and the tile's cores find it poisoned (R178). -/
def State.fillAt (s : State) (t : Nat) (m : Msg) : State :=
  let grant := m.aux / 32 % 8
  let key := attemptKey (s.tileAgent t) m.line
  match s.tileLine t m.line with
  | some x =>
    if x.tag == m.tag && (x.st.filling || x.st == .smS) then
      let s := { s with dy := { s.dy with attempts := tdel s.dy.attempts key } }
      if m.poisoned then (s.putTile t m.line none).setPoison m.line true
      else
        let changed := x.keep && (List.range 16).map (wordAt m.words) != s.rdLine m.line
        let s := (s.takeWords m.line m.words).putTile t m.line (some { x with
          st := (match grant with | 0 => .s | 1 => .e | _ => .m), keep := false, age := s.dy.uses })
        let s := { s with dy := { s.dy with uses := s.dy.uses + 1 } }
        if changed then s.loseLine t m.line none else s
    else s
  | none =>
    { s with dy := { s.dy with passes := s.dy.passes.map (fun (e : Nat × Copy) =>
        if e.1 % 2 ^ 36 == m.line && (e.1 / 2 ^ 36 == t || 64 ≤ e.1 / 2 ^ 36) && e.2.tag == m.tag then (e.1, { e.2 with words := some m.words }) else e) } }.setPoison
      m.line (m.poisoned || s.poisoned m.line)

/-- The copies that a core has used for its loads are not kept. -/
def State.usePasses (s : State) (c : Nat) : State :=
  { s with dy := { s.dy with passes := s.dy.passes.filter (fun e => e.1 / 2 ^ 36 != 64 + c) } }

/-- The access that caused a tile's request has been performed (R153). -/
def State.served (s : State) (line : Nat) : Option (Nat × Nat × Bool) → Bool
  | none => true
  | some (c, q, false) => (s.core c).seq != q
  | some (c, q, true) => !(s.core c).sb.any (fun e => e.addr == line && e.words.any (fun w => w.seq ≤ q))

/-- A held snoop is answered once its fill or grant is in, and the access that caused the request is performed (R153). -/
def State.releaseHeld (s : State) (t line : Nat) : State :=
  match s.dy.heldSnoops.find? (fun e => e.1 == tileKey t line) with
  | none => s
  | some (_, h) =>
    let go : State := { s with dy := { s.dy with heldSnoops := tdel s.dy.heldSnoops (tileKey t line) } }.snoop t line h
    match s.tileLine t line with
    | some x => if x.st.filling || x.st == .smS || !s.served line x.waiter then s else go
    | none => go

/-! ## Requests and evictions of a tile -/

/-- A tile gives a line up (Table 5.7, L3 eviction): its cores lose it, and a write-back goes to the home, with data from
M. The way stays taken until modified data has been accepted (R128). -/
def State.evict (s : State) (t line : Nat) : State :=
  match s.tileLine t line with
  | some x =>
    if !x.st.stable then s else
    let s := s.loseLine t line none
    let (tag, s) := s.ask (s.tileAgent t) line 5 (if x.st == .m then s.rdLine line else []) []
    match x.st with
    | .s => s.putTile t line (some { x with st := .siS, tag := tag, way := 16 })
    | .e => s.putTile t line (some { x with st := .eiS, tag := tag, way := 16 })
    | _ => s.putTile t line (some { x with st := .miS, tag := tag })
  | none => s

/-- A fill of a tile: a way is found, its victim written back, and the request sent, under an allocation class (R127, R128,
R131). Where a way has first to be freed the request is not sent yet. -/
def State.fillRequest (s : State) (t cls line : Nat) (own : Bool) (waiter : Option (Nat × Nat × Bool)) : State :=
  if !s.mayFill t line then s else
  match s.wayL3 t cls line with
  | none => s
  | some (way, victim) =>
    let dirty := victim.any (fun v => s.tile t v == some .m)
    let s := match victim with | some v => s.evict t v | none => s
    if dirty then s else
    let (tag, s) := s.ask (s.tileAgent t) line (if own then 2 else 1) [] []
    s.putTile t line (some { st := if own then .imS else .isS, way := way, age := s.dy.uses, tag := tag, waiter := waiter, keep := false })

/-- The request that a tile's access to a line needs and has not sent (Table 5.7). -/
def State.tileRequest (s : State) (t cls line : Nat) (own : Bool) (waiter : Option (Nat × Nat × Bool)) : State :=
  match s.tileLine t line with
  | none => s.fillRequest t cls line own waiter
  | some x =>
    if x.st == .s && own && s.openRequests t < 64 then
      let (tag, s) := s.ask (s.tileAgent t) line 3 [] []
      s.putTile t line (some { x with st := .smS, tag := tag, waiter := waiter })
    else s

/-- A modified line is written to its home and read again, so that it stays, clean (Table 4.9). No message of Table 5.5
writes a line and keeps it. Assumption 42 (DEDUCED). -/
def State.cleanAt (s : State) (t line : Nat) : State :=
  match s.tileLine t line with
  | some x =>
    if x.st != .m then s else
    let (tag, s) := s.ask (s.tileAgent t) line 5 (s.rdLine line) []
    s.putTile t line (some { x with st := .miS, tag := tag, keep := true })
  | none => s

/-- A store has been made: a line in E becomes M (Table 5.7). -/
def State.dirtyLine (s : State) (t line : Nat) : State :=
  match s.tile t line with
  | some .e => s.setTile t line (some .m)
  | _ => s

/-! ## Agents without caches (R163-R165) -/

def State.agentLine (s : State) (a line : Nat) : Option AgentLine :=
  (s.dy.agents.find? (fun e => e.1 == tileKey a line)).map (·.2)

def State.putAgent (s : State) (a line : Nat) (v : Option AgentLine) : State :=
  let r := tdel s.dy.agents (tileKey a line)
  { s with dy := { s.dy with agents := match v with | some x => tins r (tileKey a line) x | none => r } }

/-- Read-own requests that an agent has open; it keeps at most 4 (R159). -/
def State.agentOpen (s : State) (a : Nat) : Nat := (s.dy.agents.filter (fun e => e.1 / 2 ^ 36 == a && e.2.st == .asked)).length

/-- An agent asks for a line by read-own. -/
def State.agentAsks (s : State) (a line : Nat) : State :=
  if (s.agentLine a line).isSome || 4 ≤ s.agentOpen a then s else
  let (tag, s) := s.ask (64 * s.dy.modnum + a) line 2 [] []
  s.putAgent a line (some { tag := tag, st := .asked })

/-- An agent releases a held line by write-back (R165). -/
def State.agentReleases (s : State) (a line : Nat) (words : List Word) : State :=
  match s.agentLine a line with
  | some x =>
    if x.st != .held then s else
    let s := if words.isEmpty then s else s.takeWords line words
    let (_, s) := s.ask (64 * s.dy.modnum + a) line 5 words []
    s.putAgent a line none
  | none => s

/-- An agent asks for a copy by read-no-allocate (R163), unless it has one or has asked. -/
def State.copyAsks (s : State) (src key line : Nat) : State :=
  if s.dy.passes.any (fun e => e.1 == key) then s else
  let (tag, s) := s.ask src line 4 [] []
  { s with dy := { s.dy with passes := tins s.dy.passes key { tag := tag, words := none } } }

/-- An agent writes bits of a line by masked write-back (R164), which it awaits the acknowledge of. -/
def State.agentMerges (s : State) (a line : Nat) (words mask : List Word) : State :=
  let (tag, s) := s.ask (64 * s.dy.modnum + a) line 6 words mask
  s.putAgent a line (some { tag := tag, st := .writing })

/-- Every masked write-back of an agent has been acknowledged. -/
def State.agentQuiet (s : State) (a : Nat) : Bool := !s.dy.agents.any (fun e => e.1 / 2 ^ 36 == a && e.2.st == .writing)

/-- A block rings a source only after the home has acknowledged its writes (R26, R389): at once, or kept until then. -/
def State.ringAfter (s : State) (a owner source : Nat) : State :=
  if s.agentQuiet a then s.doorbell owner source
  else { s with dy := { s.dy with rings := s.dy.rings ++ [(a, owner, source)] } }

/-- The kept doorbells of an agent ring once its writes are acknowledged. -/
def State.ringKept (s : State) (a : Nat) : State :=
  if !s.agentQuiet a then s else
  let due := s.dy.rings.filter (fun e => e.1 == a)
  due.foldl (fun s e => s.doorbell e.2.1 e.2.2) { s with dy := { s.dy with rings := s.dy.rings.filter (fun e => e.1 != a) } }

/-- A message for an agent without a cache: data of its read-own or copy, the acknowledge of its masked write-back, or a
snoop-own, which it answers by releasing the line. -/
def State.agentGets (s : State) (a : Nat) (m : Msg) : State :=
  let x := s.agentLine a m.line
  if m.type == 19 then
    if x.any (fun x => x.tag == m.tag && x.st == .asked) then
      let s := { s with dy := { s.dy with attempts := tdel s.dy.attempts (attemptKey (64 * s.dy.modnum + a) m.line) } }
      if m.poisoned then (s.putAgent a m.line none).setPoison m.line true
      else (s.takeWords m.line m.words).putAgent a m.line (some { tag := m.tag, st := .held })
    else
      { s with dy := { s.dy with passes := s.dy.passes.map (fun (e : Nat × Copy) =>
          if e.1 == tileKey a m.line && e.2.tag == m.tag then (e.1, { e.2 with words := some m.words }) else e) } }.setPoison
        m.line (m.poisoned || s.poisoned m.line)
  else if m.type == 16 then (if x.any (fun x => x.tag == m.tag && x.st == .writing) then (s.putAgent a m.line none).ringKept a else s)
  else if m.type == 10 then s.agentReleases a m.line (s.rdLine m.line)
  else s

/-! ## Delivery -/

/-- A tile's write-back is acknowledged: the line is gone, or is read again after a clean; so is a store sent as a masked
write-back by a core of the tile, which has then been performed (Table 4.5). -/
def State.ackTile (s : State) (t : Nat) (m : Msg) : State :=
  match s.tileLine t m.line with
  | some x =>
    if x.tag != m.tag || x.st.stable || x.st.filling || x.st == .smS then s
    else if x.keep then
      let (tag, s) := s.ask (s.tileAgent t) m.line 1 [] []
      s.putTile t m.line (some { x with st := .isS, tag := tag, waiter := none })
    else s.putTile t m.line none
  | none =>
    let mine (e : Nat × Core) : Bool := s.tileOf e.1 == t &&
      (match e.2.sb with | b :: _ => b.sent == some m.tag && b.addr == m.line | [] => false)
    match s.cores.find? mine with
    | none => s
    | some (c, k) =>
      let s := s.setCore c ({ k with sb := k.sb.drop 1 } : Core).unexpose
      if lineHome m.line == s.dy.modnum then s else s.setPoison m.line false

/-- A negative acknowledge: one more attempt of the agent (R159). -/
def State.refusedAt (s : State) (a line : Nat) : State :=
  let n := tget s.dy.attempts 0 (attemptKey a line) + 1
  { s with dy := { s.dy with attempts := tput s.dy.attempts 0 (attemptKey a line) n } }

/-- The request that a message carries. -/
def Msg.request (m : Msg) : Option DirReq :=
  match m.type with
  | 1 => some .readShared
  | 2 => some .readOwn
  | 3 => some .upgrade
  | 4 => some .readNoAllocate
  | 6 => some (.masked m.words m.mask)
  | _ => none

/-- Deliver a message to the agent of this module that it names: the home, a tile, or an agent without a cache. -/
def State.handleMsg (s : State) (m : Msg) : State :=
  let a := m.dst % 64
  if a == 63 then
    match m.request with
    | some r => s.request { req := r, src := m.src, tag := m.tag, line := m.line, behind := none }
    | none => if m.type == 5 then s.writeBackAt m else if m.type == 16 then s.ackHome m else if m.type == 19 then s.dataHome m else s
  else if m.type == 17 then s.refusedAt m.dst m.line
  else if a < 4 then
    if m.type == 16 then s.ackTile a m
    else if m.type == 18 then s.grantAt a m
    else if m.type == 19 then s.fillAt a m
    else s.snoop a m.line { kind := snoopOf m.type, tag := m.tag, orig := m.orig }
  else s.agentGets a m

/-- Deliver the messages that are on their way within the module, in order. -/
def State.pumpN : Nat → State → State
  | 0, s => s
  | n + 1, s =>
    match s.dy.inbox with
    | [] => s
    | m :: r => State.pumpN n (State.handleMsg { s with dy := { s.dy with inbox := r } } m)

def State.pump (s : State) : State := State.pumpN 4096 s

/-- A message of another module comes in on a link: it is delivered here, or carried on as a relay (R175). -/
def State.receive (s : State) (m : Msg) (f : FlitHead) : State :=
  if m.src / 64 == s.dy.modnum then (s.handleMsg m).pump else
  let here := m.dst / 64 == s.dy.modnum
  let s := s.flitsIn f (poolOf (!here || s.linkPeer f.link != m.src / 64) m) m.flits
  let s := if here then (s.handleMsg m).pump
    else
      let k := linkTo s.dy.modnum (m.dst / 64)
      (s.setLink k { s.link k with forward := (s.link k).forward ++ [m] }).transmit k
  s.serviceLink f.link

/-! ## Access by this module's cores and agents -/

/-- The request that a core's access to a line needs. `store` is the number of the instruction whose buffered store needs
it; a load is that of the instruction in progress. Assumption 32 (DEDUCED). -/
def State.missRequest (s : State) (c line : Nat) (own : Bool) (store : Option Nat) : State :=
  let t := s.tileOf c
  let waiter := some (c, store.getD (s.core c).seq, store.isSome)
  if s.passesBy t && (s.tileLine t line).isNone then
    (if own then s else s.copyAsks (s.tileAgent t) (coreCopy c line) line)
  else s.tileRequest t (s.allocClass c) line own waiter

/-- Ask for a line and deliver what comes of it within the module; once a way has been freed the request follows. -/
def State.bring (s : State) (c line : Nat) (own : Bool) (store : Option Nat) : State :=
  let s := (s.missRequest c line own store).pump
  if s.lineReady c line own then s else (s.missRequest c line own store).pump

/-- A line's words stand in this module for a read: a tile holds it, or it is homed here and no other holds it. -/
def State.readable (s : State) (line : Nat) : Bool :=
  (List.range 4).any (fun t => s.tileHas t line false) ||
    (lineHome line == s.dy.modnum && !s.lineWaits line &&
      (match s.dir line with
       | none => true
       | some e => e.st == .shared || (!e.ioh && e.holders.all (fun h => h / 64 == s.dy.modnum))))

/-- Ask for copies of the lines that do not stand here; whether every copy has come. -/
def State.agentFetch (s : State) (a : Nat) (lines : List Nat) : State × Bool :=
  let l := lines.eraseDups.filter (fun x => !s.readable x)
  let s := (l.foldl (fun s x => s.copyAsks (64 * s.dy.modnum + a) (tileKey a x) x) s).pump
  (s, l.all (fun x => (s.copyAt (tileKey a x)).isSome))

/-- An agent has what its reads of some lines need: each stands here or has come as a copy; requests go out for the rest
(R163). With all of them the copies' words are what it reads. -/
def State.agentReads (s : State) (a : Nat) (lines : List Nat) : State × Bool :=
  let l := lines.eraseDups.filter (fun x => !s.readable x)
  if l.isEmpty then (s, true) else
  let (s, ok) := s.agentFetch a l
  if ok then
    let s := l.foldl (fun s x => match s.copyAt (tileKey a x) with | some ws => s.takeWords x ws | none => s) s
    ({ s with dy := { s.dy with passes := s.dy.passes.filter (fun e => !(e.1 / 2 ^ 36 == a && l.contains (e.1 % 2 ^ 36))) } }, true)
  else (s, false)

/-- The request that a waiting agent repeats, with its tag (R159). -/
def State.repeatRequest (s : State) (a line : Nat) : State :=
  if a / 64 != s.dy.modnum then s
  else if isTile a then
    match s.tileLine (a % 64) line with
    | some x => match x.st with
      | .isS => s.sayHome a line 1 x.tag 0 0 [] [] false
      | .imS => s.sayHome a line 2 x.tag 0 0 [] [] false
      | .smS => s.sayHome a line 3 x.tag 0 0 [] [] false
      | _ => s
    | none => s
  else match s.agentLine (a % 64) line with
    | some x => if x.st == .asked then s.sayHome a line 2 x.tag 0 0 [] [] false else s
    | none => s

/-! ## DY_PROBE (Table 5.18) -/

/-- The 96-bit entry of a set and way (Tables 5.3, 5.4). Of an empty way all bits read 0, the check bits too: the spec does
not say what an INVALID way holds. Assumption 9 (DESIGN CHOICE). -/
def State.probeEntry (s : State) (set way : Nat) : BitVec 96 :=
  match (s.setLines set).find? (fun e => e.2.way == way) with
  | none => 0
  | some (line, e) =>
    let code := match e.st with | .shared => 1 | .owned => 2 | .busy => 8 | .recall => 9
    let vec := if e.ioh then e.holders.headD 0
      else e.holders.foldl (fun a h => if isTile h then a ||| 2 ^ (h / 64 * 4 + h % 64) else a) 0
    let hi : BitVec 88 := BitVec.ofNat 88 (lineTag line * 2 ^ 74 + code * 2 ^ 70 + b2n e.ioh * 2 ^ 69 + vec)
    hi ++ Config.entryCheck hi

def State.probeWrite (s : State) (a : Accessor) (w : Word) : State :=
  if a.role != .z then s else
  { s with dy := { s.dy with probeSet := fld w 21 4, probeWay := fld w 3 0, probe := s.probeEntry (fld w 21 4) (fld w 3 0) } }

/-! ## Rows -/

/-- The message that a row brings. -/
def rowMsg (e : MsgEnd) (type src dst line aux : Nat) (words mask : List Word) : Msg :=
  { type := type, src := src, dst := dst, tag := e.head.tag, line := line, orig := e.head.orig, aux := aux, words := words,
    mask := mask, poisoned := e.head.poisoned }

/-- A request of another module's agent arrives; one of this module's own agent is sent. -/
def State.requestRow (s : State) (e : MsgEnd) (line type : Nat) : State :=
  let a := e.agent % 64
  if e.agent / 64 != s.dy.modnum then s.receive (rowMsg e type e.agent (homeAgent (lineHome line)) line 0 [] []) e.head.flit
  else if isTile e.agent then
    (if type == 4 then s.copyAsks e.agent (tileKey a line) line else s.tileRequest a 15 line (type != 1) none).pump
  else (if type == 2 then s.agentAsks a line else if type == 4 then s.copyAsks e.agent (tileKey a line) line else s).pump

def execReadShared (src : MsgEnd) (line : Nat) (s : State) : Host.Outcome State Fault Refusal :=
  s.runIf (wfMsg src && wfLine line) (s.requestRow src line 1)
def execReadOwn (src : MsgEnd) (line : Nat) (s : State) : Host.Outcome State Fault Refusal :=
  s.runIf (wfMsg src && wfLine line) (s.requestRow src line 2)
def execUpgrade (src : MsgEnd) (line : Nat) (s : State) : Host.Outcome State Fault Refusal :=
  s.runIf (wfMsg src && wfLine line) (s.requestRow src line 3)
def execReadNoAllocate (src : MsgEnd) (line : Nat) (s : State) : Host.Outcome State Fault Refusal :=
  s.runIf (wfMsg src && wfLine line) (s.requestRow src line 4)

/-- A write-back of another module's holder arrives; a tile or agent of this module gives its line up. -/
def State.writeBackRow (s : State) (e : MsgEnd) (line : Nat) (words : Option (List Word)) : State :=
  if e.agent / 64 != s.dy.modnum then
    s.receive (rowMsg e 5 e.agent (homeAgent (lineHome line)) line 0 (words.getD []) []) e.head.flit
  else (if isTile e.agent then s.evict (e.agent % 64) line else s.agentReleases (e.agent % 64) line (words.getD [])).pump

def execWriteBack (src : MsgEnd) (line : Nat) (words : Option (List Word)) (s : State) : Host.Outcome State Fault Refusal :=
  s.runIf (wfMsg src && wfLine line && wfLineData words) (s.writeBackRow src line words)

def execMaskedWriteBack (src : MsgEnd) (line : Nat) (words mask : List Word) (s : State) :
    Host.Outcome State Fault Refusal :=
  s.runIf (wfMsg src && wfLine line && (wfLineWords words && wfLineWords mask)) (
    if src.agent / 64 != s.dy.modnum then
      s.receive (rowMsg src 6 src.agent (homeAgent (lineHome line)) line 0 words mask) src.head.flit
    else (s.agentMerges (src.agent % 64) line words mask).pump)

/-- A message of a line's home to an agent. -/
def State.fromHome (s : State) (e : MsgEnd) (line type : Nat) : State :=
  s.receive (rowMsg e type (homeAgent (lineHome line)) e.agent line 0 [] []) e.head.flit

def execInvalidate (dst : MsgEnd) (line : Nat) (s : State) : Host.Outcome State Fault Refusal :=
  s.runIf (wfMsg dst && wfLine line) (s.fromHome dst line 8)
def execSnoopShare (dst : MsgEnd) (line : Nat) (s : State) : Host.Outcome State Fault Refusal :=
  s.runIf (wfMsg dst && wfLine line) (s.fromHome dst line 9)
def execSnoopOwn (dst : MsgEnd) (line : Nat) (s : State) : Host.Outcome State Fault Refusal :=
  s.runIf (wfMsg dst && wfLine line) (s.fromHome dst line 10)
def execSnoopRead (dst : MsgEnd) (line : Nat) (s : State) : Host.Outcome State Fault Refusal :=
  s.runIf (wfMsg dst && wfLine line) (s.fromHome dst line 11)
def execAcknowledge (dst : Nat) (src : MsgEnd) (line : Nat) (wbf : Bool) (s : State) : Host.Outcome State Fault Refusal :=
  s.runIf (wfEnd dst && wfMsgEnd src && wfLine line) (s.receive (rowMsg src 16 src.agent dst line (b2n wbf * 32) [] []) src.head.flit)
def execNegativeAcknowledge (dst : MsgEnd) (line : Nat) (s : State) : Host.Outcome State Fault Refusal :=
  s.runIf (wfMsg dst && wfLine line) (s.fromHome dst line 17)

/-- A refused agent repeats its request (R159). -/
def execNakRetry (agent line : Nat) (s : State) : Host.Outcome State Fault Refusal :=
  s.runIf (wfAgent agent && wfLine line) (
    if tget s.dy.attempts 0 (attemptKey agent line) == 0 then s else (s.repeatRequest agent line).pump)

def execGrant (dst : MsgEnd) (line : Nat) (s : State) : Host.Outcome State Fault Refusal :=
  s.runIf (wfMsg dst && wfLine line) (s.fromHome dst line 18)
def execData (dst : Nat) (src : MsgEnd) (line : Nat) (words : List Word) (grant : Nat) (dirty : Bool) (s : State) :
    Host.Outcome State Fault Refusal :=
  s.runIf (wfEnd dst && wfMsgEnd src && wfLine line && wfLineWords words && decide (grant < 5)) (
    s.receive (rowMsg src 19 src.agent dst line (dataAux grant dirty) words []) src.head.flit)
def execHeldSnoopRelease (tile line : Nat) (s : State) : Host.Outcome State Fault Refusal :=
  s.runIf (wfTile tile && wfLine line) ((s.releaseHeld tile line).pump)
def execDyProbe (acc : Accessor) (value : Word) (s : State) : Host.Outcome State Fault Refusal :=
  s.runIf (wfAccessor acc) (s.probeWrite acc value)

end Sys2Proof.Machine
end

