-- ==== Sys2Proof/Machine/Translate.lean ====
section
/-! DEFINITION. Two-stage translation and the sealing check (R350-R356). -/

namespace Sys2Proof.Machine

/-- The rights an access needs (R352). -/
structure Need where
  r : Bool
  w : Bool
  x : Bool
  /-- mode 0o35 -/
  io : Bool
deriving DecidableEq, Repr

def Need.load : Need := { r := true, w := false, x := false, io := false }
def Need.store : Need := { r := false, w := true, x := false, io := false }
def Need.both : Need := { r := true, w := true, x := false, io := false }
def Need.fetch : Need := { r := false, w := false, x := true, io := false }

/-- Why an access fails: an exception class with its sub-code and intermediate address, or a machine check. -/
inductive XFail where
  | exc (cls sub ia : Nat)
  | mc (sub : Nat)
deriving DecidableEq, Repr

/-- For whom an access is made (Table 11.5). -/
inductive Party where
  | level0
  | level1
  /-- level 2 (false) or level 3 (true) of a tenant, or an agent acting for it -/
  | tenant (t : Nat) (problem : Bool)
deriving DecidableEq, Repr

/-- Table 11.5, data accesses, on module `m`. -/
def tagPermits (m : Nat) (p : Party) (tag : BitVec 16) : Bool :=
  match p with
  | .level0 => true
  | .level1 => (tagKind tag == 1 && fld tag 12 9 == m && bit tag 13) || (tagKind tag == 2 && fld tag 12 9 == m)
  | .tenant t _ => tagKind tag == 1 && fld tag 12 9 == m && fld tag 8 0 == t

/-- A decoded entry (Table 11.3). -/
inductive Entry where
  | table (addr : Nat)
  | leaf (large : Bool)
  | bad (sub : Nat)
deriving DecidableEq, Repr

/-- Entry format (R351), at level 0 to 3. -/
def decodeEntry (stage2 : Bool) (level : Nat) (e : DWord) : Entry :=
  if !bit e 71 then .bad 1 else
  let ty := fld e 70 69
  let zeros := fld e 63 48 == 0 && (if stage2 then !bit e 65 && ((ty != 0 && bit e 64) || fld e 47 40 == 0) else !bit e 64)
  if ty == 0 then
    if level < 3 && fld e 68 64 == 0 && fld e 9 0 == 0 && zeros then .table (fld e 47 0) else .bad 2
  else if ty == 1 then (if level == 3 && fld e 11 0 == 0 && zeros then .leaf false else .bad 2)
  else if ty == 2 then (if level == 2 && fld e 20 0 == 0 && zeros then .leaf true else .bad 2)
  else .bad 2

/-- Rights of a leaf, lowest sub-code first (R352). -/
def leafCheck (stage2 problem : Bool) (n : Need) (e : DWord) : Option Nat :=
  if n.r && !bit e 68 then some 3
  else if n.w && !bit e 67 then some 4
  else if n.x && !bit e 66 then some 5
  else if !stage2 && problem && !bit e 65 then some 6
  else if stage2 && n.io != bit e 64 then some 7
  else none

/-- The address a leaf maps an input address to. -/
def leafAddr (e : DWord) (large : Bool) (a : Nat) : Nat :=
  if large then fld e 47 0 + a % 2 ^ 21 else fld e 47 0 + a % 2 ^ 12

/-- Walk the levels given as (level, shift), reading entries with `rd` (R350). -/
def walk (rd : Nat → Except XFail DWord) (bad : Nat → XFail) (stage2 : Bool) :
    List (Nat × Nat) → Nat → Nat → Except XFail (DWord × Bool)
  | [], _, _ => .error (bad 2)
  | (lv, sh) :: rest, table, a =>
    match rd (table + 2 * (a / 2 ^ sh % 512)) with
    | .error e => .error e
    | .ok e =>
      match decodeEntry stage2 lv e with
      | .bad sub => .error (bad sub)
      | .leaf large => .ok (e, large)
      | .table t => walk rd bad stage2 rest t a

/-- Table 11.2. -/
def walkLevels : List (Nat × Nat) := [(0, 39), (1, 30), (2, 21), (3, 12)]

/-- A doubleword of memory for a walk: an absent home or poison is a machine check (R143, R178). Assumption 4 (DEDUCED). -/
def State.walkRead (s : State) (ra : Nat) : Except XFail DWord :=
  if !s.homeServes ra then .error (.mc 3)
  else if s.poisoned (lineOf ra) then .error (.mc 5)
  else .ok (s.rdD ra)

/-- A cached translation for a page that differs from what the tables give now. -/
def TcEntry.stale (e : TcEntry) (stage2 : Bool) (regime page root : Nat) (w : Except XFail (DWord × Bool)) : Bool :=
  e.stage2 == stage2 && e.regime == regime && e.page == page && e.root == root &&
    (match w with
     | .ok r => r != (e.leaf, e.large)
     | .error _ => true)

/-- What an access uses: the tables' translation or, while caches hold others, any of them (R353).
Assumption 4 (DEDUCED). -/
def State.orCached (s : State) (stage2 : Bool) (regime page root : Nat) (w : Except XFail (DWord × Bool)) :
    Except XFail (DWord × Bool) :=
  let old := s.tc.filter (fun e => e.stale stage2 regime page root w)
  if old.isEmpty then w else
  match old[Config.pickTranslation s.fresh page]? with
  | some e => .ok (e.leaf, e.large)
  | none => w

/-- Stage 2 of tenant `t` (R350, R351, R355): the leaf for an intermediate address. -/
def State.stage2Leaf (s : State) (t ia s11 : Nat) : Except XFail (DWord × Bool) :=
  s.orCached true t (ia / 4096) 0 (
    walk (fun ra =>
        let tag := s.tag ra
        if tagKind tag == 2 && fld tag 12 9 == s.dy.modnum then s.walkRead ra else .error (.exc 7 (9 + s11) ia))
      (fun sub => .exc 6 (sub + s11) ia) true walkLevels (tget s.tn.tenants Tenant.init t).s2root ia)

/-- Stage 2 and sealing for a party: the real address of an intermediate address (R356). `s11` is 2048 for a stage-1
table read. -/
def State.stage2 (s : State) (p : Party) (n : Need) (ia s11 : Nat) : Except XFail Nat :=
  let checked (ra : Nat) : Except XFail Nat :=
    if n.io then .ok ra
    else if ra < 2 ^ 40 && !tagPermits s.dy.modnum p (s.tag ra) then .error (.exc 7 (9 + s11) ia)
    else .ok ra
  match p with
  | .tenant t _ =>
    match s.stage2Leaf t ia s11 with
    | .error e => .error e
    | .ok (e, large) =>
      match leafCheck true false n e with
      | some sub => .error (.exc 6 (sub + s11) ia)
      | none => checked (leafAddr e large ia)
  | _ => checked ia

/-- The regime of stage 1 and its root (Table 11.1). -/
def State.regime (s : State) (p : Party) (core : Nat) : Nat × Nat :=
  match p with
  | .level0 => (1024, s.tn.z1root)
  | .level1 => (1025, s.tn.h1root)
  | .tenant t _ => (t, (s.core core).s1root)

/-- Stage 1: the leaf for a virtual address. -/
def State.stage1Leaf (s : State) (p : Party) (core va : Nat) : Except XFail (DWord × Bool) :=
  let (rg, root) := s.regime p core
  s.orCached false rg (va / 4096) root (
    walk (fun ia =>
        match s.stage2 p Need.load ia 2048 with
        | .error e => .error e
        | .ok ra => s.walkRead ra)
      (fun sub => .exc 5 sub 0) false walkLevels root va)

/-- A translated access: the intermediate and the real address. -/
structure Xlated where
  ia : Nat
  ra : Nat
deriving DecidableEq, Repr

/-- Translate a virtual word address for a core's access (R356). -/
def State.translate (s : State) (p : Party) (core : Nat) (n : Need) (va : Nat) : Except XFail Xlated :=
  let problem := match p with | .tenant _ b => b | _ => false
  match s.stage1Leaf p core va with
  | .error e => .error e
  | .ok (e, large) =>
    match leafCheck false problem n e with
    | some sub => .error (.exc 5 sub 0)
    | none =>
      match s.stage2 p n (leafAddr e large va) 0 with
      | .error e => .error e
      | .ok ra => .ok { ia := leafAddr e large va, ra := ra }

/-- The entries a successful translation leaves in the caches (R353). Assumption 4 (DEDUCED). -/
def State.install (s : State) (p : Party) (core va : Nat) : State :=
  let (rg, root) := s.regime p core
  match s.stage1Leaf p core va with
  | .error _ => s
  | .ok (e, large) =>
    let e1 : TcEntry := { stage2 := false, regime := rg, page := va / 4096, root := root, leaf := e, large := large }
    let ia := leafAddr e large va
    let more := match p with
      | .tenant t _ =>
        match s.stage2Leaf t ia 0 with
        | .ok (f, l2) => [{ stage2 := true, regime := t, page := ia / 4096, root := 0, leaf := f, large := l2 }]
        | .error _ => []
      | _ => []
    { s with tc := s.tc ++ ((e1 :: more).filter (fun x => !s.tc.contains x)) }

/-- A word address of a tenant's intermediate space, for an agent acting for the tenant (R215); no table maps one beyond
48 bits. -/
def State.agentWord (s : State) (t : Nat) (n : Need) (ia : Nat) : Except XFail Nat :=
  if 2 ^ 48 ≤ ia then .error (.exc 6 1 ia) else
  match s.stage2 (.tenant t false) n ia 0 with
  | .error e => .error e
  | .ok ra => if !s.homeServes ra then .error (.mc 3) else .ok ra

/-- Every word of a list can be accessed. -/
def State.agentOk (s : State) (t : Nat) (n : Need) (ws : List Nat) : Bool :=
  ws.all (fun a => (s.agentWord t n a).isOk)

/-- Drop cached translations (R353). -/
def State.dropTc (s : State) (p : TcEntry → Bool) : State := { s with tc := s.tc.filter (fun e => !p e) }

end Sys2Proof.Machine
end

