-- ==== Sys2Proof/Machine/Agents.lean ====
section
/-! DEFINITION. Memory accesses of agents without caches: reads by read-no-allocate, and writes by masked write-back, one
for each line (R163, R164, R215). -/

namespace Sys2Proof.Machine

/-! ## Agent numbers (Table 5.1) -/

def procAgent (p : Nat) : Nat := 4 + p
def compressionAgent : Nat := 36
def cipherAgent : Nat := 37
def portAgent (p : Nat) : Nat := 38 + p
def journalAgent : Nat := 40
def serviceAgent : Nat := 41

/-! ## Writes -/

/-- Bits to write into a word: its real address, the value and the mask. -/
structure BitsAt where
  ra : Nat
  val : Word
  mask : Word
deriving DecidableEq, Repr

/-- A line's data and mask (R164). -/
structure LineBits where
  line : Nat
  words : List Word
  mask : List Word
deriving DecidableEq, Repr

def LineBits.put (l : LineBits) (b : BitsAt) : LineBits :=
  let i := b.ra % 16
  { l with words := l.words.set i ((wordAt l.words i &&& ~~~b.mask) ||| (b.val &&& b.mask)),
           mask := l.mask.set i (wordAt l.mask i ||| b.mask) }

def LineBits.empty (line : Nat) : LineBits := { line := line, words := List.replicate 16 0, mask := List.replicate 16 0 }

/-- Bits in order, gathered by line; the last line first. -/
def gatherBits : List BitsAt → List LineBits → List LineBits
  | [], l => l
  | b :: r, l =>
    match l with
    | x :: y => if x.line == lineOf b.ra then gatherBits r (x.put b :: y)
                else gatherBits r ((LineBits.empty (lineOf b.ra)).put b :: l)
    | [] => gatherBits r [(LineBits.empty (lineOf b.ra)).put b]

/-- An agent writes bits: one masked write-back for each line, in order. -/
def State.agentPut (s : State) (a : Nat) (l : List BitsAt) : State :=
  (gatherBits l []).reverse.foldl (fun s g => (s.agentMerges a g.line g.words g.mask).pump) s

/-! ## Accesses in a tenant's intermediate space -/

/-- A word read by an agent; zero where it cannot be read (callers check `agentOk` first). -/
def State.agentRd (s : State) (t : Nat) (ia : Nat) : Word :=
  match s.agentWord t Need.load ia with
  | .ok ra => s.rd ra
  | .error _ => 0

/-- Bits at intermediate addresses, where they can be written. -/
def State.agentBits (s : State) (t : Nat) (l : List BitsAt) : List BitsAt :=
  l.filterMap (fun b => match s.agentWord t Need.store b.ra with
    | .ok ra => some { b with ra := ra }
    | .error _ => none)

/-- Words from an intermediate address on. -/
def wordBits (ia : Nat) (ws : List Word) : List BitsAt :=
  ws.zipIdx.map (fun p => { ra := ia + p.2, val := p.1, mask := BitVec.allOnes 36 })

/-- The bits of octet `k` (R9), in the one or two words that hold it. -/
def octetBitsAt (k : Nat) (o : Octet) : List BitsAt :=
  let m := putOctet 0 (k % 9) 255
  let v := putOctet 0 (k % 9) o
  let a := 2 * (k / 9)
  [{ ra := a, val := hiWord v, mask := hiWord m }, { ra := a + 1, val := loWord v, mask := loWord m }].filter (fun b => b.mask != 0)

/-- Octets from octet address `k` on. -/
def octetsBitsAt (k : Nat) (l : List Octet) : List BitsAt := l.zipIdx.flatMap (fun p => octetBitsAt (k + p.2) p.1)

def State.agentWr (s : State) (a t : Nat) (ia : Nat) (w mask : Word) : State :=
  s.agentPut a (s.agentBits t [{ ra := ia, val := w, mask := mask }])

def State.agentWrWords (s : State) (a t ia : Nat) (ws : List Word) : State := s.agentPut a (s.agentBits t (wordBits ia ws))

def State.agentWrOctets (s : State) (a t k : Nat) (l : List Octet) : State := s.agentPut a (s.agentBits t (octetsBitsAt k l))

/-- Octets of a tenant's intermediate space (R9). -/
def State.agentOctets (s : State) (t k n : Nat) : List Octet :=
  (List.range n).map (fun i => octetOf (s.agentRd t) (k + i))

/-- The lines that an agent's reads of intermediate words touch. -/
def State.agentLines (s : State) (t : Nat) (ws : List Nat) : List Nat :=
  (ws.filterMap (fun a => match s.agentWord t Need.load a with
    | .ok ra => some (lineOf ra)
    | .error _ => none)).eraseDups

/-- An agent has the lines it reads, or asks for them (R163); `go` acts once all of them are there. Until then the command
has no other effect. Assumption 32 (DEDUCED). -/
def State.withLines (s : State) (a : Nat) (lines : List Nat) (go : State → State) : State :=
  let (s, ok) := s.agentReads a lines
  if ok then go s else s

/-- The same for intermediate words. -/
def State.withReads (s : State) (a t : Nat) (ws : List Nat) (go : State → State) : State := s.withLines a (s.agentLines t ws) go

/-- The lines of real octets from `k` on. -/
def octetLines (k n : Nat) : List Nat :=
  if n = 0 then [] else
  let first := lineOf (2 * (k / 9))
  (List.range (lineOf (2 * ((k + n - 1) / 9) + 1) + 1 - first)).map (first + ·)

end Sys2Proof.Machine
end

