-- ==== Sys2Proof/Machine/Journal.lean ====
section
/-! DEFINITION. COMMIT, the energy account, the durable-pending region and Anvil (chapter 8). -/

namespace Sys2Proof.Machine

/-! ## The reserve (R268, R271) -/

/-- Integer square root, rounded down, bit by bit from bit `n - 1`. -/
def isqrtFrom : Nat → Nat → Nat → Nat
  | 0, r, _ => r
  | n + 1, r, x => isqrtFrom n (if (r + 2 ^ n) * (r + 2 ^ n) ≤ x then r + 2 ^ n else r) x

def isqrt (x : Nat) : Nat := isqrtFrom 80 0 x

def isqrtUp (x : Nat) : Nat := if isqrt x * isqrt x == x then isqrt x else isqrt x + 1

/-- The reserve in mJ for C in µF, R in µΩ, V in mV (R268), rounded down. -/
def reserveOf (uf uohm mv : Nat) : Nat :=
  let d := 25000000 + 500 * uohm
  let k := 4 * mv * mv
  let veff := 25000000 + d
  (93 * uf * (k - veff) - isqrtUp ((930000 * uf) * (930000 * uf) * d)) / 800000000000

/-- Half C V squared in mJ (OD 1100h.02), with the assumed C before the first self-test (R268). -/
def Store.stored (e : Store) : Nat := (if e.held then e.uf else 310000) * e.mv * e.mv / 2000000000

/-- The stored energy is below `pct` hundredths of that at full charge (Table 1.8 bit 1, R271). -/
def Store.below (e : Store) (pct : Nat) : Bool :=
  let c := if e.held then e.uf else 310000
  decide (e.mv * e.mv * 100 * (101 * c) < pct * min (256000000 * (101 * c)) 4000000000000000)

/-- Voltage of full charge, mV (R271). -/
def vFull (uf : Nat) : Nat := min 16000 (isqrt (4000000000000000 / (101 * uf)))

/-- The admissible pending data in MiB (OD 1100h.07). -/
def State.admissible (s : State) : Nat :=
  min s.md.ceiling ((s.es.reserve * (100 - s.md.margin) - 250000) / 200)

/-! ## Charges and admission (R262, R263) -/

def up64 (n : Nat) : Nat := (n + 63) / 64 * 64

/-- Octets of `w` words in the octet view. -/
def wordOctets (w : Nat) : Nat := (9 * w + 1) / 2

/-- Region charge of an entry of `w` words (R262). -/
def regionCharge (w : Nat) : Nat := up64 (64 + wordOctets w)

/-- Size of a record whose body has `n` octets (R274). -/
def recordSize (n : Nat) : Nat := up64 (64 + n + 16)

def MiB : Nat := 1048576

/-- Everything in the region, in octets. -/
def State.pendingTotal (s : State) : Nat := s.jn.pending.foldl (fun a p => a + p.charge) 0

def State.pendingOf (s : State) (stream : Nat) : Nat :=
  s.jn.pending.foldl (fun a p => if p.stream == stream then a + p.charge else a) 0

def State.pendingMirror (s : State) : Nat :=
  s.jn.pending.foldl (fun a p => if (512 ≤ p.stream && p.stream < 1024) || p.stream == 1025 then a + p.charge else a) 0

/-- Anvil use of a stream: stored sizes plus pending charges (R263). -/
def State.anvilUse (s : State) (stream : Nat) : Nat :=
  s.jn.records.foldl (fun a r => if r.stream == stream then a + recordSize r.stored else a) 0 + s.pendingOf stream

/-- The admission rule, check 1 of R263, for `p` octets. -/
def State.ruleHolds (s : State) (p : Nat) : Bool :=
  decide (p * 200 + 250000 * MiB ≤ s.es.reserve * (100 - s.md.margin) * MiB)

/-- Checks 1 and 2 for `extra` octets more; nothing is admitted in a reserve fall (R265). -/
def State.regionAdmits (s : State) (extra : Nat) : Bool :=
  !s.es.short && s.ruleHolds (s.pendingTotal + extra) && decide (s.pendingTotal + extra ≤ s.md.ceiling * MiB)

def State.jt (s : State) (t : Nat) : JnTenant := tget s.jn.tenants JnTenant.init t

def State.setJt (s : State) (t : Nat) (v : JnTenant) : State :=
  { s with jn := { s.jn with tenants := tput s.jn.tenants JnTenant.init t v } }

/-- The acknowledgement policy of a new tenant: the default of the selected profile, Overcast's being Cirrus's (R29). -/
def State.defaultTwin (s : State) : Bool :=
  if s.md.selected == 2 then true else if s.md.selected == 4 then s.md.custom.ackTwin else false

/-- A tenant's policy: as its creation took it, or as set since (Table 1.9). -/
def State.ackTwin (s : State) (t : Nat) : Bool :=
  if (s.jt t).ackSet then (s.jt t).ackTwin else s.defaultTwin

/-- A channel's part of its tenant's mirrored configuration, its alternate target that of OD 1710h (R410). -/
def State.mirrorOfChan (s : State) (m : Nat) (c : Chan) : MirrorChannel :=
  let l := tget s.sv.alternate [] m
  { chan := m, localNo := c.localNo,
    cls := (match c.cls with | .c => 0 | .n => 1 | .send => 2 | .receive => 3),
    alternate := if l.all (· == 0) then none else some (octNat (l.take 2), octNat ((l.drop 2).take 1)),
    nsid := c.select, timeout := c.timeout, retire := c.retire }

/-- A tenant's configuration as the pair mirrors it (R407). -/
def State.configOf (s : State) (t : Nat) : MirrorConfig :=
  let j := s.jt t
  let h := tget s.ch.tenants ChTenant.init t
  let x := tget s.cx.tenants CxTenant.init t
  let i := tget s.ci.tenants CiTenant.init t
  let v := tget s.tn.tenants Tenant.init t
  { tenant := t, chanSlice := h.slice, ledgerQuota := h.quota, energyQuota := j.energyQuota, anvilQuota := j.anvilQuota,
    irqSlice := (tget s.ir.pages SrcPage.init t).slice, ringSlice := x.slice, cipherRings := i.ringSlice,
    handleSlice := i.handleSlice, fallbackRefuse := j.refuseFallback, sealing := j.sealing, epoch := j.epoch,
    twin := s.ackTwin t, failNow := j.failPolicy, waitLimit := j.waitLimit, compression := j.compression,
    laneLimit := x.laneLimit, coreLimit := i.coreLimit, hvPermitted := v.hvPermitted, drainTimeout := v.drainTimeout,
    channels := (s.ch.chans.filter (fun e => e.2.tenant == t)).map (fun e => s.mirrorOfChan e.1 e.2) }

/-- Mirror a tenant's configuration (R407). -/
def State.mirrorConfig (s : State) (t : Nat) : State := (s.mirrorOut t (.config (s.configOf t))).2

/-- The outcome of admission for an entry of `w` words of a tenant (R263). -/
inductive Admit where
  | yes | energyLow | journalFull
deriving DecidableEq, Repr

def State.admission (s : State) (t w : Nat) : Admit :=
  let j := s.jt t
  let c := regionCharge w
  if !s.regionAdmits c || j.energyQuota * MiB < s.pendingOf t + c then .energyLow
  else if j.anvilQuota * (2 * MiB) < s.anvilUse t + recordSize (wordOctets w) then .journalFull
  else .yes

/-! ## Segments (R273, R276) -/

def State.segUsed (s : State) (g : Nat) : Bool := s.jn.records.any (fun r => r.segment == g) || s.jn.retired.contains g

/-- Free pool segments (OD 1200h.01). -/
def State.segFree (s : State) : Nat :=
  ((List.range 4064).filter (fun i => !s.segUsed (i + 32))).length

/-- The next free segment after the last one allocated, wrapping from 4,095 to 32; spare segments are not free. -/
def State.nextSeg (s : State) : Option Nat :=
  ((List.range 4064).map (fun i => 32 + (s.jn.lastSeg - 31 + i) % 4064)).find?
    (fun g => !s.segUsed g && !s.jn.spares.contains g)

/-- A segment holds no record: a stream that writes into it allocates it. -/
def State.segNew (s : State) (g : Nat) : Bool := !s.jn.records.any (fun r => r.segment == g)

/-- The segment for a record of `size` octets of a stream: its newest segment if it fits, else the next free one. -/
def State.place (s : State) (stream size : Nat) : Option Nat :=
  match (s.jn.records.filter (fun r => r.stream == stream)).getLast? with
  | some r =>
    if tget s.jn.fill 0 r.segment + size ≤ 2 * MiB && !s.jn.retired.contains r.segment then some r.segment else s.nextSeg
  | none => s.nextSeg

/-- The spare pool is refilled from free segments up to 256 (R276). -/
def State.refill : Nat → State → State
  | 0, s => s
  | n + 1, s =>
    if 256 ≤ s.jn.spares.length then s else
    match s.nextSeg with
    | some g => State.refill n { s with jn := { s.jn with spares := s.jn.spares ++ [g], lastSeg := g } }
    | none => s

/-- A record of `size` octets goes into a segment: it is allocated, or filled further. -/
def State.intoSegment (s : State) (g size : Nat) : State :=
  let fresh := s.segNew g
  let spare := s.jn.spares.contains g
  let s := { s with jn := { s.jn with
    fill := tput s.jn.fill 0 g ((if fresh then 0 else tget s.jn.fill 0 g) + size),
    lastSeg := if fresh && !spare then g else s.jn.lastSeg,
    spares := s.jn.spares.filter (· != g) } }
  if spare then State.refill 256 s else s

/-- A segment in which a record failed write-verify is retired, and a spare one takes the record (R276): the first of the
pool. Nothing where the pool is spent. Assumption 65 (DESIGN CHOICE). -/
def State.retireFor (s : State) (g : Nat) : Option (Nat × State) :=
  s.jn.spares.head?.map (fun x =>
    (x, { s with jn := { s.jn with retired := s.jn.retired ++ [g], rewrites := s.jn.rewrites + 1,
                                   lastSeg := if s.segNew g then g else s.jn.lastSeg } }))

/-! ## Sealing (R277, R278, R343) -/

/-- Blocks of the cipher that sealing `n` octets takes: the data, the hash key and the tag's block. -/
def sealBlocksOf (n : Nat) : Nat := (n + 15) / 16 + 2

/-- The counter or the epoch key does not cover `n` entries and `blocks` blocks more (R278). -/
def JnTenant.epochOver (j : JnTenant) (n blocks : Nat) : Bool := 2 ^ 64 < j.counter + n || 2 ^ 40 < j.sealBlocks + blocks

/-- The key of the tenant's epoch is derived from its root key and placed in the sealing slot (R277, R343). -/
def State.loadEpoch (s : State) (t : Nat) : State :=
  let (n, s) := s.tick
  let j := s.jt t
  s.setJt t { j with epochKey := natOct 32 (Config.epochKey (j.rootKey.getD []) s.sv.serial j.epoch).toNat, sealBlocks := 0,
                     rootUsed := j.rootUsed + Config.derivationBlocks n % 9 }

/-- Take the next nonce of a tenant: epoch and counter, advancing the epoch when the counter would wrap or the epoch key
is exhausted; the reservation record covers the counter (2^20 values). -/
def State.sealNonce (s : State) (t blocks : Nat) : Nat × Nat × State :=
  let j := s.jt t
  let s := if j.epochOver 1 blocks && j.epoch + 1 < 2 ^ 32 then
      (s.setJt t { j with epoch := j.epoch + 1, counter := 0, reserved := 0 }).loadEpoch t
    else s
  let j := s.jt t
  (j.epoch, j.counter, s.setJt t { j with
    counter := j.counter + 1, sealBlocks := j.sealBlocks + blocks,
    reserved := if j.reserved ≤ j.counter then (j.counter / 2 ^ 20 + 1) * 2 ^ 20 else j.reserved })

/-- A sealed entry of `w` words more would take a tenant past its last epoch (R278): its pending sealed entries count, each
at its uncompressed length. Assumption 65 (DEDUCED). -/
def State.sealSpent (s : State) (t w : Nat) : Bool :=
  let j := s.jt t
  let mine := s.jn.pending.filter (fun p => p.stream == t && p.toSeal)
  let blocks := mine.foldl (fun a p => a + sealBlocksOf (wordOctets p.words.length)) (sealBlocksOf (wordOctets w))
  j.exhausted || (j.epoch + 1 == 2 ^ 32 && j.epochOver (mine.length + 1) blocks)

/-! ## Writing into Anvil (R275, R276) -/

/-- The words in the octet view. -/
def bodyOctets (ws : List Word) : List Octet :=
  let n := wordOctets ws.length
  (List.range n).map (fun k => octetOf (wordAt ws) k)

/-- Body length stored for an entry: compressed by R317 when that gains, else uncompressed. -/
def storedBody (compress : Bool) (ws : List Word) : Nat × Bool :=
  let n := wordOctets ws.length
  if compress then
    let out := (lzwStream false ⟨8, 18, []⟩ ((bodyOctets ws).map (·.toNat))).1.length + 32
    if out < n then (out, true) else (n, false)
  else (n, false)

/-- JN_WRITTEN: every entry up to it has passed write-verify. -/
def State.updateWritten (s : State) (t : Nat) : State :=
  let j := s.jt t
  let w := match s.jn.pending.find? (fun p => p.stream == t) with
    | some p => p.seq - 1
    | none => j.committed
  s.setJt t { j with written := max j.written w }

/-- The sealing of a record: its nonce, or for a mirrored entry the twin's epoch and a counter that the item does not name
(R277). Assumption 65 (DESIGN CHOICE). -/
def State.sealOf (s : State) (p : Pend) (n : Nat) : Nat × Nat × State :=
  if !p.toSeal then (0, 0, s)
  else if p.stream < 512 then s.sealNonce p.stream (sealBlocksOf n)
  else
    let (k, s) := s.tick
    (((s.tw.mConfig.find? (fun (c : MirrorConfig) => 512 + c.tenant == p.stream)).map (·.epoch)).getD 0, Config.mirrorCounter k, s)

/-- The stored body of a pending item: octets, and whether compressed. -/
def State.bodyOf (s : State) (p : Pend) (compress : Bool) : Nat × Bool :=
  storedBody (compress && p.toCompress && p.stream < 512 && (s.jt p.stream).compression) p.words

/-- Write one pending item as a record and take it out of the region. -/
def State.writeRecord (s : State) (p : Pend) (compress : Bool) (seg : Nat) : State :=
  let (n, cmp) := s.bodyOf p compress
  let (ep, ctr, s) := s.sealOf p n
  let r : Rec := { stream := p.stream, seq := p.seq, type := p.type, user := p.user, words := p.words, sealedRec := p.toSeal,
                   compressed := cmp, epoch := ep, counter := ctr, stored := n, segment := seg, time := p.time,
                   damaged := false }
  let s := s.intoSegment seg (recordSize n)
  let s := { s with jn := { s.jn with pending := s.jn.pending.erase p, records := s.jn.records ++ [r] } }
  if p.stream < 512 then s.updateWritten p.stream else s

/-- The background flush's next write of a stream and its verify (R275, R276). With the spare pool spent a failure is a
contained fault and the item stays for another write in the stream's own segments. -/
def State.entryWrite (s : State) (stream : Nat) (verified : Bool) : State :=
  match s.jn.pending.find? (fun p => p.stream == stream) with
  | none => s
  | some p =>
    match s.place stream (recordSize (s.bodyOf p true).1) with
    | none => s
    | some g =>
      if verified then s.writeRecord p true g
      else match s.retireFor g with
        | some (x, s) => s.writeRecord p true x
        | none => s.report 1217 2

/-- One item of a Dusk's or a halt's flush (Table 8.6 steps 3 and 4): written uncompressed; a record that fails
write-verify goes into a spare segment, up to 500 MiB of them. An item for which no segment is found is lost: the spec
does not say what becomes of it. `left` is what the rewriting may still take. Assumptions 62 and 65 (DESIGN CHOICE). -/
def State.flushItem (s : State) (p : Pend) (left : Nat) : State × Nat :=
  let size := recordSize (wordOctets p.words.length)
  let lose (s : State) : State := { s with jn := { s.jn with pending := s.jn.pending.erase p } }
  match s.place p.stream size with
  | none => (lose s, left)
  | some g =>
    let (n, s) := s.tick
    if !Config.flushFails n then (s.writeRecord p false g, left)
    else if left < size then (lose s, left)
    else match s.retireFor g with
      | some (x, s) => (s.writeRecord p false x, left - size)
      | none => (lose s, left)

/-- The last record of every stream: in Anvil, pending, or accepted. -/
def State.tails (s : State) : Tab Nat :=
  let c := s.jn.records.foldl (fun c r => tput c 0 r.stream (max (tget c 0 r.stream) r.seq)) ([] : Tab Nat)
  let c := s.jn.pending.foldl (fun c p => tput c 0 p.stream (max (tget c 0 p.stream) p.seq)) c
  s.jn.tenants.foldl (fun c e => tput c 0 e.1 (max (tget c 0 e.1) e.2.committed)) c

/-- Dusk step 3: every pending item in order, sealed where required, uncompressed; then closing records (Table 8.6). -/
def State.flushRegion (s : State) : State :=
  let tails := s.tails
  let s := (s.jn.pending.foldl (fun (a : State × Nat) p => a.1.flushItem p a.2) (s, 500 * MiB)).1
  { s with jn := { s.jn with closing := tails } }

/-- A record of the module's own stream, kept in the persistent configuration (R227). It waits for admission and is
never refused: one that the region does not take is in Anvil by the end of the step. Assumption 14 (DESIGN CHOICE). -/
def State.ownRecord (s : State) (type : Nat) (ws : List Word) : State :=
  let c := regionCharge ws.length
  let p : Pend := { stream := 1024, seq := s.jn.ownSeq, type := type, user := 0, words := ws, toSeal := false,
                    toCompress := false, charge := c, time := s.tm.tod }
  let s := { s with jn := { s.jn with ownSeq := s.jn.ownSeq + 1 } }
  if s.md.st == .run && s.regionAdmits c && s.pendingOf 1024 + c ≤ 64 * MiB then
    { s with jn := { s.jn with pending := s.jn.pending ++ [p] } }
  else match s.place 1024 (recordSize (wordOctets ws.length)) with
    | some g => { s with jn := { s.jn with pending := s.jn.pending ++ [p] } }.writeRecord p false g
    | none => s

/-! ## COMMIT (R255-R260) -/

/-- Status word of COM (R257). -/
def comWord (status seq : Nat) : Word := packW [(status, 30), (seq % 2 ^ 30, 0)]

/-- What the controller does with the first commit of a tenant's order. -/
inductive Decision where
  /-- answer with a status and a sequence number -/
  | answer (status seq : Nat)
  /-- admitted; wait for the twin -/
  | mirror
  | wait
deriving DecidableEq, Repr

/-- The tenant is being reset or deleted. -/
def State.drainingT (s : State) (t : Nat) : Bool :=
  (tget s.tn.tenants Tenant.init t).st == .draining || (tget s.tn.tenants Tenant.init t).st == .deleting

/-- The status of an entry that can be decided now; `expired` when its wait limit has passed (R259). -/
def State.decide1 (s : State) (t : Nat) (c : Commit) (expired : Bool) : Decision :=
  let j := s.jt t
  let twin := s.ackTwin t
  if s.drainingT t || (tget s.tn.tenants Tenant.init t).st == .stopped then .answer 5 0
  else if s.md.st != .run || s.md.stopping.isSome then .answer 2 0
  else if j.energyQuota == 0 || j.anvilQuota == 0 then .answer 8 0
  else if twin && s.tw.selfFence then .answer 7 0
  else if twin && !s.twinCovers t && j.refuseFallback then .answer 7 0
  else if c.toSeal && s.sealSpent t c.words.length then .answer 4 0
  else match s.admission t c.words.length with
    | .yes => if c.poisoned then .answer 9 0
              else if twin && s.twinCovers t then .mirror
              else .answer (if twin then 1 else 0) ((j.committed + 1) % 2 ^ 48)
    | .energyLow => if j.failPolicy || expired then .answer 2 0 else .wait
    | .journalFull => if j.failPolicy || expired then .answer 3 0 else .wait

/-- Take an admitted entry into the region under the next sequence number (R258, R262). -/
def State.acceptEntry (s : State) (t : Nat) (c : Commit) : State :=
  let j := s.jt t
  let n := (j.committed + 1) % 2 ^ 48
  let p : Pend := { stream := t, seq := n, type := 1, user := c.user, words := c.words, toSeal := c.toSeal,
                    toCompress := c.toCompress, charge := regionCharge c.words.length, time := s.tm.tod }
  let s := s.setJt t { j with committed := n }
  { s with jn := { s.jn with pending := s.jn.pending ++ [p] } }

/-- Withdraw the newest entry, admitted and never answered as durable (R266). -/
def State.withdraw (s : State) (t n : Nat) : State :=
  let s := s.setJt t { s.jt t with committed := (n + 2 ^ 48 - 1) % 2 ^ 48 }
  { s with jn := { s.jn with pending := s.jn.pending.filter (fun p => !(p.stream == t && p.seq == n)) } }

/-- Mark LOCALACK before the first DURABLE-LOCAL (R418). -/
def State.markLocal (s : State) (t : Nat) (status : Nat) : State :=
  if status == 1 && !(s.jt t).localAck then (s.setJt t { s.jt t with localAck := true }).ownRecord 4 [] else s

/-- Drop the first commit of the order and answer its core. -/
def State.finishCommit (s : State) (t : Nat) (c : Commit) (status seq : Nat) : State :=
  (s.setJt t { s.jt t with waiting := (s.jt t).waiting.drop 1 }).answerCore c.core (comWord status seq)

/-- Decide a tenant's commits strictly in order (R258); `fuel` bounds them. -/
def State.decideAll (fuel : Nat) (s : State) (t : Nat) (expired : Bool) : State :=
  match fuel with
  | 0 => s
  | f + 1 =>
    match (s.jt t).waiting with
    | [] => s
    | c :: rest =>
      if c.mirrored.isSome then s else
      match s.decide1 t c expired with
      | .wait => s
      | .answer st seq =>
        let s := if st == 0 || st == 1 then (s.markLocal t st).acceptEntry t c
          else if st == 4 then s.setJt t { s.jt t with exhausted := true } else s
        State.decideAll f (s.finishCommit t c st seq) t false
      | .mirror =>
        let s := s.acceptEntry t c
        let n := (s.jt t).committed
        let (i, s) := s.mirrorOut t (.entry t n c.user c.words c.toSeal)
        s.setJt t { s.jt t with waiting := { c with mirrored := i.map (fun k => (n, k)) } :: rest }

def State.decideTenant (s : State) (t : Nat) (expired : Bool) : State :=
  State.decideAll ((s.jt t).waiting.length + 1) s t expired

/-- Every tenant's commits, where a change of the account or of the pair may let them be decided. -/
def State.decideEvery (s : State) : State := s.jn.tenants.foldl (fun s e => s.decideTenant e.1 false) s

/-- The twin's answer for a mirrored entry (R260, R266): received covers it, not received withdraws it, and it waits or
fails under its tenant's policy. -/
def State.entryReceipt (s : State) (t : Nat) (received : Bool) : State :=
  match (s.jt t).waiting with
  | c :: rest =>
    match c.mirrored with
    | some (n, _) =>
      if received then (s.finishCommit t c 0 n).decideTenant t false
      else
        let s := s.withdraw t n
        if (s.jt t).failPolicy then (s.finishCommit t c 2 0).decideTenant t false
        else s.setJt t { s.jt t with waiting := { c with mirrored := none } :: rest }
    | none => s
  | [] => s

/-- The twin leaves service: commits awaiting it are decided by their fallback (Table 13.11). -/
def State.twinLost (s : State) : State :=
  s.jn.tenants.foldl (fun s e =>
    match (s.jt e.1).waiting with
    | c :: _ =>
      match c.mirrored with
      | some (n, _) =>
        if (s.jt e.1).refuseFallback || s.tw.selfFence then
          ((s.withdraw e.1 n).finishCommit e.1 c 7 0).decideTenant e.1 false
        else ((s.markLocal e.1 1).finishCommit e.1 c 1 n).decideTenant e.1 false
      | none => s.decideTenant e.1 false
    | [] => s) s

/-- A commit reaches the controller (R256 step 5). -/
def State.commitArrives (s : State) (t : Nat) (c : Commit) : State :=
  (s.setJt t { s.jt t with waiting := (s.jt t).waiting ++ [c] }).decideTenant t false

/-! ## Reading and releasing (R279, R280) -/

/-- An accepted entry still held: its words, label, and whether it is sealed and damaged. -/
def State.entry (s : State) (t n : Nat) : Option (List Word × Word × Bool × Bool) :=
  match s.jn.records.find? (fun r => r.stream == t && r.seq == n && r.type == 1) with
  | some r => some (r.words, r.user, r.sealedRec, r.damaged)
  | none => (s.jn.pending.find? (fun p => p.stream == t && p.seq == n)).map (fun p => (p.words, p.user, p.toSeal, false))

/-- Entries copied from sequence `n`: (words written, entries, a damaged one seen). -/
def State.jnCopy (t base size : Nat) : Nat → State → Nat → Nat → Nat → Bool → State × Nat × Nat × Bool
  | 0, s, _, off, cnt, dmg => (s, off, cnt, dmg)
  | fuel + 1, s, n, off, cnt, dmg =>
    if (s.jt t).committed < n then (s, off, cnt, dmg) else
    match s.entry t n with
    | none => (s, off, cnt, dmg)
    | some (ws, user, sealedE, damaged) =>
      let need := 4 + (if damaged then 0 else ws.length)
      if size < off + need then (s, off, cnt, dmg) else
      let hdr := [packW [(n / 2 ^ 36, 0)], packW [(n % 2 ^ 36, 0)],
                  packW [(b2n sealedE, 35), (b2n damaged, 33), (ws.length, 0)], user]
      let s := s.agentWrWords journalAgent t (base + off) (hdr ++ if damaged then [] else ws)
      State.jnCopy t base size fuel s (n + 1) (off + need) (cnt + 1) (dmg || damaged)

/-- The pages a word range touches. -/
def rangePages (a n : Nat) : List Nat :=
  if n = 0 then [] else (List.range ((a + n - 1) / 4096 + 1 - a / 4096)).map (fun i => (a / 4096 + i) * 4096)

/-- Records of a tenant whose tag, CRC or header fails as a read comes to them (R279). -/
def State.readFailures (s : State) (t : Nat) : State :=
  let (n, s) := s.tick
  { s with jn := { s.jn with records := s.jn.records.map (fun (r : Rec) =>
    if r.stream == t then { r with damaged := r.damaged || Config.recordFails n r.seq } else r) } }

/-- JN_RD_CTRL.BUSY: the home has not acknowledged every write of the last read. -/
def State.jnBusy (s : State) (t : Nat) : Bool :=
  (s.jt t).rdLines.any (fun l => s.dy.agents.any (fun e => e.1 == journalAgent * 2 ^ 36 + l && e.2.st == .writing))

/-- JN_RD_CTRL.GO (R279); ignored while BUSY. Assumption 48 (DEDUCED). -/
def State.jnRead (s : State) (t : Nat) : State :=
  let j := s.jt t
  let done (s : State) (r e w : Nat) (d : Bool) : State :=
    s.setJt t { s.jt t with
      rdResult := r, rdEntries := e, rdWords := w, damaged := (s.jt t).damaged || d,
      rdLines := (s.dy.agents.filter (fun e => e.1 / 2 ^ 36 == journalAgent && e.2.st == .writing)).map (·.1 % 2 ^ 36) }
  if s.jnBusy t then s
  else if j.rdFrom ≤ j.released || j.committed < j.rdFrom || (s.entry t j.rdFrom).isNone then done s 2 0 0 false
  else if !s.agentOk t Need.store (rangePages j.rdBase j.rdSize) then done s 4 0 0 false
  else
    let s := s.readFailures t
    let (s', w, e, d) := State.jnCopy t j.rdBase j.rdSize 32767 s j.rdFrom 0 0 false
    if e == 0 then done s 3 0 0 false else done s' 1 e w d

/-- Free the records and pending entries of a tenant up to a sequence (R280). -/
def State.jnRelease (s : State) (t n : Nat) : State :=
  let s := s.setJt t { s.jt t with released := n }
  let s := { s with jn := { s.jn with records := s.jn.records.filter (fun r => !(r.stream == t && r.seq ≤ n)),
                                      pending := s.jn.pending.filter (fun p => !(p.stream == t && p.seq ≤ n)) } }
  (s.updateWritten t).decideEvery

/-- REJECT bit of JN_STATUS for the writer's role (R476). -/
def State.jnReject (s : State) (t : Nat) (r : Role) : State :=
  match r with
  | .h => s.setJt t { s.jt t with rejectH := true }
  | .g => s.setJt t { s.jt t with rejectG := true }
  | _ => s

/-- Roles Z, H and G hold the write rights of the tenant journal page (Table 8.12). -/
def roleZHG (r : Role) : Bool := r == .z || r == .h || r == .g

/-- A write of JN_RELEASE_HI and _LO together (R287); a value below the present one or above JN_COMMITTED is reserved. -/
def State.jnReleaseWrite (s : State) (a : Accessor) (t v : Nat) : State :=
  if !roleZHG a.role then s
  else if v < (s.jt t).released || (s.jt t).committed < v then s.jnReject t a.role
  else s.jnRelease t v

/-- A write of JN_RD_CTRL. Assumption 48 (DEDUCED). -/
def State.jnCtrlWrite (s : State) (a : Accessor) (t : Nat) (w : Word) : State :=
  if roleZHG a.role && bit w 35 then s.jnRead t else s

end Sys2Proof.Machine
end

