-- ==== Sys2Proof/Machine/ObjTable.lean ====
section
/-! DEFINITION. The object dictionary: every index, sub-index, type and access column of the object tables (R13, R423). -/

namespace Sys2Proof.Machine

/-- Object types (Table 14.1): unsigned and signed integers by their octets; ENUM8 is U8, TIME64 is U64. -/
inductive OType where
  | u (octets : Nat)
  | i (octets : Nat)
  | w36
  | d72
  | bool
  | str (n : Nat)
  | blob (n : Nat)
deriving DecidableEq, Repr

/-- A row: index, first and last sub-index, type, and the rights of O, N, S, H, T, P: 0 none, 1 r, 2 w, 3 rw. -/
structure ObjRow where
  index : Nat
  lo : Nat
  hi : Nat
  ty : OType
  rights : List Nat
deriving DecidableEq, Repr

def objRows0 : List ObjRow :=
  [⟨0x0100, 0, 0, .u 1, [1, 1, 1, 1, 0, 1]⟩,
   ⟨0x0100, 1, 1, .u 8, [1, 1, 1, 1, 0, 1]⟩,
   ⟨0x0100, 2, 2, .str 12, [1, 1, 1, 1, 0, 1]⟩,
   ⟨0x0100, 3, 3, .u 1, [1, 1, 1, 1, 0, 1]⟩,
   ⟨0x0100, 4, 4, .u 1, [1, 1, 1, 1, 0, 1]⟩,
   ⟨0x0100, 5, 5, .bool, [1, 1, 1, 1, 0, 1]⟩,
   ⟨0x0110, 0, 0, .u 1, [1, 1, 1, 1, 0, 0]⟩,
   ⟨0x0110, 1, 1, .u 1, [3, 1, 1, 1, 0, 0]⟩,
   ⟨0x0110, 2, 2, .u 2, [3, 1, 1, 1, 0, 0]⟩,
   ⟨0x0110, 3, 3, .u 2, [1, 1, 1, 1, 0, 0]⟩,
   ⟨0x0200, 0, 0, .u 1, [1, 1, 1, 1, 0, 0]⟩,
   ⟨0x0200, 1, 1, .u 1, [1, 1, 1, 1, 0, 1]⟩,
   ⟨0x0200, 2, 2, .u 1, [3, 1, 1, 1, 0, 0]⟩,
   ⟨0x0200, 3, 3, .u 1, [1, 1, 1, 1, 0, 0]⟩,
   ⟨0x0200, 4, 4, .u 2, [3, 1, 1, 1, 0, 0]⟩,
   ⟨0x0200, 5, 5, .u 8, [1, 1, 1, 1, 0, 0]⟩,
   ⟨0x0200, 6, 6, .u 1, [1, 1, 1, 1, 0, 0]⟩,
   ⟨0x0300, 0, 0, .u 1, [1, 1, 1, 1, 0, 0]⟩,
   ⟨0x0300, 1, 1, .u 1, [1, 1, 1, 1, 0, 1]⟩,
   ⟨0x0300, 2, 2, .bool, [3, 1, 1, 1, 0, 0]⟩,
   ⟨0x0300, 3, 3, .bool, [1, 1, 1, 1, 0, 1]⟩,
   ⟨0x0300, 4, 4, .blob 32, [2, 0, 0, 0, 0, 0]⟩,
   ⟨0x0300, 5, 5, .blob 32, [2, 0, 0, 0, 0, 0]⟩,
   ⟨0x0300, 6, 6, .blob 32, [2, 0, 0, 0, 0, 0]⟩,
   ⟨0x0300, 7, 7, .u 1, [1, 1, 1, 1, 0, 0]⟩,
   ⟨0x0300, 8, 8, .bool, [3, 1, 1, 1, 0, 0]⟩,
   ⟨0x1000, 0, 0, .u 1, [1, 1, 1, 1, 0, 1]⟩,
   ⟨0x1000, 1, 1, .u 1, [3, 1, 1, 1, 0, 0]⟩,
   ⟨0x1000, 2, 2, .u 1, [1, 1, 1, 1, 0, 0]⟩,
   ⟨0x1000, 3, 3, .u 1, [1, 1, 1, 1, 0, 0]⟩]

def objRows1 : List ObjRow :=
  [⟨0x1000, 4, 4, .bool, [1, 1, 1, 1, 0, 0]⟩,
   ⟨0x1000, 5, 8, .u 2, [1, 1, 1, 1, 0, 0]⟩,
   ⟨0x1000, 9, 9, .u 1, [1, 1, 1, 1, 0, 0]⟩,
   ⟨0x1000, 10, 10, .bool, [3, 3, 1, 0, 0, 0]⟩,
   ⟨0x1000, 11, 11, .u 1, [1, 1, 1, 1, 0, 1]⟩,
   ⟨0x1000, 12, 12, .u 1, [2, 2, 0, 0, 0, 0]⟩,
   ⟨0x1001, 0, 0, .u 1, [1, 1, 1, 1, 0, 0]⟩,
   ⟨0x1001, 1, 1, .u 2, [3, 1, 1, 1, 0, 0]⟩,
   ⟨0x1001, 2, 2, .bool, [3, 1, 1, 1, 0, 0]⟩,
   ⟨0x1001, 3, 3, .bool, [3, 1, 1, 1, 0, 0]⟩,
   ⟨0x1001, 4, 4, .u 4, [3, 1, 1, 1, 0, 0]⟩,
   ⟨0x1001, 5, 5, .u 1, [3, 1, 1, 1, 0, 0]⟩,
   ⟨0x1001, 6, 6, .u 1, [3, 1, 1, 1, 0, 0]⟩,
   ⟨0x1001, 7, 7, .u 1, [3, 1, 1, 1, 0, 0]⟩,
   ⟨0x1001, 8, 8, .u 2, [3, 1, 1, 1, 0, 0]⟩,
   ⟨0x1100, 0, 0, .u 1, [1, 1, 1, 1, 0, 0]⟩,
   ⟨0x1100, 1, 1, .u 4, [1, 1, 1, 1, 0, 0]⟩,
   ⟨0x1100, 2, 2, .u 4, [1, 1, 1, 1, 0, 0]⟩,
   ⟨0x1100, 3, 3, .u 4, [1, 1, 1, 1, 0, 0]⟩,
   ⟨0x1100, 4, 4, .u 4, [1, 1, 1, 1, 0, 0]⟩,
   ⟨0x1100, 5, 5, .u 8, [1, 1, 1, 1, 0, 0]⟩,
   ⟨0x1100, 6, 6, .u 1, [1, 1, 1, 1, 0, 0]⟩,
   ⟨0x1100, 7, 7, .u 4, [1, 1, 1, 1, 0, 0]⟩,
   ⟨0x1100, 8, 8, .u 4, [3, 1, 1, 1, 0, 0]⟩,
   ⟨0x1100, 9, 9, .u 1, [2, 0, 2, 0, 0, 0]⟩,
   ⟨0x1100, 10, 10, .u 4, [1, 1, 1, 1, 0, 0]⟩,
   ⟨0x1100, 11, 11, .u 4, [1, 1, 1, 1, 0, 0]⟩,
   ⟨0x1100, 12, 12, .u 4, [1, 1, 1, 1, 0, 0]⟩,
   ⟨0x1200, 0, 0, .u 1, [1, 1, 1, 1, 0, 0]⟩,
   ⟨0x1200, 1, 1, .u 2, [1, 1, 1, 1, 0, 0]⟩]

def objRows2 : List ObjRow :=
  [⟨0x1200, 2, 2, .u 4, [1, 0, 0, 1, 0, 0]⟩,
   ⟨0x1200, 3, 3, .u 2, [1, 1, 1, 1, 0, 0]⟩,
   ⟨0x1200, 4, 4, .u 8, [1, 1, 1, 1, 0, 0]⟩,
   ⟨0x1200, 5, 5, .u 4, [3, 1, 1, 1, 0, 0]⟩,
   ⟨0x1200, 6, 6, .u 4, [1, 1, 1, 1, 0, 0]⟩,
   ⟨0x1200, 7, 7, .u 4, [1, 1, 1, 1, 0, 0]⟩,
   ⟨0x1210, 1, 1, .u 2, [3, 1, 1, 3, 0, 0]⟩,
   ⟨0x1210, 2, 2, .u 4, [3, 1, 1, 3, 0, 0]⟩,
   ⟨0x1210, 3, 3, .u 2, [3, 1, 1, 3, 0, 0]⟩,
   ⟨0x1210, 4, 4, .u 1, [3, 1, 1, 3, 0, 0]⟩,
   ⟨0x1210, 5, 5, .u 1, [3, 1, 1, 3, 0, 0]⟩,
   ⟨0x1210, 6, 6, .u 4, [3, 1, 1, 3, 0, 0]⟩,
   ⟨0x1210, 7, 7, .u 1, [3, 1, 1, 3, 0, 0]⟩,
   ⟨0x1210, 8, 8, .bool, [3, 1, 1, 3, 0, 0]⟩,
   ⟨0x1210, 9, 9, .bool, [3, 1, 1, 3, 0, 0]⟩,
   ⟨0x1210, 10, 10, .u 4, [1, 1, 1, 1, 0, 0]⟩,
   ⟨0x1210, 11, 11, .u 1, [2, 0, 0, 2, 0, 0]⟩,
   ⟨0x1300, 0, 0, .u 1, [1, 1, 1, 1, 0, 0]⟩,
   ⟨0x1300, 1, 1, .u 2, [1, 1, 1, 1, 0, 0]⟩,
   ⟨0x1300, 2, 2, .u 4, [1, 1, 1, 1, 0, 0]⟩,
   ⟨0x1300, 3, 3, .u 4, [1, 1, 1, 1, 0, 0]⟩,
   ⟨0x1300, 4, 4, .u 4, [1, 1, 1, 1, 0, 0]⟩,
   ⟨0x1300, 5, 5, .u 8, [1, 1, 1, 1, 0, 0]⟩,
   ⟨0x1300, 6, 6, .u 8, [1, 1, 1, 1, 0, 0]⟩,
   ⟨0x1300, 7, 7, .u 8, [1, 1, 1, 1, 0, 0]⟩,
   ⟨0x1300, 8, 8, .u 8, [1, 1, 1, 1, 0, 0]⟩,
   ⟨0x1300, 9, 9, .u 8, [1, 1, 1, 1, 0, 0]⟩,
   ⟨0x1301, 1, 8, .u 1, [3, 1, 1, 3, 0, 0]⟩,
   ⟨0x1310, 1, 1, .blob 20, [2, 0, 0, 2, 0, 0]⟩,
   ⟨0x1310, 2, 2, .u 2, [3, 1, 1, 3, 0, 0]⟩]

def objRows3 : List ObjRow :=
  [⟨0x1310, 3, 3, .blob 20, [1, 1, 1, 1, 0, 0]⟩,
   ⟨0x1310, 4, 4, .u 8, [1, 0, 0, 1, 0, 0]⟩,
   ⟨0x1311, 1, 1, .u 2, [3, 1, 1, 3, 0, 0]⟩,
   ⟨0x1311, 2, 2, .u 4, [3, 1, 1, 3, 0, 0]⟩,
   ⟨0x1311, 3, 3, .u 2, [3, 1, 1, 3, 0, 0]⟩,
   ⟨0x1320, 1, 1, .u 2, [3, 1, 1, 1, 0, 0]⟩,
   ⟨0x1320, 2, 2, .blob 32, [2, 0, 0, 0, 0, 0]⟩,
   ⟨0x1320, 3, 3, .blob 16, [3, 1, 1, 1, 0, 0]⟩,
   ⟨0x1320, 4, 4, .u 1, [1, 1, 1, 1, 0, 0]⟩,
   ⟨0x1320, 5, 5, .u 1, [3, 1, 1, 1, 0, 0]⟩,
   ⟨0x1320, 6, 6, .bool, [3, 1, 1, 1, 0, 0]⟩,
   ⟨0x1320, 7, 7, .u 1, [1, 1, 1, 1, 0, 0]⟩,
   ⟨0x1320, 8, 8, .u 8, [3, 1, 1, 1, 0, 0]⟩,
   ⟨0x1330, 1, 1, .bool, [3, 1, 1, 1, 0, 0]⟩,
   ⟨0x1330, 2, 2, .bool, [3, 1, 1, 1, 0, 0]⟩,
   ⟨0x1330, 3, 3, .u 4, [3, 1, 1, 3, 0, 0]⟩,
   ⟨0x1330, 4, 4, .u 1, [1, 1, 1, 1, 0, 0]⟩,
   ⟨0x1330, 5, 5, .blob 48, [1, 1, 1, 1, 0, 0]⟩,
   ⟨0x1400, 0, 0, .u 1, [1, 1, 1, 1, 0, 0]⟩,
   ⟨0x1400, 1, 1, .u 1, [1, 1, 1, 1, 0, 0]⟩,
   ⟨0x1400, 2, 2, .u 1, [1, 1, 1, 1, 0, 0]⟩,
   ⟨0x1400, 3, 3, .u 8, [1, 1, 1, 1, 0, 0]⟩,
   ⟨0x1400, 4, 4, .u 8, [1, 1, 1, 1, 0, 0]⟩,
   ⟨0x1400, 5, 5, .u 8, [1, 1, 1, 1, 0, 0]⟩,
   ⟨0x1400, 6, 6, .u 2, [1, 1, 1, 1, 0, 0]⟩,
   ⟨0x1400, 7, 7, .u 1, [3, 1, 1, 1, 0, 0]⟩,
   ⟨0x1401, 0, 0, .u 1, [1, 1, 1, 1, 0, 0]⟩,
   ⟨0x1401, 1, 1, .u 2, [3, 1, 1, 3, 0, 0]⟩,
   ⟨0x1401, 2, 2, .u 1, [3, 1, 1, 3, 0, 0]⟩,
   ⟨0x1401, 3, 3, .u 1, [3, 1, 1, 3, 0, 0]⟩]

def objRows4 : List ObjRow :=
  [⟨0x1410, 0, 0, .u 1, [1, 1, 1, 1, 0, 0]⟩,
   ⟨0x1410, 1, 1, .u 1, [1, 1, 1, 1, 0, 0]⟩,
   ⟨0x1410, 2, 2, .u 1, [1, 1, 1, 1, 0, 0]⟩,
   ⟨0x1410, 3, 3, .u 8, [1, 1, 1, 1, 0, 0]⟩,
   ⟨0x1410, 4, 4, .u 8, [1, 1, 1, 1, 0, 0]⟩,
   ⟨0x1410, 5, 5, .u 2, [1, 1, 1, 1, 0, 0]⟩,
   ⟨0x1410, 6, 6, .u 8, [1, 1, 1, 1, 0, 0]⟩,
   ⟨0x1410, 7, 7, .u 2, [1, 1, 1, 1, 0, 0]⟩,
   ⟨0x1410, 8, 8, .u 1, [3, 1, 1, 1, 0, 0]⟩,
   ⟨0x1411, 0, 0, .u 1, [1, 1, 1, 1, 0, 0]⟩,
   ⟨0x1411, 1, 1, .u 2, [3, 1, 1, 3, 0, 0]⟩,
   ⟨0x1411, 2, 2, .u 1, [3, 1, 1, 3, 0, 0]⟩,
   ⟨0x1411, 3, 3, .u 2, [3, 1, 1, 3, 0, 0]⟩,
   ⟨0x1411, 4, 4, .u 1, [3, 1, 1, 3, 0, 0]⟩,
   ⟨0x1500, 0, 0, .u 1, [1, 1, 1, 1, 0, 0]⟩,
   ⟨0x1500, 1, 1, .u 2, [3, 1, 1, 3, 0, 0]⟩,
   ⟨0x1500, 2, 2, .u 1, [2, 0, 0, 2, 0, 0]⟩,
   ⟨0x1500, 3, 3, .u 1, [1, 1, 1, 1, 0, 0]⟩,
   ⟨0x1500, 4, 4, .bool, [3, 1, 1, 1, 0, 0]⟩,
   ⟨0x1500, 5, 5, .d72, [1, 0, 0, 1, 0, 0]⟩,
   ⟨0x1500, 6, 6, .u 4, [3, 1, 1, 3, 0, 0]⟩,
   ⟨0x1500, 7, 7, .u 4, [1, 0, 0, 1, 0, 0]⟩,
   ⟨0x1500, 8, 8, .u 2, [1, 1, 1, 1, 0, 0]⟩,
   ⟨0x1500, 9, 9, .bool, [1, 1, 1, 1, 0, 1]⟩,
   ⟨0x1500, 10, 10, .u 1, [2, 2, 2, 2, 0, 0]⟩,
   ⟨0x1500, 11, 11, .blob 8192, [1, 1, 1, 1, 1, 1]⟩,
   ⟨0x1500, 12, 12, .u 1, [3, 1, 1, 1, 0, 0]⟩,
   ⟨0x1500, 13, 13, .u 1, [3, 1, 1, 1, 0, 0]⟩,
   ⟨0x1500, 14, 14, .u 4, [1, 1, 1, 1, 0, 0]⟩,
   ⟨0x1500, 15, 15, .u 1, [3, 1, 1, 1, 0, 0]⟩]

def objRows5 : List ObjRow :=
  [⟨0x1500, 16, 16, .blob 240, [1, 1, 1, 1, 1, 1]⟩,
   ⟨0x1500, 17, 17, .u 2, [1, 1, 1, 1, 0, 0]⟩,
   ⟨0x1500, 18, 18, .u 4, [1, 1, 1, 1, 0, 0]⟩,
   ⟨0x1520, 0, 0, .u 1, [1, 1, 1, 1, 0, 0]⟩,
   ⟨0x1520, 1, 1, .u 2, [3, 1, 1, 3, 0, 0]⟩,
   ⟨0x1520, 2, 2, .u 2, [3, 1, 1, 3, 0, 0]⟩,
   ⟨0x1520, 3, 3, .u 2, [3, 1, 1, 3, 0, 0]⟩,
   ⟨0x1520, 4, 4, .u 2, [1, 1, 1, 1, 0, 0]⟩,
   ⟨0x1600, 0, 0, .u 1, [1, 1, 1, 1, 0, 0]⟩,
   ⟨0x1600, 1, 1, .u 4, [1, 1, 1, 1, 0, 0]⟩,
   ⟨0x1600, 2, 2, .u 8, [1, 1, 1, 1, 0, 0]⟩,
   ⟨0x1600, 3, 3, .u 2, [3, 1, 1, 3, 0, 0]⟩,
   ⟨0x1600, 4, 4, .u 2, [1, 1, 1, 1, 0, 0]⟩,
   ⟨0x1600, 5, 5, .u 2, [1, 1, 1, 1, 0, 0]⟩,
   ⟨0x1600, 6, 6, .u 1, [2, 2, 2, 0, 0, 0]⟩,
   ⟨0x1600, 7, 7, .u 2, [1, 1, 1, 1, 0, 0]⟩,
   ⟨0x1610, 0, 0, .u 1, [1, 1, 1, 1, 0, 0]⟩,
   ⟨0x1610, 1, 1, .u 2, [3, 1, 3, 3, 0, 0]⟩,
   ⟨0x1610, 2, 2, .u 1, [3, 1, 1, 3, 0, 0]⟩,
   ⟨0x1610, 3, 3, .u 4, [3, 1, 1, 3, 0, 0]⟩,
   ⟨0x1610, 4, 4, .u 1, [1, 1, 1, 1, 0, 0]⟩,
   ⟨0x1610, 5, 5, .u 1, [2, 0, 2, 0, 0, 0]⟩,
   ⟨0x1620, 0, 0, .u 1, [1, 1, 1, 1, 0, 0]⟩,
   ⟨0x1620, 1, 1, .u 1, [3, 1, 1, 1, 0, 0]⟩,
   ⟨0x1620, 2, 2, .u 4, [0, 0, 2, 0, 0, 0]⟩,
   ⟨0x1620, 3, 3, .u 4, [1, 1, 1, 1, 0, 0]⟩,
   ⟨0x1700, 0, 0, .u 1, [1, 1, 1, 1, 0, 0]⟩,
   ⟨0x1700, 1, 1, .bool, [3, 1, 1, 1, 0, 0]⟩,
   ⟨0x1700, 2, 2, .u 8, [3, 1, 1, 1, 0, 0]⟩,
   ⟨0x1700, 3, 3, .u 1, [1, 1, 1, 1, 0, 0]⟩]

def objRows6 : List ObjRow :=
  [⟨0x1700, 4, 4, .u 8, [1, 1, 1, 1, 0, 0]⟩,
   ⟨0x1700, 5, 5, .u 4, [1, 1, 1, 1, 0, 0]⟩,
   ⟨0x1700, 6, 6, .u 4, [1, 1, 1, 1, 0, 0]⟩,
   ⟨0x1700, 7, 7, .u 2, [1, 1, 1, 1, 0, 0]⟩,
   ⟨0x1700, 8, 8, .u 2, [1, 1, 1, 1, 0, 0]⟩,
   ⟨0x1700, 9, 9, .u 1, [2, 2, 0, 2, 0, 0]⟩,
   ⟨0x1700, 10, 10, .bool, [1, 1, 1, 1, 0, 0]⟩,
   ⟨0x1710, 1, 1, .u 2, [3, 1, 1, 3, 0, 0]⟩,
   ⟨0x1710, 2, 2, .blob 6, [3, 1, 1, 3, 0, 0]⟩,
   ⟨0x1800, 0, 0, .u 1, [1, 1, 1, 1, 0, 0]⟩,
   ⟨0x1800, 1, 1, .u 1, [1, 1, 1, 1, 0, 1]⟩,
   ⟨0x1800, 2, 2, .u 1, [1, 1, 1, 1, 0, 0]⟩,
   ⟨0x1800, 3, 4, .u 1, [1, 1, 1, 1, 0, 0]⟩,
   ⟨0x1800, 5, 6, .u 4, [1, 1, 1, 1, 0, 1]⟩,
   ⟨0x1800, 7, 7, .u 1, [1, 1, 1, 1, 0, 1]⟩,
   ⟨0x1800, 8, 8, .u 1, [1, 1, 1, 1, 0, 1]⟩,
   ⟨0x1800, 9, 9, .u 4, [1, 1, 1, 1, 0, 0]⟩,
   ⟨0x1800, 10, 10, .u 1, [2, 2, 2, 0, 0, 0]⟩,
   ⟨0x1800, 11, 11, .u 1, [1, 1, 1, 1, 0, 0]⟩,
   ⟨0x1800, 12, 12, .bool, [3, 1, 1, 1, 0, 0]⟩,
   ⟨0x1900, 0, 0, .u 1, [1, 1, 1, 1, 0, 0]⟩,
   ⟨0x1900, 1, 1, .u 1, [3, 1, 1, 1, 0, 0]⟩,
   ⟨0x1900, 2, 2, .u 1, [1, 1, 1, 1, 0, 0]⟩,
   ⟨0x1900, 3, 3, .u 1, [1, 1, 1, 1, 0, 0]⟩,
   ⟨0x1900, 4, 4, .u 1, [1, 1, 1, 1, 0, 0]⟩,
   ⟨0x1900, 5, 5, .u 4, [1, 1, 1, 1, 0, 0]⟩,
   ⟨0x1900, 6, 6, .u 2, [1, 1, 1, 1, 0, 0]⟩,
   ⟨0x1900, 7, 7, .u 1, [1, 1, 1, 1, 0, 0]⟩,
   ⟨0x1900, 8, 8, .u 8, [1, 1, 1, 1, 0, 0]⟩,
   ⟨0x1900, 9, 9, .u 8, [1, 1, 1, 1, 0, 0]⟩]

def objRows7 : List ObjRow :=
  [⟨0x1900, 10, 10, .u 4, [1, 1, 1, 1, 0, 0]⟩,
   ⟨0x1900, 11, 11, .blob 13, [1, 1, 1, 1, 0, 0]⟩,
   ⟨0x1900, 12, 12, .u 1, [2, 0, 2, 0, 0, 0]⟩,
   ⟨0x1901, 0, 0, .u 1, [1, 1, 1, 1, 0, 0]⟩,
   ⟨0x1901, 1, 100, .u 2, [1, 1, 1, 1, 0, 0]⟩,
   ⟨0x1902, 0, 0, .u 1, [1, 1, 1, 1, 0, 0]⟩,
   ⟨0x1902, 1, 1, .blob 48, [3, 1, 1, 1, 0, 0]⟩,
   ⟨0x1902, 2, 2, .blob 48, [3, 1, 1, 1, 0, 0]⟩,
   ⟨0x1902, 3, 3, .blob 32768, [2, 0, 0, 0, 0, 0]⟩,
   ⟨0x1902, 4, 4, .u 1, [2, 0, 0, 0, 0, 0]⟩,
   ⟨0x1902, 5, 5, .u 1, [1, 1, 1, 1, 0, 0]⟩,
   ⟨0x1902, 6, 6, .u 4, [1, 1, 1, 1, 0, 0]⟩,
   ⟨0x1902, 7, 7, .u 4, [1, 1, 1, 1, 0, 0]⟩,
   ⟨0x1902, 8, 8, .u 2, [1, 1, 1, 1, 0, 0]⟩,
   ⟨0x1A00, 0, 0, .u 1, [1, 1, 1, 1, 0, 0]⟩,
   ⟨0x1A00, 1, 1, .bool, [3, 3, 3, 3, 0, 0]⟩,
   ⟨0x1A00, 2, 2, .u 1, [1, 1, 1, 1, 0, 1]⟩,
   ⟨0x1A00, 3, 3, .u 1, [1, 1, 1, 1, 0, 0]⟩,
   ⟨0x1A00, 4, 4, .u 1, [1, 1, 1, 1, 0, 1]⟩,
   ⟨0x1A00, 5, 5, .u 1, [1, 1, 1, 1, 0, 1]⟩,
   ⟨0x1B00, 0, 0, .u 1, [1, 1, 1, 1, 0, 0]⟩,
   ⟨0x1B00, 1, 1, .i 4, [1, 1, 1, 1, 0, 0]⟩,
   ⟨0x1B00, 2, 2, .i 4, [1, 1, 1, 1, 0, 0]⟩,
   ⟨0x1B00, 3, 3, .u 4, [1, 1, 1, 1, 0, 0]⟩,
   ⟨0x1B00, 4, 4, .u 4, [1, 1, 1, 1, 0, 0]⟩,
   ⟨0x1B00, 5, 5, .u 4, [1, 1, 1, 1, 0, 0]⟩]

/-- All rows of the module-wide tables. -/
def objRows : List ObjRow :=
  objRows0 ++ objRows1 ++ objRows2 ++ objRows3 ++ objRows4 ++ objRows5 ++ objRows6 ++ objRows7

end Sys2Proof.Machine
end

