-- ==== Sys2Proof/Machine/Access.lean ====
section
/-! DEFINITION. Roles, rights and abort codes of object accesses (R423-R429, R442, R474, Table 14.3). -/

namespace Sys2Proof.Machine

/-- The privilege level in a state word (Table 2.2). -/
def swPL (sw : DWord) : Nat := fld sw 71 70

/-- The roles of Table 14.2. -/
inductive ORole where
  | owner | operator | service | host
  | tenant (t : Nat)
  | anyone
deriving DecidableEq, Repr

def State.session (s : State) (id : Nat) : Option Session := s.sv.sessions.find? (fun x => x.id == id)

/-- The role a route fixes (Table 14.2); no role: no such session, or in band at level 3. -/
def State.routeRole (s : State) : Route → Option ORole
  | .session id =>
    match s.session id with
    | some x => if x.role == 1 then some .owner else if x.role == 2 then some .operator
                else if x.role == 3 then some .service else none
    | none => none
  | .inBand c =>
    let pl := swPL (s.core c).sw
    if pl == 0 then some .owner else if pl == 1 then some .host
    else if pl == 2 then some (.tenant (s.core c).tenant) else none

def ORole.column : ORole → Nat
  | .owner => 0
  | .operator => 1
  | .service => 2
  | .host => 3
  | .tenant _ => 4
  | .anyone => 5

def objFind (index sub : Nat) : Option ObjRow :=
  objRows.find? (fun r => r.index == index && r.lo ≤ sub && sub ≤ r.hi)

/-- The type of an object and a role's rights to it; absent objects are (none, 0). -/
def objRights (r : ORole) (index sub : Nat) : Option OType × Nat :=
  if 0x4000 ≤ index && index < 0x8000 then
    let t := (index - 0x4000) / 0x20
    if index % 0x20 == 0 && (sub == 1 || sub == 2) then
      (some (if sub == 1 then .u 1 else .bool),
       match r with
       | .owner => 1
       | .host => 1
       | .tenant u => b2n (t == u)
       | _ => 0)
    else (none, 0)
  else match objFind index sub with
    | some o => (some o.ty, o.rights.getD r.column 0)
    | none => (none, 0)

/-- Octets of a type's value: least and most. -/
def OType.lengths : OType → Nat × Nat
  | .u n => (n, n)
  | .i n => (n, n)
  | .w36 => (5, 5)
  | .d72 => (9, 9)
  | .bool => (1, 1)
  | .str n => (1, n)
  | .blob n => (n, n)

/-- The octets form a value of the type (R423, abort 04h). -/
def OType.fits (t : OType) (l : List Octet) : Bool :=
  let (lo, hi) := t.lengths
  decide (lo ≤ l.length) && decide (l.length ≤ hi) &&
    (match t with
     | .w36 => decide (octNat l < 2 ^ 36)
     | .str _ => l.all (fun o => decide (0x20 ≤ o.toNat) && decide (o.toNat ≤ 0x7E))
     | _ => true)

/-- A BOOL other than 00h or 01h is outside its range. -/
def OType.boolOk (t : OType) (v : Nat) : Bool := t != .bool || v ≤ 1

/-- Owner lock in force (Table 14.9). -/
def State.ownerLocked (s : State) : Bool := s.sv.key == .locked || s.sv.ownerLock

/-- The writes that the owner lock refuses (R442). -/
def lockRefuses (index sub v : Nat) : Bool :=
  (index == 0x1800 && sub == 0x0A) || (index == 0x1902 && sub == 4) || (index == 0x1620 && sub == 1 && v != 0) ||
  (index == 0x1620 && sub == 2) || (index == 0x0300 && 4 ≤ sub && sub ≤ 6) || (index == 0x1900 && sub == 0x0C)

/-- Objects that STANDBY serves (R474). -/
def standbyObject (index sub : Nat) : Bool :=
  index == 0x0100 || index == 0x0200 || (index == 0x0300 && ((1 ≤ sub && sub ≤ 3) || sub == 7)) ||
  (index == 0x1000 && (sub == 0x0A || sub == 0x0B)) || (index == 0x1100 && 1 ≤ sub && sub ≤ 6) ||
  (index == 0x1600 && ((1 ≤ sub && sub ≤ 5) || sub == 7)) || index == 0x1A00 ||
  (index == 0x1B00 && (sub == 1 || sub == 4 || sub == 5))

/-- Objects written in SAFE and HALTED (R428). -/
def safeWrite (index sub : Nat) : Bool :=
  index == 0x0300 || (index == 0x1000 && sub == 0x0A) || (index == 0x1600 && sub == 6) || (index == 0x1610 && sub == 5) ||
  (index == 0x1700 && (sub == 1 || sub == 2)) || (index == 0x1800 && sub == 0x0A) || (index == 0x1900 && sub == 0x0C) ||
  (index == 0x1A00 && sub == 1)

/-- The module state serves the access (R428, R474). In EXTRACTING only 1A00h.01 is written and reads are served.
Assumption 46 (DEDUCED). -/
def State.stateServes (s : State) (index sub : Nat) (write : Bool) : Bool :=
  let publicR := (objRights .anyone index sub).2 == 1
  match s.md.st with
  | .run => true
  | .dawn | .dusk => !write && publicR
  | .extracting => !write || (index == 0x1A00 && sub == 1)
  | .safe | .halted => !write || safeWrite index sub
  | .standby =>
    standbyObject index sub && (!write || (index == 0x1000 && sub == 0x0A) || (index == 0x1A00 && sub == 1))
  | .off => false

/-- The lowest of abort codes 01h to 05h and 07h that applies to an access, 0 when none does (R425, R428, R429, R442).
`fits` says the value has the type's form, `v` its number. -/
def State.odGate (s : State) (r : ORole) (index sub : Nat) (write fits : Bool) (v : Nat) : Nat :=
  let (ty, rt) := objRights r index sub
  if ty.isNone || rt == 0 then 1
  else if write && rt == 1 then 2
  else if !write && rt == 2 then 3
  else if !fits then 4
  else if !s.stateServes index sub write then 5
  else if write && lockRefuses index sub v then (if s.ownerLocked then 7 else 0)
  else 0

/-- The answer of an object access. -/
def State.odAnswer (s : State) (code : Nat) (l : List Octet) : State :=
  { s with sv := { s.sv with answerAbort := code, answer := l } }

/-- A write of a number to an object by one of the object-write rows: the abort found, or the effect. `more` adds the
codes of the owning rule (0 none); the effect takes place only with no abort (R426, R429). -/
def State.odWriteNum (s : State) (route : Route) (index sub v : Nat) (more : Nat) (f : State → State) : State :=
  match s.routeRole route with
  | none => s.odAnswer 1 []
  | some r =>
    let fits := match objRights r index sub with
      | (some t, _) => decide (v < 256 ^ t.lengths.2) && (t != .w36 || v < 2 ^ 36)
      | _ => true
    let g := s.odGate r index sub true fits v
    let code := if g == 0 then more else if more == 0 then g else min g more
    if code == 0 then (f s).odAnswer 0 [] else s.odAnswer code []

/-- The same for octets. -/
def State.odWriteOct (s : State) (route : Route) (index sub : Nat) (l : List Octet) (more : Nat) (f : State → State) :
    State :=
  match s.routeRole route with
  | none => s.odAnswer 1 []
  | some r =>
    let fits := match objRights r index sub with
      | (some t, _) => t.fits l
      | _ => true
    let g := s.odGate r index sub true fits (octNat l)
    let code := if g == 0 then more else if more == 0 then g else min g more
    if code == 0 then (f s).odAnswer 0 [] else s.odAnswer code []

/-- A reserved value of a command object (abort 08h). -/
def rangeOnly (ok : Bool) : Nat := if ok then 0 else 8

/-- The key of a route's select object (R426): index, accessor, and in band the level. -/
def State.selectKey (s : State) (r : Route) (index sub : Nat) : Nat :=
  (index * 256 + sub) * 2 ^ 40 +
    (match r with
     | .session id => 2 ^ 39 + id
     | .inBand c => c * 4 + swPL (s.core c).sw)

/-- The value of a route's select object. -/
def State.select (s : State) (r : Route) (index sub : Nat) : Nat := tget s.sv.selects 0 (s.selectKey r index sub)

/-- A session ends (R436): its slot is erased and its select objects go; `reason` is sent in a CLOSE where one is stated
and the counter can still rise (R434). -/
def State.endSession (s : State) (x : Session) (reason : Option Nat) : State :=
  let s := { s with sv := { s.sv with
    sessions := s.sv.sessions.filter (fun y => y.id != x.id),
    selects := s.sv.selects.filter (fun e => e.1 % 2 ^ 40 != 2 ^ 39 + x.id) } }
  match reason with
  | some r => if x.txCounter + 1 < 2 ^ 64 then s.emit (.ssp x.segB s.sv.serial 7 x.id (x.txCounter + 1) r []) else s
  | none => s

/-- Every session that satisfies `p` ends. -/
def State.endSessions (s : State) (p : Session → Bool) (reason : Option Nat) : State :=
  (s.sv.sessions.filter p).foldl (fun s x => s.endSession x reason) s

/-- A configuration record of a persisted object (R427). -/
def State.persist (s : State) (index sub : Nat) : State := s.ownRecord 4 [packW [(index, 8), (sub, 0)]]

end Sys2Proof.Machine
end

