-- ==== Sys2Proof/Machine/Links.lean ====
section
/-! DEFINITION. Jetstream links and the partition rule (R167-R178). -/

namespace Sys2Proof.Machine

def linkCode : LinkSt → Nat
  | .unused => 0
  | .down => 1
  | .training => 2
  | .identify => 3
  | .active => 4
  | .retraining => 5
  | .detoured => 6
  | .mismatch => 7

def State.isMember (s : State) (m : Nat) : Bool := m < 16 && s.dy.members.getLsbD m

/-- This module's own 15 link bits: bit k, link k ACTIVE. -/
def State.ownBits (s : State) : Nat :=
  (List.range 15).foldl (fun a k => if (s.link k).st == .active then a + 2 ^ k else a) 0

/-- A link between two modules is ACTIVE, as the link-state flits show it (R175). -/
def State.seenActive (s : State) (m p : Nat) : Bool :=
  let bits := if m == s.dy.modnum then s.ownBits else tget s.dy.view 0 m
  bits.testBit (linkTo m p)

/-- The relay to a peer: the lowest-numbered member whose links to both ends are ACTIVE. -/
def State.relay (s : State) (p : Nat) : Option Nat :=
  (List.range 16).find? (fun q => q != s.dy.modnum && q != p && s.isMember q && s.seenActive s.dy.modnum q && s.seenActive q p)

/-- Two octets of a number. -/
def oct2 (n : Nat) : List Octet := natOct 2 n

/-- Link-state flits about a module on every ACTIVE link but one (Table 5.10, code 03h). -/
def State.floodOf (s : State) (origin bits : Nat) (but : Option Nat) : State :=
  (List.range 15).foldl (fun s k =>
    if (s.link k).st == .active && but != some k then s.sendFlit k (.control 3 (BitVec.ofNat 8 origin :: oct2 bits)) else s) s

/-- This module floods its own link states (R175). -/
def State.flood (s : State) : State := s.floodOf s.dy.modnum s.ownBits none

/-- The source of a link's protocol faults, and of a lane group (Table 13.1). -/
def linkSource (k : Nat) : Nat := 982 + k
def groupSource (k g : Nat) : Nat := 952 + 2 * k + g

/-- Enter DETOURED through a relay, sending through it what was delivered (code 04h); without a relay, DOWN
(R172, R175). The link number in the flit is this end's own. Assumption 60 (DEDUCED). -/
def State.detour (s : State) (k : Nat) : State :=
  let l := s.link k
  match s.relay (s.linkPeer k) with
  | some q => (s.setLink k { l with st := .detoured, via := q, g0 := false, g1 := false, deliveredSent := true,
                                    resent := false, drainSent := false, drainSeen := false }).sendFlit (linkTo s.dy.modnum q)
                (.control 4 (BitVec.ofNat 8 k :: oct2 l.rxSeq))
  | none => s.setLink k { l with st := .down, g0 := false, g1 := false }

/-- Fence a lane group: a corrected fault (R174). -/
def State.fenceGroup (s : State) (k g : Nat) : State :=
  let l := s.link k
  let s := s.setLink k { l with fenced0 := l.fenced0 || g == 0, fenced1 := l.fenced1 || g == 1,
                                g0 := l.g0 && g != 0, g1 := l.g1 && g != 1, fences := sat36 (l.fences + 1) }
  s.report (groupSource k g) 1

/-- Groups that ADMIN leaves usable (Table 5.16). -/
def adminGroups (admin : Nat) : Bool × Bool := (admin != 2, admin != 1)

/-- Flits of a replay buffer before a SEQ that the peer expects have been delivered. -/
def Link.expects (l : Link) (seq : Nat) : Link :=
  match l.replayBuf.findIdx? (fun f => f.seq == seq) with
  | some i => { l with replayBuf := l.replayBuf.drop i }
  | none => if l.seq == seq then { l with replayBuf := [] } else l

/-- The flits of the replay buffer are sent again, in order (R171). -/
def State.resend (s : State) (k : Nat) : State := (s.link k).replayBuf.foldl (fun s f => s.emit (.flit k f)) s

/-- The end of RETRAINING (Table 5.11, R174): each group alone may have succeeded; the replay starts at the SEQ that the
peer expects. -/
def State.retrained (s : State) (k expected : Nat) (g0 g1 : Bool) : State :=
  let l := s.link k
  if l.st != .retraining then s else
  let (a0, a1) := adminGroups l.admin
  let u0 := g0 && a0
  let u1 := g1 && a1
  if u0 || u1 then
    let s := s.setLink k { (l.expects expected) with st := .active, g0 := u0, g1 := u1, fenced0 := l.fenced0 && !u0,
                                                     fenced1 := l.fenced1 && !u1, replayCount := 0 }
    let s := if a0 && !g0 then s.fenceGroup k 0 else s
    let s := if a1 && !g1 then s.fenceGroup k 1 else s
    ((s.resend k).flood).transmit k
  else (s.detour k).flood

/-- A failure moves an ACTIVE link to RETRAINING. -/
def State.linkFails (s : State) (k : Nat) : State :=
  let l := s.link k
  if l.st == .active then (s.setLink k { l with st := .retraining }).flood else s

/-- A replay request for a SEQ (R171). The spec does not say which source reports a replay: here the link's own, 982 + k.
Assumption 60 (DESIGN CHOICE). -/
def State.replayAsked (s : State) (k seq : Nat) : State :=
  let l := s.link k
  let n := if l.lastReplay == seq then l.replayCount + 1 else 1
  let s := s.setLink k { (l.expects seq) with lastReplay := seq, replayCount := n, replays := sat36 (l.replays + 1) }
  let s := (s.report (linkSource k) 1).resend k
  if 8 ≤ n then s.linkFails k else s

/-- A write of DY_LINK_STATE.ADMIN (Table 5.16). -/
def State.adminWrite (s : State) (a : Accessor) (k : Nat) (w : Word) : State :=
  let v := fld w 10 8
  let reject := match a.role with
    | .z => { s with dy := { s.dy with rejectZ := true } }
    | .h => { s with dy := { s.dy with rejectH := true } }
    | _ => s
  if !(a.role == .z || a.role == .h) || !s.isMember (s.linkPeer k) then s
  else if 4 ≤ v || (v == 3 && (s.relay (s.linkPeer k)).isNone) then reject
  else
    let l := s.link k
    let s := s.setLink k { l with admin := v }
    if v == 3 then (if l.st == .active || l.st == .retraining then (s.detour k).flood else s)
    else if l.st == .active then (s.setLink k { s.link k with st := .retraining }).flood
    else s

/-! ## The partition rule (R177, R178) -/

/-- The members that this module can reach, itself included. -/
def State.reachSet (s : State) (reachable : List Nat) : List Nat :=
  (List.range 16).filter (fun m => s.isMember m && (m == s.dy.modnum || reachable.contains m))

/-- The member set. -/
def State.memberList (s : State) : List Nat := (List.range 16).filter s.isMember

/-- This module stays in service (R177). -/
def State.majority (s : State) (reachable : List Nat) : Bool :=
  let r := (s.reachSet reachable).length
  let n := s.memberList.length
  n < 2 * r || (2 * r == n && (s.reachSet reachable).contains (s.memberList.headD 0))

/-- An entry whose line was owned or held by a lost agent: the line is poisoned (R178). -/
def DirEntry.lostOwner (e : DirEntry) (lost : Nat → Bool) : Bool :=
  (match e.tx with | some x => x.prior == .owned | none => e.st == .owned) && e.holders.any (fun h => lost (h / 64))

/-- The request of an open transaction, to be served anew. -/
def DirTx.again (x : DirTx) (line : Nat) : DirWait := { req := x.req, src := x.src, tag := x.tag, line := line, behind := none }

/-- A line homed here whose owner is lost: poisoned, its entry INVALID; the request of an open transaction is served
anew (R178). -/
def State.loseOwner (s : State) (lost : Nat → Bool) (e : Nat × DirEntry) : State :=
  let s := (s.setPoison e.1 true).dropDir e.1
  match e.2.tx with
  | some x => if x.req == DirReq.recall || lost (x.src / 64) then s else s.requeue (x.again e.1)
  | none => s

/-- A lost tile or agent leaves a SHARED entry and what a transaction awaits. -/
def DirEntry.without (e : DirEntry) (lost : Nat → Bool) : DirEntry :=
  { e with holders := e.holders.filter (fun a => !lost (a / 64)),
           tx := e.tx.map (fun (x : DirTx) => { x with
             awaits := x.awaits.filter (fun a => !lost (a / 64)),
             wbWait := x.wbWait.filter (fun a => !lost (a % 100000 / 64)) }) }

/-- What a surviving module does to its lines (R178). -/
def State.loseMembers (s : State) (kept : List Nat) : State :=
  let lost (m : Nat) : Bool := s.isMember m && !kept.contains m
  let far (line : Nat) : Bool := lost (lineHome line)
  let gone := s.dy.entries.filter (fun e => e.2.lostOwner lost)
  let s := { s with dy := { s.dy with
    inService := BitVec.ofNat 16 (kept.foldl (fun a m => a + 2 ^ m) 0),
    waiting := s.dy.waiting.filter (fun w => !lost (w.src / 64)),
    refused := s.dy.refused.filter (fun w => !lost (w.src / 64)) } }
  let s := gone.foldl (fun s e => s.loseOwner lost e) s
  let s := s.invalidateAt (fun _ => true) far none
  let s := { s with
    dy := { s.dy with
      poisoned := sat36 (s.dy.poisoned + gone.length), poisonSet := s.dy.poisonSet || !gone.isEmpty, partition := true,
      entries := (s.dy.entries.map (fun (e : Nat × DirEntry) => (e.1, e.2.without lost))).filter (fun e =>
        !(e.2.holders.isEmpty && e.2.tx.isNone)),
      tiles := s.dy.tiles.filter (fun e => !far (e.1 % 2 ^ 36)),
      heldSnoops := s.dy.heldSnoops.filter (fun e => !far (e.1 % 2 ^ 36)),
      passes := s.dy.passes.filter (fun e => !far (e.1 % 2 ^ 36)),
      agents := s.dy.agents.filter (fun e => !far (e.1 % 2 ^ 36)),
      attempts := s.dy.attempts.filter (fun e => !far (e.1 % 2 ^ 36)),
      links := s.dy.links.map (fun (e : Nat × Link) => if lost (s.linkPeer e.1) then (e.1, { e.2 with queue := [], forward := [] }) else e) },
    mem := { s.mem with words := s.mem.words.filter (fun p => !lost (homeOf p.1)),
                        poison := s.mem.poison.filter (fun p => !far p.1) } }
  let s := ((s.dy.entries.map (·.1)).foldl (fun s line => s.tryClose line) s).drainHome.pump
  match (List.range 16).find? lost with
  | some m => s.report (linkSource (linkTo s.dy.modnum m)) 2
  | none => s

/-! ## The Twin link, number 15 in the rows it shares (R407) -/

/-- A failure moves it from ACTIVE to RETRAINING. -/
def State.twinLinkFails (s : State) : State :=
  if s.tw.linkSt == .active then { s with tw := { s.tw with linkSt := .retraining } } else s

/-- Frames before a SEQ that the twin expects have been delivered; the rest is sent again. -/
def State.twinResend (s : State) (expected : Nat) : State :=
  let l := match s.tw.replayBuf.findIdx? (fun f => f.seq == expected) with
    | some i => s.tw.replayBuf.drop i
    | none => if s.tw.seq == expected then [] else s.tw.replayBuf
  l.foldl (fun s f => s.emit (.twin f)) { s with tw := { s.tw with replayBuf := l } }

/-- A replay request: a corrected fault; the eighth for one SEQ retrains the link (R171). -/
def State.twinReplay (s : State) (seq : Nat) : State :=
  let n := if s.tw.lastReplay == seq then s.tw.replayCount + 1 else 1
  let s := { s with tw := { s.tw with lastReplay := seq, replayCount := n } }
  let s := (s.report 1001 1).twinResend seq
  if 8 ≤ n then s.twinLinkFails else s

/-- The end of RETRAINING: it has no relay, so a failure leaves it DOWN. -/
def State.twinRetrained (s : State) (expected : Nat) (ok : Bool) : State :=
  if s.tw.linkSt != .retraining then s
  else if ok && s.tw.lanes != 0 then
    ({ s with tw := { s.tw with linkSt := .active, replayCount := 0 } }).twinResend expected
  else { s with tw := { s.tw with linkSt := .down } }

/-- The end of TRAINING; a link that reaches IDENTIFY begins PAIRING where that is enabled (Table 13.11). -/
def State.twinTrained (s : State) (ok : Bool) : State :=
  if s.tw.linkSt != .training then s
  else if ok && s.tw.lanes != 0 then
    { s with tw := { s.tw with linkSt := .identify,
                               st := if s.tw.st == .unpaired && s.tw.enabled then .pairing else s.tw.st } }
  else { s with tw := { s.tw with linkSt := .down } }

/-- The end of IDENTIFY. -/
def State.twinIdentified (s : State) (matched : Bool) : State :=
  if s.tw.linkSt != .identify then s
  else if matched then { s with tw := { s.tw with linkSt := .active } }
  else ({ s with tw := { s.tw with linkSt := .mismatch } }).report 1001 2

/-! ## Rows -/

def execReplayRequest (link seq : Nat) (s : State) : Host.Outcome State Fault Refusal :=
  s.runIf (wfAnyLink link) (if link == 15 then s.twinReplay seq else s.replayAsked link seq)

/-- The receiver discards flits until the SEQ that it expects, and asks for it (R171). -/
def execBadCrcOrSequenceGap (link : Nat) (s : State) : Host.Outcome State Fault Refusal :=
  s.runIf (wfLink link) (
    if (s.link link).st == .active then s.sendFlit link (.control 2 (oct2 (((s.link link).rxSeq + 1) % 1024))) else s)

def execLinkFailure (link : Nat) (s : State) : Host.Outcome State Fault Refusal := 
  s.runIf (wfAnyLink link) (if link == 15 then s.twinLinkFails else s.linkFails link)

def execRetraining (link : Retrained) (g0 g1 : Bool) (s : State) : Host.Outcome State Fault Refusal :=
  s.runIf (wfAnyLink link.link && decide (link.expected < 1024)) (
    if link.link == 15 then s.twinRetrained link.expected (g0 || g1) else s.retrained link.link link.expected g0 g1)

/-- TRAINING ends in IDENTIFY or DOWN; a DETOURED link trains its direct path meanwhile (R176). A fenced group stays out
(R174). -/
def execTraining (link : Nat) (g0 g1 : Bool) (s : State) : Host.Outcome State Fault Refusal :=
  s.runIf (wfAnyLink link) (
    if link == 15 then s.twinTrained (g0 || g1) else
    let l := s.link link
    let (a0, a1) := adminGroups l.admin
    let u0 := g0 && a0 && !l.fenced0
    let u1 := g1 && a1 && !l.fenced1
    match l.st with
    | .training => s.setLink link { l with g0 := u0, g1 := u1, st := if u0 || u1 then .identify else .down }
    | .detoured => s.setLink link { l with g0 := u0, g1 := u1 }
    | _ => s)

/-- The end of IDENTIFY. A matched direct path of a DETOURED link sends the drain marker, code 05h, through the relay, and
stops using the relay (R176). The spec names no source for a mismatch: here the link's own, 982 + k; and it does not say
what a mismatch of a DETOURED link's direct path does: here the link moves to MISMATCH. Assumption 60 (DESIGN CHOICE). -/
def execIdentify (link : Nat) (matched : Bool) (s : State) : Host.Outcome State Fault Refusal :=
  s.runIf (wfAnyLink link) (
    if link == 15 then s.twinIdentified matched else
    let l := s.link link
    match l.st with
    | .identify =>
      if matched then ((s.setLink link { l with st := .active }).flood).transmit link
      else (s.setLink link { l with st := .mismatch }).report (linkSource link) 2
    | .detoured =>
      if matched && (l.g0 || l.g1) && l.admin != 3 then
        (s.setLink link { l with drainSent := true }).sendFlit (linkTo s.dy.modnum l.via) (.control 5 [])
      else if !matched then (s.setLink link { l with st := .mismatch }).report (linkSource link) 2
      else s
    | _ => s)

def execTrainingRetry (link : Nat) (s : State) : Host.Outcome State Fault Refusal :=
  s.runIf (wfAnyLink link) (
    if link == 15 then (if s.tw.linkSt == .down then { s with tw := { s.tw with linkSt := .training } } else s)
    else if (s.link link).st == .down then s.setLink link { s.link link with st := .training } else s)

/-- A link left without a group has failed. -/
def execLaneGroupFence (link group : Nat) (s : State) : Host.Outcome State Fault Refusal :=
  s.runIf (wfLink link && wfTwo group) (
    if (s.link link).st != .active then s else
    let t := s.fenceGroup link group
    if (t.link link).g0 || (t.link link).g1 then t else t.linkFails link)

/-- A module's link bits are noted, and news of them goes on (R175). A DETOURED link whose relay is lost by them stays
DETOURED with its VIA: the spec states no move for it until R177 applies. Assumption 60 (DESIGN CHOICE). -/
def State.linkStateIn (s : State) (origin bits link : Nat) : State :=
  if origin == s.dy.modnum || tget s.dy.view 0 origin == bits % 2 ^ 15 then s else
  { s with dy := { s.dy with view := tput s.dy.view 0 origin (bits % 2 ^ 15) } }.floodOf origin (bits % 2 ^ 15) (some link)

def execLinkState (origin : LinkOrigin) (bits : Nat) (s : State) : Host.Outcome State Fault Refusal :=
  s.runIf (wfModule origin.module && wfFlit origin.flit) (
    ((s.flitsIn origin.flit 10 1).linkStateIn origin.module bits origin.flit.link).serviceLink origin.flit.link)

def execLinkStateFlood (s : State) : Host.Outcome State Fault Refusal := s.runIf true s.flood

/-- The messages of a replay buffer, each with the data that its own flit carries; data whose header has been delivered was
delivered with it. -/
def bufferedMsgs (l : List Flit) : List Msg :=
  l.flatMap (fun f => match f.body with
    | .messages ms => ms
    | _ => [])

/-- The peer's delivered flit: messages up to its SEQ are covered, the rest is sent again through the relay, before any
new message (R175). -/
def State.deliveredIn (s : State) (link seq : Nat) : State :=
  let l := s.link link
  if l.st != .detoured || l.resent then s else
  let keep := match l.replayBuf.findIdx? (fun f => f.seq == seq) with
    | some i => l.replayBuf.drop (i + 1)
    | none => l.replayBuf
  (s.setLink link { l with replayBuf := [], queue := bufferedMsgs keep ++ l.queue, resent := true }).transmit link

def execDelivered (link seq : Nat) (s : State) : Host.Outcome State Fault Refusal :=
  s.runIf (wfLink link) (s.deliveredIn link seq)

/-- A marker came through the relay, and is confirmed over the direct link; or the peer confirmed ours, and the direct path
is used (R176). Table 5.10 has one code for both. Assumption 60 (DEDUCED). -/
def State.markerIn (s : State) (link : Nat) (confirmed : Bool) : State :=
  let l := s.link link
  if l.st != .detoured then s
  else if confirmed then
    (if l.drainSent then
      ((s.setLink link { l with st := .active, drainSent := false, drainSeen := false, resent := false,
                                deliveredSent := false, credits := linkBuffers }).flood).transmit link
     else s)
  else (s.setLink link { l with drainSeen := true }).sendFlit link (.control 5 [1])

def execDrainMarker (link : Nat) (confirmed : Bool) (s : State) : Host.Outcome State Fault Refusal :=
  s.runIf (wfLink link) (s.markerIn link confirmed)

def execAdmin (acc : Accessor) (link : Nat) (value : Word) (s : State) : Host.Outcome State Fault Refusal :=
  s.runIf (wfAccessor acc && wfLink link) (s.adminWrite acc link value)

/-- R151: reported, and the link is handled as failed. -/
def execLinkProtocolFault (link : Nat) (s : State) : Host.Outcome State Fault Refusal :=
  s.runIf (wfAnyLink link) (
    if link == 15 then (s.report 1001 2).twinLinkFails else (s.report (linkSource link) 2).linkFails link)

end Sys2Proof.Machine
end

