-- ==== Sys2Proof/Machine/Power.lean ====
section
/-! DEFINITION. Profiles, the hold-up store, Dusk, the halt sequence, and the power inputs (chapters 1, 8, 13, 15). -/

namespace Sys2Proof.Machine

/-! ## Profiles (R27-R36) -/

/-- Table 1.7 and OD 1001h. Lockstep, constant time and the acknowledgement of Overcast are Cirrus's (R29). -/
def State.profile (s : State) (p : Nat) : ProfileSet :=
  let base : ProfileSet := { clock := 5600, lockstep := false, constTime := false, ceiling := 4096, margin := 15,
                             ackTwin := false, lanes := 48, power := 1750 }
  match p with
  | 0 => base
  | 1 => { base with clock := 4400, power := 1300 }
  | 2 => { base with clock := 4800, lockstep := true, constTime := true, margin := 25, ackTwin := true, power := 1450 }
  | 3 => { base with clock := 2400, ceiling := 512, margin := 25, lanes := 12, power := 900 }
  | _ => s.md.custom

/-- Constant-time default in force: the selected profile's (R29). -/
def State.constTimeDefault (s : State) : Bool := (s.profile s.md.selected).constTime

/-- OD 1000h.04: a lockstep change waits for DAWN (R30). -/
def State.lockstepPending (s : State) : Bool := (s.profile s.md.selected).lockstep != s.md.lockstep

/-- OD 1000h.03 (Table 1.8). -/
def State.causes (s : State) : Nat := b2n s.md.coolant * 4 + b2n s.md.charging * 2 + b2n s.md.weak

/-- The profile that is to be active: Overcast by cause, else the selected one (R31). -/
def State.targetProfile (s : State) : Nat := if s.causes != 0 then 3 else s.md.selected

/-- The clock of every tile: the active profile's, limited by R33 in Custom, capped by R28. -/
def State.tileClock (s : State) : Nat :=
  let c := (s.profile s.md.active).clock
  min (if s.md.active == 4 then min c s.md.customLimit else c) s.md.cap

/-- Step 3 of Table 1.10: every tile in turn. -/
def State.relock (s : State) : State :=
  let c := s.tileClock
  { s with md := { s.md with clock0 := c, clock1 := c, clock2 := c, clock3 := c } }

/-- OD 1000h.09: tiles below the clock of the active profile. -/
def State.clockLimited (s : State) : Nat :=
  let c := (s.profile s.md.active).clock
  b2n (s.md.clock0 < c) + 2 * b2n (s.md.clock1 < c) + 4 * b2n (s.md.clock2 < c) + 8 * b2n (s.md.clock3 < c)

/-- A lane that the active profile has disabled still runs its block (R34 step 4). -/
def State.laneDraining (s : State) : Bool := s.cx.busy.any (fun l => s.md.lanes ≤ l)

/-- Steps 2 and 3 of Table 1.10; commits are then decided under the new ceiling (R35). -/
def State.takeCeiling (s : State) : State :=
  let q := s.profile s.md.active
  (({ s with md := { s.md with ceiling := q.ceiling, margin := q.margin } }).relock).decideEvery

/-- Step 5. -/
def State.takePower (s : State) : State := { s with md := { s.md with power := (s.profile s.md.active).power } }

/-- The end of a change, once no disabled lane runs a block: the steps after step 4 in its direction. -/
def State.finishChange (s : State) : State :=
  match s.md.change with
  | none => s
  | some up =>
    if s.laneDraining then s else
    let s := { s with md := { s.md with change := none } }
    if up then s.takeCeiling else s.takePower

/-- Change the active profile (R34): to a maximum power not above the present one by steps 2 to 5, to a higher one by 5, 4,
3, 2. The change waits in step 4 for the blocks of lanes that it disables. R33's limit of the Custom clock ends when
another profile is selected, and stays when OD 1001h is written while Custom is active: the spec says neither.
Assumption 62 (DESIGN CHOICE). -/
def State.applyProfile (s : State) (p : Nat) : State :=
  let q := s.profile p
  let up := decide (s.md.power < q.power)
  let s := { s with md := { s.md with active := p, change := some up,
                                      customLimit := if s.md.selected == 4 then s.md.customLimit else 5600 } }
  let s := if up then s.takePower else s.takeCeiling
  ({ s with md := { s.md with lanes := q.lanes } }).finishChange

/-- Request a change: at once, or kept as the most recent request while a change still runs (R34). -/
def State.requestProfile (s : State) (p : Nat) : State :=
  if s.md.change.isSome then { s with md := { s.md with deferred := some p } } else s.applyProfile p

/-- The change kept as the most recent request starts when the first has finished (R34). -/
def State.startDeferred (s : State) : State :=
  let s := s.finishChange
  match s.md.deferred with
  | some p => if s.md.change.isSome then s else ({ s with md := { s.md with deferred := none } }).applyProfile p
  | none => s

/-- The tiles run: in RUN, and in EXTRACTING until the cores stop (Table 14.12 step 3). -/
def State.tilesRun (s : State) : Bool := s.md.st == .run || (s.md.st == .extracting && s.md.extractStep ≤ 2)

/-- Overcast entered or left by cause (R31); the most recent request counts as the profile to come. -/
def State.reprofile (s : State) : State :=
  if s.tilesRun && s.targetProfile != s.md.deferred.getD s.md.active then s.requestProfile s.targetProfile else s

/-- A change of the cap of R28 takes step 3 alone (R472). -/
def State.setCap (s : State) (c : Nat) : State :=
  let s := { s with md := { s.md with cap := c } }
  if s.tilesRun then s.relock else s

/-- Table 15.11, by inlet temperature in tenths of a degree. -/
def sustained (inlet : Int) : Nat :=
  if inlet ≤ 400 then 5600 else if inlet ≤ 410 then 5400 else if inlet ≤ 420 then 5200
  else if inlet ≤ 430 then 5000 else if inlet ≤ 440 then 4700 else 4400

/-- Lower bound of a cap's row of Table 15.11, in tenths; the row without a cap has none. -/
def capBound (cap : Nat) : Int :=
  if cap == 4400 then 441 else if cap == 4700 then 431 else if cap == 5000 then 421
  else if cap == 5200 then 411 else 401

/-- The highest inlet temperature of the part (Table 15.10), in tenths. -/
def State.inletMax (s : State) : Int := if s.sv.partE then 450 else 400

/-! ## The store (R268-R271) -/

/-- A measurement of the store's voltage: the reserve, the charging cause, and a reserve fall (R265, R268, Table 1.8). -/
def State.gauge (s : State) (mv : Nat) : State :=
  let e := { s.es with mv := mv }
  let e := { e with reserve := if e.held then reserveOf e.uf e.uohm mv else 0 }
  let charging := if e.below 95 then true else if !e.below 98 then false else s.md.charging
  let s := { s with es := e, md := { s.md with charging := charging } }
  let holds := s.ruleHolds s.pendingTotal
  let s := if (s.md.st == .run || s.md.st == .extracting) && !holds && !s.es.short then
      ({ s with es := { s.es with short := true } }).report 1218 2
    else if holds then { s with es := { s.es with short := false } } else s
  s.reprofile.decideEvery

/-- Nominal values of Table 8.4: a measurement outside 50 to 200 percent of them is discarded (R270). -/
def measureOk (uf uohm : Nat) : Bool := 77500 ≤ uf && uf ≤ 310000 && 12500 ≤ uohm && uohm ≤ 50000

/-- End of life (R267): C below 70 percent of nominal or ESR above twice nominal. -/
def endOfLife (uf uohm : Nat) : Bool := uf < 108500 || 50000 < uohm

/-- Full-charge usable reserve of a measurement, mJ (Table 1.8 bit 0). -/
def fullReserve (uf uohm : Nat) : Nat := reserveOf uf uohm (vFull uf)

/-- A self-test may start now (R270). -/
def State.testStarts (s : State) : Bool :=
  s.md.vin48 &&
  (match s.md.st with
   | .standby => s.md.lever == .closed
   | .run | .extracting | .safe | .halted =>
     decide (s.pendingTotal * 200 + 250000 * MiB ≤ (s.es.reserve - 3500) * (100 - s.md.margin) * MiB)
   | _ => false)

/-- The outcome of a self-test with measured C and R at store voltage `mv` (R270). -/
def State.selfTest (s : State) (uf uohm mv : Nat) : State :=
  if s.md.st == .extracting || !(s.md.vin48) || s.md.st == .off || s.md.st == .dawn || s.md.st == .dusk ||
     (s.md.st == .standby && s.md.lever != .closed) then s
  else if !s.testStarts then { s with es := { s.es with testResult := 3, testDue := true } }
  else if !measureOk uf uohm then
    ({ s with es := { s.es with testResult := 4, testDue := s.md.st == ModState.standby } }).report 1218 2
  else
    let e := { s.es with held := true, uf := uf, uohm := uohm, lastTest := s.tm.tod,
                         testResult := if endOfLife uf uohm then 2 else 1, testDue := false }
    let s := { s with es := e, md := { s.md with weak := decide (fullReserve uf uohm < 11000) } }
    s.gauge mv

/-! ## Powering down (R464) -/

/-- Run-time state of a channel that a power-down clears; its configuration record stays (R427). -/
def Chan.rest (c : Chan) : Chan :=
  { c with opened := false, k := 0, isrc := 0, problem := false, oring := 0, cring := 0, submitted := 0, completed := 0,
           started := 0, orders := [], closing := false, noTarget := false, peerRetire := 0 }

/-- A tenant's journal without its page registers and waiting commits. -/
def JnTenant.rest (j : JnTenant) : JnTenant :=
  { j with releaseHi := 0, rejectH := false, rejectG := false, rdBaseHi := 0, rdBase := 0, rdSize := 0, rdFromHi := 0,
           rdFrom := 0, rdResult := 0, rdEntries := 0, rdWords := 0, latchCommitted := 0, latchWritten := 0, latchRelease := 0, latchBase := 0, latchFrom := 0,
           waiting := [] }

/-- A tenant's interrupt page keeps its slice alone (R387). -/
def SrcPage.rest (p : SrcPage) : SrcPage := { SrcPage.init with slice := p.slice }

/-- The main domains lose their power: cores, caches, memory, directory, links, rings, router and engines; everything that
Anvil, the fuses and the always-on domain hold stays. -/
def State.powerDown (s : State) : State :=
  { s with
    mem := { words := [], tags := [], poison := [] }, cores := [], tc := [], cc := .init,
    dy := { s.dy with entries := [], lru := [], waiting := [], refused := [], attempts := [], passes := [], tiles := [],
                      heldSnoops := [], agents := [], rings := [], inbox := [],
                      links := s.dy.links.map (fun e => (e.1, { Link.init with
                        fenced0 := e.2.fenced0, fenced1 := e.2.fenced1 })),
                      view := [], partition := false, poisonSet := false, rejectH := false, rejectZ := false,
                      inService := 0, naks := 0, recalls := 0, poisoned := 0, entryErrors := 0, probeSet := 0, probeWay := 0, probe := 0 },
    ch := { s.ch with chans := s.ch.chans.map (fun e => (e.1, e.2.rest)), grants := [],
                      tenants := s.ch.tenants.map (fun e => (e.1, { ChTenant.init with slice := e.2.slice, quota := e.2.quota })),
                      links := [], mRejectH := false, mRejectZ := false, portUp0 := false, portUp1 := false, peers := [],
                      rx := [], ioQueued := [], ioReported := [], queues := [], priv := [], configs := [] },
    jn := { s.jn with tenants := s.jn.tenants.map (fun e => (e.1, e.2.rest)), pending := [], mRejectH := false,
                      mRejectZ := false },
    cx := { s.cx with tenants := s.cx.tenants.map (fun e => (e.1, { CxTenant.init with
                        slice := e.2.slice, laneLimit := e.2.laneLimit })), busy := [] },
    ci := { s.ci with tenants := s.ci.tenants.map (fun e => (e.1, { CiTenant.init with
                        ringSlice := e.2.ringSlice, handleSlice := e.2.handleSlice, coreLimit := e.2.coreLimit,
                        keys := e.2.keys, kek := e.2.kek, change := e.2.change })), busy := [], mRejectH := false,
                      mRejectZ := false },
    tn := { s.tn with blocks := [], z1root := 0, z1rootHi := 0, h1root := 0, h1rootHi := 0, vec0 := 0, vec0Hi := 0, vec1 := 0,
                      vec1Hi := 0, rejectH := false, rejectZ := false, hoBusy := false, hoOp := 0, hoTarget := 0,
                      hoValid := false, hoStatus := 0, notices := [], sealLog := [],
                      tenants := s.tn.tenants.map (fun e => (e.1, { e.2 with s2root := 0, s2rootHi := 0 })) },
    ir := { s.ir with pages := s.ir.pages.map (fun e => (e.1, e.2.rest)), mRejectH := false, mRejectZ := false },
    out := s.out ++ [.perst true],
    md := { s.md with change := none, deferred := none, stopping := none, resetDawn := false },
    es := { s.es with short := false } }

/-! ## A running staging (R449, R450) -/

/-- The bank that is not active. -/
def Service.inactive (v : Service) : Bank := if v.activeB then v.bankA else v.bankB
def Service.active (v : Service) : Bank := if v.activeB then v.bankB else v.bankA

def State.setInactive (s : State) (b : Bank) : State :=
  { s with sv := if s.sv.activeB then { s.sv with bankA := b } else { s.sv with bankB := b } }

def State.updateStatus (s : State) (n : Nat) : State := { s with sv := { s.sv with updateStatus := n } }

/-- Staging ends with a failing check: the bank is INVALID (R449). -/
def State.stageFails (s : State) (status : Nat) (b : Bank) : State :=
  (s.setInactive { b with st := .invalid }).updateStatus status

/-- A running staging is abandoned (R450). -/
def State.abandonStaging (s : State) : State :=
  if s.sv.staging.isSome then
    (({ s with sv := { s.sv with staging := none } }).stageFails 0x0B s.sv.inactive)
  else s

/-- OFF: the always-on domain loses its power too (R268, R405, R474). -/
def State.toOff (s : State) : State :=
  let s := s.abandonStaging.powerDown
  { s with md := { s.md with st := .off, extractStep := 0, latchReleased := false, faultPins := false },
           es := { s.es with held := false, uf := 0, uohm := 0, reserve := 0 },
           fc := { s.fc with log := [], lost := true,
                             haltLost := s.fc.haltLost || (s.fc.haltRecorded && !s.fc.haltInAnvil),
                             haltRecorded := s.fc.haltRecorded && s.fc.haltInAnvil,
                             haltSeqs := if s.fc.haltInAnvil then s.fc.haltSeqs else [] },
           sv := { s.sv with sessions := [], copyOwner := [], copyOperator := [], copyService := [] } }

/-- "STANDBY or OFF" of Table 1.12: STANDBY when VAUX is present. -/
def State.toStandby (s : State) : State :=
  if s.md.vaux then
    let s := s.abandonStaging.powerDown
    { s with md := { s.md with st := .standby, faultPins := false } }
  else s.toOff

/-- The Dusk sequence as a whole (Table 8.6), from RUN or EXTRACTING. -/
def State.dusk (s : State) : State :=
  let mib := s.pendingTotal / MiB
  let (n, s) := s.tick
  let s := s.flushRegion
  let s := { s with es := { s.es with duskCount := (s.es.duskCount + 1) % 2 ^ 32, lastDuskFlushed := mib,
                                      lastDuskEnergy := Config.duskEnergy n } }
  s.toStandby

/-- The journal write path of R402: the controller, Anvil and the memory regions. -/
def journalPath (source : Nat) : Bool := source == 1216 || source == 1217 || (1024 ≤ source && source < 1160)

/-- Step 2 of the halt sequence: every pending record, or in a fault of the write path those it still can (R402). -/
def State.haltFlush (s : State) (source : Nat) : State :=
  if journalPath source then
    let (n, s) := s.tick
    ({ s with jn := { s.jn with pending := s.jn.pending.take (Config.haltWrites n) } }).flushRegion
  else s.flushRegion

/-- The halt record: each tenant's JN_COMMITTED, in always-on memory, and in Anvil unless a fault in the write path keeps it
from there (R402). -/
def State.haltRecord (s : State) (source : Nat) : State :=
  let (n, s) := s.tick
  { s with fc := { s.fc with haltRecorded := true, haltInAnvil := !journalPath source || Config.haltRecordKept n,
                             haltSeqs := s.jn.tenants.foldl (fun t e => tput t 0 e.1 e.2.committed) [],
                             saved := s.fc.log.take 256 } }

/-- The halt sequence as a whole (Table 13.5), in the states that Table 1.12 gives a fatal row; elsewhere the event is in
the log alone (R38). -/
def State.halt (s : State) (source : Nat) : State :=
  if s.md.st != .run && s.md.st != .dawn then s else
  let s := { s with md := { s.md with faultPins := true }, fc := { s.fc with lastFatal := source } }
  let s := if s.md.st == .run then (s.haltRecord source).haltFlush source else s.haltRecord source
  let s := s.powerDown
  { s with md := { s.md with st := .halted }, fc := { s.fc with halted := true } }

/-! ## The orderly stop (Table 1.12) -/

/-- Orders in flight that an orderly stop waits for: not buffers posted by RECEIVE, and not of a tenant whose drain timeout
has passed. -/
def State.stopWaits (s : State) (out : List Nat) : Bool :=
  s.ch.chans.any (fun e => e.2.cls != .receive && !out.contains e.2.tenant && e.2.orders.any (fun o => o.stage != .waitAlloc))

/-- SAFE, once every order in flight has drained; what the drain has recorded is flushed too. -/
def State.finishStop (s : State) : State :=
  match s.md.stopping with
  | some out => if s.stopWaits out then s
    else ({ s with md := { s.md with st := .safe, stopping := none, change := none, deferred := none } }).flushRegion
  | none => s

/-- A tenant's drain timeout passes in an orderly stop. -/
def State.stopTimeout (s : State) (t : Nat) : State :=
  ({ s with md := { s.md with stopping := s.md.stopping.map (fun (l : List Nat) => if l.contains t then l else l ++ [t]) } }).finishStop

/-! ## Profile rows -/

/-- R34. -/
def execSelectedProfile (route : Route) (value : Nat) (s : State) : Host.Outcome State Fault Refusal :=
  s.runIf (wfRoute route) (s.odWriteNum route 0x1000 1 value (rangeOnly (value ≤ 4)) (fun s =>
    let s := ({ s with md := { s.md with selected := value } }).persist 0x1000 1
    if s.causes != 0 then s else s.requestProfile value))

def execDeferredProfileChange (s : State) : Host.Outcome State Fault Refusal := s.runIf true s.startDeferred

/-- R33: the clock of every tile falls from where it is, or rises, by 100 MHz, by step 3 alone. -/
def execCustomClockAdjust (mean1ms mean10ms : Nat) (below100ms : Bool) (s : State) :
    Host.Outcome State Fault Refusal :=
  s.runIf true (
    let s := { s with md := { s.md with powerMean := mean10ms } }
    if s.tilesRun && s.md.active == 4 then
      if s.md.power * 97 < mean1ms * 100 then
        ({ s with md := { s.md with customLimit := max 1200 (s.tileClock - 100) } }).relock
      else if below100ms && decide (mean10ms * 100 < s.md.power * 90) then
        let up := s.md.customLimit + 100
        ({ s with md := { s.md with customLimit := if s.md.custom.clock ≤ up then 5600 else up } }).relock
      else s
    else s)

/-- R472, Table 1.8 bit 2. -/
def execInletTemperatureChange (inlet : Int) (s : State) : Host.Outcome State Fault Refusal :=
  s.runIf true (
    let s := { s with md := { s.md with inlet := inlet } }
    let s := if inlet < 150 || s.inletMax < inlet then { s with md := { s.md with coolant := true } } else s
    let s := if s.sv.partE && sustained inlet < s.md.cap then s.setCap (sustained inlet) else s
    s.reprofile)

/-- R472: the inlet has stayed at least 0.5 degrees below the bound of the cap's row for 10 s. -/
def execCapRaise (s : State) : Host.Outcome State Fault Refusal :=
  s.runIf true (
    if s.sv.partE && decide (s.md.cap < 5600) && decide (s.md.inlet + 5 ≤ capBound s.md.cap) then
      s.setCap (max s.md.cap (sustained s.md.inlet))
    else s)

/-- Table 1.8 bit 2, cleared 1 degree inside the range. -/
def execCoolantCauseClear (s : State) : Host.Outcome State Fault Refusal :=
  s.runIf true (
    if s.md.coolant && decide (160 ≤ s.md.inlet) && decide (s.md.inlet + 10 ≤ s.inletMax) then
      ({ s with md := { s.md with coolant := false } }).reprofile
    else s)

/-- R471. -/
def execDieOvertemperature (hottest : Int) (s : State) : Host.Outcome State Fault Refusal :=
  s.runIf true (
    let s := { s with md := { s.md with hottest := hottest } }
    if 1100 ≤ hottest then
      (if s.md.st == .off then s else
        (s.logEntry { time := s.tm.tod, forced := false, rail := false, merged := false, squall := false, fenced := false,
                      cls := 3, source := 1221, count := 1, detail := 0 }).halt 1221)
    else if 1050 < hottest then s.report 1221 2
    else s)

/-! ## The store's rows -/

/-- R268. -/
def execFuelGaugeSample (millivolts : Nat) (s : State) : Host.Outcome State Fault Refusal :=
  s.runIf true (if s.md.st == .off then s else s.gauge millivolts)

def execSelfTest (microfarads microohms millivolts : Nat) (s : State) : Host.Outcome State Fault Refusal :=
  s.runIf true (s.selfTest microfarads microohms millivolts)

/-- OD 1100h.09. -/
def execStartSelfTest (route : Route) (value : Nat) (s : State) : Host.Outcome State Fault Refusal :=
  s.runIf (wfRoute route) (s.odWriteNum route 0x1100 9 value (rangeOnly (value == 1)) (fun s =>
    { s with es := { s.es with testDue := true } }))

/-! ## Inputs (chapter 15) -/

/-- VAUX accepted in OFF: STANDBY; straps sampled, the count restarts, the start permit returns to 1 (R38, R251, R468). -/
def execVauxAccepted (slot : Nat) (twinId : Bool) (millivolts : Nat) (s : State) : Host.Outcome State Fault Refusal :=
  s.runIf true (
    let s := { s with md := { s.md with vaux := true, vauxmV := millivolts, vauxOpen := false } }
    if s.md.st == .off then
      { s with md := { s.md with st := .standby, slot := slot % 64, twinId := twinId, startPermit := true },
               es := { s.es with held := false, uf := 0, uohm := 0, reserve := 0, testDue := true },
               tm := { s.tm with tod := 0, lock := 4, slewBack := 0 } }
    else s)

/-- R42, Table 1.12. -/
def execVauxLost (s : State) : Host.Outcome State Fault Refusal :=
  s.runIf true (
    let s := { s with md := { s.md with vaux := false, vauxmV := 0 } }
    match s.md.st with
    | .off => s
    | .standby => s.toOff
    | _ => s.report 1220 2)

/-- R43, R460; a self-test that waited for the input is due. -/
def execVin48Accepted (millivolts : Nat) (s : State) : Host.Outcome State Fault Refusal :=
  s.runIf true (
    { s with md := { s.md with vin48 := true, vin48mV := millivolts, vin48Open := false },
             es := { s.es with testDue := s.es.testDue || (s.md.st == .standby && !s.es.held) } })

/-- The input power fail of Table 1.12; in EXTRACTING the bleed goes on after Dusk. -/
def execVin48Fail (millivolts : Nat) (s : State) : Host.Outcome State Fault Refusal :=
  s.runIf true (
    let s := { s with md := { s.md with vin48 := false, vin48mV := millivolts } }
    match s.md.st with
    | .off | .dusk => s
    | .standby => s.logEvent 1219
    | .run => s.dusk
    | .extracting =>
      let t := s.dusk
      { t with md := { t.md with extractStep := if s.md.latchReleased then 6 else 5, latchReleased := s.md.latchReleased },
               es := { t.es with bleeding := !s.md.latchReleased } }
    | .dawn | .safe | .halted => s.toStandby)

/-- A recognised PORST_N low (R467): the region is flushed, then DAWN. -/
def execPorstNLow (s : State) : Host.Outcome State Fault Refusal :=
  s.runIf true (
    let s := { s with md := { s.md with porstHigh := false } }
    match s.md.st with
    | .run =>
      let s := s.flushRegion.powerDown
      { s with md := { s.md with st := .dawn, resetDawn := true } }
    | .safe | .halted =>
      let s := s.powerDown
      { s with md := { s.md with st := .dawn, resetDawn := true, faultPins := false } }
    | _ => s)

def execPorstNHigh (s : State) : Host.Outcome State Fault Refusal :=
  s.runIf true { s with md := { s.md with porstHigh := true } }

/-- OD 1600h.06: only in SAFE or HALTED (Table 13.8). -/
def execModuleReset (route : Route) (value : Nat) (s : State) : Host.Outcome State Fault Refusal :=
  let busy := if s.md.st == .safe || s.md.st == .halted then 0 else 0x0B
  let rng := rangeOnly (value == 1)
  s.runIf (wfRoute route) (s.odWriteNum route 0x1600 6 value (if rng == 0 then busy else rng) (fun s =>
    let s := s.powerDown
    { s with md := { s.md with st := .dawn, resetDawn := true, faultPins := false } }))

/-- R466. -/
def execSysclkLoss (s : State) : Host.Outcome State Fault Refusal :=
  s.runIf true (
    let s := { s with md := { s.md with sysclk := false } }
    match s.md.st with
    | .off | .standby | .dusk => { s with md := { s.md with internalOsc := true } }
    | _ => s.report 1222 3)

def execSysclkReturn (s : State) : Host.Outcome State Fault Refusal :=
  s.runIf true { s with md := { s.md with sysclk := true, internalOsc := false } }

/-- R272: input 0 is VIN48, 1 is VAUX. -/
def execReverseCurrent (input : Nat) (s : State) : Host.Outcome State Fault Refusal :=
  s.runIf true { s with md := { s.md with vin48Open := s.md.vin48Open || input == 0,
                                          vauxOpen := s.md.vauxOpen || input == 1 } }

/-- OD 1000h.0A, kept in always-on memory (R427). -/
def execStartPermit (route : Route) (value : Nat) (s : State) : Host.Outcome State Fault Refusal :=
  s.runIf (wfRoute route) (s.odWriteNum route 0x1000 0x0A value (rangeOnly (value ≤ 1)) (fun s =>
    { s with md := { s.md with startPermit := value == 1 } }))

end Sys2Proof.Machine
end

