-- ==== Sys2Proof/Machine/Channels.lean ====
section
/-! DEFINITION. Channels, orders, the operation ledger, re-drive and completion (R213-R242), PCIe links and grants. -/

namespace Sys2Proof.Machine

def Chan.init : Chan :=
  { tenant := 0xFFFF, localNo := 0, cls := .c, proc := 0, target := 0, port := 0, select := 0, timeout := 0,
    opened := false, k := 0, isrc := 0, problem := false, oring := 0, cring := 0, submitted := 0, completed := 0,
    started := 0, retire := 0, orders := [], closing := false, noTarget := false, peerRetire := 0 }

def State.chan (s : State) (n : Nat) : Chan := tget s.ch.chans Chan.init n

def State.setChan (s : State) (n : Nat) (c : Chan) : State :=
  { s with ch := { s.ch with chans := tput s.ch.chans Chan.init n c } }

def State.chT (s : State) (t : Nat) : ChTenant := tget s.ch.tenants ChTenant.init t

def State.setChT (s : State) (t : Nat) (v : ChTenant) : State :=
  { s with ch := { s.ch with tenants := tput s.ch.tenants ChTenant.init t v } }

/-- The module channel of a tenant-local number. -/
def State.findChan (s : State) (t l : Nat) : Option Nat :=
  (s.ch.chans.find? (fun e => e.2.tenant == t && e.2.localNo == l)).map (·.1)

/-- Links of a root port by the bifurcation in force (Table 7.15). -/
def State.portLinks (s : State) (port : Nat) : Nat :=
  match tget s.ch.bifNow 0 port with
  | 0 => 1
  | 1 => 2
  | _ => 4

/-- The link, 4 * port + n, below which a function lies. -/
def State.fnLink (s : State) (port rid : Nat) : Nat := 4 * port + Config.linkOf port rid % s.portLinks port

def State.pcieUp (s : State) (port rid : Nat) : Bool := (tget s.ch.links PcieLink.init (s.fnLink port rid)).up

/-- A function is enabled (R246). -/
def State.fnEnabled (s : State) (port rid : Nat) : Bool :=
  (!s.ch.needAttest || Config.attestation port rid % 4 == 1) &&
  (!s.ch.needIde || (tget s.ch.links PcieLink.init (s.fnLink port rid)).ide)

/-! ## Opening and posting (R215-R218) -/

/-- A channel table entry (Table 7.2), if readable, VALID and without a reserved value. -/
def chanEntry (ws : List Word) : Option (Bool × Nat × Nat × Nat × Nat) :=
  let w0 := wordAt ws 0
  let o := dwordAt ws 2
  let c := dwordAt ws 4
  let k := fld w0 17 13
  if bit w0 35 && fld w0 33 18 == 0 && 4 ≤ k && k ≤ 16 && wordAt ws 1 == 0 && fld o 71 48 == 0 && fld o 2 0 == 0 &&
     fld c 71 48 == 0 && fld c 2 0 == 0 && dwordAt ws 6 == 0
  then some (bit w0 34, k, fld w0 12 0, fld o 47 0, fld c 47 0) else none

def State.chEntry (s : State) (t l : Nat) : Option (Bool × Nat × Nat × Nat × Nat) :=
  let base := (s.chT t).table + 8 * l
  let ws := (List.range 8).map (base + ·)
  if s.agentOk t Need.load ws then chanEntry (ws.map (s.agentRd t)) else none

/-- The tenant's slices drain: it is being reset or deleted, or the module leaves RUN (R217, Table 14.12). -/
def State.sliceDraining (s : State) (t : Nat) : Bool :=
  s.drainingT t || (tget s.tn.tenants Tenant.init t).st == .stopped || s.md.st == .extracting

/-- Submitted and completed counts are kept modulo 2^48 (R216). -/
def countMod : Nat := 2 ^ 48

/-- Orders submitted and not completed. -/
def Chan.backlog (c : Chan) : Nat := (c.submitted + countMod - c.completed) % countMod

/-- The words of a channel's table entry that an SCH on it reads: those of a closed channel (R218). -/
def State.schReads (s : State) (t l : Nat) : List Nat :=
  match s.findChan t l with
  | some m => if (s.chan m).opened then [] else (List.range 8).map ((s.chT t).table + 8 * l + ·)
  | none => []

/-- Post `n` orders on a tenant-local channel from a level (Table 7.3): status and effect. One that is not accepted opens
nothing. Assumption 66 (DEDUCED). -/
def State.schPost (s : State) (t level l n : Nat) : Nat × State :=
  if level < 2 || (s.chT t).slice ≤ l then (1, s) else
  match s.findChan t l with
  | none => (1, s)
  | some m =>
    if s.sliceDraining t then (5, s) else
    let c := s.chan m
    let opened : Option Chan :=
      if c.opened then some c
      else if (c.cls == .c || c.cls == .n) && !s.fnEnabled c.port c.target then none
      else match s.chEntry t l with
        | none => none
        | some (p, k, i, o, r) =>
          some { c with opened := true, problem := p, k := k, isrc := i, oring := o, cring := r, submitted := 0,
                        completed := 0, started := 0, orders := [], closing := false }
    match opened with
    | none => (2, s)
    | some c =>
      if 2 ^ c.k < c.backlog + n then (3, s)
      else if level == 3 && !c.problem then (4, s)
      else (0, s.setChan m { c with submitted := (c.submitted + n) % countMod })

/-! ## Orders (R220-R224) -/

/-- The agent that serves a root port's accesses; Table 5.1 has none for a port, so it is a channel processor.
Assumption 15 (PRESUMED). -/
def portAgentOf (port : Nat) : Nat := procAgent port

/-- Order codes. -/
inductive OCode where
  | nop | read | write | flush | writeZeroes | deallocate | control | query | send | receive | retire | close | reserved
deriving DecidableEq, Repr

def orderCode (w2 : Word) : OCode :=
  match fld w2 35 30 with
  | 0 => .nop
  | 1 => .read
  | 2 => .write
  | 3 => .flush
  | 4 => .writeZeroes
  | 5 => .deallocate
  | 6 => .control
  | 7 => .query
  | 8 => .send
  | 9 => .receive
  | 32 => .retire
  | 33 => .close
  | _ => .reserved

def OCode.persistent (c : OCode) : Bool :=
  c == .write || c == .flush || c == .writeZeroes || c == .deallocate || c == .control || c == .send

/-- The code fits the class (Table 7.5). -/
def OCode.fitsClass (o : OCode) (k : ChanClass) : Bool :=
  match o with
  | .nop => k != .receive
  | .read | .write | .flush | .writeZeroes => k == .c || k == .n
  | .deallocate => k == .n
  | .control | .query => k == .c
  | .send => k == .send
  | .receive => k == .receive
  | .retire | .close => true
  | .reserved => false

/-- The code carries data in memory. -/
def OCode.data (o : OCode) : Bool := o == .read || o == .write || o == .control || o == .send || o == .receive

def Order.code (o : Order) : OCode := orderCode o.w2
/-- Codes 0o40 to 0o77 (R221). -/
def Order.isControl (o : Order) : Bool := 32 ≤ fld o.w2 35 30
def Order.seq (o : Order) : Nat := fld o.w0 47 0
def Order.len (o : Order) : Nat := fld o.w2 24 0
def Order.idem (o : Order) : Bool := bit o.w2 29
def Order.intr (o : Order) : Bool := bit o.w2 28
def Order.chain (o : Order) : Bool := bit o.w2 27

/-- The mark of a RETIRE: DEVADDR[47:0]. -/
def Order.mark (o : Order) : Nat := fld o.w4 47 0

/-- The operation identifier: words 0 and 1 with TENANT set (R224). -/
def Order.opid (o : Order) (t : Nat) : DWord := BitVec.ofNat 72 (t % 512 * 2 ^ 63 + fld o.w0 62 0)

/-- The digest: CRC-32C of words 2 to 7 as 27 octets. -/
def Order.digest (o : Order) : BitVec 32 :=
  let ws := [o.w2, o.w3, hiWord o.w4, loWord o.w4, hiWord o.w6, loWord o.w6]
  crc32c ((List.range 27).map (fun k => octetOf (wordAt ws) k))

def Order.ofWords (slot : Nat) (ws : List Word) : Order :=
  { slot := slot, w0 := dwordAt ws 0, w2 := wordAt ws 2, w3 := wordAt ws 3, w4 := dwordAt ws 4, w6 := dwordAt ws 6,
    stage := .done, grant := none, status := 0, dup := false, attempts := 0, count := 0, time := 0, detail := 0,
    lostAnswer := false, item := none, sender := none, cid := 0, unrecorded := false }

/-- The segments of a channel program (R222): none when it breaks the rule; `some none` when a word cannot be read. -/
def State.program (s : State) (t : Nat) : Nat → Nat → Option (Option (List (Nat × Nat)))
  | 0, _ => none
  | f + 1, a =>
    if a % 4 != 0 then none
    else if !s.agentOk t Need.load [a, a + 1, a + 2, a + 3] then some none
    else
      let d := s.agentRd t a ++ s.agentRd t (a + 1)
      let w := s.agentRd t (a + 2)
      if fld d 71 51 != 0 || fld w 34 25 != 0 || s.agentRd t (a + 3) != 0 then none
      else if bit w 35 then some (some [(fld d 50 0, fld w 24 0)])
      else match State.program s t f (a + 4) with
        | some (some r) => some (some ((fld d 50 0, fld w 24 0) :: r))
        | x => x

/-- The words of a channel program are brought in as it is followed: whether all of them are there. -/
def State.bringProgram (a t : Nat) : Nat → Nat → State → State × Bool
  | 0, _, s => (s, true)
  | f + 1, p, s =>
    let ws := [p, p + 1, p + 2, p + 3]
    if p % 4 != 0 || !s.agentOk t Need.load ws then (s, true)
    else match s.agentReads a (s.agentLines t ws) with
      | (s, false) => (s, false)
      | (s, true) => if bit (s.agentRd t (p + 2)) 35 then (s, true) else State.bringProgram a t f (p + 4) s

/-- The data segments of an order in the tenant's intermediate octets, as `program`. -/
def State.segments (s : State) (t : Nat) (o : Order) : Option (Option (List (Nat × Nat))) :=
  if o.chain then
    match s.program t 256 (fld o.w6 50 0) with
    | some (some l) => if l.foldl (fun a x => a + x.2) 0 == o.len then some (some l) else none
    | x => x
  else some (some [(fld o.w6 50 0, o.len)])

/-- The order breaks R223. -/
def State.orderInvalid (s : State) (c : Chan) (o : Order) : Bool :=
  let code := o.code
  let w2zero := fld o.w2 26 25 != 0
  let common := code == .reserved || !code.fitsClass c.cls || w2zero || fld o.w4 71 64 != 0 || fld o.w6 71 51 != 0 ||
    2 ^ 24 < o.len || (if c.cls == .c then fld o.w3 35 32 != 0 else o.w3 != 0)
  common ||
  (s.segments c.tenant o).isNone ||
  (if o.isControl then o.w0 != 0 || (code == .retire && decide (o.mark < c.retire))
   else fld o.w0 71 63 != 0 || fld o.w0 62 48 != c.localNo || o.seq == 0 ||
     (c.cls == .n && (o.len % (max 1 (Config.blockSize c.port c.target c.select)) != 0 ||
       Config.maxTransfer c.port c.target < o.len)))

/-! ## The ledger (R224-R230) -/

def State.findEntry (s : State) (src : Nat) (id : DWord) : Option LedgerEntry :=
  s.ch.ledger.find? (fun e => e.source == src && e.opid == id)

def State.modEntry (s : State) (src : Nat) (id : DWord) (f : LedgerEntry → LedgerEntry) : State :=
  { s with ch := { s.ch with ledger := s.ch.ledger.map (fun e => if e.source == src && e.opid == id then f e else e) } }

def State.dropEntry (s : State) (src : Nat) (id : DWord) : State :=
  { s with ch := { s.ch with ledger := s.ch.ledger.filter (fun e => !(e.source == src && e.opid == id)) } }

/-- The tenant that holds an entry: of a received message, that of the receive channel is kept in `series`. -/
def LedgerEntry.owner (e : LedgerEntry) : Nat := if e.source == 0x7FF then fld e.opid 71 63 else e.series

/-- CH_LEDGER_USED. -/
def State.ledgerUsed (s : State) (t : Nat) : Nat := s.ch.ledger.foldl (fun a e => if e.owner == t then a + 1 else a) 0

def ownSource : Nat := 0x7FF

/-- A ledger record as the pair mirrors it. -/
def LedgerEntry.mirrorItem (e : LedgerEntry) : MirrorItem :=
  .ledger e.owner e.source (fld e.opid 62 48) (fld e.opid 47 0) e.digest.toNat
    (if e.st == .done || e.st == .resetAbandoned then some e.status else none)

/-- Write and mirror a ledger record of an entry (R227). -/
def State.ledgerRecord (s : State) (src : Nat) (id : DWord) : State :=
  let s := s.ownRecord 2 [hiWord id, loWord id]
  match s.findEntry src id with
  | none => s
  | some e =>
    let (i, s) := s.mirrorOut e.owner e.mirrorItem
    s.modEntry src id (fun e => { e with item := i })

/-- Orders of a processor in flight. -/
def State.inflight (s : State) (p : Nat) : Nat :=
  s.ch.chans.foldl (fun a e => if e.2.proc == p then a + e.2.orders.length else a) 0

def OrderStage.live (g : OrderStage) : Bool := g == .opened || g == .issued

/-- Replace the order in a slot. -/
def Chan.modOrder (c : Chan) (slot : Nat) (f : Order → Order) : Chan :=
  { c with orders := c.orders.map (fun o => if o.slot == slot then f o else o) }

def State.modOrder (s : State) (m slot : Nat) (f : Order → Order) : State := s.setChan m ((s.chan m).modOrder slot f)

/-- The largest run of octets that stays in one page of the octet view: (real octet address, length) pieces. -/
def State.realSegs (s : State) (t : Nat) (n : Need) : Nat → Nat → Nat → Option (List (Nat × Nat))
  | 0, _, _ => some []
  | f + 1, k, len =>
    if len = 0 then some [] else
    let here := min len (18432 - k % 18432)
    match s.agentWord t n (2 * (k / 9)), s.realSegs t n f (k + here) (len - here) with
    | .ok ra, some r => some (((ra / 2) * 9 + k % 9, here) :: r)
    | _, _ => none

/-- The real octets of an order's segments, translated before issue (R241). -/
def State.takeGrant (s : State) (t : Nat) (n : Need) (segs : List (Nat × Nat)) : Option (List (Nat × Nat)) :=
  segs.foldl (fun a x => match a, s.realSegs t n (x.2 / 18432 + 2) x.1 x.2 with
    | some l, some r => some (l ++ r)
    | _, _ => none) (some [])

/-- The lowest free grant handle. -/
def State.freeGrant (s : State) : Nat :=
  ((List.range 65536).find? (fun h => (s.ch.grants.find? (fun e => e.1 == h)).isNone)).getD 0

def Grant.init : Grant := { tenant := 0, port := 0, rid := 0, chan := 0, segs := [] }

def State.closeGrant (s : State) (o : Order) : State :=
  match o.grant with
  | some h => { s with ch := { s.ch with grants := tdel s.ch.grants h } }
  | none => s

/-- The data segments that an order's entry takes: those of a data code, and a program is read for every code. -/
def State.dataOf (s : State) (t : Nat) (o : Order) : Option (List (Nat × Nat)) :=
  match s.segments t o with
  | some (some l) => if o.code.data then some l else some []
  | _ => none

/-- The agent whose writes carry an order's data to memory. -/
def Chan.dataAgent (c : Chan) : Nat := if c.cls == .receive then portAgent 0 else portAgentOf c.port

/-- Write the DONE record of an order, once the home has acknowledged the data writes (R233 steps 1 and 2). -/
def State.recordDone (s : State) (m slot : Nat) : State :=
  let c := s.chan m
  match c.orders.find? (fun o => o.slot == slot) with
  | none => s
  | some o =>
    if !s.agentQuiet c.dataAgent then s.modOrder m slot (fun o => { o with unrecorded := true })
    else (s.ledgerRecord ownSource (o.opid c.tenant)).modOrder m slot (fun o => { o with unrecorded := false })

/-- Statuses that release the entry (Table 7.9). -/
def releasing (st : Nat) : Bool := st == 0o006 || st == 0o010 || st == 0o014 || st == 0o015

/-- The ledger entry's state after a status. -/
def entryAfter (st : Nat) : LedgerState :=
  if st == 0o003 then .inDoubt else if st == 0o012 then .resetAbandoned else .done

/-- An order's outcome is known (R233): the order, the orders attached to it, its entry and its grant. -/
def State.outcome (s : State) (m slot st count : Nat) (detail : DWord) : State :=
  let c := s.chan m
  match c.orders.find? (fun o => o.slot == slot) with
  | none => s
  | some o =>
    let (now, s) := s.now
    let id := o.opid c.tenant
    let s := s.closeGrant o
    let att := (s.findEntry ownSource id).elim 0 (·.attempt)
    let fin (dup : Bool) (o : Order) : Order :=
      { o with stage := .done, status := st, dup := dup, attempts := min 3 att, count := count, time := now,
               detail := detail, grant := none, lostAnswer := false }
    let s := s.setChan m { c with orders := c.orders.map (fun p =>
      if p.slot == slot then fin p.dup p
      else if p.stage == .attached && p.opid c.tenant == id then fin true p else p) }
    let s := if st == 0o002 then { s with ch := { s.ch with unknown := s.ch.unknown + 1 } } else s
    if o.isControl || (s.findEntry ownSource id).isNone then s
    else if releasing st then s.dropEntry ownSource id
    else
      let s := s.modEntry ownSource id (fun e => { e with
        st := entryAfter st, status := st, count := count, time := now, detail := detail })
      if o.code.persistent && st != 0o003 then s.recordDone m slot else s

/-- Mark an order done without an entry: INVALID-ORDER, STALE, ID-CONFLICT and the control codes. -/
def State.finishOrder (s : State) (m slot st : Nat) : State :=
  let (now, s) := s.now
  s.modOrder m slot (fun o => { o with stage := .done, status := st, time := now })

/-! ## Issue and re-drive (R234, R237, R239) -/

/-- The grant address a device sees (Table 7.14). -/
def grantAddr (h : Nat) : Nat := 0x8000000000000000 + h * 2 ^ 25

def octetsAt (s : State) (segs : List (Nat × Nat)) : List Octet :=
  segs.flatMap (fun x => (List.range x.2).map (fun i => octetOf s.rd (x.1 + i)))

def State.peer (s : State) (p : Nat) : Peer := tget s.ch.peers Peer.init p

def State.setPeer (s : State) (p : Nat) (v : Peer) : State :=
  { s with ch := { s.ch with peers := tput s.ch.peers Peer.init p v } }

/-- The port that frames leave by (R249); none: both have failed. -/
def State.consPort (s : State) : Option Nat := if s.ch.portUp0 then some 0 else if s.ch.portUp1 then some 1 else none

/-- The header of a frame of this module, outside the sequence (Table 7.16). -/
def State.frameHeader (s : State) (p : Nat) : CHeader :=
  { valid := true, reservedZero := true, last := false, retransmit := false, srcMod := s.ch.consNum, dstMod := p,
    srcSerial := s.sv.serial, fseq := 0, fack := BitVec.ofNat 32 (s.peer p).rxFseq, opid := 0, retire := 0, attempt := 0,
    offset := 0, total := 0 }

/-- Put a frame on a port. -/
def State.emitFrame (s : State) (type : Nat) (h : CHeader) (payload : List Octet) : State :=
  match s.consPort with
  | some port => s.emit (.frame port type h payload)
  | none => s

/-- Send queued frames of a pair while fewer than 256 are unacknowledged (R249). -/
def State.servePeerN : Nat → Nat → State → State
  | 0, _, s => s
  | n + 1, p, s =>
    let v := s.peer p
    match v.queue with
    | [] => s
    | x :: r =>
      if 256 ≤ v.retained.length || s.consPort.isNone then s else
      let x : Sent := { x with hdr := { x.hdr with fseq := BitVec.ofNat 32 v.nextFseq, fack := BitVec.ofNat 32 v.rxFseq } }
      let s := s.setPeer p { v with nextFseq := (v.nextFseq + 1) % 2 ^ 32, queue := r, retained := v.retained ++ [x], sinceAck := 0 }
      State.servePeerN n p (s.emitFrame x.type x.hdr x.payload)

def State.servePeer (s : State) (p : Nat) : State := State.servePeerN (s.peer p).queue.length p s

/-- Send one frame that takes a place in the pair's sequence (R249). -/
def State.sendFrame (s : State) (p type : Nat) (h : CHeader) (payload : List Octet) : State :=
  let v := s.peer p
  (s.setPeer p { v with queue := v.queue ++ [{ hdr := h, type := type, payload := payload }] }).servePeer p

/-- The frames of a message: pieces of at most 8,192 octets. -/
def State.sendMessage (s : State) (c : Chan) (id : DWord) (attempt : Nat) (data : List Octet) : State :=
  let n := max 1 ((data.length + 8191) / 8192)
  (List.range n).foldl (fun s i =>
    s.sendFrame c.target 1 { s.frameHeader c.target with
      last := i + 1 == n, opid := id, retire := BitVec.ofNat 48 c.retire, attempt := attempt, offset := 8192 * i,
      total := data.length } ((data.drop (8192 * i)).take 8192)) s

/-- Answer a message with a COMPLETION (R248, R250): status, count and time. -/
def State.sendCompletion (s : State) (p : Nat) (id : DWord) (attempt status count time : Nat) : State :=
  s.sendFrame p 3 { s.frameHeader p with opid := id, attempt := attempt }
    (natOct 1 status ++ List.replicate 3 0 ++ natOct 4 count ++ natOct 8 time)

/-- The target of a channel can be reached now. -/
def State.targetUp (s : State) (c : Chan) : Bool :=
  match c.cls with
  | .c | .n => s.pcieUp c.port c.target
  | .send => !(s.peer c.target).down
  | .receive => true

/-! ### The private region (R237, R239, Table 7.14) -/

/-- The key of a function's queue. -/
def queueKey (port rid q : Nat) : Nat := (port * 65536 + rid) * 32 + q

/-- Where a function's queue has its parts: 0 its order or submission queue, 1 its completion queue, 2 lists of pages, 3
ranges. Assumption 63 (DESIGN CHOICE). -/
def privArea (port rid q kind : Nat) : Nat := 0x4000000000000000 + (queueKey port rid q * 4 + kind) * 2 ^ 31

/-- Entries of a queue. Assumption 63 (DESIGN CHOICE). -/
def queueSize : Nat := 4096

/-- Channel processor p uses queue p mod Q of a class C adapter; a controller has a queue pair for each processor. -/
def Chan.queue (c : Chan) : Nat := if c.cls == .c then c.proc % max 1 (min 32 (Config.adapterQueues c.port c.target)) else c.proc

def State.putPriv (s : State) (addr : Nat) (l : List Octet) : State :=
  { s with ch := { s.ch with priv := l.zipIdx.foldl (fun t p => tput t 0 (addr + p.2) p.1.toNat) s.ch.priv } }

def State.getPriv (s : State) (addr n : Nat) : List Octet := (List.range n).map (fun i => BitVec.ofNat 8 (tget s.ch.priv 0 (addr + i)))

/-- An access lies in a private queue, list or range of the function. -/
def State.privateOf (s : State) (port rid addr n : Nat) : Bool :=
  s.ch.chans.any (fun e => (e.2.cls == .c || e.2.cls == .n) && e.2.port == port && e.2.target == rid &&
    (let b := privArea port rid e.2.queue 0
     let o := (addr - b) % 2 ^ 31
     let room := if (addr - b) / 2 ^ 31 == 0 then 64 * queueSize
       else if (addr - b) / 2 ^ 31 == 1 then (if e.2.cls == .c then 32 else 16) * queueSize else 2 ^ 31
     decide (b ≤ addr) && decide (addr < b + 2 ^ 33) && decide (o + n ≤ room)))

/-- Place 64 octets at the tail of a channel's queue, and ring its doorbell. -/
def State.placeOrder (s : State) (c : Chan) (l : List Octet) : State :=
  let key := queueKey c.port c.target c.queue
  let (tail, head) := tget s.ch.queues (0, 0) key
  let s := s.putPriv (privArea c.port c.target c.queue 0 + 64 * tail) l
  let tail := (tail + 1) % queueSize
  ({ s with ch := { s.ch with queues := tput s.ch.queues (0, 0) key (tail, head) } }).emit (.orderQueued c.port c.target c.queue tail l)

/-- A completion is taken from a channel's completion queue. -/
def State.completionOut (s : State) (c : Chan) : State :=
  let key := queueKey c.port c.target c.queue
  let (tail, head) := tget s.ch.queues (0, 0) key
  let head := (head + 1) % queueSize
  ({ s with ch := { s.ch with queues := tput s.ch.queues (0, 0) key (tail, head) } }).emit (.completionTaken c.port c.target c.queue head)

/-- A channel's queue has room for one more: its orders in flight leave one entry free. -/
def State.queueRoom (s : State) (c : Chan) : Bool :=
  let n := s.ch.chans.foldl (fun a e =>
    if (e.2.cls == .c || e.2.cls == .n) && e.2.port == c.port && e.2.target == c.target && e.2.queue == c.queue then
      a + (e.2.orders.filter (fun o => o.stage == .issued)).length else a) 0
  decide (n + 1 < queueSize)

/-- The order block of Table 7.12. -/
def orderOctets (o : Order) (id : DWord) (attempt grant serial retire : Nat) : List Octet :=
  natOct 9 id.toNat ++ natOct 1 (fld o.w2 35 30) ++ natOct 1 (b2n o.idem) ++ natOct 1 attempt ++ natOct 4 o.len ++
    natOct 4 (fld o.w3 31 0) ++ natOct 8 (fld o.w4 63 0) ++ natOct 8 grant ++ natOct 8 serial ++ natOct 6 retire ++
    List.replicate 14 0

/-- Octets, least significant first. -/
def leOct (n v : Nat) : List Octet := (natOct n v).reverse

/-- A list of pages: pages of 512 entries, each but the last ending in the address of the next. Assumption 63 (PRESUMED). -/
def pageList : Nat → Nat → List Nat → List Nat
  | 0, _, l => l
  | f + 1, base, l => if l.length ≤ 512 then l else l.take 511 ++ (base + 4096) :: pageList f (base + 4096) (l.drop 511)

/-- The data pointer of a command, 16 octets, and whether it is an SGL: one data block, or pages with a list in the
private region (Table 7.13). Assumption 63 (PRESUMED). -/
def State.dataPointer (s : State) (c : Chan) (cid addr len : Nat) : List Octet × Bool × State :=
  if Config.usesSgl c.port c.target then (leOct 8 addr ++ leOct 4 len ++ List.replicate 4 0, true, s)
  else
    let pages := (List.range ((len + 4095) / 4096)).map (fun i => addr + 4096 * i)
    if pages.length ≤ 2 then (leOct 8 addr ++ leOct 8 (pages.getD 1 0), false, s)
    else
      let base := privArea c.port c.target c.queue 2 + cid * 32768
      (leOct 8 addr ++ leOct 8 base, false, s.putPriv base ((pageList 16 base (pages.drop 1)).flatMap (leOct 8)))

/-- An NVM Express command, 64 octets (Table 7.13). Its layout is that of the NVM Express Base Specification that R239
names. Assumption 63 (PRESUMED). -/
def State.nvmeCommand (s : State) (c : Chan) (o : Order) (cid grant : Nat) : List Octet × State :=
  let op := match o.code with
    | .read => 2 | .write => 1 | .flush => 0 | .writeZeroes => 8 | _ => 9
  let blocks := o.len / max 1 (Config.blockSize c.port c.target c.select)
  let range := privArea c.port c.target c.queue 3 + cid * 16
  let s := if o.code == .deallocate then s.putPriv range (leOct 4 0 ++ leOct 4 blocks ++ leOct 8 (fld o.w4 63 0)) else s
  let (dptr, sgl, s) := match o.code with
    | .read | .write => s.dataPointer c cid grant o.len
    | .deallocate => s.dataPointer c cid range 16
    | _ => (List.replicate 16 0, false, s)
  let tail := match o.code with
    | .flush => List.replicate 24 0
    | .deallocate => leOct 4 0 ++ leOct 4 4 ++ List.replicate 16 0
    | _ => leOct 8 (fld o.w4 63 0) ++ leOct 4 ((blocks - 1) % 65536) ++ List.replicate 12 0
  (leOct 1 op ++ leOct 1 (if sgl then 0x40 else 0) ++ leOct 2 cid ++ leOct 4 c.select ++ List.replicate 16 0 ++ dptr ++ tail, s)

/-- A command identifier from `n` on that no issued order of the controller has. -/
def State.freeCid (s : State) (c : Chan) : Nat → Nat → Nat
  | 0, n => n % 65535
  | f + 1, n =>
    if s.ch.chans.any (fun e => e.2.cls == .n && e.2.port == c.port && e.2.target == c.target &&
      e.2.orders.any (fun o => o.stage == .issued && o.cid == n % 65535)) then s.freeCid c f (n + 1) else n % 65535

/-- Deliver an order to its target with an attempt number. -/
def State.deliver (s : State) (m slot attempt : Nat) : State :=
  let c := s.chan m
  match c.orders.find? (fun o => o.slot == slot) with
  | none => s
  | some o =>
    let id := o.opid c.tenant
    let h := o.grant.getD 0
    match c.cls with
    | .c => s.placeOrder c (orderOctets o id attempt (grantAddr h) s.sv.serial.toNat c.retire)
    | .n =>
      let cid := s.freeCid c 65535 s.ch.nextCid
      let s := ({ s with ch := { s.ch with nextCid := (cid + 1) % 65535 } }).modOrder m slot (fun o => { o with cid := cid })
      let (l, s) := s.nvmeCommand c o cid (grantAddr h)
      s.placeOrder c l
    | .send => s.sendMessage c id attempt (octetsAt s (tget s.ch.grants Grant.init h).segs)
    | .receive => s

/-- The lines that delivering an order reads: a SEND's data (R249). -/
def State.deliverLines (s : State) (c : Chan) (o : Order) : List Nat :=
  match c.cls, o.grant with
  | .send, some h => ((tget s.ch.grants Grant.init h).segs.flatMap (fun x => octetLines x.1 x.2)).eraseDups
  | _, _ => []

/-- A tenant's orders may not be issued: its module is self-fenced (R415). -/
def State.fencedTenant (s : State) (t : Nat) : Bool := s.tw.selfFence && s.ackTwin t

/-- ISSUE: the first opened order whose OPEN record is covered. Where a channel taken over has no alternate target, an order
whose entry is IN-DOUBT completes NOT-ISSUED as well (R416), and its entry stays, since Table 7.7 releases none that is.
Assumption 63 (DEDUCED). -/
def State.issueNext (s : State) (m : Nat) : State :=
  let c := s.chan m
  if s.md.st != .run && s.md.st != .extracting then s else
  match c.orders.find? (fun o => o.stage == .opened && !o.isControl &&
      ((s.findEntry ownSource (o.opid c.tenant)).elim true (·.item.isNone))) with
  | none => s
  | some o =>
    let id := o.opid c.tenant
    if s.fencedTenant c.tenant then s
    else if c.noTarget then
      (if (s.findEntry ownSource id).any (fun e => e.st == .inDoubt) then (s.closeGrant o).finishOrder m o.slot 0o010
       else s.outcome m o.slot 0o010 0 0)
    else if o.code == .nop && c.cls != .c then
      (s.modEntry ownSource id (fun e => { e with st := .issued })).outcome m o.slot 0 0 0
    else if !s.targetUp c || ((c.cls == .c || c.cls == .n) && !s.queueRoom c) then s
    else s.withLines (procAgent c.proc) (s.deliverLines c o) (fun s =>
      let e := s.findEntry ownSource id
      let s := s.modEntry ownSource id (fun e => { e with st := .issued, series := e.series + 1 })
      let s := s.modOrder m o.slot (fun o => { o with stage := .issued, lostAnswer := false })
      s.deliver m o.slot (e.elim 0 (·.attempt)))

/-- Re-drive an issued order (R234): a further attempt, or the end of the series. An order of a PCIe function waits for
its link; a SEND to a peer that is down counts its attempts (R249). -/
def State.redrive (s : State) (m slot : Nat) : State :=
  let c := s.chan m
  match c.orders.find? (fun o => o.slot == slot) with
  | none => s
  | some o =>
    let id := o.opid c.tenant
    match s.findEntry ownSource id with
    | none => s
    | some e =>
      if 4 ≤ e.series then s.outcome m slot 0o003 0 0
      else if c.cls != .send && !s.targetUp c then s.modOrder m slot (fun o => { o with lostAnswer := true })
      else s.withLines (procAgent c.proc) (s.deliverLines c o) (fun s =>
        let s := s.modEntry ownSource id (fun e => { e with attempt := (e.attempt + 1) % 256, series := e.series + 1 })
        let s := { s with ch := { s.ch with redrives := s.ch.redrives + 1 } }
        let s := s.modOrder m slot (fun o => { o with lostAnswer := false })
        s.deliver m slot ((e.attempt + 1) % 256))

/-- An issued order has lost its answer (Table 7.10, first three rows). -/
def State.noAnswer (s : State) (m slot : Nat) : State :=
  let c := s.chan m
  match c.orders.find? (fun o => o.slot == slot && o.stage == .issued) with
  | none => s
  | some o =>
    if c.cls == .receive then s
    else if c.cls == .n && !o.idem then s.outcome m slot 0o002 0 0
    else s.redrive m slot

/-! ## Starting orders (R225) -/

/-- Open a ledger entry for a new identifier; its grant; its OPEN record (R225). -/
def State.openEntry (s : State) (m slot : Nat) : State :=
  let c := s.chan m
  match c.orders.find? (fun o => o.slot == slot) with
  | none => s
  | some o =>
    let id := o.opid c.tenant
    let e : LedgerEntry :=
      { source := ownSource, opid := id, digest := o.digest, st := .opened, persistent := o.code.persistent,
        attempt := 0, series := 0, status := 0, count := 0, time := 0, detail := 0, item := none }
    let need := if o.code == .read || o.code == .receive then Need.store else Need.load
    match (s.dataOf c.tenant o).bind (s.takeGrant c.tenant need) with
    | none => s.finishOrder m slot 0o006
    | some rs =>
      let h := s.freeGrant
      let s := { s with ch := { s.ch with
        ledger := s.ch.ledger ++ [e],
        grants := tins (tdel s.ch.grants h) h { tenant := c.tenant, port := c.port, rid := c.target, chan := m, segs := rs } } }
      let s := s.modOrder m slot (fun o => { o with stage := .opened, grant := some h })
      if o.code.persistent then s.ledgerRecord ownSource id else s

/-- An IN-DOUBT entry meets its duplicate (R225, Table 7.10). Where its data no longer translates the order completes so,
and the entry stays, since Table 7.7 releases none that is IN-DOUBT. Assumption 63 (DEDUCED). -/
def State.duplicateInDoubt (s : State) (m slot : Nat) : State :=
  let c := s.chan m
  match c.orders.find? (fun o => o.slot == slot) with
  | none => s
  | some o =>
    let id := o.opid c.tenant
    if c.cls == .n && !o.idem && ((s.findEntry ownSource id).elim false (fun e => e.status != 0o003)) then
      s.outcome m slot 0o002 0 0
    else
      let need := if o.code == .read || o.code == .receive then Need.store else Need.load
      match (s.dataOf c.tenant o).bind (s.takeGrant c.tenant need) with
      | none => s.finishOrder m slot 0o006
      | some rs =>
        let h := s.freeGrant
        let s := { s with ch := { s.ch with
          grants := tins (tdel s.ch.grants h) h { tenant := c.tenant, port := c.port, rid := c.target, chan := m, segs := rs },
          redrives := s.ch.redrives + 1 } }
        let s := s.modEntry ownSource id (fun e => { e with attempt := (e.attempt + 1) % 256, series := 0 })
        s.modOrder m slot (fun o => { o with stage := .opened, grant := some h })

/-- Release the entries of a channel that its retire mark allows (R228): not those OPEN or ISSUED, nor one whose completion
is not yet visible. -/
def State.retireRelease (s : State) (m : Nat) : State :=
  let c := s.chan m
  let awaited (e : LedgerEntry) : Bool :=
    e.item.isSome || c.orders.any (fun o => !o.isControl && !o.dup && o.stage != .waitAlloc && o.opid c.tenant == e.opid && decide (c.retire < o.seq) == false)
  { s with ch := { s.ch with ledger := s.ch.ledger.filter (fun e =>
      !(e.source == ownSource && fld e.opid 71 63 == c.tenant && fld e.opid 62 48 == c.localNo &&
        decide (fld e.opid 47 0 ≤ c.retire) && e.st != .opened && e.st != .issued && !awaited e)) } }

/-- A RETIRE takes effect. -/
def State.applyRetire (s : State) (m slot mark : Nat) : State :=
  ((s.setChan m { s.chan m with retire := mark }).retireRelease m).finishOrder m slot 0

/-- Count a copy or an attachment. -/
def State.countDup (s : State) : State := { s with ch := { s.ch with dups := s.ch.dups + 1 } }

/-- Procedure start of R225 on a valid order that has been read. -/
def State.startRead (s : State) (m : Nat) (o : Order) : State :=
  let c := s.chan m
  let id := o.opid c.tenant
  match o.code with
  | .retire =>
    let s := s.ownRecord 3 [BitVec.ofNat 36 m]
    let (i, s) := s.mirrorOut c.tenant (.config ((s.setChan m { c with retire := o.mark }).configOf c.tenant))
    match i with
    | some _ => s.modOrder m o.slot (fun o => { o with stage := .opened, item := i })
    | none => s.applyRetire m o.slot o.mark
  | .close => (s.setChan m { s.chan m with closing := true }).finishOrder m o.slot 0
  | _ =>
    if o.seq ≤ c.retire then
      ({ s with ch := { s.ch with stale := s.ch.stale + 1 } }).finishOrder m o.slot 0o001
    else match s.findEntry ownSource id with
      | some e =>
        if e.digest != o.digest then s.finishOrder m o.slot 0o004
        else match e.st with
          | .opened | .issued => s.countDup.modOrder m o.slot (fun o => { o with stage := .attached })
          | .done | .resetAbandoned =>
            s.countDup.modOrder m o.slot (fun o => { o with
              stage := .done, dup := true, status := e.status, attempts := min 3 e.attempt, count := e.count,
              time := e.time, detail := e.detail })
          | .inDoubt =>
            -- a re-drive that another duplicate has started
            if c.orders.any (fun p => p.slot != o.slot && p.stage == .opened && !p.isControl && p.opid c.tenant == id) then
              s.countDup.modOrder m o.slot (fun o => { o with stage := .attached })
            else s.duplicateInDoubt m o.slot
      | none =>
        if (s.chT c.tenant).quota ≤ s.ledgerUsed c.tenant then
          s.modOrder m o.slot (fun o => { o with stage := .waitAlloc })
        else s.openEntry m o.slot

/-- A channel can start an order now. -/
def State.canStart (s : State) (m : Nat) : Bool :=
  let c := s.chan m
  c.opened && !c.closing && c.started != c.submitted && s.md.st == .run && s.md.stopping.isNone &&
    !(c.orders.any (fun o => o.stage == .waitAlloc)) && !s.ch.procFenced.contains c.proc &&
    decide (s.inflight c.proc < 2048)

/-- The words of a slot of a channel's order ring. -/
def Chan.slotWords (c : Chan) (slot : Nat) : List Nat := (List.range 8).map (c.oring + 8 * (slot % 2 ^ c.k) + ·)

/-- The next order of a channel: read its slot once (R219). Assumption 49 (DEDUCED). -/
def State.nextOrder (s : State) (m : Nat) : Order × Bool :=
  let c := s.chan m
  let ws := c.slotWords c.started
  (Order.ofWords c.started (ws.map (s.agentRd c.tenant)), s.agentOk c.tenant Need.load ws)

/-- Start the next order of a channel, if its code is `code`; an order with a reserved code is INVALID-ORDER by any. Its slot
and channel program are read before. Assumption 49 (DEDUCED). -/
def State.start (s : State) (m : Nat) (code : OCode) : State :=
  if !s.canStart m then s else
  let c := s.chan m
  s.withReads (procAgent c.proc) c.tenant (c.slotWords c.started) (fun s =>
    let (o, readable) := s.nextOrder m
    if readable && o.code != code && o.code != .reserved then s else
    match (if readable && o.chain then State.bringProgram (procAgent c.proc) c.tenant 256 (fld o.w6 50 0) s else (s, true)) with
    | (s, false) => s
    | (s, true) =>
      let s := s.setChan m { c with started := (c.started + 1) % countMod, orders := c.orders ++ [o] }
      if !readable then s.finishOrder m o.slot 0o006
      else if s.orderInvalid c o then s.finishOrder m o.slot 0o005
      else s.startRead m o)

/-- A waiting order gets its entry when the quota allows (R229). -/
def State.allocate (s : State) (m : Nat) : State :=
  let c := s.chan m
  match c.orders.find? (fun o => o.stage == .waitAlloc) with
  | none => s
  | some o =>
    if (s.chT c.tenant).quota ≤ s.ledgerUsed c.tenant then s else s.openEntry m o.slot

/-! ## Completion records (R231-R233) -/

/-- The completion record of an order (Table 7.8). -/
def Order.record (o : Order) (c : Chan) : List Word :=
  let id : DWord := if o.isControl then 0 else o.opid c.tenant
  let phase := (o.slot / 2 ^ c.k) % 2 == 0
  [hiWord id, loWord id, packW [(b2n phase, 35), (b2n o.dup, 34), (o.attempts, 32), (o.status, 0)],
   packW [(o.count % 2 ^ 25, 0)], packW [(o.time / 2 ^ 36, 0)], packW [(o.time % 2 ^ 36, 0)], hiWord o.detail,
   loWord o.detail]

/-- Write the record of an order, and ring its source once the home has acknowledged it (R233). -/
def State.writeCompletion (s : State) (m : Nat) (o : Order) : State :=
  let c := s.chan m
  let s := s.agentWrWords (procAgent c.proc) c.tenant (c.cring + 8 * (o.slot % 2 ^ c.k)) (o.record c)
  let s := s.setChan m { c with completed := (o.slot + 1) % countMod, orders := c.orders.filter (fun p => p.slot != o.slot) }
  if o.intr then s.ringAfter (procAgent c.proc) c.tenant c.isrc else s

/-- Orders left in a batch after a CLOSE complete with CHANNEL-CLOSED (R218). -/
def State.closeRest (s : State) (m : Nat) : Nat → State
  | 0 => s
  | n + 1 =>
    let c := s.chan m
    if c.backlog == 0 then s else
    let (o, _) := ({ s with ch := { s.ch with chans := tput s.ch.chans Chan.init m { c with started := c.completed } } }).nextOrder m
    let (now, s) := s.now
    State.closeRest (s.writeCompletion m { o with status := 0o011, time := now }) m n

/-- After a record is visible: the entries that its retire mark frees are released; a CLOSE closes the channel. -/
def State.afterRecord (s : State) (m : Nat) (o : Order) : State :=
  let c := s.chan m
  if o.code == .close && o.status == 0 then
    let s := s.closeRest m c.backlog
    s.setChan m { s.chan m with opened := false, closing := false, submitted := 0, completed := 0, started := 0, orders := [] }
  else if o.isControl then s
  else s.retireRelease m

/-- What completing an order reads: after a CLOSE, the slots of the rest of its batch. -/
def Chan.restWords (c : Chan) (o : Order) : List Nat :=
  if o.code == .close && o.status == 0 then (List.range (c.backlog - 1)).flatMap (fun i => c.slotWords (o.slot + 1 + i)) else []

/-- An order's DONE record awaits the twin's receipt. -/
def State.recordWaits (s : State) (m : Nat) (o : Order) : Bool :=
  match o.sender with
  | some (src, id) => (s.findEntry src id).elim false (·.item.isSome)
  | none => !o.isControl && (s.findEntry ownSource (o.opid (s.chan m).tenant)).elim false (·.item.isSome)

/-- The next completion record of a channel, in submission order (R232, R233); a RECEIVE then returns COMPLETION. -/
def State.completeNext (s : State) (m : Nat) : State :=
  let c := s.chan m
  match c.orders.find? (fun o => o.slot == c.completed) with
  | none => s
  | some o =>
    if o.stage != .done || !s.agentQuiet c.dataAgent then s else
    let s := if o.unrecorded then s.recordDone m o.slot else s
    if s.recordWaits m o then s else
    s.withReads (procAgent c.proc) c.tenant (c.restWords o) (fun s =>
      let attempt := match o.sender with
        | some (src, id) => (s.findEntry src id).elim 0 (·.attempt)
        | none => 0
      let s := (s.writeCompletion m o).afterRecord m o
      match o.sender with
      | some (src, id) => s.sendCompletion src id attempt 0 o.count o.time
      | none => s.finishStop)

/-! ## Answers (R234-R240) -/

/-- The issued order with an identifier. -/
def State.issuedOrder (s : State) (id : DWord) : Option (Nat × Order) :=
  (s.ch.chans.findSome? (fun e =>
    (e.2.orders.find? (fun o => o.stage == .issued && !o.isControl && o.opid e.2.tenant == id)).map (fun o => (e.1, o))))

def State.countLate (s : State) : State := { s with ch := { s.ch with late := s.ch.late + 1 } }

/-- A class C completion block (Table 7.12, R238). -/
def State.completionBlock (s : State) (id : DWord) (result attempt count : Nat) (detail : BitVec 64) : State :=
  match s.issuedOrder id with
  | none => s.countLate
  | some (m, o) =>
    let c := s.chan m
    let cur := (s.findEntry ownSource id).elim 0 (·.attempt)
    if c.cls != .c || attempt % 256 != cur || 2 < result then s.countLate
    else
    let s := s.completionOut c
    if result == 2 then s.outcome m o.slot 0o010 0 0
    else if o.code == .query && result == 0 then
      if count == 0 then s.outcome m o.slot 0o013 0 0
      else
        let st := fld detail 7 0
        let q := fld o.w4 47 0
        let qid : DWord := BitVec.ofNat 72 (c.tenant * 2 ^ 63 + c.localNo * 2 ^ 48 + q)
        let s := match s.findEntry ownSource qid with
          | some e => if e.st == LedgerState.inDoubt then
              let s := s.modEntry ownSource qid (fun e => { e with st := .done, status := st })
              if e.persistent then s.ledgerRecord ownSource qid else s
            else s
          | none => s
        s.outcome m o.slot 0 0 (BitVec.ofNat 72 st)
    else s.outcome m o.slot (if result == 1 then 0o007 else 0)
      (if o.code.data then count else 0) (detail.setWidth 72)

/-- Adapter or controller reset: its issued orders have no answer. -/
def State.targetReset (s : State) (port rid : Nat) : State :=
  s.ch.chans.foldl (fun s e =>
    if (e.2.cls == .c || e.2.cls == .n) && e.2.port == port && e.2.target == rid then
      e.2.orders.foldl (fun s o => if o.stage == .issued then s.noAnswer e.1 o.slot else s) s
    else s) s

/-- The issued order of a controller with a command identifier. -/
def State.issuedCid (s : State) (port rid cid : Nat) : Option (Nat × Order) :=
  s.ch.chans.findSome? (fun e =>
    if e.2.cls == .n && e.2.port == port && e.2.target == rid then
      (e.2.orders.find? (fun o => o.stage == .issued && o.cid == cid)).map (fun o => (e.1, o))
    else none)

/-- An NVM Express completion (R240), found by its command identifier: `status` is the 15-bit status field, code in bits
[7:0], type in [10:8]. That of an attempt which has ended is late (R235). -/
def State.nvmeCompletion (s : State) (port rid cid : Nat) (status dword0 dword3 : Nat) : State :=
  match s.issuedCid port rid cid with
  | none => s.countLate
  | some (m, o) =>
    let c := s.chan m
    let s := s.completionOut c
    let detail : DWord := BitVec.ofNat 72 ((dword3 / 2 ^ 17 * 2 % 2 ^ 16) * 2 ^ 32 + dword0 % 2 ^ 32)
    let generic := nfld status 10 8 == 0
    let code := nfld status 7 0
    if nfld status 10 0 == 0 then
      s.outcome m o.slot 0 (if o.code == .read || o.code == .write then o.len else 0) detail
    else if generic && (code == 4 || code == 5 || code == 7 || code == 8) then s.noAnswer m o.slot
    else s.outcome m o.slot 0o007 0 detail

/-- Link down (R234): answers in flight are lost; orders wait for the link. -/
def State.pcieDown (s : State) (link : Nat) : State :=
  let s := { s with ch := { s.ch with links := tput s.ch.links PcieLink.init link PcieLink.init } }
  { s with ch := { s.ch with chans := s.ch.chans.map (fun e =>
      if (e.2.cls == .c || e.2.cls == .n) && s.fnLink e.2.port e.2.target == link then
        (e.1, { e.2 with orders := e.2.orders.map (fun o => if o.stage == .issued then { o with lostAnswer := true } else o) })
      else e) } }

/-- Link up: orders that lost their answers are handled by class (Table 7.10). -/
def State.pcieUpEvent (s : State) (link rate width : Nat) : State :=
  let l : PcieLink := { up := true, rate := rate % 16, width := width % 32, ide := Config.ideActive (link / 4) (link % 4) }
  let s := { s with ch := { s.ch with links := tput s.ch.links PcieLink.init link l,
                                      ioReported := s.ch.ioReported.filter (· % 8 != link / 4) } }
  s.ch.chans.foldl (fun s e =>
    if (e.2.cls == .c || e.2.cls == .n) && s.fnLink e.2.port e.2.target == link then
      e.2.orders.foldl (fun s o => if o.lostAnswer then s.noAnswer e.1 o.slot else s) s
    else s) s

/-! ## Device accesses (R241, R242) -/

/-- CH_IOFAULT: the first refusal since it was cleared (Table 7.24). Assumption 45 (DEDUCED). -/
def State.ioFault (s : State) (t : Nat) (write : Bool) (cause rid addr : Nat) : State :=
  let v := s.chT t
  let s := if v.ioValid then s else
    s.setChT t { v with ioValid := true, ioFault := true, ioWrite := write, ioCause := cause, ioRid := rid, ioAddr := addr }
  s.countLate

/-- The real octet of offset `j` of a grant. -/
def segOctet : List (Nat × Nat) → Nat → Option Nat
  | [], _ => none
  | (a, n) :: r, j => if j < n then some (a + j) else segOctet r (j - n)

/-- The real octets of an access through a grant: open, of this function, inside, and permitted by the sealing map. -/
def State.grantOctets (s : State) (port rid addr n : Nat) : Option (List Nat) :=
  let h := (addr - 0x8000000000000000) / 2 ^ 25
  let j := (addr - 0x8000000000000000) % 2 ^ 25
  match s.ch.grants.find? (fun e => e.1 == h) with
  | none => none
  | some (_, g) =>
    if g.port != port || g.rid != rid then none else
    let l := (List.range n).map (fun i => segOctet g.segs (j + i))
    if l.all (fun x => x.elim false (fun k => tagPermits s.dy.modnum (.tenant g.tenant false) (s.tag (2 * (k / 9)))))
    then some (l.filterMap id) else none

/-- Write octets at real octet addresses by masked write-back (R164). -/
def State.wrRealOctets (s : State) (a : Nat) (l : List (Nat × Octet)) : State :=
  s.agentPut a (l.flatMap (fun p => octetBitsAt p.1 p.2))

/-- Cause of a refusal of a class D access: 0 untranslated, 1 refused by stage-2 rights or sealing. -/
def State.dmaCause (s : State) (t : Nat) (n : Need) (ws : List Nat) : Option Nat :=
  ws.findSome? (fun a => match s.agentWord t n a with
    | .ok _ => none
    | .error (.exc 6 sub _) => some (if sub ≤ 2 then 0 else 1)
    | .error _ => some 1)

/-- A device write (Table 7.14). A class D function of a draining tenant has its Bus Master Enable cleared (Table 11.12). -/
def State.deviceWrite (s : State) (port rid addr : Nat) (octets : List Octet) : State :=
  let n := octets.length
  if !s.pcieUp port rid then s else
  match (Config.classDTenant port rid).map (· % 512) with
  | some t =>
    if s.drainingT t then s
    else if addr + n ≤ 2 ^ 51 then
      match s.dmaCause t Need.store (octetWords addr n) with
      | some cause => s.ioFault t true cause rid addr
      | none => s.agentWrOctets (portAgentOf port) t addr octets
    else if addr == 0x3FFFFFFFFFFFF000 && n == 4 then
      let w := octNat octets.reverse
      if w < 1024 && w < (s.page t).slice && !(s.src t w).away then s.doorbell t w else s.ioFault t true 2 rid (addr % 2 ^ 51)
    else s.countLate
  | none =>
    if 0x8000000000000000 ≤ addr then
      match s.grantOctets port rid addr n with
      | some l => s.wrRealOctets (portAgentOf port) (l.zip octets)
      | none => s.countLate
    else if s.privateOf port rid addr n then s.putPriv addr octets
    else s.countLate

/-- A device read: the answer is sent; refused reads are answered Unsupported Request. -/
def State.deviceRead (s : State) (port rid addr n : Nat) : State :=
  if !s.pcieUp port rid then s else
  match (Config.classDTenant port rid).map (· % 512) with
  | some t =>
    if s.drainingT t then s
    else if addr + n ≤ 2 ^ 51 then
      match s.dmaCause t Need.load (octetWords addr n) with
      | some cause => (s.ioFault t false cause rid addr).emit (.devRead port rid none)
      | none => s.withReads (portAgentOf port) t (octetWords addr n) (fun s => s.emit (.devRead port rid (some (s.agentOctets t addr n))))
    else s.countLate.emit (.devRead port rid none)
  | none =>
    if 0x8000000000000000 ≤ addr then
      match s.grantOctets port rid addr n with
      | some l => s.withLines (portAgentOf port) ((l.flatMap (fun k => octetLines k 1)).eraseDups) (fun s =>
          s.emit (.devRead port rid (some (l.map (octetOf s.rd)))))
      | none => s.countLate.emit (.devRead port rid none)
    else if s.privateOf port rid addr n then s.emit (.devRead port rid (some (s.getPriv addr n)))
    else s.countLate.emit (.devRead port rid none)

/-! ## Configuration (R213, R214, R253) -/

/-- The unfenced processor with the fewest channels, lowest number first; `none` when all are fenced. -/
def State.choosePe (s : State) : Option Nat :=
  let count (p : Nat) : Nat := s.ch.chans.foldl (fun a e => if e.2.proc == p then a + 1 else a) 0
  (List.range 32).foldl (fun b p =>
    if s.ch.procFenced.contains p || !s.blockOpen (72 + p) then b else
    match b with
    | none => some p
    | some q => if count p < count q then some p else b) none

def classOf (n : Nat) : Option ChanClass :=
  match n with
  | 0 => some .c
  | 1 => some .n
  | 2 => some .send
  | 3 => some .receive
  | _ => none

def classCode : ChanClass → Nat
  | .c => 0
  | .n => 1
  | .send => 2
  | .receive => 3

/-- Every entry of a channel is released when it is reconfigured: those of its orders, or of the messages it received
(R228). -/
def State.releaseChannel (s : State) (c : Chan) : State :=
  { s with ch := { s.ch with ledger := s.ch.ledger.filter (fun e =>
      if c.cls == .receive then
        !(e.source != ownSource && e.source == c.target && e.series == c.tenant &&
          Config.peerChannel e.source (fld e.opid 71 63) (fld e.opid 62 48) == c.select)
      else !(e.source == ownSource && fld e.opid 71 63 == c.tenant && fld e.opid 62 48 == c.localNo)) } }

/-- The abort of a configuration record (Table 7.18): 0 accepted. -/
def State.configAbort (s : State) (l : List Octet) : Nat :=
  let at2 (i : Nat) : Nat := octNat ((l.drop i).take 2)
  let m := at2 0
  let t := at2 2
  let cls := octNat ((l.drop 6).take 1)
  let proc := octNat ((l.drop 7).take 1)
  let port := octNat ((l.drop 10).take 1)
  let tmo := octNat ((l.drop 16).take 4)
  let sel := octNat ((l.drop 12).take 4)
  let bad := 0x8000 ≤ m || (t != 0xFFFF && (512 ≤ t || (s.chT t).slice ≤ at2 4 || 3 < cls ||
    (32 ≤ proc && proc != 0xFF) || octNat ((l.drop 11).take 1) != 0 ||
    (if cls < 2 then 8 ≤ port else port != 0 || 2048 ≤ at2 8 || sel % 65536 != 0) ||
    (cls == 0 && sel != 0) || tmo == 0 || 600000 < tmo))
  if bad then 8 else if (s.chan m).opened then 0x0B else 0

/-- A configuration record takes effect. -/
def State.configured (s : State) (l : List Octet) : State :=
  let at2 (i : Nat) : Nat := octNat ((l.drop i).take 2)
  let m := at2 0
  let t := at2 2
  let s := s.releaseChannel (s.chan m)
  let s := s.setChan m Chan.init
  if t == 0xFFFF then s else
  let proc := octNat ((l.drop 7).take 1)
  let proc := if proc == 0xFF then s.choosePe.getD 0 else proc
  let cls := (classOf (octNat ((l.drop 6).take 1))).getD .c
  let sel := octNat ((l.drop 12).take 4)
  s.setChan m { Chan.init with
    tenant := t, localNo := at2 4, cls := cls, proc := proc, target := at2 8, port := octNat ((l.drop 10).take 1),
    select := if cls == .n then sel else sel / 65536, timeout := octNat ((l.drop 16).take 4) }

/-- The tenant of a configuration record; of one that takes a channel away, the channel's. -/
def State.configTenant (s : State) (l : List Octet) : Nat :=
  let t := octNat ((l.drop 2).take 2)
  if t == 0xFFFF then (s.chan (octNat (l.take 2))).tenant else t

/-- The mirrored item of a configuration record: the tenant's configuration with it in effect. -/
def State.configItem (s : State) (l : List Octet) : Option Nat × State :=
  let t := s.configTenant l
  s.mirrorOut t (.config ((s.configured l).configOf t))

/-- A configuration is persisted and mirrored, and takes effect once the twin has it (R227, R253). -/
def State.configure (s : State) (l : List Octet) : State :=
  let s := s.persist 0x1310 1
  match s.configItem l with
  | (some i, s) => { s with ch := { s.ch with configs := s.ch.configs ++ [(i, l)] } }
  | (none, s) => s.configured l

/-- The twin's answer for a mirrored configuration; one that it did not take is mirrored again. -/
def State.configReceipt (s : State) (i : Nat) (received : Bool) : State :=
  match s.ch.configs.find? (fun e => e.1 == i) with
  | none => s
  | some (_, l) =>
    let s := { s with ch := { s.ch with configs := s.ch.configs.filter (fun e => e.1 != i) } }
    if received then s.configured l
    else match s.configItem l with
      | (some j, s) => { s with ch := { s.ch with configs := s.ch.configs ++ [(j, l)] } }
      | (none, s) => s.configured l

/-- Every configuration that waited for the twin takes effect: it has left service. -/
def State.configsDue (s : State) : State :=
  s.ch.configs.foldl (fun s e => s.configured e.2) { s with ch := { s.ch with configs := [] } }

/-- The configuration record of a channel (OD 1310h.03). -/
def State.configRecord (s : State) (m : Nat) : List Octet :=
  let c := s.chan m
  natOct 2 m ++ natOct 2 c.tenant ++ natOct 2 c.localNo ++ natOct 1 (classCode c.cls) ++ natOct 1 c.proc ++
    natOct 2 c.target ++ natOct 1 c.port ++ natOct 1 0 ++
    natOct 4 (if c.cls == .n then c.select else c.select * 65536) ++ natOct 4 c.timeout

/-- A fenced processor's channels are rebound, and what it ran goes on; where the state in the ledger's hot part cannot be
read intact, its orders are handled as after an adapter reset (R214). Whether it can is not fixed. -/
def State.fenceProc (s : State) (p : Nat) : State :=
  let (n, s) := s.tick
  let s := { s with ch := { s.ch with procFenced := if s.ch.procFenced.contains p then s.ch.procFenced else s.ch.procFenced ++ [p] } }
  let s := s.fenceBlock (72 + p)
  s.ch.chans.foldl (fun s e =>
    if e.2.proc == p then
      let s := match s.choosePe with
        | some q => s.setChan e.1 { s.chan e.1 with proc := q }
        | none => s
      if Config.procStateIntact n e.1 || !(e.2.cls == .c || e.2.cls == .n) then s
      else e.2.orders.foldl (fun s o => if o.stage == .issued then s.noAnswer e.1 o.slot else s) s
    else s) s

/-! ## Rows -/

def execNop (chan : Nat) (s : State) : Host.Outcome State Fault Refusal := s.runIf (wfChan chan) (s.start chan .nop)
def execRead (chan : Nat) (s : State) : Host.Outcome State Fault Refusal := s.runIf (wfChan chan) (s.start chan .read)
def execWrite (chan : Nat) (s : State) : Host.Outcome State Fault Refusal := s.runIf (wfChan chan) (s.start chan .write)
def execFlush (chan : Nat) (s : State) : Host.Outcome State Fault Refusal := s.runIf (wfChan chan) (s.start chan .flush)
def execWriteZeroes (chan : Nat) (s : State) : Host.Outcome State Fault Refusal :=
  s.runIf (wfChan chan) (s.start chan .writeZeroes)
def execDeallocate (chan : Nat) (s : State) : Host.Outcome State Fault Refusal :=
  s.runIf (wfChan chan) (s.start chan .deallocate)
def execControl (chan : Nat) (s : State) : Host.Outcome State Fault Refusal := s.runIf (wfChan chan) (s.start chan .control)
def execQuery (chan : Nat) (s : State) : Host.Outcome State Fault Refusal := s.runIf (wfChan chan) (s.start chan .query)
def execSend (chan : Nat) (s : State) : Host.Outcome State Fault Refusal := s.runIf (wfChan chan) (s.start chan .send)
def execReceive (chan : Nat) (s : State) : Host.Outcome State Fault Refusal := s.runIf (wfChan chan) (s.start chan .receive)
def execRetire (chan : Nat) (s : State) : Host.Outcome State Fault Refusal := s.runIf (wfChan chan) (s.start chan .retire)
def execClose (chan : Nat) (s : State) : Host.Outcome State Fault Refusal := s.runIf (wfChan chan) (s.start chan .close)
def execLedgerAllocation (chan : Nat) (s : State) : Host.Outcome State Fault Refusal := s.runIf (wfChan chan) (s.allocate chan)
def execIssue (chan : Nat) (s : State) : Host.Outcome State Fault Refusal := s.runIf (wfChan chan) (s.issueNext chan)

def execCompletionBlock (opid : DWord) (result : Nat) (_duplicate : Bool) (attempt count : Nat) (detail : BitVec 64)
    (s : State) : Host.Outcome State Fault Refusal :=
  s.runIf true (s.completionBlock opid result attempt count detail)

def execNvmExpressCompletion (port rid cid status dword0 dword3 : Nat) (s : State) :
    Host.Outcome State Fault Refusal :=
  s.runIf (wfPort port) (s.nvmeCompletion port rid cid status dword0 dword3)

def execCompletionRecord (chan : Nat) (s : State) : Host.Outcome State Fault Refusal :=
  s.runIf (wfChan chan) (s.completeNext chan)

/-- The slot is the order's place in submission order since the channel opened. -/
def execOrderTimeout (chan slot : Nat) (s : State) : Host.Outcome State Fault Refusal :=
  s.runIf (wfChan chan) (s.noAnswer chan slot)

def execPcieLinkUp (port link rate width : Nat) (s : State) : Host.Outcome State Fault Refusal :=
  s.runIf (wfPort port && wfQuad link) (s.pcieUpEvent (4 * port + link) rate width)

def execAdapterReset (port rid : Nat) (s : State) : Host.Outcome State Fault Refusal :=
  s.runIf (wfPort port) (s.targetReset port rid)

def execDeviceWrite (port rid addr : Nat) (octets : List Octet) (s : State) : Host.Outcome State Fault Refusal :=
  s.runIf (wfPort port) (s.deviceWrite port rid addr octets)

def execDeviceRead (port rid addr len : Nat) (s : State) : Host.Outcome State Fault Refusal :=
  s.runIf (wfPort port) (s.deviceRead port rid addr len)

def execConfigureChannel (route : Route) (record : List Octet) (s : State) : Host.Outcome State Fault Refusal :=
  s.runIf (wfRoute route) (s.odWriteOct route 0x1310 1 record (s.configAbort record) (fun s => s.configure record))

/-- R245: the root port's error message is a contained fault of its link's source (Table 13.1). -/
def execAerErrorMessage (port link : Nat) (s : State) : Host.Outcome State Fault Refusal :=
  s.runIf (wfPort port && wfQuad link) (s.report (1160 + 4 * port + link) 2)

end Sys2Proof.Machine
end

