-- ==== Sys2Proof/Machine/Constellation.lean ====
section
/-! DEFINITION. Constellation frames and messages (R247-R250), and the time of day (R251). -/

namespace Sys2Proof.Machine

/-! ## Frames -/

/-- A frame this module takes at all (R247, R248): valid, without reserved content, addressed to it, from a peer. -/
def State.frameOk (s : State) (h : CHeader) : Bool :=
  h.valid && h.reservedZero && h.dstMod == s.ch.consNum && decide (h.srcMod < 2048)

/-- FACK covers a frame: sequences are compared modulo 2^32. -/
def Sent.covered (x : Sent) (fack : BitVec 32) : Bool := (fack - x.hdr.fseq).toNat < 2 ^ 31

/-- A frame of a peer shows it alive; its FACK releases what it covers, and frames that waited go (R249). -/
def State.takeFack (s : State) (h : CHeader) : State :=
  let v := s.peer h.srcMod
  (s.setPeer h.srcMod { v with retained := v.retained.filter (fun x => !x.covered h.fack), used := true, alive := true,
                               down := false }).servePeer h.srcMod

/-- A sequenced frame is accepted only in order (R249): whether it is, and the state after. -/
def State.acceptSeq (s : State) (h : CHeader) : Bool × State :=
  let s := s.takeFack h
  let v := s.peer h.srcMod
  if h.fseq.toNat == (v.rxFseq + 1) % 2 ^ 32 then
    (true, s.setPeer h.srcMod { v with rxFseq := h.fseq.toNat, sinceAck := v.sinceAck + 1 })
  else (false, s)

/-- A frame that fails validation or has reserved content is discarded and counted (R247, R248). -/
def State.dropFrame (s : State) : State := { s with ch := { s.ch with dropped := s.ch.dropped + 1 } }

/-- The receive channel of a message: its peer and its permitted sender (R250). -/
def State.receiveChan (s : State) (src : Nat) (id : DWord) : Option (Nat × Chan) :=
  s.ch.chans.find? (fun e => e.2.cls == .receive && e.2.target == src &&
    e.2.select == Config.peerChannel src (fld id 71 63) (fld id 62 48))

/-- Entries keyed by a sender are released by its RETIRE field. -/
def State.peerRetire (s : State) (m src mark : Nat) (id : DWord) : State :=
  let c := s.chan m
  let s := s.setChan m { c with peerRetire := max c.peerRetire mark }
  { s with ch := { s.ch with ledger := s.ch.ledger.filter (fun e =>
      !(e.source == src && fld e.opid 71 48 == fld id 71 48 && decide (fld e.opid 47 0 ≤ mark))) } }

/-- A whole message has arrived (R250). Assumption 15 (PRESUMED). -/
def State.message (s : State) (h : CHeader) (data : List Octet) : State :=
  let src := h.srcMod
  let answer (s : State) (status count time : Nat) : State := s.sendCompletion src h.opid h.attempt status count time
  let notReady (s : State) : State := s.sendFrame src 4 { s.frameHeader src with opid := h.opid, attempt := h.attempt } []
  match s.receiveChan src h.opid with
  | none => answer s 0o015 0 0
  | some (m, c) =>
    let seq := fld h.opid 47 0
    let stale := decide (seq ≤ c.peerRetire)
    let s := s.peerRetire m src h.retire.toNat h.opid
    if stale then answer s 0o001 0 0
    else match s.findEntry src h.opid with
      | some e => if e.st == .done || e.st == .resetAbandoned then answer s e.status e.count e.time else s
      | none =>
        if (s.chT c.tenant).quota ≤ s.ledgerUsed c.tenant then notReady s
        else match (s.chan m).orders.find? (fun o => o.code == .receive && o.stage == .issued) with
          | none => notReady s
          | some o =>
            if o.len < data.length then answer s 0o014 0 0
            else
              let segs := match o.grant with | some g => (tget s.ch.grants Grant.init g).segs | none => []
              let s := s.wrRealOctets (portAgent 0) (((List.range data.length).filterMap (segOctet segs)).zip data)
              let (now, s) := s.now
              let e : LedgerEntry :=
                { source := src, opid := h.opid, digest := 0, st := .done, persistent := true, attempt := h.attempt,
                  series := c.tenant, status := 0, count := data.length, time := now, detail := 0, item := none }
              let s := { s with ch := { s.ch with ledger := s.ch.ledger ++ [e] } }
              let s := s.ledgerRecord src h.opid
              let s := s.modOrder m o.slot (fun o => { o with sender := some (src, h.opid) })
              s.outcome m o.slot 0 data.length (BitVec.ofNat 72 seq)

/-- A DATA frame: the message is put together by offset and handled when its last segment arrives. -/
def State.consData (s : State) (h : CHeader) (payload : List Octet) : State :=
  if !s.frameOk h || 8192 < payload.length then s.dropFrame else
  let (ok, s) := s.acceptSeq h
  if !ok then s else
  let key (r : RxMsg) : Bool := r.src == h.srcMod && r.opid == h.opid
  let have_ := ((s.ch.rx.find? key).map (·.octets)).getD []
  let rest := s.ch.rx.filter (fun r => !key r)
  let got := have_.take h.offset ++ payload
  if h.last then
    let s := { s with ch := { s.ch with rx := rest } }
    if got.length == h.total then s.message h got else s
  else { s with ch := { s.ch with rx := rest ++ [{ src := h.srcMod, opid := h.opid, octets := got }] } }

/-- A SEND's COMPLETION (R250): it completes with the peer's status; the answer to an attempt that has ended is late
(R235). -/
def State.consCompletion (s : State) (h : CHeader) (status count : Nat) : State :=
  if !s.frameOk h then s.dropFrame else
  let (ok, s) := s.acceptSeq h
  if !ok then s else
  match s.issuedOrder h.opid with
  | some (m, o) =>
    if (s.chan m).cls == .send && (s.chan m).target == h.srcMod &&
       (s.findEntry ownSource h.opid).any (fun e => h.attempt % 256 == e.attempt) then s.outcome m o.slot status count 0
    else s.countLate
  | none => s.countLate

/-- HELLO and every heard frame show the peer alive (R249). -/
def State.peerAlive (s : State) (p : Nat) : State :=
  s.setPeer p { s.peer p with alive := true, down := false, used := true }

/-- Send a frame outside the sequence: an ACK (2) or a HELLO (5). -/
def State.sendPlain (s : State) (p type : Nat) : State :=
  let v := s.peer p
  (s.setPeer p { v with sinceAck := 0, used := true }).emitFrame type (s.frameHeader p) []

/-! ## Time of day (R251) -/

/-- A new floor, 10 s above the count, persisted. -/
def State.newFloor (s : State) : State :=
  ({ s with tm := { s.tm with floor := s.tm.tod + 10000000000 } }).ownRecord 4 [0]

/-- The count is set forward by a step; its floor goes before it. -/
def State.stepTime (s : State) (t : Nat) : State :=
  let s := { s with tm := { s.tm with tod := max s.tm.tod t % 2 ^ 64 } }
  if s.tm.floor ≤ s.tm.tod + 1000000000 then s.newFloor else s

/-! ## Rows -/

def execConstellationData (hdr : CHeader) (payload : List Octet) (s : State) : Host.Outcome State Fault Refusal :=
  s.runIf true (s.consData hdr payload)

def execAck (hdr : CHeader) (s : State) : Host.Outcome State Fault Refusal :=
  s.runIf true (if s.frameOk hdr then (s.takeFack hdr).peerAlive hdr.srcMod else s.dropFrame)

def execCompletion (hdr : CHeader) (status count : Nat) (_time : BitVec 64) (s : State) :
    Host.Outcome State Fault Refusal :=
  s.runIf true (s.consCompletion hdr status count)

/-- The sender waits: its order stays issued, and its timeout re-drives it (R250). -/
def execNotReady (hdr : CHeader) (s : State) : Host.Outcome State Fault Refusal :=
  s.runIf true (if s.frameOk hdr then (s.acceptSeq hdr).2 else s.dropFrame)

def execHello (port : Nat) (hdr : CHeader) (s : State) : Host.Outcome State Fault Refusal :=
  s.runIf (wfTwo port) (
    let up := if port == 0 then s.ch.portUp0 else s.ch.portUp1
    if !up then s else if s.frameOk hdr then (s.takeFack hdr).peerAlive hdr.srcMod else s.dropFrame)

/-- HELLO flows to every peer in use while a port is up. -/
def execHelloSend (peer : Nat) (s : State) : Host.Outcome State Fault Refusal :=
  s.runIf (wfPeer peer) (if s.ch.portUp0 || s.ch.portUp1 then s.sendPlain peer 5 else s)

def execFack (peer : Nat) (s : State) : Host.Outcome State Fault Refusal :=
  s.runIf (wfPeer peer) (if (s.ch.portUp0 || s.ch.portUp1) && (s.peer peer).used then s.sendPlain peer 2 else s)

/-- Resend every frame from FACK + 1 (R249). -/
def execRetransmit (peer : Nat) (s : State) : Host.Outcome State Fault Refusal :=
  s.runIf (wfPeer peer) (
    if s.ch.portUp0 || s.ch.portUp1 then
      (s.peer peer).retained.foldl (fun s x => s.emitFrame x.type
        { x.hdr with retransmit := true, fack := BitVec.ofNat 32 (s.peer peer).rxFseq } x.payload) s
    else s)

def execPeerDown (peer : Nat) (s : State) : Host.Outcome State Fault Refusal :=
  s.runIf (wfPeer peer) (s.setPeer peer { s.peer peer with alive := false, down := true })

/-- A failed port moves its traffic to the other port, which shares the sequence space (R249). -/
def execConstellationPortFailure (port : Nat) (s : State) : Host.Outcome State Fault Refusal :=
  s.runIf (wfTwo port) (
    if port == 0 then { s with ch := { s.ch with portUp0 := false } } else { s with ch := { s.ch with portUp1 := false } })

def execTimeFloor (s : State) : Host.Outcome State Fault Refusal :=
  s.runIf true (if s.md.st == .run && decide (s.tm.floor ≤ s.tm.tod + 1000000000) then s.newFloor else s)

/-- Discipline: a forward offset above 10 ms at lock is stepped; every other correction is slewed. -/
def execPtpMessage (offset : Int) (atLock : Bool) (s : State) : Host.Outcome State Fault Refusal :=
  s.runIf true (
    if !s.tm.discipline || s.md.st != .run then s else
    let s := { s with tm := { s.tm with lock := if atLock then 2 else 1 } }
    if atLock && decide (10000000 < offset) then s.stepTime (s.tm.tod + offset.toNat)
    else { s with tm := { s.tm with slewBack := (-offset).toNat } })

/-- OD 1320h.08: only while discipline is off; a backward setting is slewed. -/
def execTimeOfDay (route : Route) (value : BitVec 64) (s : State) : Host.Outcome State Fault Refusal :=
  s.runIf (wfRoute route) (s.odWriteNum route 0x1320 8 value.toNat (rangeOnly (!s.tm.discipline)) (fun s =>
    if s.tm.tod ≤ value.toNat then { s.stepTime value.toNat with tm := { (s.stepTime value.toNat).tm with slewBack := 0 } }
    else { s with tm := { s.tm with slewBack := s.tm.tod - value.toNat } }))

end Sys2Proof.Machine
end

