-- ==== Sys2Proof/Machine/Compress.lean ====
section
/-! DEFINITION. Engine rings (R302-R304, R323) and the compression engine (chapter 9). -/

namespace Sys2Proof.Machine

/-! ## Rings -/

/-- A ring table entry (Table 7.2) of a tenant. -/
def State.ringEntry (s : State) (t base r : Nat) : Option (Bool × Nat × Nat × Nat × Nat) :=
  let ws := (List.range 8).map (base + 8 * r + ·)
  if s.agentOk t Need.load ws then chanEntry (ws.map (s.agentRd t)) else none

/-- Requests submitted and not completed, and those not started. -/
def Ring.backlog (r : Ring) : Nat := (r.sub + countMod - r.comp) % countMod
def Ring.waiting (r : Ring) : Nat := (r.sub + countMod - r.started) % countMod

/-- The words of ring `a`'s table entry that an ESB reads: those of a closed ring. -/
def Ring.entryWords (r : Ring) (base a : Nat) : List Nat :=
  if r.opened then [] else (List.range 8).map (base + 8 * a + ·)

/-- A request's slot. -/
def Ring.slotWords (r : Ring) (n : Nat) : List Nat := (List.range 8).map (r.oring + 8 * (n % 2 ^ r.k) + ·)

/-- ESB on a ring in the slice (Table 9.3): status and ring. One that is not accepted has no effect, opening included
(Table 7.3). Assumption 66 (DEDUCED). -/
def Ring.post (r : Ring) (entry : Option (Bool × Nat × Nat × Nat × Nat)) (draining : Bool) (level n : Nat) : Nat × Ring :=
  if draining then (5, r) else
  let opened : Option Ring :=
    if r.opened then (if r.closing then none else some r)
    else entry.map (fun e => { Ring.init with opened := true, problem := e.1, k := e.2.1, isrc := e.2.2.1, oring := e.2.2.2.1,
                                              cring := e.2.2.2.2 })
  match opened with
  | none => (2, r)
  | some q =>
    if 2 ^ q.k < q.backlog + n then (3, r)
    else if level == 3 && !q.problem then (4, r)
    else (0, { q with sub := (q.sub + n) % countMod })

/-- EPL: the count C - K, then K := C (R304). -/
def Ring.poll (r : Ring) (level : Nat) : Nat × Nat × Ring :=
  if level == 3 && !r.problem then (4, 0, r) else (0, (r.comp + countMod - r.cons) % countMod, { r with cons := r.comp })

/-- The status word of SCH, ESB and EPL. -/
def postWord (status n : Nat) : Word := packW [(status, 33), (if status == 0 then n % 2 ^ 17 else 0, 0)]

/-- A close takes effect when every request of the ring has completed (R302). -/
def Ring.settle (r : Ring) : Ring :=
  if r.closing && r.comp == r.sub then { r with opened := false, closing := false, squash := false } else r

/-- Pass parity of a slot. -/
def Ring.phase (r : Ring) (slot : Nat) : Bool := (slot / 2 ^ r.k) % 2 == 0

def State.cxT (s : State) (t : Nat) : CxTenant := tget s.cx.tenants CxTenant.init t

def State.setCxT (s : State) (t : Nat) (v : CxTenant) : State :=
  { s with cx := { s.cx with tenants := tput s.cx.tenants CxTenant.init t v } }

def State.cxRing (s : State) (t r : Nat) : Ring := tget (s.cxT t).rings Ring.init r

def State.setCxRing (s : State) (t r : Nat) (v : Ring) : State :=
  s.setCxT t { s.cxT t with rings := tput (s.cxT t).rings Ring.init r v }

/-- ESB for a compression ring: the status word and the state. -/
def State.esbCx (s : State) (t level a n : Nat) : Word × State :=
  if level < 2 || (s.cxT t).slice ≤ a then (postWord 1 0, s) else
  let (st, r) := (s.cxRing t a).post (s.ringEntry t (s.cxT t).table a) (s.sliceDraining t) level n
  (postWord st n, s.setCxRing t a r)

/-- The table entry that an ESB reads. -/
def State.esbCxReads (s : State) (t a : Nat) : List Nat :=
  if (s.cxT t).slice ≤ a then [] else (s.cxRing t a).entryWords (s.cxT t).table a

def State.eplCx (s : State) (t level a : Nat) : Word × State :=
  if level < 2 || (s.cxT t).slice ≤ a then (postWord 1 0, s) else
  let (st, n, r) := (s.cxRing t a).poll level
  (postWord st n, s.setCxRing t a r)

/-! ## Requests (R305-R308) -/

/-- A request (Table 9.4). -/
structure CxReq where
  d0 : DWord
  d2 : DWord
  d4 : DWord
  d6 : DWord
deriving DecidableEq, Repr

def CxReq.op (q : CxReq) : Nat := fld q.d0 71 70
def CxReq.nonet (q : CxReq) : Bool := bit q.d0 69
def CxReq.fresh (q : CxReq) : Bool := bit q.d0 68
def CxReq.save (q : CxReq) : Bool := bit q.d0 67
def CxReq.clear (q : CxReq) : Bool := bit q.d0 66
def CxReq.intr (q : CxReq) : Bool := bit q.d0 65
def CxReq.maxbits (q : CxReq) : Nat := fld q.d0 64 60
def CxReq.inlen (q : CxReq) : Nat := fld q.d0 45 23
def CxReq.outlim (q : CxReq) : Nat := fld q.d0 22 0
def CxReq.src (q : CxReq) : Nat := fld q.d2 50 0
def CxReq.dst (q : CxReq) : Nat := fld q.d4 50 0
def CxReq.ctx (q : CxReq) : Nat := fld q.d6 47 0
def CxReq.usesCtx (q : CxReq) : Bool := !(q.fresh && !q.save)
def CxReq.q (r : CxReq) : Nat := if r.nonet then 9 else 8

/-- Input size of `n` symbols in octets (R298). -/
def CxReq.inputSize (q : CxReq) (n : Nat) : Nat := if q.nonet then (9 * n + 7) / 8 else n

/-- First and last word of an octet range, of a nonet range, or nothing. -/
def octetSpan (k n : Nat) : Option (Nat × Nat) :=
  if n = 0 then none else
  let e := k + n - 1
  some (2 * (k / 9) + (if 5 ≤ k % 9 then 1 else 0), 2 * (e / 9) + (if 4 ≤ e % 9 then 1 else 0))

def nonetSpan (k n : Nat) : Option (Nat × Nat) := if n = 0 then none else some (k / 4, (k + n - 1) / 4)

def CxReq.srcSpan (q : CxReq) : Option (Nat × Nat) :=
  if q.op == 0 && q.nonet then nonetSpan q.src q.inlen else octetSpan q.src q.inlen

def CxReq.dstSpan (q : CxReq) : Option (Nat × Nat) :=
  if q.op == 1 && q.nonet then nonetSpan q.dst q.outlim else octetSpan q.dst q.outlim

/-- Words of a context area: 8 of header and one for each code from Q + 2. -/
def CxReq.ctxSpan (q : CxReq) : Option (Nat × Nat) :=
  if q.usesCtx then some (q.ctx, q.ctx + 8 + 2 ^ q.maxbits - 2 ^ q.q - 2 - 1) else none

def overlap (a b : Option (Nat × Nat)) : Bool :=
  match a, b with
  | some x, some y => x.1 ≤ y.2 && y.1 ≤ x.2
  | _, _ => false

/-- R306. -/
def CxReq.invalid (q : CxReq) : Bool :=
  1 < q.op || q.maxbits < 12 || 18 < q.maxbits || fld q.d0 59 46 != 0 || fld q.d2 71 51 != 0 || fld q.d4 71 51 != 0 ||
  fld q.d6 71 48 != 0 ||
  (if q.op == 0 then q.inlen == 0 || 4194304 < q.inlen || q.outlim < q.inputSize q.inlen - 1
   else q.inlen < 34 || 4718591 < q.inlen) ||
  (q.usesCtx && q.ctx % 8 != 0) ||
  (q.nonet && (if q.op == 0 then bit q.d2 50 else bit q.d4 50)) ||
  overlap q.srcSpan q.dstSpan || overlap q.srcSpan q.ctxSpan || overlap q.dstSpan q.ctxSpan

/-- Pages of a word span. -/
def spanPages (x : Option (Nat × Nat)) : List Nat :=
  match x with
  | none => []
  | some (a, b) => (List.range (b / 4096 + 1 - a / 4096)).map (fun i => (a / 4096 + i) * 4096)

/-- R307: every page can be translated with its rights. -/
def State.cxTranslates (s : State) (t : Nat) (q : CxReq) : Bool :=
  s.agentOk t Need.load (spanPages q.srcSpan) && s.agentOk t Need.store (spanPages q.dstSpan) &&
  (q.fresh || s.agentOk t Need.load (spanPages q.ctxSpan)) && (!q.save || s.agentOk t Need.store (spanPages q.ctxSpan))

/-- The source's symbols. -/
def State.cxSymbols (s : State) (t : Nat) (nonet : Bool) (a n : Nat) : List Nat :=
  if nonet then (List.range n).map (fun i => (nonetOf (s.agentRd t) (a + i)).toNat)
  else (s.agentOctets t a n).map (·.toNat)

/-- Write symbols to the destination. -/
def State.cxWrite (s : State) (t : Nat) (nonet : Bool) (a : Nat) (l : List Nat) : State :=
  if nonet then
    s.agentPut compressionAgent (s.agentBits t ((l.zipIdx).map (fun x =>
      let m := a + x.2
      { ra := m / 4, val := (BitVec.ofNat 36 (x.1 % 512)) <<< (27 - 9 * (m % 4)), mask := nonetMask (m % 4) })))
  else s.agentWrOctets compressionAgent t a (l.map (BitVec.ofNat 8))

/-- The dictionary of a context area and its BLOCKS, if valid for the request (R301, Table 9.2). -/
def State.restore (s : State) (t : Nat) (q : CxReq) : Option (Dict × Nat) :=
  let w (i : Nat) : Word := s.agentRd t (q.ctx + i)
  let w1 := w 1
  let d := fld w1 18 0
  let base := 2 ^ q.q + 2
  let ents := (List.range (d - base)).map (fun i => w (8 + i))
  let ok := w 0 == 0o103130103124 && bit w1 35 && bit w1 34 == q.nonet && bit w1 33 == q.clear && fld w1 32 28 == q.maxbits &&
    fld w1 27 19 == 0 && fld (w 2) 35 32 == 0 && (List.range 5).all (fun i => w (3 + i) == 0) && decide (base ≤ d) &&
    decide (d ≤ 2 ^ q.maxbits) &&
    (ents.zipIdx).all (fun x => fld x.1 35 27 == 0 && decide (fld x.1 26 9 < base + x.2) && fld x.1 26 9 != 2 ^ q.q &&
      fld x.1 26 9 != 2 ^ q.q + 1 && decide (fld x.1 8 0 < 2 ^ q.q))
  if ok then some (⟨q.q, q.maxbits, ents.map (fun e => (fld e 26 9, fld e 8 0))⟩, fld (w 2) 31 0) else none

/-- Save the dictionary and the header (R300, Table 9.2). -/
def State.saveCtx (s : State) (t : Nat) (q : CxReq) (d : Dict) (blocks : Nat) : State :=
  let hdr := [(0o103130103124 : Word), packW [(1, 35), (b2n q.nonet, 34), (b2n q.clear, 33), (q.maxbits, 28), (d.next, 0)],
              packW [(blocks % 2 ^ 32, 0)], 0, 0, 0, 0, 0]
  let s := s.agentWrWords compressionAgent t (q.ctx + 8) (d.entries.map (fun e => packW [(e.1, 9), (e.2, 0)]))
  s.agentWrWords compressionAgent t q.ctx hdr

/-- The outcome of a request: status, COUNT, DNEXT, REASON, OFFSET, CRC. -/
structure CxResult where
  status : Nat
  count : Nat
  dnext : Nat
  reason : Nat
  offset : Nat
  crc : Nat
deriving DecidableEq, Repr

def cxFail (status : Nat) : CxResult := ⟨status, 0, 0, 0, 0, 0⟩

/-- PARAMS of the trailer. -/
def CxReq.params (q : CxReq) : Nat := b2n q.nonet * 128 + b2n q.clear * 64 + b2n q.fresh * 32 + q.maxbits

/-- A compress request with its dictionary and BLOCKS. -/
def State.cxCompress (s : State) (t : Nat) (q : CxReq) (d : Dict) (blocks : Nat) : CxResult × State :=
  let syms := s.cxSymbols t q.nonet q.src q.inlen
  let crc := crc64 q.q syms
  let (stream, d') := lzwStream q.clear d syms
  if q.inputSize q.inlen ≤ stream.length + 32 then
    let (n, s) := s.tick
    let k := min (Config.noGainWritten n) (min stream.length q.outlim)
    (⟨1, 0, 0, 0, k, crc.toNat⟩, s.agentWrOctets compressionAgent t q.dst (stream.take k))
  else
    let blockNo := if q.fresh then 0 else blocks
    let s := s.agentWrOctets compressionAgent t q.dst (stream ++ cxTrailer q.params q.inlen stream.length blockNo crc)
    let s := if q.save then s.saveCtx t q d' (blockNo + 1) else s
    (⟨0, stream.length + 32, d'.next, 0, 0, crc.toNat⟩, s)

/-- A decompress request (R308). -/
def State.cxDecompress (s : State) (t : Nat) (q : CxReq) (d : Dict) (blocks : Nat) : CxResult × State :=
  let off := q.inlen - 32
  let tr := s.agentOctets t (q.src + off) 32
  let f (i n : Nat) : Nat := octNat ((tr.drop i).take n)
  let syms := f 8 4
  let bad (r : Nat) : CxResult × State := (⟨3, 0, 0, r, off, 0⟩, s)
  if f 0 4 != 0x4358424C || f 5 3 != 0 || f 20 4 != 0 then bad 1
  else if f 4 1 != q.params then bad 2
  else if f 12 4 + 32 != q.inlen then bad 3
  else if f 16 4 != (if q.fresh then 0 else blocks) then bad 4
  else if q.outlim < syms then (cxFail 2, s)
  else
    let bits := (s.agentOctets t q.src off).flatMap octetBits
    let r := lzwDecode (8 * off) syms (bits.length + 1) 0 d none [] bits
    let s' := s.cxWrite t q.nonet q.dst r.syms
    match r.failure with
    | some (reason, pos) => (⟨3, r.syms.length, 0, reason, pos / 8, 0⟩, s')
    | none =>
      let crc := crc64 q.q r.syms
      if crc.toNat != f 24 8 then (⟨4, r.syms.length, 0, 0, 0, crc.toNat⟩, s')
      else
        let s' := if q.save then s'.saveCtx t q r.dict ((if q.fresh then 0 else blocks) + 1) else s'
        (⟨0, r.syms.length, r.dict.next, 0, 0, crc.toNat⟩, s')

/-- A request from its checks to its outputs. -/
def State.cxRun (s : State) (t : Nat) (q : CxReq) : CxResult × State :=
  if q.invalid then (cxFail 7, s)
  else if !s.cxTranslates t q then (cxFail 6, s)
  else
    let ctx := if q.fresh then some (⟨q.q, q.maxbits, []⟩, 0) else s.restore t q
    match ctx with
    | none => (cxFail 5, s)
    | some (d, b) => if q.op == 0 then s.cxCompress t q d b else s.cxDecompress t q d b

/-- Words of the completion record without PHASE and TIME (Table 9.6). -/
def CxResult.words (r : CxResult) : List Word :=
  [packW [(r.status, 0)], packW [(r.count, 0)], packW [(r.dnext, 0)], packW [(r.reason, 24), (r.offset, 0)],
   packW [(r.crc / 2 ^ 36, 0)], packW [(r.crc % 2 ^ 36, 0)]]

/-! ## Scheduling (R310, R311) -/

/-- Lanes a tenant holds. -/
def CxTenant.lanesHeld (v : CxTenant) : Nat := v.rings.foldl (fun a e => a + e.2.ran.length) 0

/-- Words of a span. -/
def spanWords (x : Option (Nat × Nat)) : List Nat := x.elim [] (fun p => (List.range (p.2 + 1 - p.1)).map (p.1 + ·))

/-- The words a request reads (R307). -/
def State.cxReads (s : State) (t : Nat) (q : CxReq) : List Nat :=
  if q.invalid || !s.cxTranslates t q then []
  else spanWords q.srcSpan ++ if q.fresh then [] else spanWords q.ctxSpan

/-- Lanes enabled: by the active profile, less fenced lanes (OD 1400h.01). -/
def State.laneEnabled (s : State) (l : Nat) : Bool := l < s.md.lanes && !s.cx.fenced.contains l

/-- Work may start in this module state. -/
def State.worksNow (s : State) : Bool := s.md.st == .run || s.md.st == .extracting

/-- The next request of a ring. -/
def State.cxNext (s : State) (t r : Nat) : CxReq :=
  let g := s.cxRing t r
  let a := g.oring + 8 * (g.started % 2 ^ g.k)
  let d (i : Nat) : DWord := s.agentRd t (a + i) ++ s.agentRd t (a + i + 1)
  ⟨d 0, d 2, d 4, d 6⟩

/-- Run the next request of a ring on a lane. -/
def State.cxBegin (s : State) (t r lane : Nat) (q : CxReq) : State :=
  let slot := (s.cxRing t r).started
  let (res, s) := s.cxRun t q
  let x : Ran := { slot := slot, words := res.words, irq := q.intr, unit := lane, handle := if q.usesCtx then q.ctx + 1 else 0 }
  let g := s.cxRing t r
  let s := s.setCxRing t r { g with started := (slot + 1) % countMod, ran := g.ran ++ [x] }
  { s with cx := { s.cx with busy := s.cx.busy ++ [lane], noGain := if res.status == 1 then s.cx.noGain + 1 else s.cx.noGain } }

/-- A ring's next request may start on a lane. -/
def State.cxMay (s : State) (t r lane : Nat) : Bool :=
  let v := s.cxT t
  let g := s.cxRing t r
  g.opened && !g.squash && 0 < g.waiting && s.laneEnabled lane && s.blockOpen lane && !s.cx.busy.contains lane &&
    v.lanesHeld < v.laneLimit && s.worksNow

/-- Start the next request of a ring on a lane, if it is of the operation `op` and may start. -/
def State.cxStart (s : State) (t r lane op : Nat) : State :=
  let g := s.cxRing t r
  if !s.cxMay t r lane then s
  else s.withReads compressionAgent t (g.slotWords g.started) (fun s =>
    let q := s.cxNext t r
    let opOk := q.op == op || 1 < q.op
    let ctxFree := q.fresh || g.ran.all (fun x => x.handle != q.ctx + 1)
    if !opOk || !ctxFree then s
    else s.withReads compressionAgent t (s.cxReads t q) (fun s => s.cxBegin t r lane q))

/-- Write a completion record of a ring (R309, R310); its interrupt follows the acknowledge. -/
def State.ringComplete (s : State) (t : Nat) (g : Ring) (slot : Nat) (words : List Word) (irq : Bool) : State :=
  let (now, s) := s.now
  let w0 := wordAt words 0 ||| packW [(b2n (g.phase slot), 35)]
  let ws := (words.set 0 w0).take 6 ++ [packW [(now / 2 ^ 36, 0)], packW [(now % 2 ^ 36, 0)]]
  let s := s.agentWrWords compressionAgent t (g.cring + 8 * (slot % 2 ^ g.k)) ws
  if irq then s.ringAfter compressionAgent t g.isrc else s

/-- A request that lost its lane runs again on another enabled one that is idle (R313). -/
def State.cxHasLane (s : State) (x : Ran) : Bool :=
  x.unit < 48 || (List.range 48).any (fun l => s.laneEnabled l && s.blockOpen l && !s.cx.busy.contains l)

/-- The next completion of a ring, in ring order, once the home has acknowledged the request's writes (R310). Where the
ring drains, a request not started completes SQUASHED (R314). -/
def State.cxComplete (s : State) (t r : Nat) : State :=
  let g := s.cxRing t r
  if !s.agentQuiet compressionAgent then s else
  match g.ran.find? (fun x => x.slot == g.comp) with
  | none =>
    if !g.squash || g.waiting == 0 || g.comp != g.started then s else
    let s := s.ringComplete t g g.comp [packW [(8, 0)], 0, 0, 0, 0, 0] false
    let n := (g.comp + 1) % countMod
    let s := s.setCxRing t r ({ g with comp := n, started := n } : Ring).settle
    { s with cx := { s.cx with completed := s.cx.completed + 1 } }
  | some x =>
    if !s.cxHasLane x then s else
    let s := s.ringComplete t g x.slot x.words x.irq
    let s := s.setCxRing t r ({ g with comp := (g.comp + 1) % countMod, ran := g.ran.filter (fun y => y.slot != x.slot) }).settle
    ({ s with cx := { s.cx with busy := s.cx.busy.filter (· != x.unit), completed := s.cx.completed + 1 } }).finishChange

/-- A write of CX_CLOSE (Table 9.11). -/
def State.cxCloseWrite (s : State) (a : Accessor) (t : Nat) (w : Word) : State :=
  let v := s.cxT t
  if !roleZHG a.role then s
  else if fld w 15 0 ≥ 2 ^ v.slice then
    (match a.role with
     | .h => s.setCxT t { v with rejectH := true }
     | .g => s.setCxT t { v with rejectG := true }
     | _ => s)
  else (List.range 16).foldl (fun s r =>
    let g := s.cxRing t r
    if bit w r && g.opened then s.setCxRing t r ({ g with closing := true }).settle else s) s

/-- A fenced lane's request runs again on another lane, and is counted (R313). -/
def State.fenceLane (s : State) (l : Nat) : State :=
  let rerun := s.cx.busy.contains l
  let s := s.fenceBlock l
  let lose (g : Ring) : Ring := { g with ran := g.ran.map (fun x => if x.unit == l then { x with unit := 48 } else x) }
  { s with cx := { s.cx with
      tenants := s.cx.tenants.map (fun e => (e.1, { e.2 with rings := e.2.rings.map (fun g => (g.1, lose g.2)) })),
      fenced := if s.cx.fenced.contains l then s.cx.fenced else s.cx.fenced ++ [l],
      busy := s.cx.busy.filter (· != l),
      reruns := if rerun then s.cx.reruns + 1 else s.cx.reruns } }

/-- Complete what a ring can complete now. -/
def State.cxCompletions (t r : Nat) : Nat → State → State
  | 0, s => s
  | n + 1, s => State.cxCompletions t r n (s.cxComplete t r)

/-- A draining ring (R314): its requests not started complete SQUASHED after those that run, and it closes. The number
squashed. Assumption 40 (DEDUCED). -/
def State.cxDrainRing (s : State) (t r : Nat) : State × Nat :=
  let g := s.cxRing t r
  if !g.opened then (s, 0) else
  let s := s.setCxRing t r ({ g with squash := true, closing := true } : Ring).settle
  (State.cxCompletions t r g.backlog s, g.waiting)

/-! ## Rows -/

def execCompress (tenant ring lane : Nat) (s : State) : Host.Outcome State Fault Refusal :=
  s.runIf (wfTenant tenant && wfRing ring && wfLane lane) (s.cxStart tenant ring lane 0)
def execDecompress (tenant ring lane : Nat) (s : State) : Host.Outcome State Fault Refusal :=
  s.runIf (wfTenant tenant && wfRing ring && wfLane lane) (s.cxStart tenant ring lane 1)
def execCompressionCompletion (tenant ring : Nat) (s : State) : Host.Outcome State Fault Refusal :=
  s.runIf (wfTenant tenant && wfRing ring) (s.cxComplete tenant ring)
def execCxClose (acc : Accessor) (tenant : Nat) (value : Word) (s : State) : Host.Outcome State Fault Refusal :=
  s.runIf (wfAccessor acc && wfTenant tenant) (if s.reach acc tenant then s.cxCloseWrite acc tenant value else s)

end Sys2Proof.Machine
end

