-- ==== Sys2Proof/Machine/Cipher.lean ====
section
/-! DEFINITION. The cipher engine, its rings and key slots (chapter 10). -/

namespace Sys2Proof.Machine

def State.ciT (s : State) (t : Nat) : CiTenant := tget s.ci.tenants CiTenant.init t

def State.setCiT (s : State) (t : Nat) (v : CiTenant) : State :=
  { s with ci := { s.ci with tenants := tput s.ci.tenants CiTenant.init t v } }

def State.ciRing (s : State) (t r : Nat) : Ring := tget (s.ciT t).rings Ring.init r

def State.setCiRing (s : State) (t r : Nat) (v : Ring) : State :=
  s.setCiT t { s.ciT t with rings := tput (s.ciT t).rings Ring.init r v }

def State.keySlot (s : State) (t h : Nat) : KeySlot := tget (s.ciT t).keys KeySlot.init h

def State.setKeySlot (s : State) (t h : Nat) (v : KeySlot) : State :=
  s.setCiT t { s.ciT t with keys := tput (s.ciT t).keys KeySlot.init h v }

/-- A ring that opens counts from zero, so marks of its earlier life fall away. -/
def CiTenant.forget (v : CiTenant) (r : Nat) : CiTenant :=
  { v with keys := (v.keys.map (fun e => (e.1, { e.2 with before := tdel e.2.before r }))).filter (fun e => e.2 != KeySlot.init) }

/-- ESB with VAR[8] = 1 (R323): the status word and the state. -/
def State.esbCi (s : State) (t level a n : Nat) : Word × State :=
  if level < 2 || (s.ciT t).ringSlice ≤ a then (postWord 1 0, s) else
  let was := (s.ciRing t a).opened
  let (st, r) := (s.ciRing t a).post (s.ringEntry t (s.ciT t).table a) (s.sliceDraining t) level n
  let s := if !was && r.opened then s.setCiT t ((s.ciT t).forget a) else s
  (postWord st n, s.setCiRing t a r)

/-- The table entry that it reads. -/
def State.esbCiReads (s : State) (t a : Nat) : List Nat :=
  if (s.ciT t).ringSlice ≤ a then [] else (s.ciRing t a).entryWords (s.ciT t).table a

/-- EPL with VAR[8] = 1 (R323). -/
def State.eplCi (s : State) (t level a : Nat) : Word × State :=
  if level < 2 || (s.ciT t).ringSlice ≤ a then (postWord 1 0, s) else
  let (st, n, r) := (s.ciRing t a).poll level
  (postWord st n, s.setCiRing t a r)

/-! ## Requests (R324-R327) -/

/-- A request (Table 10.1). -/
structure CiReq where
  d0 : DWord
  d2 : DWord
  d4 : DWord
  tag : DWord
deriving DecidableEq, Repr

def CiReq.op (q : CiReq) : Nat := fld q.d0 71 70
def CiReq.intr (q : CiReq) : Bool := bit q.d0 69
def CiReq.handle (q : CiReq) : Nat := fld q.d0 57 48
def CiReq.blocks (q : CiReq) : Nat := fld q.d0 16 0
def CiReq.src (q : CiReq) : Nat := fld q.d2 50 0
def CiReq.dst (q : CiReq) : Nat := fld q.d4 50 0
/-- Octets of the source and of the destination. -/
def CiReq.octets (q : CiReq) : Nat := 16 * q.blocks

/-- R325, for a tenant's handle slice. -/
def CiReq.invalid (q : CiReq) (handles : Nat) : Bool :=
  1 < q.op || fld q.d0 68 58 != 0 || fld q.d0 47 17 != 0 || q.blocks == 0 || 65536 < q.blocks || fld q.d2 71 51 != 0 ||
  fld q.d4 71 51 != 0 || handles ≤ q.handle ||
  (q.src != q.dst && q.src < q.dst + q.octets && q.dst < q.src + q.octets)

/-- R307 for the source and the destination. -/
def State.ciTranslates (s : State) (t : Nat) (q : CiReq) : Bool :=
  s.agentOk t Need.load (spanPages (octetSpan q.src q.octets)) && s.agentOk t Need.store (spanPages (octetSpan q.dst q.octets))

/-- Blocks of a running request, in ascending order, by the slot's key: `n` blocks from block `j` on. -/
def State.ciBlocks (t : Nat) (key : List Octet) (dec : Bool) (src dst n j : Nat) (s : State) : State :=
  let out (i : Nat) : List Octet :=
    let b := s.agentOctets t (src + 16 * (j + i)) 16
    if dec then aesDecrypt key b else aesEncrypt key b
  s.agentWrOctets cipherAgent t (dst + 16 * j) ((List.range n).flatMap out)

/-- Dispatch and write the next `n` blocks of a running request. -/
def State.ciDispatch (s : State) (t : Nat) (x : Ran) (n : Nat) : State × Ran :=
  let n := min n x.left
  (State.ciBlocks t (s.keySlot t x.handle).key x.dec x.src x.dst n (x.total - x.left) s, { x with left := x.left - n })

/-- Words 0 to 3 of a completion record without PHASE (Table 10.2). -/
def ciWords (status count : Nat) (tag : DWord) : List Word :=
  [packW [(status, 0)], packW [(count, 0)], hiWord tag, loWord tag]

/-- Reserve counts ahead in steps of 2^30 blocks (R333). -/
def KeySlot.reserve (k : KeySlot) : KeySlot :=
  if k.reservedTo < k.used then { k with reservedTo := k.reservedTo + 2 ^ 30 } else k

/-- The next request of a ring. -/
def State.ciNext (s : State) (t r : Nat) : CiReq :=
  let g := s.ciRing t r
  let a := g.oring + 8 * (g.started % 2 ^ g.k)
  let d (i : Nat) : DWord := s.agentRd t (a + i) ++ s.agentRd t (a + i + 1)
  ⟨d 0, d 2, d 4, d 6⟩

/-- A ring's count stands before another, modulo 2^48. -/
def countBefore (a b : Nat) : Bool := 0 < (b + countMod - a) % countMod && (b + countMod - a) % countMod ≤ 2 ^ 17

/-- The status a request ends with before any block is dispatched, 0 when it starts (R325, R326, R337). -/
def State.ciCheck (s : State) (t r : Nat) (q : CiReq) : Nat :=
  let k := s.keySlot t q.handle
  if q.invalid (s.ciT t).handleSlice then 7
  else if k.before.any (fun e => e.1 == r && countBefore (s.ciRing t r).started e.2) then 4
  else if !k.loaded then 1
  else if !(if q.op == 0 then k.enc else k.dec) then 2
  else if 2 ^ 40 < k.used + q.blocks then 3
  else if !s.ciTranslates t q then 6
  else 0

/-- Cores a tenant holds (R321). -/
def CiTenant.coresHeld (v : CiTenant) : Nat := v.rings.foldl (fun a e => a + e.2.ran.length) 0

/-- A core that the engine may use: 24, less fenced ones (OD 1410h.01). -/
def State.aesEnabled (s : State) (c : Nat) : Bool := c < 24 && !s.ci.fenced.contains c

/-- Count the blocks of a started request on its slot (R326 step 4), persisting a reservation before the count passes
the last one (R333). -/
def State.ciCount (s : State) (t h blocks : Nat) : State :=
  let k := { s.keySlot t h with used := (s.keySlot t h).used + blocks }
  let s := if k.reservedTo < k.used then s.ownRecord 6 [packW [(t, 10), (h, 0)]] else s
  s.setKeySlot t h k.reserve

/-- A ring's next request may start on a core. -/
def State.ciMay (s : State) (t r aes : Nat) : Bool :=
  let v := s.ciT t
  let g := s.ciRing t r
  g.opened && !g.squash && 0 < g.waiting && s.aesEnabled aes && s.blockOpen (48 + aes) && !s.ci.busy.contains aes &&
    v.coresHeld < v.coreLimit && s.worksNow

/-- Start the next request of a ring on a core (R326). -/
def State.ciBegin (s : State) (t r aes : Nat) (q : CiReq) : State :=
  let g := s.ciRing t r
  let st := s.ciCheck t r q
  let left := if st == 0 then q.blocks else 0
  let x : Ran := { slot := g.started, words := ciWords st 0 q.tag, irq := q.intr, unit := aes, handle := q.handle,
                   dec := q.op == 1, left := left, total := left, src := q.src, dst := q.dst }
  let s := if st == 0 then s.ciCount t q.handle q.blocks else s
  let g := s.ciRing t r
  let s := s.setCiRing t r { g with started := (g.started + 1) % countMod, ran := g.ran ++ [x] }
  { s with ci := { s.ci with busy := s.ci.busy ++ [aes] } }

/-- Start the next request of a ring on a core, if it is of the operation `op` and may start (R321). The blocks are
written by the time of the completion record; what interrupts the request before finds a free number of them written. -/
def State.ciStart (s : State) (t r aes op : Nat) : State :=
  let g := s.ciRing t r
  if !s.ciMay t r aes then s
  else s.withReads cipherAgent t (g.slotWords g.started) (fun s =>
    let q := s.ciNext t r
    if !(q.op == op || 1 < q.op) then s else s.ciBegin t r aes q)

/-- Write a completion record (R327): PHASE, TIME and the interrupt after it. -/
def State.ciRecord (s : State) (t : Nat) (g : Ring) (slot : Nat) (words : List Word) (irq : Bool) : State :=
  let (now, s) := s.now
  let w0 := wordAt words 0 ||| packW [(b2n (g.phase slot), 35)]
  let ws := (words.set 0 w0).take 4 ++ [packW [(now / 2 ^ 36, 0)], packW [(now % 2 ^ 36, 0)], 0, 0]
  let s := s.agentWrWords cipherAgent t (g.cring + 8 * (slot % 2 ^ g.k)) ws
  if irq then s.ringAfter cipherAgent t g.isrc else s

/-- A request that lost its core continues on another enabled one that is idle (R322). -/
def State.ciHasCore (s : State) (x : Ran) : Bool :=
  x.unit < 24 || (List.range 24).any (fun c => s.aesEnabled c && s.blockOpen (48 + c) && !s.ci.busy.contains c)

/-- The words of a request's next `n` source blocks. -/
def Ran.blockWords (x : Ran) (n : Nat) : List Nat := spanWords (octetSpan (x.src + 16 * (x.total - x.left)) (16 * n))

/-- The last blocks of a request are dispatched and written. -/
def State.ciFinish (s : State) (t r : Nat) (x : Ran) : State × Ran :=
  let g := s.ciRing t r
  let (s, y) := s.ciDispatch t x x.left
  let y := if 0 < x.left then { y with words := y.words.set 1 (packW [(x.total, 0)]) } else y
  (s.setCiRing t r { g with ran := g.ran.map (fun z => if z.slot == x.slot then y else z) }, y)

/-- The completion record of a ring's next request, in ring order: the last blocks, then the record, once the home has
acknowledged them (R327). Where the ring drains, a request not started completes SQUASHED with COUNT 0 (R340). -/
def State.ciComplete (s : State) (t r : Nat) : State :=
  let g := s.ciRing t r
  match g.ran.find? (fun x => x.slot == g.comp) with
  | none =>
    if !g.squash || g.waiting == 0 || g.comp != g.started then s else
    s.withReads cipherAgent t (g.slotWords g.started) (fun s =>
      let q := s.ciNext t r
      let s := s.ciRecord t g g.comp (ciWords 8 0 q.tag) q.intr
      let n := (g.comp + 1) % countMod
      let s := s.setCiRing t r ({ g with comp := n, started := n } : Ring).settle
      { s with ci := { s.ci with completed := s.ci.completed + 1 } })
  | some x =>
    if !s.ciHasCore x then s else
    s.withReads cipherAgent t (x.blockWords x.left) (fun s =>
      let (s, y) := s.ciFinish t r x
      if !s.agentQuiet cipherAgent then s else
      let s := s.ciRecord t g y.slot y.words y.irq
      let s := s.setCiRing t r ({ g with comp := (g.comp + 1) % countMod, ran := g.ran.filter (fun z => z.slot != x.slot) }).settle
      { s with ci := { s.ci with busy := s.ci.busy.filter (· != x.unit), completed := s.ci.completed + 1 } })

/-- Of the next `n` blocks of a running request, those whose source stands here: the others are not yet dispatched. -/
def State.blocksAtHand (s : State) (t : Nat) (x : Ran) (n : Nat) : Nat :=
  ((List.range (min n x.left)).takeWhile (fun i => (s.agentLines t (x.blockWords (i + 1))).all s.readable)).length

/-- A running request is stopped: a free number of its blocks has been dispatched and is written; the rest is not. The
request, and how many blocks were not dispatched. -/
def State.ciStop (s : State) (t : Nat) (x : Ran) (status : Nat) : State × Ran × Nat :=
  let (n, s) := s.tick
  let (s, y) := s.ciDispatch t x (s.blocksAtHand t x (Config.dispatched n))
  let count := x.total - y.left
  if y.left == 0 then (s, if 0 < x.total then { y with words := y.words.set 1 (packW [(count, 0)]) } else y, 0)
  else (s, { y with words := [packW [(status, 0)], packW [(count, 0)]] ++ y.words.drop 2, left := 0 }, y.left)

/-- A write of CI_CLOSE (R323, Table 10.8). -/
def State.ciCloseWrite (s : State) (a : Accessor) (t : Nat) (w : Word) : State :=
  let v := s.ciT t
  if !roleZHG a.role then s
  else if fld w 15 0 ≥ 2 ^ v.ringSlice then
    (match a.role with
     | .h => s.setCiT t { v with rejectH := true }
     | .g => s.setCiT t { v with rejectG := true }
     | _ => s)
  else (List.range 16).foldl (fun s r =>
    let g := s.ciRing t r
    if bit w r && g.opened then s.setCiRing t r ({ g with closing := true }).settle else s) s

/-! ## Key commands (R333-R338) -/

/-- Write CI_KEY_RESULT and clear BUSY. -/
def State.keyResult (s : State) (t status : Nat) : State :=
  let s := s.setCiT t { s.ciT t with busy := false, resValid := true, resStatus := status, change := none }
  { s with ci := { s.ci with keyCommands := s.ci.keyCommands + 1 } }

/-- A change of a slot: persisted, mirrored when the twin is in service, and waiting for its effect point (R333). -/
def State.keyPersist (s : State) (t h : Nat) (k : KeySlot) : State :=
  let s := s.ownRecord 4 [packW [(t, 10), (h, 0)], packW [(b2n k.loaded, 0)]]
  let (i, s) := s.mirrorOut t (.key t h k.loaded)
  s.setCiT t { s.ciT t with busy := true, resValid := false, change := some { handle := h, slot := k, item := i } }

/-- Octets of a key by its SIZE. -/
def keyOctets (size : Nat) : Nat := 16 + 8 * size

/-- The plaintext of a wrapped key (Table 10.6). -/
def keyPlain (k : KeySlot) : List Octet :=
  [1, BitVec.ofNat 8 k.size, BitVec.ofNat 8 (b2n k.enc + 2 * b2n k.dec + 4 * b2n k.exportOk + 8 * b2n k.origin), 0, 0, 0, 0, 0] ++
    (k.key ++ List.replicate (32 - k.key.length) 0)

/-- The slot a wrapped-key plaintext gives; nothing when a check of R335 fails. -/
def keyOfPlain (p : List Octet) : Option KeySlot :=
  let size := (oct p 1).toNat
  let u := (oct p 2).toNat
  let key := (p.drop 8).take (keyOctets size)
  if p.length == 40 && oct p 0 == 1 && size < 3 && u < 16 && ((p.drop 3).take 5).all (· == 0) &&
     ((p.drop 8).drop (keyOctets size)).all (· == 0) then
    some { KeySlot.init with loaded := true, size := size, enc := u.testBit 0, dec := u.testBit 1, exportOk := u.testBit 2,
                             origin := u.testBit 3, key := key }
  else none

/-- An octet range of a tenant can be read or written as R215 states. -/
def State.octetsOk (s : State) (t : Nat) (n : Need) (k len : Nat) : Bool :=
  s.agentOk t n (spanPages (octetSpan k len)) && decide (k + len ≤ 2 ^ 51)

/-- Run a key command as its GO is written (R334): `op` of Table 10.5. -/
def State.keyRun (s : State) (t op size : Nat) (enc dec ex : Bool) (h : Nat) : State :=
  let v := s.ciT t
  let addr := v.addrHi * 2 ^ 36 + v.addrLo
  let k := s.keySlot t h
  if s.drainingT t then s.keyResult t 5
  else if v.handleSlice ≤ h then s.keyResult t 7
  else if op == 0 then s.keyPersist t h KeySlot.init
  else if op == 1 then
    if !s.octetsOk t Need.load addr (keyOctets size) then s.keyResult t 6
    else s.keyPersist t h { KeySlot.init with loaded := true, size := size, enc := enc, dec := dec, exportOk := ex,
                                              key := s.agentOctets t addr (keyOctets size) }
  else if op == 2 then
    if size != 0 || enc || dec || ex then s.keyResult t 7
    else if !s.octetsOk t Need.load addr 48 then s.keyResult t 6
    else match v.kek.bind (fun q => (kwUnwrap q (s.agentOctets t addr 48)).bind keyOfPlain) with
      | some n => s.keyPersist t h n
      | none => s.keyResult t 10
  else if op == 3 then
    let (n, s) := s.tick
    if Config.entropyFails n then s.keyResult t 11
    else s.keyPersist t h { KeySlot.init with loaded := true, size := size, enc := enc, dec := dec, exportOk := ex, origin := true,
                                              key := natOct (keyOctets size) (Config.randomBits n).toNat }
  else if !k.loaded then s.keyResult t 1
  else if !k.exportOk then s.keyResult t 9
  else if !s.octetsOk t Need.store addr 48 then s.keyResult t 6
  else (s.agentWrOctets cipherAgent t addr (kwWrap (v.kek.getD []) (keyPlain k))).keyResult t 0

/-- The words a key command reads: a plain key, or a wrapped one. -/
def State.keyReads (s : State) (t op size : Nat) : List Nat :=
  let v := s.ciT t
  let addr := v.addrHi * 2 ^ 36 + v.addrLo
  if op == 1 then spanWords (octetSpan addr (keyOctets size))
  else if op == 2 then spanWords (octetSpan addr 48) else []

/-- A write of CI_KEY_CMD (Table 10.9). -/
def State.keyCmdWrite (s : State) (a : Accessor) (t : Nat) (w : Word) : State :=
  let op := fld w 33 30
  let v := s.ciT t
  if !(a.role == .h || a.role == .g) then s
  else if 4 < op || fld w 29 28 == 3 || (a.role == .h && op != 0) then
    (if a.role == .h then s.setCiT t { v with rejectH := true } else s.setCiT t { v with rejectG := true })
  else
    let s := s.setCiT t { v with cmdOp := op, cmdSize := fld w 29 28, cmdEnc := bit w 27, cmdDec := bit w 26,
                                 cmdExport := bit w 25, cmdHandle := fld w 9 0 }
    if bit w 35 && !v.busy then
      s.withReads cipherAgent t (s.keyReads t op (fld w 29 28)) (fun s =>
        s.keyRun t op (fld w 29 28) (bit w 27) (bit w 26) (bit w 25) (fld w 9 0))
    else s

/-- Running requests of a ring that name a slot end KEY-CHANGED with the blocks written (R337). -/
def State.changeRing (s : State) (t h r : Nat) : State :=
  let g := s.ciRing t r
  let (s, ran) := g.ran.foldl (fun (p : State × List Ran) x =>
    if x.handle == h && 0 < x.left then
      let (s, y, _) := p.1.ciStop t x 4
      (s, p.2 ++ [y])
    else (p.1, p.2 ++ [x])) (s, [])
  s.setCiRing t r { g with ran := ran }

/-- The effect point of a change of a slot (R337, R338). -/
def State.keyEffect (s : State) (t h : Nat) (k : KeySlot) : State :=
  let s := (List.range 16).foldl (fun s r => s.changeRing t h r) s
  let before := (List.range 16).foldl (fun b r =>
    if (s.ciRing t r).opened then tput b 0 r (s.ciRing t r).sub else b) ([] : Tab Nat)
  s.setKeySlot t h { k with before := before }

/-- The persisted change takes effect once the twin has it (R333). -/
def State.effectPoint (s : State) (t : Nat) : State :=
  match (s.ciT t).change with
  | some c => if c.item.isSome && s.twinServes then s else (s.keyEffect t c.handle c.slot).keyResult t 0
  | none => s

/-- The twin has answered for a key's record. -/
def State.keyReceipt (s : State) (t : Nat) : State :=
  match (s.ciT t).change with
  | some c => s.setCiT t { s.ciT t with change := some { c with item := none } }
  | none => s

/-! ## Fences and draining (R322, R340) -/

/-- A fenced core's request resumes at its first unwritten block on another core, and is counted (R322). -/
def State.fenceAes (s : State) (c : Nat) : State :=
  let resumed := s.ci.busy.contains c
  let s := s.fenceBlock (48 + c)
  let (n, s) := s.tick
  let s := s.ci.tenants.foldl (fun s e =>
    e.2.rings.foldl (fun s re =>
      match re.2.ran.find? (fun x => x.unit == c) with
      | none => s
      | some x =>
        let (s, y) := s.ciDispatch e.1 x (s.blocksAtHand e.1 x (Config.dispatched n))
        let words := if 0 < x.left && y.left == 0 then y.words.set 1 (packW [(x.total, 0)]) else y.words
        s.setCiRing e.1 re.1 { re.2 with ran := re.2.ran.map (fun z => if z.slot == x.slot then { y with words := words, unit := 24 } else z) }) s) s
  { s with ci := { s.ci with fenced := if s.ci.fenced.contains c then s.ci.fenced else s.ci.fenced ++ [c],
                             busy := s.ci.busy.filter (· != c),
                             resumptions := if resumed then s.ci.resumptions + 1 else s.ci.resumptions } }

/-- Complete what a ring can complete now. -/
def State.ciCompletions (t r : Nat) : Nat → State → State
  | 0, s => s
  | n + 1, s => State.ciCompletions t r n (s.ciComplete t r)

/-- A draining ring (R340 steps 1 to 3, 5): running requests stop at a block boundary, the rest do not start; all
complete in ring order, and the ring closes. The number of requests squashed. -/
def State.ciDrainRing (s : State) (t r : Nat) : State × Nat :=
  let g := s.ciRing t r
  if !g.opened then (s, 0) else
  let (s, ran, n) := g.ran.foldl (fun (p : State × List Ran × Nat) x =>
    let (s, y, undone) := p.1.ciStop t x 8
    let s := if 0 < undone then s.setKeySlot t x.handle { s.keySlot t x.handle with used := (s.keySlot t x.handle).used - undone } else s
    (s, p.2.1 ++ [y], if 0 < undone then p.2.2 + 1 else p.2.2)) (s, [], 0)
  let s := s.setCiRing t r ({ g with ran := ran, squash := true, closing := true } : Ring).settle
  (State.ciCompletions t r g.backlog s, n + g.waiting)

/-- The tenant's slices enter DRAINING (R340). Assumption 40 (DEDUCED). -/
def State.ciDrain (s : State) (t : Nat) : State :=
  let (s, n) := (List.range 16).foldl (fun (p : State × Nat) r =>
    let (s, k) := p.1.ciDrainRing t r
    (s, p.2 + k)) (s, 0)
  let v := s.ciT t
  let s := if v.change.isSome then s.keyResult t 5 else s
  let s := if v.keys.isEmpty then s else s.ownRecord 4 [packW [(t, 10)]]
  let s := v.keys.foldl (fun s k => (s.mirrorOut t (.key t k.1 false)).2) s
  s.setCiT t { s.ciT t with squashed := n, keys := [] }

/-! ## Rows -/

/-- A key-command row: the write of CI_KEY_CMD whose OP is the row's. -/
def State.keyRow (s : State) (a : Accessor) (t op : Nat) (w : Word) : State :=
  if fld w 33 30 == op && s.reach a t then s.keyCmdWrite a t w else s

def execEncrypt (tenant ring aes : Nat) (s : State) : Host.Outcome State Fault Refusal :=
  s.runIf (wfTenant tenant && wfRing ring && wfAes aes) (s.ciStart tenant ring aes 0)
def execDecrypt (tenant ring aes : Nat) (s : State) : Host.Outcome State Fault Refusal :=
  s.runIf (wfTenant tenant && wfRing ring && wfAes aes) (s.ciStart tenant ring aes 1)
def execCipherCompletion (tenant ring : Nat) (s : State) : Host.Outcome State Fault Refusal :=
  s.runIf (wfTenant tenant && wfRing ring) (s.ciComplete tenant ring)
def execCiClose (acc : Accessor) (tenant : Nat) (value : Word) (s : State) : Host.Outcome State Fault Refusal :=
  s.runIf (wfAccessor acc && wfTenant tenant) (if s.reach acc tenant then s.ciCloseWrite acc tenant value else s)
def execErase (acc : Accessor) (tenant : Nat) (value : Word) (s : State) : Host.Outcome State Fault Refusal :=
  s.runIf (wfAccessor acc && wfTenant tenant) (s.keyRow acc tenant 0 value)
def execLoadPlain (acc : Accessor) (tenant : Nat) (value : Word) (s : State) : Host.Outcome State Fault Refusal :=
  s.runIf (wfAccessor acc && wfTenant tenant) (s.keyRow acc tenant 1 value)
def execLoadWrapped (acc : Accessor) (tenant : Nat) (value : Word) (s : State) : Host.Outcome State Fault Refusal :=
  s.runIf (wfAccessor acc && wfTenant tenant) (s.keyRow acc tenant 2 value)
def execGenerate (acc : Accessor) (tenant : Nat) (value : Word) (s : State) : Host.Outcome State Fault Refusal :=
  s.runIf (wfAccessor acc && wfTenant tenant) (s.keyRow acc tenant 3 value)
def execExportWrapped (acc : Accessor) (tenant : Nat) (value : Word) (s : State) : Host.Outcome State Fault Refusal :=
  s.runIf (wfAccessor acc && wfTenant tenant) (s.keyRow acc tenant 4 value)
def execEffectPoint (tenant : Nat) (s : State) : Host.Outcome State Fault Refusal :=
  s.runIf (wfTenant tenant) (s.effectPoint tenant)

end Sys2Proof.Machine
end

