-- ==== Sys2Proof/Machine/Tenants.lean ====
section
/-! DEFINITION. Retagging, tenant life and reset, the hand-over between the worlds and Zenith's watchdog
(R357-R369). -/

namespace Sys2Proof.Machine

def State.tenant (s : State) (t : Nat) : Tenant := tget s.tn.tenants Tenant.init t

def State.setTenant (s : State) (t : Nat) (v : Tenant) : State :=
  { s with tn := { s.tn with tenants := tput s.tn.tenants Tenant.init t v } }

def State.block (s : State) (b : Nat) : Block := tget s.tn.blocks Block.init b

/-! ## Retagging (R357) -/

/-- Every cached copy of a page's lines is invalidated, on other modules by snoops whose answers nobody awaits, since the
page is zeroed; exposed loads replay, reservations are lost. -/
def State.dropPage (s : State) (page : Nat) : State :=
  let s := s.linesGone (· / 256 == page)
  let mine := s.dy.entries.filter (fun e => e.1 / 256 == page && e.2.tx.isNone)
  let s := mine.foldl (fun s e =>
    s.snoopAll { req := .recall, src := 0, tag := 0, line := e.1, behind := none } (if e.2.st == .shared then 8 else 10) e.2.holders) s
  { s with dy := { s.dy with entries := s.dy.entries.filter (fun e => !(e.1 / 256 == page && e.2.tx.isNone)) } }.pump

/-- A retag that keeps the contents: the identical tag, or HV from 1 to 0 within one tenant. -/
def keepsContents (old new : BitVec 16) : Bool := old == new || (tagKind old == 1 && bit old 13 && new == old &&& 0xDFFF)

/-- A cached translation whose leaf maps onto a page of memory. -/
def TcEntry.maps (e : TcEntry) (page : Nat) : Bool :=
  (e.stage2 || 1024 ≤ e.regime) && (if e.large then fld e.leaf 47 21 == page / 512 else fld e.leaf 47 12 == page)

/-- Retag one page (R357): the translation caches drop it, and it is zeroed unless its contents are kept. -/
def State.retagPage (s : State) (page : Nat) (new : BitVec 16) : State :=
  let old := s.tag (page * 4096)
  let s := s.dropTc (fun e => e.maps page)
  if keepsContents old new then s.setTag page new else ((s.dropPage page).zeroPage page).setTag page new

/-- A FREE tag set by this module's Zenith. -/
def State.freeTag (s : State) : BitVec 16 := BitVec.ofNat 16 (s.dy.modnum * 512)

/-! ## Tenant life (R359-R363) -/

/-- The initial state word (R349): PL 2 and the profile's constant-time default (Table 1.7). -/
def State.initialSW (s : State) : DWord :=
  let ct := if s.md.selected == 2 then true else if s.md.selected == 4 then s.md.custom.constTime else false
  BitVec.ofNat 72 (2 * 2 ^ 70 + b2n ct * 2 ^ 68)

/-- A logical core runs at level 2 or 3 for the tenant (R359). -/
def State.coreRuns (s : State) (t : Nat) : Bool :=
  s.cores.any (fun e => e.1 < 100 && s.bound e.1 && e.2.ctxValid && e.2.tenant == t && 2 ≤ swPL e.2.sw)

/-- Every slice and quota of a tenant to zero (R359, R360). -/
def State.zeroSlices (s : State) (t : Nat) : State :=
  let s := s.setChT t ChTenant.init
  let s := s.setJt t JnTenant.init
  let s := s.setCxT t CxTenant.init
  let s := s.setCiT t { CiTenant.init with kek := (s.ciT t).kek }
  let s := s.setPage t SrcPage.init
  { s with cc := { s.cc with classes := tdel s.cc.classes t } }

/-- ABSENT to ACTIVE (Table 11.10). -/
def State.create (s : State) (t : Nat) : State :=
  let (n, s) := s.tick
  let s := s.zeroSlices t
  let s := s.setJt t { JnTenant.init with ackTwin := s.defaultTwin, ackSet := true }
  let s := s.setCiT t { CiTenant.init with kek := some (natOct 32 (Config.randomBits n).toNat) }
  let v := s.tenant t
  let s := s.setTenant t { v with st := .active, deleting := false, hvOk := v.hvPermitted, initialSW := s.initialSW,
                                  abandoned := 0 }
  let s := s.ownRecord 4 [packW [(t, 0)]]
  s.mirrorConfig t

/-- Compression requests of a draining tenant (R314): those running complete; the rest are squashed; rings close.
Assumption 40 (DEDUCED). -/
def State.cxDrain (s : State) (t : Nat) : State :=
  let (s, n) := (List.range 16).foldl (fun (p : State × Nat) r =>
    let (s, k) := p.1.cxDrainRing t r
    (s, p.2 + k)) (s, 0)
  s.setCxT t { s.cxT t with squashed := n }

/-- Completions of the draining rings that still wait, and whether every ring is closed (R362 step 5). -/
def State.ringsClose (s : State) (t : Nat) : State × Bool :=
  let s := (List.range 16).foldl (fun s r =>
    State.ciCompletions t r (s.ciRing t r).backlog (State.cxCompletions t r (s.cxRing t r).backlog s)) s
  (s, (List.range 16).all (fun r => !(s.cxRing t r).opened && !(s.ciRing t r).opened))

/-- Steps 1 and 2 of a reset (Table 11.12). Assumption 40 (DEDUCED). -/
def State.drain (s : State) (t : Nat) (deleting : Bool) : State :=
  let s := s.setTenant t { s.tenant t with st := .draining, deleting := deleting }
  (((s.cxDrain t).ciDrain t).decideTenant t false).emit (.busMasterOff t)

/-- Functions that serve only this tenant's class C and N channels: ports and requesters. -/
def State.ownFunctions (s : State) (t : Nat) : List (Nat × Nat) :=
  let fns := s.ch.chans.filterMap (fun e =>
    if e.2.tenant == t && (e.2.cls == .c || e.2.cls == .n) then some (e.2.port, e.2.target) else none)
  fns.eraseDups.filter (fun f => s.ch.chans.all (fun e =>
    !((e.2.cls == .c || e.2.cls == .n) && e.2.port == f.1 && e.2.target == f.2) || e.2.tenant == t))

/-- The record of an order of a channel that a reset ends: RESET-ABANDONED unless the order has no ledger entry and is
done. The number of orders abandoned. -/
def State.abandonChannel (s : State) (m : Nat) : State × Nat :=
  let c := s.chan m
  let (s, n) := c.orders.foldl (fun (p : State × Nat) o =>
    let (now, s) := p.1.now
    let hasEntry := !(o.stage == .done && (o.isControl || (s.findEntry ownSource (o.opid c.tenant)).isNone))
    if hasEntry then (s.writeCompletion m { o with status := 0o012, count := 0, time := now, stage := .done }, p.2 + 1)
    else (s.writeCompletion m o, p.2)) (s, 0)
  (s.setChan m { s.chan m with opened := false, closing := false, orders := [] }, n)

/-- Ledger entries of the tenant become RESET-ABANDONED; the persistent ones are recorded (Table 7.7).
Assumption 40 (DEDUCED). -/
def State.abandonLedger (s : State) (t : Nat) : State :=
  let mine := s.ch.ledger.filter (fun e => e.owner == t)
  let s := { s with ch := { s.ch with ledger := s.ch.ledger.map (fun e =>
    if e.owner == t then { e with st := .resetAbandoned, status := 0o012 } else e) } }
  mine.foldl (fun s e => if e.persistent then s.ledgerRecord e.source e.opid else s) s

/-- Drop the cached stage-1 and stage-2 translations of a tenant (PTL scope STAGE-2 TENANT, R353). -/
def State.ptlTenant (s : State) (t : Nat) : State := s.dropTc (fun e => e.regime == t)

/-- DELETING (R360); `keep` leaves the Anvil streams (R419). -/
def State.deleteTenant (s : State) (t : Nat) (keep : Bool) : State :=
  let pages := (s.mem.tags.filter (fun e => tagKind e.2 == 1 && fld e.2 12 9 == s.dy.modnum && fld e.2 8 0 == t)).map (·.1)
  let s := pages.foldl (fun s p => s.retagPage p s.freeTag) s
  let s := s.ch.chans.foldl (fun s e => if e.2.tenant == t then s.setChan e.1 Chan.init else s) s
  let s := { s with
    jn := { s.jn with records := s.jn.records.filter (fun r => keep || !(r.stream == t || r.stream == 512 + t)),
                      pending := s.jn.pending.filter (fun p => keep || !(p.stream == t || p.stream == 512 + t)) },
    ch := { s.ch with ledger := s.ch.ledger.filter (fun e => e.owner != t),
                      grants := s.ch.grants.filter (fun e => e.2.tenant != t) } }
  let s := s.zeroSlices t
  let s := s.setJt t JnTenant.init
  let s := s.setCiT t CiTenant.init
  let s := s.setTenant t Tenant.init
  let s := s.ownRecord 4 [packW [(t, 0)]]
  (s.mirrorOut t (.gone t)).2

/-- Steps 4 to 7 of a reset (Table 11.12). Assumption 41 (DEDUCED). -/
def State.drainEnds (s : State) (t : Nat) : State :=
  if (s.tenant t).st != .draining then s else
  let (s, closed) := s.ringsClose t
  if !closed then s else
  let s := (s.ownFunctions t).foldl (fun s f => s.emit (.reset f.1 f.2)) s
  let s := s.emit (.resetClassD t)
  let s := { s with ch := { s.ch with grants := s.ch.grants.filter (fun e => e.2.tenant != t) } }
  let s := s.abandonLedger t
  let (s, n) := s.ch.chans.foldl (fun (p : State × Nat) e =>
    if e.2.tenant == t && e.2.opened then
      let (s, k) := p.1.abandonChannel e.1
      (s, p.2 + k)
    else p) (s, 0)
  let s := (s.irtTenantReset t).ptlTenant t
  let v := s.tenant t
  let s := s.setTenant t { v with st := .active, deleting := false, abandoned := n }
  if v.deleting then s.deleteTenant t false else s

/-- The lowest abort of a tenant command (R359, R368). -/
def State.tenantAbort (s : State) (t : Nat) (needsZenith : Bool) (states : List TenSt) (idle : Bool) : Nat :=
  if needsZenith && s.tn.absent then 6
  else if !states.contains (s.tenant t).st || (idle && s.coreRuns t) then 0x0B else 0

/-! ## Hand-over (R365, R366) -/

/-- The class of a block and how many of that class Zenith may hold: first block, past the last, loan. -/
def State.loanOf (s : State) (b : Nat) : Nat × Nat × Nat :=
  if b < 48 then (0, 48, s.tn.loanLanes)
  else if b < 72 then (48, 72, s.tn.loanAes)
  else if b < 104 then (72, 104, s.tn.loanProcs % 16)
  else (104, 107, s.tn.loanProcs / 16)

/-- Blocks of the class that Zenith holds or is claiming. -/
def State.heldBlocks (s : State) (b : Nat) : Nat :=
  let (lo, hi, _) := s.loanOf b
  (s.tn.blocks.filter (fun e => lo ≤ e.1 && e.1 < hi && (e.2.st == .sealed || e.2.st == .claiming || e.2.st == .releasing))).length

/-- The block has work in progress: a lane's or AES core's request, a processor's orders. -/
def State.blockBusy (s : State) (b : Nat) : Bool :=
  if b < 48 then s.cx.busy.contains b
  else if b < 72 then s.ci.busy.contains (b - 48)
  else if b < 104 then s.inflight (b - 72) != 0
  else false

/-- Start a move with SV_HANDOVER (R365). Assumption 41 (DEDUCED). -/
def State.handOverStart (s : State) (op target : Nat) : State :=
  let s := { s with tn := { s.tn with hoOp := op, hoTarget := target } }
  let go (s : State) : State := { s with tn := { s.tn with hoBusy := true } }
  if op == 3 then go s
  else
    let v := s.block target
    if v.revoked then s.handOverResult 4 false
    else if op == 1 then
      if v.st != .opened then s.handOverResult (if v.st == .fenced then 4 else 5) false
      else if (s.loanOf target).2.2 ≤ s.heldBlocks target then s.handOverResult 6 false
      else if 72 ≤ target && target < 104 && s.ch.chans.any (fun e => e.2.proc == target - 72) then s.handOverResult 5 false
      else go (s.setBlock target { v with st := .claiming })
    else
      if v.st != .sealed then s.handOverResult (if v.st == .fenced then 4 else 5) false
      else go (s.setBlock target { v with st := .releasing })

/-- A write of SV_HANDOVER (Table 11.21). -/
def State.handOverWrite (s : State) (a : Accessor) (w : Word) : State :=
  let op := fld w 33 32
  let target := fld w 12 0
  if a.role != .z || s.tn.absent then s
  else if op == 0 || (op != 3 && 106 < target) || 8191 < target then { s with tn := { s.tn with rejectZ := true } }
  else if s.tn.hoBusy then s
  else if bit w 35 then s.handOverStart op target
  else { s with tn := { s.tn with hoOp := op, hoTarget := target } }

/-- Move an interrupt source to the other world, zeroized (Table 11.16): pending and active state, priority, target. -/
def State.moveSrc (s : State) (o n : Nat) : State :=
  let v := s.src o n
  let lost := v.st == .pending || v.st == .activePending || v.defer
  let s := s.setSrc o n { v with st := .inactive, defer := false, acore := 0, apri := 0, prio := 0, tgt := 127,
                                 away := if o == 513 then false else !v.away }
  if lost then { s with tn := { s.tn with discarded := s.tn.discarded + 1 } } else s

/-- A gating request that a block's OPEN state lets in. -/
def Block.openNow (v : Block) : Block := { v with st := .opened, gated := v.gated || v.gateHeld, gateHeld := false }

/-- The end of a move (Table 11.15 steps 3 to 5). A failed self-check is a fault of the block, which is fenced. -/
def State.handOverDone (s : State) (passed : Bool) : State :=
  if !s.tn.hoBusy then s else
  let b := s.tn.hoTarget
  if s.tn.hoOp == 3 then
    let s := match Config.sourceOf b with
      | some (o, n) => if o < 514 then s.moveSrc o n else s
      | none => s
    s.handOverResult 0 true
  else if s.blockBusy b then s
  else if !passed then s.fenceBlock b
  else
    let v := s.block b
    let claim := s.tn.hoOp == 1
    let s := s.setBlock b (if claim then { v with st := .sealed } else v.openNow)
    let s := s.handOverResult 0 true
    if claim && v.gateHeld then { s with tn := { s.tn with notices := s.tn.notices ++ [b] } } else s

/-- R366: a clock or power cut of a block from the open world. -/
def State.gate (s : State) (b : Nat) : State :=
  let v := s.block b
  match v.st with
  | .opened => s.setBlock b { v with gated := true }
  | .fenced => s.setBlock b { v with gated := true }
  | .sealed =>
    let s := s.setBlock b { v with gateHeld := true }
    { s with tn := { s.tn with notices := s.tn.notices ++ [b] } }
  | _ => s.setBlock b { v with gateHeld := true }

/-- 10 ms after a held request: the block becomes OPEN with REVOKED, and the gating applies (R366). -/
def State.gateTimeout (s : State) (b : Nat) : State :=
  let v := s.block b
  if v.gateHeld && v.st == .sealed then s.setBlock b { v.openNow with revoked := true } else s

/-- The sealed world's blocks and sources return to OPEN (R367 step 2). -/
def State.worldsOpen (s : State) : State :=
  let back := s.tn.blocks.filter (fun e => e.2.st == .sealed || e.2.st == .claiming || e.2.st == .releasing)
  let s := back.foldl (fun s e => s.setBlock e.1 e.2.openNow) s
  let s := { s with tn := { s.tn with hoBusy := false } }
  s.ir.pages.foldl (fun s p => p.2.srcs.foldl (fun s e => if e.2.away then s.moveSrc p.1 e.1 else s) s) s

/-- SV_WDOG.KICK (R367). -/
def State.kick (s : State) (a : Accessor) (w : Word) : State :=
  if a.role == .z && bit w 35 && !s.tn.absent then { s with tn := { s.tn with wdogKick := s.tm.tod } } else s

/-- R369: Zenith is reloaded, verified and measured. -/
def State.restartZenith (s : State) (verified measured : Bool) : State :=
  if verified && measured then
    let s := s.setCore 126 Core.init
    { s with tn := { s.tn with absent := false, restarting := false, wdogKick := s.tm.tod, restarts := s.tn.restarts + 1 } }
  else s.report 1230 2

/-! ## Rows -/

/-- A tenant command on the tenant that the route's select object names. Assumption 41 (DEDUCED). -/
def State.tenantCommand (s : State) (route : Route) (v : Nat) (needsZenith : Bool) (states : List TenSt) (idle : Bool)
    (f : State → Nat → State) : State :=
  let t := s.select route 0x1500 1
  s.odWriteNum route 0x1500 2 v (s.tenantAbort t needsZenith states idle) (fun s => f s t)

/-- A number that the twin's mirrored configuration holds aborts as a busy target (R409). -/
def execCreate (route : Route) (s : State) : Host.Outcome State Fault Refusal :=
  let t := s.select route 0x1500 1
  let held := s.tw.enabled && s.tw.mConfig.any (fun c => c.tenant == t)
  s.runIf (wfRoute route) (s.tenantCommand route 1 true (if held then [] else [.absent]) false State.create)
def execReset (route : Route) (s : State) : Host.Outcome State Fault Refusal :=
  s.runIf (wfRoute route) (s.tenantCommand route 2 false [.active, .stopped] true (fun s t => s.drain t false))
def execDelete (route : Route) (s : State) : Host.Outcome State Fault Refusal :=
  s.runIf (wfRoute route) (s.tenantCommand route 3 true [.active, .stopped] true (fun s t => s.drain t true))
def execDrainTimeout (tenant : Nat) (s : State) : Host.Outcome State Fault Refusal :=
  s.runIf (wfTenant tenant) ((s.drainEnds tenant).stopTimeout tenant)
def execClaim (acc : Accessor) (block : Nat) (s : State) : Host.Outcome State Fault Refusal :=
  s.runIf (wfAccessor acc && wfBlock block) (s.handOverWrite acc (packW [(1, 35), (1, 32), (block, 0)]))
def execRelease (acc : Accessor) (block : Nat) (s : State) : Host.Outcome State Fault Refusal :=
  s.runIf (wfAccessor acc && wfBlock block) (s.handOverWrite acc (packW [(1, 35), (2, 32), (block, 0)]))
def execMoveSource (acc : Accessor) (source : Nat) (s : State) : Host.Outcome State Fault Refusal :=
  s.runIf (wfAccessor acc && decide (source < 8192)) (s.handOverWrite acc (packW [(1, 35), (3, 32), (source, 0)]))
def execHandOverComplete (selfCheckPassed : Bool) (s : State) : Host.Outcome State Fault Refusal :=
  s.runIf true (s.handOverDone selfCheckPassed)
def execGatingRequest (block : Nat) (s : State) : Host.Outcome State Fault Refusal := s.runIf (wfBlock block) (s.gate block)
def execGatingTimeout (block : Nat) (s : State) : Host.Outcome State Fault Refusal :=
  s.runIf (wfBlock block) (s.gateTimeout block)
def execKick (acc : Accessor) (value : Word) (s : State) : Host.Outcome State Fault Refusal :=
  s.runIf (wfAccessor acc) (s.kick acc value)
/-- OD 1500h.0A aborts as a busy target while Zenith is present (R369). -/
def execRestartZenith (route : Route) (value : Nat) (verified measured : Bool) (s : State) :
    Host.Outcome State Fault Refusal :=
  let more := if value != 1 then 8 else if s.tn.absent then 0 else 0x0B
  s.runIf (wfRoute route) (s.odWriteNum route 0x1500 0x0A value more (fun s => s.restartZenith verified measured))

end Sys2Proof.Machine
end

