-- ==== Sys2Proof/Machine/Ops.lean ====
section
/-! DEFINITION. What the instruction families share: translated accesses of a core, its store buffer, and the taking of
interruptions and the return from them (R49, R58, R69-R72, R108-R115, R348, R356). -/

namespace Sys2Proof.Machine

/-! ## A core's state word and tile -/

def Core.pl (k : Core) : Nat := swPL k.sw
def Core.hm (k : Core) : Bool := bit k.sw 69
def Core.cc (k : Core) : Nat := fld k.sw 63 62

/-- For whom the core accesses memory (R346, R347). -/
def Core.party (k : Core) : Party :=
  if k.pl == 0 then .level0 else if k.pl == 1 then .level1 else .tenant k.tenant (k.pl == 3)

/-- The register role of a level (R372). -/
def roleOf (pl : Nat) : Role := if pl == 0 then .z else if pl == 1 then .h else if pl == 2 then .g else .u

def Core.accessor (k : Core) (c : Nat) : Accessor := { role := roleOf k.pl, core := c }

/-- Set field [hi:lo] of a state word. -/
def setFld (d : DWord) (hi lo v : Nat) : DWord :=
  let m : DWord := BitVec.ofNat 72 ((2 ^ (hi + 1 - lo) - 1) * 2 ^ lo)
  (d &&& ~~~m) ||| (BitVec.ofNat 72 (v * 2 ^ lo) &&& m)

def Core.setCC (k : Core) (v : Nat) : Core := { k with sw := setFld k.sw 63 62 v }

/-- Addresses of a mode: 48 bits, in heritage mode 24 (R54). -/
def Core.amask (k : Core) (a : Nat) : Nat := if k.hm then a % 2 ^ 24 else a % 2 ^ 48

/-- The state-word load rule (R49, R347): the class of the exception a load at a level raises. -/
def Core.swRefused (k : Core) (level : Nat) (new : DWord) (ic : Nat) : Option Nat :=
  if swPL new < level then some 0o02
  else if 4 < fld new 66 64 || (bit new 69 && (swPL new < 2 || 2 ^ 24 ≤ ic)) || (2 ≤ swPL new && !k.ctxValid) then some 0o03
  else none

/-! ## Exceptions as the instructions raise them -/

/-- A program exception: class, sub-code, operand, virtual address, words 6-7 (Tables 2.15, 2.16). -/
structure Exc where
  cls : Nat
  sub : Nat
  opn : Nat
  vaddr : Nat
  info : Nat
deriving DecidableEq, Repr

/-- Why an instruction does not complete now. -/
inductive Stop where
  | exc (e : Exc)
  /-- it waits for a line; the request has to be sent -/
  | line (n : Nat) (own : Bool)
  /-- it waits for the core's older accesses (R121, R136) -/
  | older
  /-- a load's fill finds no eligible way in its L2 set: the core replays (R111) -/
  | noWay (n : Nat)
  /-- the store buffer or the load-order queue is full: it waits for the oldest entry (R108, R115) -/
  | full
  /-- a unit that acts for it waits for lines that it reads (R163) -/
  | agent (a : Nat) (lines : List Nat)
  /-- it sends an I/O-space load and waits for its completion (R244) -/
  | ioLoad (addr : Nat) (wide : Bool) (vaddr : Nat)
deriving DecidableEq, Repr

/-- Assumption 25 (DEDUCED). -/
def Stop.mk' (cls sub opn : Nat) : Stop := .exc { cls := cls, sub := sub, opn := opn, vaddr := 0, info := 0 }

/-- A synchronous contained machine check (Table 13.3): words 6-7 carry the address. -/
def Stop.check (sub va : Nat) : Stop := .exc { cls := 0o40, sub := sub, opn := 0, vaddr := 0, info := va }

/-- The outcome of a failed translation, for an operand (Tables 2.17, 11.6, 13.3). -/
def Stop.ofX (opn va : Nat) : XFail → Stop
  | .exc 5 sub _ => .exc { cls := 5, sub := sub, opn := opn, vaddr := va, info := 0 }
  | .exc cls sub ia => .exc { cls := cls, sub := sub, opn := opn, vaddr := va, info := ia }
  | .mc sub => Stop.check sub va

/-! ## Accesses -/

/-- Translate and check one word for a core (R58, R356): its real address. Memory needs a home in service (R143); a load
of a poisoned line is a machine check (R178). -/
def State.xlate (s : State) (c : Nat) (n : Need) (opn va : Nat) : Except Stop Nat :=
  match s.translate (s.core c).party c n va with
  | .error f => .error (Stop.ofX opn va f)
  | .ok r =>
    if n.io then .ok r.ra
    else if !s.homeServes r.ra then .error (Stop.check 3 va)
    else if (n.r || n.x) && s.poisoned (lineOf r.ra) then .error (Stop.check 5 va)
    else .ok r.ra

/-- The sealing check alone, of mode 0o33 (R58). The interruption code carries no real address (R71). -/
def State.xreal (s : State) (c : Nat) (n : Need) (opn ra : Nat) : Except Stop Nat :=
  let p := (s.core c).party
  if 2 ^ 40 ≤ ra then .error (Stop.check 3 ra)
  else if !tagPermits s.dy.modnum p (s.tag ra) then .error (.exc { cls := 7, sub := 9, opn := opn, vaddr := 0, info := ra })
  else if !s.homeServes ra then .error (Stop.check 3 ra)
  else if (n.r || n.x) && s.poisoned (lineOf ra) then .error (Stop.check 5 ra)
  else .ok ra

/-- A word as the core sees it: from the youngest buffered stores, else from the caches or memory (R114). -/
def Core.forward (k : Core) (ra : Nat) (w : Word) : Word :=
  k.sb.foldl (fun w e =>
    if (e.kind == .cached || e.kind == .zeroLine) && e.addr == lineOf ra then
      e.words.foldl (fun w x => if x.off == ra % 16 then (w &&& ~~~x.mask) ||| (x.val &&& x.mask) else w) w
    else w) w

/-- A buffered store of an older instruction. -/
def Core.hasOlder (k : Core) : Bool := k.sb.any (fun e => e.words.any (fun w => w.seq < k.seq))

/-- Load a word at a real address for a core; the line must be at hand. A load that passes the L3 by has a copy, which no
invalidation reaches, so it is made only when every older store has been performed (R105, R136).
Assumptions 22 (DEDUCED) and 36 (DEDUCED). -/
def State.coreRd (s : State) (c ra : Nat) : Except Stop Word :=
  let line := lineOf ra
  if s.tileHas (s.tileOf c) line false then .ok ((s.core c).forward ra (s.rd ra))
  else if s.passesBy (s.tileOf c) && (s.core c).hasOlder then .error .older
  else match s.copyAt (coreCopy c line) with
    | some ws => if s.passesBy (s.tileOf c) then .ok ((s.core c).forward ra (wordAt ws (ra % 16))) else .error (.line line false)
    | none => .error (.line line false)

/-- A word of a line at hand, as the core sees it. -/
def State.coreWord (s : State) (c ra : Nat) : Word :=
  match s.coreRd c ra with
  | .ok w => w
  | .error _ => (s.core c).forward ra (s.rd ra)

/-- A cached store enters the buffer: merged into the youngest entry by R113, else as a new entry. It does not merge into an
entry with a store older than a load still exposed: that entry could never be performed as one access, since the load
gates the new words until the old ones are performed (R109, R112). Assumption 22 (DEDUCED). -/
def Core.pushCached (k : Core) (ra : Nat) (w mask : Word) (va : Nat) : Core :=
  let x : SbWord := { off := ra % 16, val := w, mask := mask, seq := k.seq }
  let fresh : SbEntry := { kind := .cached, addr := lineOf ra, wide := false, level := k.pl, vaddr := va, words := [x] }
  match k.sb.getLast? with
  | some e =>
    if e.kind == .cached && !e.begun && e.addr == lineOf ra && e.words.all (fun y => y.off != ra % 16 || k.gated y.seq) &&
       !e.words.any (fun y => k.exposed.any (fun x => y.seq < x.seq)) then
      { k with sb := k.sb.dropLast ++ [{ e with words := e.words ++ [x] }] }
    else k.pushStore fresh
  | none => k.pushStore fresh

/-- A control-space, I/O-space or maintenance entry always stands alone (R113). -/
def Core.pushAlone (k : Core) (kind : SbKind) (addr : Nat) (wide : Bool) (va : Nat) (ws : List (Nat × Word)) : Core :=
  k.pushStore { kind := kind, addr := addr, wide := wide, level := k.pl, vaddr := va,
                words := ws.map (fun p => { off := p.1, val := p.2, mask := BitVec.ofNat 36 (2 ^ 36 - 1), seq := k.seq }) }

/-! ## Completion and exposure (R108, R109) -/

/-- Loads are exposed while an older store of the core is unperformed; each takes an entry of the load-order queue (R108). -/
def Core.expose (k : Core) (ck : Checkpoint) (lines : List Nat) : Core :=
  if k.hasOlder then { k with exposed := k.exposed ++ lines.map (fun l => { line := l, seq := k.seq, ck := ck }) } else k

/-- The instruction has executed, and stands at its boundary (R109, R197). -/
def Core.retire (k : Core) (ck : Checkpoint) (lines : List Nat) : Core := (k.expose ck lines).boundary

/-! ## Reservations (R119, R120) -/

/-- A core's reservation ends, and a snoop that it puts off is answered. -/
def State.endReservation (s : State) (c : Nat) : State :=
  match (s.core c).res with
  | none => s
  | some r =>
    let s := s.modCore c (fun k => { k with res := none })
    if r.snooped then (s.releaseHeld (s.tileOf c) r.line).pump else s

/-- The window of a core's reservation shuts: a snoop that waits is answered, and the reservation is lost. -/
def State.shutWindow (s : State) (c : Nat) : State :=
  match (s.core c).res with
  | none => s
  | some r =>
    if !r.deferring then s
    else if r.snooped then s.endReservation c
    else s.modCore c (fun k => { k with res := some { r with deferring := false } })

/-! ## Taking an interruption (R70, R348, R356) -/

/-- An interruption to take: the interruption code's fields, words 6-7, and the saved SW and IC. -/
structure Intr where
  cls : Nat
  sub : Nat
  opn : Nat
  ilen : Nat
  vaddr : Nat
  info : Nat
  sw : DWord
  ic : Nat
deriving DecidableEq, Repr

/-- The interruption code (Table 2.16). -/
def Intr.code (i : Intr) : DWord :=
  BitVec.ofNat 72 (i.cls % 64 * 2 ^ 66 + i.sub % 4096 * 2 ^ 54 + i.opn % 4 * 2 ^ 52 + i.ilen % 16 * 2 ^ 48 + i.vaddr % 2 ^ 48)

/-- Words 0 to 7 of the block (Table 2.15). -/
def Intr.words (i : Intr) : List Word :=
  let icD : DWord := BitVec.ofNat 72 (i.ic % 2 ^ 48)
  let inf : DWord := BitVec.ofNat 72 i.info
  [hiWord i.sw, loWord i.sw, hiWord icD, loWord icD, hiWord i.code, loWord i.code, hiWord inf, loWord inf]

/-- Where the block of a level lies for a core: its real address, or the intermediate or real address that failed. -/
def State.blockAt (s : State) (c lvl : Nat) : Except Nat Nat :=
  let usable (ra : Nat) : Bool := s.homeServes ra && !s.poisoned (lineOf ra)
  if lvl == 0 then
    let ra := s.tn.vec0 + 16 * c
    if usable ra then .ok ra else .error ra
  else if lvl == 1 then
    let ra := s.tn.vec1 + 16 * c
    if ra < 2 ^ 40 && tagPermits s.dy.modnum .level1 (s.tag ra) && usable ra then .ok ra else .error ra
  else
    let k := s.core c
    let ia := (k.vec2 + 16 * k.vcore) % 2 ^ 48
    match s.agentWord k.tenant Need.both ia with
    | .ok ra => if usable ra then .ok ra else .error ia
    | .error _ => .error ia

/-- Write the save area and load SW and IC from the vector. -/
def State.enterBlock (s : State) (c ra : Nat) (i : Intr) (sw : DWord) (ic : Nat) : State :=
  let k := s.core c
  let ck := k.checkpoint
  let k1 := (i.words.zipIdx).foldl (fun (k : Core) (p : Word × Nat) =>
    k.pushCached (ra + p.2) p.1 (BitVec.ofNat 36 (2 ^ 36 - 1)) 0) k
  let k2 : Core := { k1 with sw := sw, ic := BitVec.ofNat 48 ic, run := .running }
  (s.setCore c (k2.retire ck [lineOf ra])).endReservation c

/-- A fatal fault that a source raises is collected, logged, and halts the module (R392, R396, R401). -/
def State.fatalFault (s : State) (source : Nat) : State :=
  let v := s.fsrc source
  let (now, s) := s.now
  let s := s.setFsrc source { v with last := 3, held := 0, merged := false }
  (s.logEntry { time := now, forced := false, rail := false, merged := v.merged, squall := false, fenced := false, cls := 3,
                source := source, count := 1, detail := 0 }).halt source

/-- The block of level 0 cannot be used, or its vector breaks R49: a fatal fault. Assumption 42 (DEDUCED). -/
def State.blockFatal (s : State) (c : Nat) : State := s.fatalFault (8 * (s.siteOfCore c % 104) + 7)

/-- The lines that cannot be had now for taking an interruption at a level are asked for. -/
def State.blockReady (s : State) (c lvl : Nat) : State :=
  match s.blockAt c lvl with
  | .error _ => s
  | .ok ra => if s.lineReady c (lineOf ra) false then s else s.bring c (lineOf ra) false none

/-- Take an interruption at a level; what its block cannot do is taken at the next lower-numbered one (R348). While the
block's line is not at hand the interruption waits: nothing is taken. -/
def State.takeAt (s : State) (c : Nat) : Nat → Nat → Intr → State
  | 0, _, _ => s
  | fuel + 1, lvl, i =>
    let s := s.blockReady c lvl
    match s.blockAt c lvl with
    | .error a =>
      if lvl == 0 then s.blockFatal c
      else State.takeAt s c fuel (lvl - 1) { i with cls := 6, sub := 8, opn := 0, vaddr := 0, info := a }
    | .ok ra =>
      if !s.lineReady c (lineOf ra) false then s
      else
        let w (n : Nat) : Word := s.coreWord c (ra + n)
        let sw : DWord := w 8 ++ w 9
        let ic := fld (w 10 ++ w 11) 47 0
        let bad := swPL sw < lvl || 4 < fld sw 66 64 || (bit sw 69 && (swPL sw < 2 || 2 ^ 24 ≤ ic))
        if bad then
          (if lvl == 0 then s.blockFatal c
           else State.takeAt s c fuel (lvl - 1) { i with cls := 3, sub := 0, opn := 0, vaddr := 0, info := 0 })
        else s.enterBlock c ra i sw ic

/-- Assumption 33 (DEDUCED). -/
def State.take (s : State) (c lvl : Nat) (i : Intr) : State := s.takeAt c 4 lvl i

/-- The level that takes a class, by the issuing level (Table 2.17). -/
def takenAt (cls pl : Nat) : Nat :=
  if cls == 0o06 then (if pl == 0 then 0 else 1)
  else if cls == 0o07 || cls == 0o22 then 0
  else if cls == 0o21 then (if pl == 0 then 0 else 1)
  else if cls == 0o41 then 1
  else if 2 ≤ pl then 2 else pl

/-- A Sealing exception: level 0, whose interruption code carries no address (Table 2.16), Zenith's log, and its
presentation to level 1 (R356, R368). -/
def State.takeSealing (s : State) (c : Nat) (i : Intr) : State :=
  let pl := (s.core c).pl
  if s.tn.absent then s.take c (if pl == 0 then 0 else 1) { i with cls := if pl == 0 then 7 else 6 }
  else
    let s := if pl == 0 then s else s.blockReady c 1
    let t := s.take c 0 { i with cls := 7, vaddr := 0 }
    if (t.core c).seq == (s.core c).seq then t else
    let t := { t with tn := { t.tn with sealLog := t.tn.sealLog ++ [(c, i.info)] } }
    if pl == 0 || t.md.st == .halted then t else t.take c 1 { i with cls := 6 }

/-- Take an interruption at the level of its class. -/
def State.takeIntr (s : State) (c : Nat) (i : Intr) : State :=
  if i.cls == 0o07 then s.takeSealing c i else s.take c (takenAt i.cls (s.core c).pl) i

/-- An asynchronous interruption: the saved SW and IC are those of the core between instructions. -/
def State.takeAsync (s : State) (c lvl cls sub info : Nat) : State :=
  let k := s.core c
  s.take c lvl { cls := cls, sub := sub, opn := 0, ilen := 0, vaddr := 0, info := info, sw := k.sw, ic := k.ic.toNat }

/-- A core can take an interruption: configured, bound, and not stopped. Assumption 39 (DESIGN CHOICE). -/
def State.takes (s : State) (c : Nat) : Bool :=
  (s.md.st == .run || (s.md.st == .extracting && s.md.extractStep ≤ 2)) && (c == 126 || s.bound c) && !s.inTakeover c &&
    (match (s.core c).run with
     | .running => true
     | .waiting => true
     | _ => false)

/-- The band that a core takes now (R381): its level. -/
def State.bandTaken (s : State) (c : Nat) : Option Nat :=
  let k := s.core c
  let ie := bit k.sw 67
  if (k.pl != 0 || ie) && (s.best 513 c).isSome then some 0
  else if c == 126 then none
  else if (2 ≤ k.pl || (k.pl == 1 && ie)) && (s.best 512 c).isSome then some 1
  else if 2 ≤ k.pl && ie && k.ctxValid && (s.best k.tenant c).isSome then some 2
  else none

/-! ## Sealed services absent (R367) -/

/-- A core at level 0 goes back to what its level-0 block saved; a CZN has X1 := SERVICE-ABSENT, and a Sealing exception
is presented (R356). -/
def State.leaveZenith (s : State) (c : Nat) : State :=
  match s.blockAt c 0 with
  | .error _ => s
  | .ok ra =>
    let k := s.core c
    let w (n : Nat) : Word := s.coreWord c (ra + n)
    let sw : DWord := w 0 ++ w 1
    let ic := fld (w 2 ++ w 3) 47 0
    let code : DWord := w 4 ++ w 5
    let k' := { k with sw := sw, ic := BitVec.ofNat 48 ic, run := .running,
                       x := if fld code 71 66 == 0o22 then k.x.setIfInBounds 1 1 else k.x }
    let s := s.setCore c (k'.retire k.checkpoint [lineOf ra])
    if fld code 71 66 == 0o07 && swPL sw != 0 then
      s.take c 1 { cls := 6, sub := fld code 65 54, opn := fld code 53 52, ilen := fld code 51 48, vaddr := fld code 47 0,
                   info := fld (w 6 ++ w 7) 47 0, sw := sw, ic := ic }
    else s

/-- Zenith is absent from now on (R367 steps 1 to 4). -/
def State.zenithAbsent (s : State) : State :=
  if s.tn.absent then s else
  let s := ({ s with tn := { s.tn with absent := true } }).endSessions (fun _ => true) (some 6)
  let s := s.setCore 126 { s.core 126 with run := .stopped }
  let s := s.worldsOpen
  s.cores.foldl (fun s e => if e.1 < 100 && s.bound e.1 && e.2.pl == 0 then s.leaveZenith e.1 else s) s

/-! ## Rows -/

/-- R382: a source that qualifies in a band the core takes is presented, but not inside a CACHE CONTROL (R137). Assumption 39 (DESIGN CHOICE). -/
def State.external (s : State) (c : Nat) : State :=
  if !s.takes c || s.cc.acting.any (fun e => e.2 == c) then s else
  match s.bandTaken c with
  | some b => s.takeAsync c b 0o30 b 0
  | none => s

/-- Assumption 39 (DESIGN CHOICE). -/
def execExternalInterruption (core : Nat) (s : State) : Host.Outcome State Fault Refusal :=
  s.runIf (wfCore core) (s.external core)

/-- A machine check waits for a core's instruction boundary. -/
def State.addCheck (s : State) (c : Nat) (x : Check) : State := s.modCore c (fun k => { k with checks := k.checks ++ [x] })

/-- The first machine check that the core's level and context let in: an uncontained one as its tenant runs (R209), a
contained one at level 2 of its tenant or at a level that its level lets interrupt. Assumption 49 (DEDUCED). -/
def Core.nextCheck (k : Core) : Option Check :=
  k.checks.find? (fun x =>
    if x.cls == 0o41 then 2 ≤ k.pl && k.ctxValid && k.tenant == x.tenant
    else if x.level == 2 then 2 ≤ k.pl && k.tenant == x.tenant else decide (x.level ≤ k.pl))

/-- Take the first machine check that is let in, before the next instruction. -/
def State.deliverChecks (s : State) (c : Nat) : State :=
  if !s.takes c then s else
  match (s.core c).nextCheck with
  | none => s
  | some x =>
    let t := s.takeAsync c x.level x.cls x.sub x.info
    if (t.core c).seq != (s.core c).seq then t.modCore c (fun k => { k with checks := k.checks.erase x }) else t

/-- R395: an asynchronous contained machine check, at the level that runs. -/
def execContainedMachineCheck (core sub : Nat) (info : DWord) (s : State) : Host.Outcome State Fault Refusal :=
  s.runIf (wfCore core && decide (sub < 6)) (
    if s.takes core then
      (s.addCheck core { cls := 0o40, level := takenAt 0o40 (s.core core).pl, tenant := (s.core core).tenant, sub := sub,
                         info := info.toNat }).deliverChecks core
    else s)

/-- Who owns a line under the sealing map (R208): a tenant of this module, 512 the Host, 513 the sealed world. -/
def State.lineOwner (s : State) (line : Nat) : Nat :=
  let g := s.tag (16 * line)
  if tagKind g == 1 && fld g 12 9 == s.dy.modnum then fld g 8 0
  else if tagKind g == 3 then 513 else 512

/-- R209: the owner's tenant stops, and its cores with a site take class 0o41 at level 1. A line of the sealed world is a
fatal fault (R208). `site` is where the fault lay. Assumption 64 (DEDUCED). -/
def State.uncontainedAt (s : State) (owner sub core site : Nat) : State :=
  if owner == 513 then s.fatalFault (8 * (site % 104) + 5) else
  let s := s.logEntry { time := s.tm.tod, forced := false, rail := false, merged := false, squall := false, fenced := false,
                        cls := 2, source := 8 * (site % 104) + 7, count := 1, detail := sub }
  let s := { s with sp := { s.sp with uncontained := s.sp.uncontained + 1 } }
  if 512 ≤ owner then s else
  let v := s.tenant owner
  let s := if v.st == .active then s.setTenant owner { v with st := .stopped } else s
  let s := s.cores.foldl (fun s e =>
    if e.1 < 100 && s.bound e.1 && e.2.ctxValid && e.2.tenant == owner then
      (s.addCheck e.1 { cls := 0o41, level := 1, tenant := owner, sub := sub, info := core * 2 ^ 36 }).deliverChecks e.1
    else s) s
  s.decideTenant owner false

/-- The data of a line is lost: its words are not fixed. -/
def State.loseData (s : State) (line : Nat) : State :=
  let (n, s) := s.tick
  s.takeWords line ((List.range 16).map (Config.lostWord n))

/-- R208, R209: the dirty line of a core's L2 that an error hits; the sub-codes of a takeover have lost no line here. -/
def State.uncontained (s : State) (line sub core : Nat) : State :=
  let owner := s.lineOwner line
  (if sub == 2 then s.loseData line else s).uncontainedAt owner sub core (s.siteOfCore core)

def execUncontainedMachineCheck (line sub core : Nat) (s : State) : Host.Outcome State Fault Refusal :=
  s.runIf (wfLine line && wfCore core && decide (1 ≤ sub) && decide (sub ≤ 5)) (s.uncontained line sub core)

/-- R367: 50 ms without a kick. -/
def execZenithWatchdogExpiry (s : State) : Host.Outcome State Fault Refusal :=
  s.runIf true (if s.tn.absent || s.md.st != ModState.run then s else s.zenithAbsent.report 1234 2)

end Sys2Proof.Machine
end

