-- ==== Sys2Proof/Machine/Faults.lean ====
section
/-! DEFINITION. The fault collector: reports, Squall, fences, injection (R391-R406). -/

namespace Sys2Proof.Machine

/-! ## Sources (Table 13.1) -/

/-- A source whose Squall reaction is fatal. -/
def fatalSource (n : Nat) : Bool :=
  (1152 ≤ n && n < 1160) || (1201 ≤ n && n < 1204) || n == 1216 || (1222 ≤ n && n < 1226) || n == 1235

/-- A source whose Squall reaction is to report only. -/
def reportOnly (n : Nat) : Bool :=
  (982 ≤ n && n < 997) || n == 1001 || (1160 ≤ n && n < 1192) || n == 1200 || (1217 ≤ n && n < 1222) ||
  (1226 ≤ n && n < 1230) || n == 1234

/-- A source whose Squall reaction fences its unit. -/
def fencingSource (n : Nat) : Bool :=
  n < 982 || (997 ≤ n && n < 1001) || n == 1192 || n == 1193 || (1231 ≤ n && n < 1234)

/-- The lines of a fenced way group are cleaned and invalidated (R399). -/
def State.fenceWays (s : State) (t g : Nat) : State :=
  ((s.tileLines t).filter (fun l => ((s.tileLine t l).elim 16 (·.way)) / 4 == g)).foldl (fun s l => s.evict t l) s

/-- A lane of the Twin link leaves it; with no lane the link is DOWN (R407). -/
def State.fenceTwinLane (s : State) (n : Nat) : State :=
  let lanes := if s.tw.lanes.testBit n then s.tw.lanes - 2 ^ n else s.tw.lanes
  { s with tw := { s.tw with lanes := lanes, linkSt := if lanes == 0 && s.tw.linkSt == .active then .down else s.tw.linkSt } }

/-- The spare device of a region (R400). -/
def State.useSpare (s : State) (region : Nat) : State :=
  if s.fc.spareUsed.contains region then s.report (1024 + region) 2
  else { s with fc := { s.fc with spareUsed := s.fc.spareUsed ++ [region], rebuilding := s.fc.rebuilding ++ [region] } }

/-- A core site is recorded failed (R201). -/
def State.siteFails (s : State) (site : Nat) : State :=
  if s.sp.failed.contains site then s else { s with sp := { s.sp with failed := s.sp.failed ++ [site] } }

/-- A takeover of a site is decided (R199, R203): from now on its core executes nothing. In lockstep both sites of the pair
are recorded failed (R207). -/
def State.takeoverDecided (s : State) (site : Nat) : State :=
  match s.coreAt site with
  | none => s.siteFails site
  | some c =>
    let base := s.siteOfCore c
    let s := s.siteFails base
    let s := if s.md.lockstep then s.siteFails (base + 1) else s
    if s.inTakeover c then s
    else { s with sp := { s.sp with taking := s.sp.taking ++ [{ site := base, begun := false, sub := 0, owner := 512 }] } }

/-- The Squall reaction of a source (Table 13.1). -/
def State.squallReaction (s : State) (n : Nat) (forced : Bool) : State :=
  if n < 832 then s.takeoverDecided (n / 8)
  else if n < 848 then s.fenceWays ((n - 832) / 4) (n % 4)
  else if n < 880 then s.fenceProc (n - 848)
  else if n < 928 then s.fenceLane (n - 880)
  else if n < 952 then s.fenceAes (n - 928)
  else if n < 982 then s.fenceGroup ((n - 952) / 2) ((n - 952) % 2)
  else if 997 ≤ n && n < 1001 then s.fenceTwinLane (n - 997)
  else if 1024 ≤ n && n < 1152 then s.useSpare (n - 1024)
  else if n == 1192 then { s with ch := { s.ch with portUp0 := false } }
  else if n == 1193 then { s with ch := { s.ch with portUp1 := false } }
  else if n == 1230 then (if forced then s else (s.zenithAbsent).report 1234 2)
  else if 1231 ≤ n && n < 1234 then s.fenceBlock (104 + (n - 1231))
  else if fatalSource n then s.halt n
  else s

/-! ## Collection (R392-R396) -/

/-- A sampled report. -/
structure Sample where
  source : Nat
  cls : Nat
  rail : Bool
  forced : Bool
  detail : Nat
deriving DecidableEq, Repr

def State.logSample (s : State) (now : Nat) (x : Sample) (v : FSrc) (squall fenced : Bool) (count : Nat) : State :=
  s.logEntry { time := now, forced := x.forced, rail := x.rail, merged := v.merged, squall := squall, fenced := fenced,
               cls := x.cls, source := x.source, count := min count 65535, detail := x.detail % 65536 }

/-- The source counts the event, and enters Squall on the N-th within T or on a reporting-path fault. -/
def FSrc.countEvent (v : FSrc) (now cls : Nat) (rail : Bool) : FSrc × Bool :=
  let ev := (now :: v.events.filter (fun e => now - e ≤ v.t * 1000000)).take 65535
  let enter := !v.squall && (rail || (v.n != 0 && v.n ≤ ev.length))
  ({ v with last := cls, held := 0, events := ev, squall := v.squall || enter, rail := v.rail || rail }, enter)

/-- The collector acts on a valid sample (Table 13.2, R396). -/
def State.collect (s : State) (x : Sample) : State :=
  let v := s.fsrc x.source
  if v.rail || s.md.st == .off then s else
  let (now, s) := s.now
  if x.cls == 3 && !x.rail then
    let s := s.setFsrc x.source { v with last := 3, held := 0, merged := false }
    (s.logSample now x v false false 1).halt x.source
  else
    let (v1, enter) := v.countEvent now x.cls x.rail
    let fences := enter && fencingSource x.source
    let last := (v.logged.find? (fun e => e.1 == x.cls)).map (·.2)
    let writes := enter || last.all (fun l => l + 1000000 ≤ now)
    let v2 := { v1 with fenced := v.fenced || fences, merged := if writes then false else true,
                        logged := if writes then (x.cls, now) :: v.logged.filter (fun e => e.1 != x.cls) else v.logged }
    let s := s.setFsrc x.source v2
    let s := if writes then s.logSample now x v enter fences v1.events.length else s
    let s := if x.cls == 2 then
        { s with fc := { s.fc with contained := s.fc.contained + 1, lightContained := true } } else s
    let s := if x.cls == 2 || enter then s.ringHost else s
    if enter then s.squallReaction x.source x.forced else s

def classCode' : FaultClass → Nat
  | .corrected => 1
  | .contained => 2
  | .fatal => 3

/-- FAULT_REPORT: the sample takes the higher of the class reported and the class held (R392). Assumption 42 (DEDUCED). -/
def State.faultReport (s : State) (source cls detail : Nat) : State :=
  s.collect { source := source, cls := max cls (s.fsrc source).held, rail := false, forced := false, detail := detail }

/-- The collector samples every report that a source holds on its rails: once in each FAB cycle (R392). -/
def State.sampleAll (s : State) : State :=
  (s.fc.srcs.filter (fun e => e.2.held != 0)).foldl (fun s e =>
    let (n, s) := s.tick
    s.collect { source := e.1, cls := e.2.held, rail := false, forced := false, detail := Config.faultDetail n }) s

/-- R393. -/
def State.railFault (s : State) (source : Nat) (forced : Bool) : State :=
  s.collect { source := source, cls := 2, rail := true, forced := forced, detail := 0 }

/-- R397: a report-only source leaves Squall when T has passed without an event. -/
def State.squallExit (s : State) (source : Nat) : State :=
  let v := s.fsrc source
  if v.squall && reportOnly source && !v.rail then s.setFsrc source { v with squall := false, events := [] } else s

/-! ## Injection (R404) -/

/-- The abort of a force word (Table 13.6): 8 when the word is outside it or the class is not permitted, 0Bh while a count
of the source runs. -/
def State.forceAbort (s : State) (w : Nat) : Nat :=
  let count := nfld w 23 16
  let cls := nfld w 13 12
  let source := nfld w 10 0
  if 2 ^ 24 ≤ w || count == 0 || nfld w 15 14 != 0 || nfld w 11 11 != 0 || !wfFaultSource source then 8
  else if s.fc.injection == 0 || (cls == 3 && s.fc.injection != 2) then 8
  else if (s.fsrc source).forceLeft != 0 then 0x0B else 0

/-- Assumption 42 (DEDUCED). -/
def State.force (s : State) (w : Nat) : State :=
  let source := nfld w 10 0
  s.setFsrc source { s.fsrc source with forceLeft := nfld w 23 16, forceCls := nfld w 13 12 }

/-- One report of a running count: real to the collector, without the unit's own mechanisms. -/
def State.forcedReport (s : State) (source : Nat) : State :=
  let v := s.fsrc source
  if v.forceLeft == 0 then s else
  let s := s.setFsrc source { v with forceLeft := v.forceLeft - 1 }
  let s := { s with fc := { s.fc with forced := s.fc.forced + 1 } }
  if v.forceCls == 0 then s.railFault source true
  else s.collect { source := source, cls := v.forceCls, rail := false, forced := true, detail := 0 }

/-! ## Rows -/

def execFaultReport (source : Nat) (cls : FaultClass) (detail : Nat) (s : State) : Host.Outcome State Fault Refusal :=
  s.runIf (wfFaultSource source) (s.faultReport source (classCode' cls) detail)

def execReportingPathFault (source : Nat) (s : State) : Host.Outcome State Fault Refusal :=
  s.runIf (wfFaultSource source) (s.railFault source false)

def execSquallExit (source : Nat) (s : State) : Host.Outcome State Fault Refusal :=
  s.runIf (wfFaultSource source) (s.squallExit source)

def execForce (route : Route) (value : Nat) (s : State) : Host.Outcome State Fault Refusal :=
  s.runIf (wfRoute route) (s.odWriteNum route 0x1620 2 value (s.forceAbort value) (fun s => s.force value))

def execForcedReport (source : Nat) (s : State) : Host.Outcome State Fault Refusal :=
  s.runIf (wfFaultSource source) (s.forcedReport source)

/-- R400: the region's code corrects one device and detects two again. -/
def execSpareRebuildComplete (region : Nat) (s : State) : Host.Outcome State Fault Refusal :=
  s.runIf (wfRegion region) { s with fc := { s.fc with rebuilding := s.fc.rebuilding.filter (· != region) } }

/-- OD 1610h.05: the selected source's unit returns at the next DAWN (R397). -/
def execReturnUnit (route : Route) (value : Nat) (s : State) : Host.Outcome State Fault Refusal :=
  s.runIf (wfRoute route) (s.odWriteNum route 0x1610 5 value (rangeOnly (value == 1)) (fun s =>
    let n := s.select route 0x1610 1
    s.setFsrc n { s.fsrc n with returning := true }))

/-- OD 1900h.0C (R201). -/
def execReturnFailedSites (route : Route) (value : Nat) (s : State) : Host.Outcome State Fault Refusal :=
  s.runIf (wfRoute route) (s.odWriteNum route 0x1900 0x0C value (rangeOnly (value == 1)) (fun s =>
    { s with sp := { s.sp with returnFailed := true } }))

end Sys2Proof.Machine
end

