-- ==== Sys2Proof/Machine/Twin.lean ====
section
/-! DEFINITION. The twin: pairing, heartbeats, mirrored items, self-fence, takeover and return (R407-R421). -/

namespace Sys2Proof.Machine

def pairCode : PairSt → Nat
  | .unpaired => 0
  | .pairing => 1
  | .resync => 2
  | .inService => 3
  | .detached => 4
  | .selfFenced => 5
  | .solo => 6

def State.setPair (s : State) (p : PairSt) : State := { s with tw := { s.tw with st := p } }

/-- TWIN tenants of this module: existing tenants whose acknowledgement policy is TWIN. -/
def State.twinTenants (s : State) : List Nat :=
  (s.tn.tenants.filter (fun e => e.2.st != .absent && s.ackTwin e.1)).map (·.1)

/-- Milliseconds since a time, saturating. -/
def msSince (now at_ top : Nat) : Nat := min ((now - at_) / 1000000) top

/-- OD 1700h.0A: a witness heard within the last 50 ms. -/
def State.witnessHeard (s : State) (now : Nat) : Bool := s.tw.witness && (now - s.tw.witnessAt) / 1000000 < 50

def State.anyLocalAck (s : State) : Bool := s.jn.tenants.any (fun e => e.2.localAck)

/-! ## Receipts of mirrored items (R227, R266, R333) -/

/-- The order of a channel that waits for an item. -/
def State.itemOrder (s : State) (i : Nat) : Option (Nat × Order) :=
  s.ch.chans.findSome? (fun e => (e.2.orders.find? (fun o => o.item == some i)).map (fun o => (e.1, o)))

/-- The tenant whose commit waits for an item. -/
def State.itemCommit (s : State) (i : Nat) : Option Nat :=
  (s.jn.tenants.find? (fun e => e.2.waiting.any (fun c => c.mirrored.any (fun p => p.2 == i)))).map (·.1)

/-- The tenant whose key change waits for an item. -/
def State.itemKey (s : State) (i : Nat) : Option Nat :=
  (s.ci.tenants.find? (fun e => e.2.change.any (fun c => c.item == some i))).map (·.1)

/-- A record that the twin did not take is mirrored again; it waits and never fails (R227). -/
def State.mirrorReceipt (s : State) (i : Nat) (received : Bool) : State :=
  if !s.tw.unacked.contains i then s else
  let s := { s with tw := { s.tw with unacked := s.tw.unacked.filter (· != i) } }
  match s.itemCommit i with
  | some t => s.entryReceipt t received
  | none =>
    match s.itemOrder i with
    | some (m, o) =>
      if received then s.applyRetire m o.slot o.mark
      else
        let c := s.chan m
        let (j, s) := s.mirrorOut c.tenant (.config ((s.setChan m { c with retire := o.mark }).configOf c.tenant))
        s.modOrder m o.slot (fun x => { x with item := j })
    | none =>
      match s.itemKey i with
      | some t =>
        if received then s.keyReceipt t
        else
          let (j, s) := ((s.ciT t).change).elim (none, s) (fun c => s.mirrorOut t (.key t c.handle c.slot.loaded))
          s.setCiT t { s.ciT t with change := (s.ciT t).change.map (fun (c : KeyChange) => { c with item := j }) }
      | none =>
        match s.ch.ledger.find? (fun e => e.item == some i) with
        | some e =>
          if received then s.modEntry e.source e.opid (fun x => { x with item := none })
          else
            let (j, s) := s.mirrorOut e.owner e.mirrorItem
            s.modEntry e.source e.opid (fun x => { x with item := j })
        | none => s.configReceipt i received

/-- The twin leaves service: commits are decided by their fallback, and what waits on mirroring proceeds on local
coverage (Table 13.11). -/
def State.twinLeaves (s : State) : State :=
  let s := s.twinLost
  let s := { s with tw := { s.tw with unacked := [] },
                    ch := { s.ch with ledger := s.ch.ledger.map (fun (e : LedgerEntry) => { e with item := none }) } }
  let s := s.ci.tenants.foldl (fun s e => s.keyReceipt e.1) s
  let s := s.configsDue
  s.ch.chans.foldl (fun s e => e.2.orders.foldl (fun s o =>
    if o.item.isSome then s.applyRetire e.1 o.slot o.mark else s) s) s

/-! ## Items received from the twin (R266) -/

def State.mirrorAdmits (s : State) (charge : Nat) : Bool :=
  s.regionAdmits charge && decide (s.pendingMirror + charge ≤ s.jn.mirrorAllowance * MiB)

def State.mirrorHolds (s : State) (stream seq : Nat) : Bool :=
  s.jn.pending.any (fun p => p.stream == stream && p.seq == seq) || s.jn.records.any (fun r => r.stream == stream && r.seq == seq)

def State.addPending (s : State) (p : Pend) : State := { s with jn := { s.jn with pending := s.jn.pending ++ [p] } }

/-- A configuration keeps a record of an operation above its channel's retire mark; of a channel that it does not hold none,
since its entries were released (R228). -/
def MLedger.keptBy (r : MLedger) (cfg : MirrorConfig) : Bool :=
  r.source != ownSource || cfg.channels.any (fun c => c.localNo == r.chan && decide (c.retire < r.seq))

/-- Take one item into the mirror, or answer it as not received. -/
def State.mirrored (s : State) (item : MirrorItem) : State :=
  if s.md.st != .run || (s.tw.st != .inService && s.tw.st != .resync) then s else
  match item with
  | .entry t n user ws toSeal =>
    let c := regionCharge ws.length
    if s.mirrorHolds (512 + t) n then s.emitTwin (.receipt (512 + t) n true)
    else if s.mirrorAdmits c then
      (s.addPending { stream := 512 + t, seq := n, type := 1, user := user, words := ws, toSeal := toSeal, toCompress := false,
                      charge := c, time := s.tm.tod }).emitTwin (.receipt (512 + t) n true)
    else s.emitTwin (.receipt (512 + t) n false)
  | .ledger t src ch n digest done =>
    let c := regionCharge 4
    if s.mirrorAdmits c then
      let rec_ : MLedger := { tenant := t, source := src, chan := ch, seq := n, digest := digest, done := done }
      let rest := s.tw.mLedger.filter (fun r => !(r.tenant == t && r.source == src && r.chan == ch && r.seq == n))
      (({ s with tw := { s.tw with mLedger := rest ++ [rec_] } }).addPending
        { stream := 1025, seq := n, type := 2, user := 0, words := [0, 0, 0, 0], toSeal := false, toCompress := false,
          charge := c, time := s.tm.tod }).emitTwin (.receipt 1025 n true)
    else s.emitTwin (.receipt 1025 n false)
  | .config cfg =>
    ({ s with tw := { s.tw with mConfig := s.tw.mConfig.filter (fun (c : MirrorConfig) => c.tenant != cfg.tenant) ++ [cfg],
                                mLedger := s.tw.mLedger.filter (fun r => r.tenant != cfg.tenant || r.keptBy cfg) } }).emitTwin
      (.receipt 1026 cfg.tenant true)
  | .key t h present =>
    let rest := s.tw.mKeys.filter (fun k => !(k.1 == t && k.2 == h))
    ({ s with tw := { s.tw with mKeys := if present then rest ++ [(t, h)] else rest } }).emitTwin (.receipt 1027 t true)
  | .gone t =>
    ({ s with tw := { s.tw with mConfig := s.tw.mConfig.filter (fun (c : MirrorConfig) => c.tenant != t),
                                mKeys := s.tw.mKeys.filter (fun k => k.1 != t),
                                mLedger := s.tw.mLedger.filter (fun r => r.tenant != t) },
              jn := { s.jn with records := s.jn.records.filter (fun r => r.stream != 512 + t),
                                pending := s.jn.pending.filter (fun p => p.stream != 512 + t) } }).emitTwin (.receipt 1026 t true)

/-! ## Takeover (R416-R418) -/

/-- A slot unwrapped under the pair storage key: its content is not in the mirrored item, so it is free.
Assumption 10 (DESIGN CHOICE). -/
def mirroredSlot (t h : Nat) : KeySlot :=
  let a := Config.mirroredAttr t h
  let size := fld a 1 0 % 3
  { KeySlot.init with loaded := true, size := size, enc := bit a 2, dec := bit a 3, exportOk := bit a 4, origin := bit a 5,
                      key := natOct (keyOctets size) (Config.mirroredKey t h).toNat }

/-- A channel of a tenant taken over, on its alternate target (R410). -/
def mirrorChan (c : MirrorChannel) (t : Nat) : Chan :=
  { Chan.init with tenant := t, localNo := c.localNo, cls := (classOf c.cls).getD .c, select := c.nsid, timeout := c.timeout,
                   retire := c.retire, target := (c.alternate.getD (0, 0)).1, port := (c.alternate.getD (0, 0)).2,
                   noTarget := c.alternate.isNone || 1 < c.cls }

/-- Tail of a mirror stream. -/
def State.mirrorTail (s : State) (t : Nat) : Nat :=
  max (s.jn.records.foldl (fun a r => if r.stream == 512 + t then max a r.seq else a) 0)
      (s.jn.pending.foldl (fun a p => if p.stream == 512 + t then max a p.seq else a) 0)

/-- Steps 2 to 5 of Table 13.12 for one tenant. Assumption 10 (DESIGN CHOICE). -/
def State.adopt (s : State) (cfg : MirrorConfig) (localAck : Bool) : State :=
  let t := cfg.tenant
  let s := s.setTenant t { Tenant.init with
    st := .active, initialSW := s.initialSW, hvPermitted := cfg.hvPermitted, hvOk := cfg.hvPermitted,
    drainTimeout := cfg.drainTimeout }
  let s := s.setChT t { ChTenant.init with slice := cfg.chanSlice, quota := cfg.ledgerQuota }
  let s := s.setCxT t { CxTenant.init with slice := cfg.ringSlice, laneLimit := cfg.laneLimit }
  let keys := s.tw.mKeys.foldl (fun (k : Tab KeySlot) e => if e.1 == t then tput k KeySlot.init e.2 (mirroredSlot t e.2) else k) []
  let s := s.setCiT t { CiTenant.init with
    ringSlice := cfg.cipherRings, handleSlice := cfg.handleSlice, coreLimit := cfg.coreLimit, keys := keys,
    kek := some (natOct 32 (Config.mirroredKek t).toNat) }
  let s := s.setPage t { SrcPage.init with slice := cfg.irqSlice }
  let s := cfg.channels.foldl (fun s c => s.setChan c.chan { mirrorChan c t with proc := s.choosePe.getD 0 }) s
  let recs := (s.tw.mLedger.filter (fun r => r.tenant == t && r.source == ownSource)).map (fun r =>
    ({ source := ownSource, opid := BitVec.ofNat 72 (t * 2 ^ 63 + r.chan * 2 ^ 48 + r.seq), digest := BitVec.ofNat 32 r.digest,
       st := if r.done.isSome then .done else .inDoubt, persistent := true, attempt := 0, series := 0,
       status := r.done.getD 0, count := 0, time := s.tm.tod, detail := 0, item := none } : LedgerEntry))
  let s := { s with ch := { s.ch with ledger := s.ch.ledger ++ recs } }
  let tail := s.mirrorTail t
  let s := { s with jn := { s.jn with
    records := s.jn.records.map (fun (r : Rec) => if r.stream == 512 + t then { r with stream := t } else r),
    pending := s.jn.pending.map (fun (p : Pend) => if p.stream == 512 + t then { p with stream := t } else p) } }
  let s := s.setJt t { JnTenant.init with
    energyQuota := cfg.energyQuota, anvilQuota := cfg.anvilQuota, ackTwin := true, ackSet := true,
    refuseFallback := cfg.fallbackRefuse, failPolicy := cfg.failNow, waitLimit := cfg.waitLimit,
    compression := cfg.compression, sealing := cfg.sealing, epoch := cfg.epoch + 1, committed := tail, written := tail,
    loss := localAck && !cfg.fallbackRefuse,
    rootKey := if cfg.sealing then some (natOct 32 (Config.mirroredRoot t).toNat) else none }
  if cfg.sealing then s.loadEpoch t else s

/-- Table 13.12: the twin's TWIN tenants are taken over, never its LOCAL ones. -/
def State.takeOver (s : State) : State :=
  let localAck := s.tw.lastHb.any (fun h => h.localAck)
  let cfgs := s.tw.mConfig.filter (·.twin)
  let s := s.setPair .solo
  let s := { s with tw := { s.tw with selfFence := false, plannedFence := false, iTookOver := true, takeovers := s.tw.takeovers + 1,
                                      adopted := cfgs.map (fun (c : MirrorConfig) => c.tenant) } }
  let s := s.ringHost
  let s := cfgs.foldl (fun s c => s.adopt c localAck) s
  let s := { s with tw := { s.tw with mLedger := [], mConfig := s.tw.mConfig.filter (fun (c : MirrorConfig) => !c.twin), mKeys := [] },
                    jn := { s.jn with records := s.jn.records.filter (fun r => r.stream != 1025),
                                      pending := s.jn.pending.filter (fun p => p.stream != 1025) } }
  s.decideEvery

/-! ## Pairing and return (R408, R420) -/

/-- The tenants that the twin took over are reconciled (R420). -/
def State.reconcile (s : State) : State :=
  if !s.tw.takenOver then s else
  s.twinTenants.foldl (fun s t =>
    if (s.jt t).localAck then
      { s with tw := { s.tw with conflicts := if s.tw.conflicts.contains t then s.tw.conflicts else s.tw.conflicts ++ [t] } }
    else s.deleteTenant t false) s

/-- PAIRING ends (R408, Table 13.11). -/
def State.pair (s : State) (serial : BitVec 64) (twinId attested : Bool) : State :=
  if !s.tw.enabled || (s.tw.st != .unpaired && s.tw.st != .pairing) then s else
  if twinId != s.md.twinId && attested && (s.tw.expected == 0 || s.tw.expected == serial) then
    let s := if s.tw.expected == 0 then ({ s with tw := { s.tw with expected := serial } }).persist 0x1700 2 else s
    let s := s.reconcile
    { s with tw := { s.tw with st := .resync, peer := serial, keysAgreed := true, keyEpoch := (s.tw.keyEpoch + 1) % 2 ^ 32,
                               sent := 0, seq := 1, replayBuf := [], replayCount := 0, resyncs := s.tw.resyncs + 1,
                               takenOver := false, iTookOver := false,
                               linkSt := if s.tw.lanes == 0 then .down else .active } }
  else
    ({ s with tw := { s.tw with st := .unpaired, mismatch := true } }).report 1001 2

/-- The twin's serial number, as recorded. -/
def Twin.serial (w : Twin) : BitVec 64 := if w.peer == 0 then w.expected else w.peer

/-- A heartbeat is heard only if it authenticates, is the twin's, and its counter on the path is new (R411, R437). -/
def State.hears (s : State) (hb : Heartbeat) (path : Nat) : Bool :=
  hb.authentic && s.tw.serial != 0 && hb.serial == s.tw.serial && decide (tget s.tw.rxCount 0 path < hb.count)

/-- Copies of the moved tenants are deleted after a planned failover, their streams kept (R419). -/
def State.becomeStandby (s : State) : State :=
  let s := s.setPair .pairing
  let s := s.twinTenants.foldl (fun s t => s.deleteTenant t true) s
  { s with tw := { s.tw with selfFence := false, plannedFence := false, relinquishSent := false } }

/-- R413 on a heartbeat heard; on a service segment a bad TAG or an old counter is a frame discarded (Table 14.8). -/
def State.heartbeat (s : State) (hb : Heartbeat) (path : Nat) : State :=
  if !s.hears hb path then
    (if path != 0 && !(hb.authentic && decide (tget s.tw.rxCount 0 path < hb.count)) then
      { s with sv := { s.sv with discarded := s.sv.discarded + 1 } } else s)
  else
  let s := { s with tw := { s.tw with
    rxCount := tput s.tw.rxCount 0 path hb.count, lastHb := some hb,
    heardLink := if path == 0 then s.tm.tod else s.tw.heardLink,
    heardSvc := if path == 0 then s.tw.heardSvc else s.tm.tod } }
  match s.tw.st with
  | .detached =>
    if path == 0 && s.tw.linkSt == .active then ({ s with tw := { s.tw with resyncs := s.tw.resyncs + 1 } }).setPair .resync else s
  | .selfFenced =>
    if hb.takenOver then { s with tw := { s.tw with st := .pairing, takenOver := true } }
    else { s with tw := { s.tw with st := .resync, selfFence := false, resyncs := s.tw.resyncs + 1 } }
  | .inService => if s.tw.plannedFence && s.tw.relinquishSent && hb.takenOver then s.becomeStandby else s
  | .solo => s.setPair .pairing
  | _ => s

/-- The module sends heartbeats until DUSK or the halt sequence, on the Twin link while it is ACTIVE and on the service
segments (R411). -/
def State.heartbeatSend (s : State) (path : Nat) : State :=
  if !(s.md.st == .run || s.md.st == .extracting || s.md.st == .safe) || !s.tw.keysAgreed ||
     (path == 0 && s.tw.linkSt != .active) then s else
  let n := tget s.tw.txCount 0 path + 1
  let (now, s) := s.now
  let hb : Heartbeat :=
    { authentic := true, serial := s.sv.serial, twinId := s.md.twinId, state := pairCode s.tw.st,
      selfFenced := s.tw.selfFence, takenOver := s.tw.iTookOver, localAck := s.anyLocalAck, count := n,
      time := BitVec.ofNat 64 now, reserve := s.es.reserve }
  let s := { s with tw := { s.tw with txCount := tput s.tw.txCount 0 path n } }
  if path == 0 then s.emitTwin (.heartbeat hb) else s.emit (.heartbeat path hb)

/-- Silence of 40 ms (R415). -/
def State.selfFenceNow (s : State) : State :=
  match s.tw.st with
  | .pairing | .resync | .inService | .detached =>
    let served := s.twinServes
    let s := { s with tw := { s.tw with st := .selfFenced, selfFence := true } }
    let s := if served then s.twinLeaves else s.decideEvery
    s.ringHost
  | _ => s

/-- The self-fence of a planned failover (R419 step 1). -/
def State.planFence (s : State) : State :=
  ({ s with tw := { s.tw with selfFence := true, plannedFence := true, relinquishSent := false } }).decideEvery

/-! ## Rows -/

def execMirrorReceipt (item : Nat) (received : Bool) (s : State) : Host.Outcome State Fault Refusal :=
  s.runIf true (s.mirrorReceipt item received)

def execMirroredItem (item : MirrorItem) (s : State) : Host.Outcome State Fault Refusal := s.runIf true (s.mirrored item)

def execHeartbeat (hb : Heartbeat) (path : Nat) (s : State) : Host.Outcome State Fault Refusal :=
  s.runIf (wfPath path) (s.heartbeat hb path)

def execHeartbeatSend (path : Nat) (s : State) : Host.Outcome State Fault Refusal :=
  s.runIf (wfPath path) (s.heartbeatSend path)

/-- R412: a frame with a valid FCS from a node other than the twin, on either segment. -/
def execWitness (segment : Nat) (s : State) : Host.Outcome State Fault Refusal :=
  s.runIf (wfTwo segment) { s with tw := { s.tw with witness := true, witnessAt := s.tm.tod } }

def execPairing (peerSerial : BitVec 64) (peerTwinId attested : Bool) (s : State) : Host.Outcome State Fault Refusal :=
  s.runIf true (s.pair peerSerial peerTwinId attested)

/-- OD 1700h.01. -/
def execPairingEnabled (route : Route) (value : Nat) (s : State) : Host.Outcome State Fault Refusal :=
  let busy := value == 0 && (!s.twinTenants.isEmpty || !s.tw.mConfig.isEmpty)
  s.runIf (wfRoute route) (s.odWriteNum route 0x1700 1 value (if 1 < value then 8 else if busy then 0x0B else 0) (fun s =>
    let s := ({ s with tw := { s.tw with enabled := value == 1 } }).persist 0x1700 1
    if value == 0 then
      let served := s.twinServes
      let s := { s with tw := { s.tw with st := .unpaired, selfFence := false, plannedFence := false } }
      if served then s.twinLeaves else s.decideEvery
    else s))

/-- What the bulk copy moves: configuration, wrapped slots and ledger records, and the unreleased journal of every TWIN
tenant, in its order; nothing of a tenant in conflict (R420). -/
def State.bulkItems (s : State) : List MirrorItem :=
  let ts := (s.tn.tenants.filter (fun e => e.2.st != .absent && !s.tw.conflicts.contains e.1)).map (·.1)
  ts.map (fun t => .config (s.configOf t)) ++
  ts.flatMap (fun t => (s.ciT t).keys.map (fun k => .key t k.1 k.2.loaded)) ++
  (s.ch.ledger.filter (fun e => e.persistent && ts.contains e.owner)).map (·.mirrorItem) ++
  (ts.filter s.ackTwin).flatMap (fun t =>
    (s.jn.records.filter (fun r => r.stream == t && decide ((s.jt t).released < r.seq))).map (fun r =>
      .entry t r.seq r.user r.words r.sealedRec) ++
    (s.jn.pending.filter (fun p => p.stream == t)).map (fun p => .entry t p.seq p.user p.words p.toSeal))

/-- Copy in bulk: the items are numbered, and the copy is complete only once the twin holds them. -/
def State.bulkCopy (s : State) : State :=
  s.bulkItems.foldl (fun s m =>
    ({ s with tw := { s.tw with nextItem := s.tw.nextItem + 1 } }).emitTwin (.item s.tw.nextItem m)) s

/-- RESYNC ends (Table 13.11). -/
def execBulkCopyComplete (s : State) : Host.Outcome State Fault Refusal :=
  s.runIf true (if s.tw.st == .resync then
    let s := s.bulkCopy.setPair .inService
    let s := { s with jn := { s.jn with tenants := s.jn.tenants.map (fun (e : Nat × JnTenant) => (e.1, { e.2 with localAck := false })) } }
    s.decideEvery
  else s)

/-- No heartbeat on the Twin link for 1 ms (Table 13.11). -/
def execTwinLinkSilence (s : State) : Host.Outcome State Fault Refusal :=
  s.runIf true (if s.tw.st == .inService then (s.setPair .detached).twinLeaves.ringHost else s)

def execSelfFence (s : State) : Host.Outcome State Fault Refusal := s.runIf true s.selfFenceNow

/-- The twin may be declared failed: a witness within the last 50 ms, and 2 s of silence where no heartbeat has been heard
since DAWN (R413, R414). -/
def State.mayDeclare (s : State) (now : Nat) : Bool :=
  s.witnessHeard now && (s.tw.lastHb.isSome || decide (2000000000 ≤ now - max s.tw.heardLink s.tw.heardSvc))

/-- Silence of 50 ms: the fence is held without a witness (Table 13.11). -/
def execTakeover (s : State) : Host.Outcome State Fault Refusal :=
  s.runIf true (
    let (now, t) := s.now
    if s.tw.st == .selfFenced && s.mayDeclare now then t.takeOver else t)

def execRelinquish (hb : Heartbeat) (s : State) : Host.Outcome State Fault Refusal :=
  s.runIf true (if s.tw.st == .inService && hb.authentic && hb.serial == s.tw.serial && s.tw.serial != 0 then
    (s.twinLeaves).takeOver else s)

/-- OD 1700h.09. -/
def execPlannedFailover (route : Route) (value : Nat) (s : State) : Host.Outcome State Fault Refusal :=
  let more := if value != 1 then 8 else if s.tw.st == .inService then 0 else 0x0B
  s.runIf (wfRoute route) (s.odWriteNum route 0x1700 9 value more State.planFence)

/-- R419 step 3, once the wait for orders in flight is over. -/
def execSendRelinquish (s : State) : Host.Outcome State Fault Refusal :=
  s.runIf true (if s.tw.plannedFence && !s.tw.relinquishSent && s.twinServes then
    ({ s with tw := { s.tw with relinquishSent := true } }).emitTwin .relinquish
  else s)

end Sys2Proof.Machine
end

