-- ==== Sys2Proof/Machine/Ctl.lean ====
section
/-! DEFINITION. Control space: the page map, the registers of every page, their rights by role, and the writer's REJECT
bits (R11, R12, R372, R373, R476). -/

namespace Sys2Proof.Machine

/-! ## The page map (Table 11.22) -/

/-- A page of control space. -/
inductive CtlPage where
  | modulePage (i : Nat)
  | tenantPage (family t : Nat)
  | outside
deriving DecidableEq, Repr

def ctlPage (addr : Nat) : CtlPage :=
  if 0o000040000000 ≤ addr && addr < 0o000040140000 then .modulePage ((addr - 0o000040000000) / 4096)
  else if 0o000100000000 ≤ addr && addr < 0o000150000000 then
    .tenantPage ((addr - 0o000100000000) / 0o10000000) ((addr - 0o000100000000) % 0o10000000 / 4096)
  else .outside

/-- The check of R372 for a role of a core: levels 2 and 3 reach their tenant's pages and the own-core window.
Assumption 47 (DESIGN CHOICE). -/
def State.ctlReach (s : State) (a : Accessor) (addr : Nat) : Bool :=
  match a.role with
  | .g | .u =>
    (s.core a.core).ctxValid &&
      (match ctlPage addr with
       | .tenantPage _ t => (s.core a.core).tenant == t
       | .modulePage i => i == 6 && addr % 4096 < 5
       | .outside => false)
  | _ => true

/-- A field that the roles in the list read. -/
def see (r : Role) (l : List Role) (v : Nat) : Nat := if l.contains r then v else 0

def zfh : List Role := [.z, .f, .h]
def zh : List Role := [.z, .h]
def zhg : List Role := [.z, .h, .g]
def zhgu : List Role := [.z, .h, .g, .u]
def hg : List Role := [.h, .g]

/-- A write-one-to-clear bit after a write by a role. -/
def w1c (r : Role) (l : List Role) (w : Word) (i : Nat) (old : Bool) : Bool := old && !(l.contains r && bit w i)

/-- A 36-bit counter as it stands and as it reads. -/
def ctr (n : Nat) : Nat := min n (2 ^ 36 - 1)

def cacheCode : CacheState → Nat
  | .enabled => 0
  | .disabling => 1
  | .disabled => 2

/-! ## Cache control (R141) -/

def State.ccRead (s : State) (r : Role) (off : Nat) : Nat :=
  if off < 4 then see r zfh (cacheCode (tget s.cc.l3 .enabled off))
  else if off == 4 then see r zh (b2n s.cc.rejectH * 2) + see r [.z] (b2n s.cc.rejectZ)
  else if 0o100 ≤ off && off < 0o200 then see r zh (tget s.cc.masks 0xFFFF (off - 0o100)).toNat
  else if 0o200 ≤ off && off < 0o271 then
    see r zh ((List.range 9).foldl (fun a j =>
      let t := 9 * (off - 0o200) + j
      if t < 512 then a + tget s.cc.classes 0 t * 16 ^ j else a) 0)
  else if 0o400 ≤ off && off < 0o544 && off - 0o400 < s.sp.configured then
    let k := s.core (off - 0o400)
    see r zh (k.locks.length * 64) + see r zfh (cacheCode k.l2 * 16 + cacheCode k.l1d * 4 + cacheCode k.l1i)
  else if 0o1000 ≤ off && off < 0o1144 && off - 0o1000 < s.sp.configured then
    see r zh (ctr (s.core (off - 0o1000)).replays)
  else 0

def State.ccReject (s : State) (r : Role) : State :=
  match r with
  | .z => { s with cc := { s.cc with rejectZ := true } }
  | .h => { s with cc := { s.cc with rejectH := true } }
  | _ => s

def State.ccWrite (s : State) (r : Role) (off : Nat) (w : Word) : State :=
  if off == 4 then
    { s with cc := { s.cc with rejectH := w1c r [.h] w 1 s.cc.rejectH, rejectZ := w1c r [.z] w 0 s.cc.rejectZ } }
  else if 0o100 ≤ off && off < 0o200 then
    let i := off - 0o100
    if !(r == .z || (r == .h && i % 16 != 15)) then s
    else if fld w 15 0 == 0 then s.ccReject r
    else { s with cc := { s.cc with masks := tput s.cc.masks 0xFFFF i (BitVec.ofNat 16 (fld w 15 0)) } }
  else if 0o200 ≤ off && off < 0o271 then
    let here := (List.range 9).filter (fun j => 9 * (off - 0o200) + j < 512)
    let cls (j : Nat) : Nat := fld w (4 * j + 3) (4 * j)
    if !zh.contains r then s
    else if here.any (fun j => cls j == 15) then s.ccReject r
    else { s with cc := { s.cc with
      classes := here.foldl (fun (t : Tab Nat) j => tput t 0 (9 * (off - 0o200) + j) (cls j)) s.cc.classes } }
  else if 0o1000 ≤ off && off < 0o1144 && off - 0o1000 < s.sp.configured && r == .h then
    s.modCore (off - 0o1000) (fun k => { k with replays := w.toNat })
  else s

/-! ## Directory (R181) -/

/-- The link of an offset whose peer is a member. -/
def State.linkAt (s : State) (off base : Nat) : Option Nat :=
  if base ≤ off && off < base + 15 && s.isMember (s.linkPeer (off - base)) then some (off - base) else none

def State.dyRead (s : State) (r : Role) (off : Nat) : Nat :=
  let d := s.dy
  if off == 0 then see r zfh (d.members.toNat * 2 ^ 16 + d.modnum)
  else if off == 1 then
    see r zfh (b2n d.partition * 16 + b2n (d.links.any (fun l => l.2.st == .detoured)) * 4) +
      see r zh (b2n d.poisonSet * 8 + b2n d.rejectH * 2) + see r [.z] (b2n d.rejectZ)
  else if off == 0o100 then see r zh (ctr d.naks)
  else if off == 0o101 then see r zh (ctr d.recalls)
  else if off == 0o102 then see r zh (ctr d.poisoned)
  else if off == 0o103 then see r zh (ctr d.entryErrors)
  else if off == 0o200 then see r [.z] (d.probeSet * 16 + d.probeWay)
  else if off == 0o201 then see r [.z] (fld d.probe 95 60)
  else if off == 0o202 then see r [.z] (fld d.probe 59 24)
  else if off == 0o203 then see r [.z] (fld d.probe 23 0 * 2 ^ 12)
  else match s.linkAt off 0o20, s.linkAt off 0o40, s.linkAt off 0o60 with
    | some k, _, _ =>
      let l := s.link k
      see r zfh (s.linkPeer k * 2 ^ 28 + l.via * 2 ^ 24 + b2n l.g1 * 2 ^ 5 + b2n l.g0 * 2 ^ 4 + linkCode l.st) +
        see r zh (l.admin * 2 ^ 8)
    | _, some k, _ => see r zh (ctr (s.link k).replays)
    | _, _, some k => see r zh (ctr (s.link k).fences)
    | _, _, _ => 0

def State.dyWrite (s : State) (a : Accessor) (off : Nat) (w : Word) : State :=
  let r := a.role
  let d := s.dy
  if off == 1 then
    { s with dy := { d with partition := w1c r [.z] w 4 d.partition, poisonSet := w1c r zh w 3 d.poisonSet,
                            rejectH := w1c r [.h] w 1 d.rejectH, rejectZ := w1c r [.z] w 0 d.rejectZ } }
  else if off == 0o200 then s.probeWrite a w
  else match s.linkAt off 0o20 with
    | some k => s.adminWrite a k w
    | none =>
      if r != .h then s
      else if off == 0o100 then { s with dy := { d with naks := w.toNat } }
      else if off == 0o101 then { s with dy := { d with recalls := w.toNat } }
      else if off == 0o102 then { s with dy := { d with poisoned := w.toNat } }
      else if off == 0o103 then { s with dy := { d with entryErrors := w.toNat } }
      else match s.linkAt off 0o40, s.linkAt off 0o60 with
        | some k, _ => s.setLink k { s.link k with replays := w.toNat }
        | _, some k => s.setLink k { s.link k with fences := w.toNat }
        | _, _ => s

/-! ## HI and LO pairs -/

/-- The HI and LO parts of a 48-bit address. Assumption 43 (DEDUCED). -/
def hiPart (v : Nat) : Nat := v / 2 ^ 36 % 2 ^ 12
/-- Assumption 43 (DEDUCED). -/
def loPart (v : Nat) : Nat := v % 2 ^ 36
/-- Assumption 43 (DEDUCED). -/
def withHi (v : Nat) (w : Word) : Nat := fld w 11 0 * 2 ^ 36 + v % 2 ^ 36
/-- Assumption 43 (DEDUCED). -/
def withLo (v : Nat) (w : Word) : Nat := v / 2 ^ 36 * 2 ^ 36 + w.toNat

/-! ## Channels (R254) -/

def State.chReject (s : State) (t : Nat) (r : Role) : State :=
  match r with
  | .h => s.setChT t { s.chT t with rejectH := true }
  | .g => s.setChT t { s.chT t with rejectG := true }
  | _ => s

def State.ledgerFull (s : State) (t : Nat) : Bool :=
  s.ch.chans.any (fun e => e.2.tenant == t && e.2.orders.any (fun o => o.stage == .waitAlloc))

def State.chRead (s : State) (r : Role) (t off : Nat) : Nat :=
  let v := s.chT t
  if off == 0 then see r zhg (hiPart v.table)
  else if off == 1 then see r zhg (loPart v.table)
  else if off == 2 then see r zhgu v.slice
  else if off == 3 then see r zhg (s.ledgerUsed t)
  else if off == 4 then see r zhg v.quota
  else if off == 5 then
    see r zhgu (b2n (s.ledgerFull t) * 8 + b2n (s.sliceDraining t) * 4) +
      see r zhg (b2n v.ioFault * 16 + b2n v.rejectG) + see r zh (b2n v.rejectH * 2)
  else if off == 0o10 then
    see r zhg (b2n v.ioValid * 2 ^ 35 + b2n v.ioWrite * 2 ^ 34 + v.ioCause * 2 ^ 32 + v.ioRid)
  else if off == 0o11 then see r zhg (v.ioAddr / 2 ^ 36 % 2 ^ 15)
  else if off == 0o12 then see r zhg (v.ioAddr % 2 ^ 36)
  else 0

/-- Assumption 45 (DEDUCED). -/
def State.chWrite (s : State) (r : Role) (t off : Nat) (w : Word) : State :=
  let v := s.chT t
  if off == 0 && zhg.contains r then s.setChT t { v with table := withHi v.table w }
  else if off == 1 && zhg.contains r then
    (if fld w 2 0 != 0 then s.chReject t r else s.setChT t { v with table := withLo v.table w })
  else if off == 5 then
    s.setChT t { v with ioFault := w1c r zhg w 4 v.ioFault, rejectH := w1c r [.h] w 1 v.rejectH,
                        rejectG := w1c r [.g] w 0 v.rejectG }
  else if off == 0o10 && zhg.contains r then 
    s.setChT t { v with ioValid := bit w 35, ioFault := v.ioFault || (bit w 35 && !v.ioValid) }
  else s

/-- The module's channel page, except CH_TOD. -/
def State.chModRead (s : State) (r : Role) (off : Nat) : Nat :=
  if off == 0 then see r zh (b2n s.ch.mRejectH * 2) + see r [.z] (b2n s.ch.mRejectZ)
  else if 0o40 ≤ off && off < 0o100 then
    let p := off - 0o40
    see r zfh (b2n (s.ch.procFenced.contains p) * 2 ^ 35) +
      see r zh ((s.ch.chans.filter (fun e => e.2.proc == p)).length * 2 ^ 12 + min (s.inflight p) 2048)
  else if 0o100 ≤ off && off < 0o140 then
    let l := tget s.ch.links PcieLink.init (off - 0o100)
    see r zfh (b2n l.ide * 2 ^ 13 + b2n l.up * 2 ^ 12 + l.width * 16 + l.rate)
  else 0

def State.chModWrite (s : State) (r : Role) (off : Nat) (w : Word) : State :=
  if off == 0 then
    { s with ch := { s.ch with mRejectH := w1c r [.h] w 1 s.ch.mRejectH, mRejectZ := w1c r [.z] w 0 s.ch.mRejectZ } }
  else s

/-! ## Journal and energy (R287) -/

/-- A commit of the tenant waits under R259. -/
def State.jnWaiting (s : State) (t : Nat) : Bool := (s.jt t).waiting.any (fun c => c.mirrored.isNone)

/-- A read of a tenant's journal page; a read of LO latches its HI. -/
def State.jnRegRead (s : State) (r : Role) (t off : Nat) : Nat × State :=
  let j := s.jt t
  if off == 0 then
    (see r zhgu (b2n (s.jnWaiting t) * 8 + b2n (j.energyQuota != 0 && j.anvilQuota != 0) * 4) +
      see r zhg (b2n j.loss * 32 + b2n j.damaged * 16 + b2n j.rejectG) + see r zh (b2n j.rejectH * 2), s)
  else if off == 1 then (see r zhgu j.latchCommitted, s)
  else if off == 2 then (see r zhgu (loPart j.committed), s.setJt t { j with latchCommitted := hiPart j.committed })
  else if off == 3 then (see r zhgu j.latchWritten, s)
  else if off == 4 then (see r zhgu (loPart j.written), s.setJt t { j with latchWritten := hiPart j.written })
  else if off == 5 then (see r zhgu j.latchRelease, s)
  else if off == 6 then (see r zhgu (loPart j.released), s.setJt t { j with latchRelease := hiPart j.released })
  else if off == 7 then
    (see r zhg (s.pendingOf t / 1024 * 2 ^ 12 + (s.anvilUse t + 2 * MiB - 1) / (2 * MiB)), s)
  else if off == 0o20 then (see r zhg j.latchBase, s)
  else if off == 0o21 then (see r zhg (loPart j.rdBase), s.setJt t { j with latchBase := hiPart j.rdBase })
  else if off == 0o22 then (see r zhg j.rdSize, s)
  else if off == 0o23 then (see r zhg j.latchFrom, s)
  else if off == 0o24 then (see r zhg (loPart j.rdFrom), s.setJt t { j with latchFrom := hiPart j.rdFrom })
  else if off == 0o25 then (see r zhg (b2n (s.jnBusy t) * 2 ^ 34 + j.rdResult), s)
  else if off == 0o26 then (see r zhg (j.rdEntries * 2 ^ 21 + j.rdWords), s)
  else (0, s)

def State.jnWrite (s : State) (a : Accessor) (t off : Nat) (w : Word) : State :=
  let j := s.jt t
  let r := a.role
  if off == 0 then
    s.setJt t { j with loss := w1c r [.h] w 5 j.loss, damaged := w1c r [.g] w 4 j.damaged,
                       rejectH := w1c r [.h] w 1 j.rejectH, rejectG := w1c r [.g] w 0 j.rejectG }
  else if off == 0o25 then s.jnCtrlWrite a t w
  else if !roleZHG r then s
  else if off == 5 then s.setJt t { j with releaseHi := fld w 11 0 }
  else if off == 6 then s.jnReleaseWrite a t (j.releaseHi * 2 ^ 36 + w.toNat)
  else if off == 0o20 then s.setJt t { j with rdBaseHi := fld w 11 0 }
  else if off == 0o21 then s.setJt t { j with rdBase := j.rdBaseHi * 2 ^ 36 + w.toNat }
  else if off == 0o22 then (if fld w 20 0 == 0 then s.jnReject t r else s.setJt t { j with rdSize := fld w 20 0 })
  else if off == 0o23 then s.setJt t { j with rdFromHi := fld w 11 0 }
  else if off == 0o24 then s.setJt t { j with rdFrom := j.rdFromHi * 2 ^ 36 + w.toNat }
  else s

def State.jnModRead (s : State) (r : Role) (off : Nat) : Nat :=
  if off == 0 then see r zh (b2n s.jn.mRejectH * 2) + see r [.z] (b2n s.jn.mRejectZ)
  else if off == 1 then see r zh (s.pendingTotal / 1024)
  else if off == 2 then see r zfh s.segFree
  else if off == 0o10 then
    see r zfh (b2n s.es.bleeding * 32 + b2n s.es.testDue * 16 + b2n s.es.short * 8 + b2n s.md.weak * 4 +
      b2n s.md.charging * 2 + b2n s.es.held)
  else if off == 0o11 then see r zfh s.es.reserve
  else if off == 0o12 then see r zfh s.es.mv
  else if off == 0o13 then see r zfh s.es.uf
  else if off == 0o14 then see r zfh s.es.uohm
  else if off == 0o15 then see r zh s.admissible
  else 0

def State.jnModWrite (s : State) (r : Role) (off : Nat) (w : Word) : State :=
  if off == 0 then
    { s with jn := { s.jn with mRejectH := w1c r [.h] w 1 s.jn.mRejectH, mRejectZ := w1c r [.z] w 0 s.jn.mRejectZ } }
  else s

/-! ## The engines (R318, R345) -/

/-- CX_RING_STATE and CI_RING_STATE. -/
def Ring.register (g : Ring) : Nat := b2n g.opened * 2 ^ 35 + b2n g.closing * 2 ^ 34 + g.backlog % 2 ^ 17

/-- CX_CLOSE and CI_CLOSE read the rings whose close has not taken effect. -/
def closing16 (ring : Nat → Ring) : Nat := (List.range 16).foldl (fun a r => a + b2n (ring r).closing * 2 ^ r) 0

def State.cxReject (s : State) (t : Nat) (r : Role) : State :=
  match r with
  | .h => s.setCxT t { s.cxT t with rejectH := true }
  | .g => s.setCxT t { s.cxT t with rejectG := true }
  | _ => s

def State.cxRead (s : State) (r : Role) (t off : Nat) : Nat :=
  let v := s.cxT t
  if off == 0 then see r zhg (hiPart v.table)
  else if off == 1 then see r zhg (loPart v.table)
  else if off == 2 then see r zhgu (v.laneLimit * 256 + v.slice)
  else if off == 3 then
    see r zhgu (b2n (s.sliceDraining t) * 4) + see r zh (b2n v.rejectH * 2) + see r zhg (b2n v.rejectG)
  else if off == 4 then see r zhg (closing16 (s.cxRing t))
  else if off == 5 then see r zhg (ctr v.squashed)
  else if 0o20 ≤ off && off < 0o40 then see r zhgu (s.cxRing t (off - 0o20)).register
  else 0

def State.cxPageWrite (s : State) (a : Accessor) (t off : Nat) (w : Word) : State :=
  let v := s.cxT t
  let r := a.role
  if off == 0 && zhg.contains r then s.setCxT t { v with table := withHi v.table w }
  else if off == 1 && zhg.contains r then
    (if fld w 2 0 != 0 then s.cxReject t r else s.setCxT t { v with table := withLo v.table w })
  else if off == 3 then
    s.setCxT t { v with rejectH := w1c r [.h] w 1 v.rejectH, rejectG := w1c r [.g] w 0 v.rejectG }
  else if off == 4 then s.cxCloseWrite a t w
  else if off == 5 && r == .h then s.setCxT t { v with squashed := w.toNat }
  else s

def State.cxModRead (s : State) (r : Role) (off : Nat) : Nat :=
  if off == 0 then
    see r zfh (s.cx.fenced.length * 256 + ((List.range 48).filter s.laneEnabled).length)
  else if 0o40 ≤ off && off < 0o120 then
    let l := off - 0o40
    see r zfh (b2n (s.cx.fenced.contains l) * 2 ^ 35 + b2n (decide (l < s.md.lanes)) * 2 ^ 34) +
      see r zh (b2n (s.cx.busy.contains l) * 2 ^ 33)
  else 0

def State.ciReject (s : State) (t : Nat) (r : Role) : State :=
  match r with
  | .h => s.setCiT t { s.ciT t with rejectH := true }
  | .g => s.setCiT t { s.ciT t with rejectG := true }
  | _ => s

/-- CI_HANDLE. -/
def KeySlot.register (k : KeySlot) : Nat :=
  b2n k.loaded * 2 ^ 35 + b2n (decide (2 ^ 40 ≤ k.used)) * 2 ^ 34 + k.size * 2 ^ 32 + b2n k.enc * 2 ^ 31 + b2n k.dec * 2 ^ 30 +
    b2n k.exportOk * 2 ^ 29 + b2n k.origin * 2 ^ 28 + min ((k.used + 65535) / 65536) (2 ^ 24)

def State.ciRead (s : State) (r : Role) (t off : Nat) : Nat :=
  let v := s.ciT t
  if off == 0 then see r zhg (hiPart v.table)
  else if off == 1 then see r zhg (loPart v.table)
  else if off == 2 then see r zhgu (v.coreLimit * 2 ^ 16 + v.handleSlice * 32 + v.ringSlice)
  else if off == 3 then
    see r zhgu (b2n (s.sliceDraining t) * 4) + see r zh (b2n v.rejectH * 2) + see r zhg (b2n v.rejectG)
  else if off == 4 then see r zhg (closing16 (s.ciRing t))
  else if off == 5 then see r zhg (ctr v.squashed)
  else if 0o20 ≤ off && off < 0o40 then see r zhgu (s.ciRing t (off - 0o20)).register
  else if off == 0o100 then
    see r hg (b2n v.busy * 2 ^ 34 + v.cmdOp * 2 ^ 30 + v.cmdSize * 2 ^ 28 + b2n v.cmdEnc * 2 ^ 27 + b2n v.cmdDec * 2 ^ 26 +
      b2n v.cmdExport * 2 ^ 25 + v.cmdHandle)
  else if off == 0o101 then see r [.g] v.addrHi
  else if off == 0o102 then see r [.g] v.addrLo
  else if off == 0o103 then see r hg (b2n v.resValid * 2 ^ 35 + v.resStatus)
  else if 0o2000 ≤ off && off < 0o4000 && off - 0o2000 < v.handleSlice then
    see r hg (s.keySlot t (off - 0o2000)).register
  else 0

def State.ciWrite (s : State) (a : Accessor) (t off : Nat) (w : Word) : State :=
  let v := s.ciT t
  let r := a.role
  if off == 0 && zhg.contains r then s.setCiT t { v with table := withHi v.table w }
  else if off == 1 && zhg.contains r then
    (if fld w 2 0 != 0 then s.ciReject t r else s.setCiT t { v with table := withLo v.table w })
  else if off == 3 then
    s.setCiT t { v with rejectH := w1c r [.h] w 1 v.rejectH, rejectG := w1c r [.g] w 0 v.rejectG }
  else if off == 4 then s.ciCloseWrite a t w
  else if off == 5 && r == .h then s.setCiT t { v with squashed := w.toNat }
  else if off == 0o100 then s.keyCmdWrite a t w
  else if r != .g then s
  else if off == 0o101 then s.setCiT t { v with addrHi := fld w 14 0 }
  else if off == 0o102 then s.setCiT t { v with addrLo := w.toNat }
  else if off == 0o103 then s.setCiT t { v with resValid := bit w 35 }
  else s

def State.ciModRead (s : State) (r : Role) (off : Nat) : Nat :=
  if off == 0 then see r zh (b2n s.ci.mRejectH * 2) + see r [.z] (b2n s.ci.mRejectZ)
  else if off == 1 then see r zfh (s.ci.fenced.length * 256 + ((List.range 24).filter s.aesEnabled).length)
  else if 0o40 ≤ off && off < 0o70 then
    see r zfh (b2n (s.ci.fenced.contains (off - 0o40)) * 2 ^ 35) + see r zh (b2n (s.ci.busy.contains (off - 0o40)) * 2 ^ 34)
  else 0

def State.ciModWrite (s : State) (r : Role) (off : Nat) (w : Word) : State :=
  if off == 0 then
    { s with ci := { s.ci with mRejectH := w1c r [.h] w 1 s.ci.mRejectH, mRejectZ := w1c r [.z] w 0 s.ci.mRejectZ } }
  else s

/-! ## Tenancy (R373) -/

def blockCode : BlockSt → Nat
  | .opened => 0
  | .claiming => 1
  | .sealed => 2
  | .releasing => 3
  | .fenced => 4

def tenCode : TenSt → Nat
  | .absent => 0
  | .active => 1
  | .draining => 2
  | .stopped => 3
  | .deleting => 4

def State.svReject (s : State) (r : Role) : State :=
  match r with
  | .z => { s with tn := { s.tn with rejectZ := true } }
  | .h => { s with tn := { s.tn with rejectH := true } }
  | _ => s

/-- LO of a base with its alignment: tables to 1 KiW (R350), interruption blocks to 16 words (R348). The bits below it
are reserved. -/
def baseOf (hi : Nat) (w : Word) (align : Nat) : Nat := hi * 2 ^ 36 + w.toNat / align * align

/-- SV_CORE_CTX of a core. A tenant that is neither ACTIVE nor STOPPED is a reserved value. Assumption 44 (DEDUCED). -/
def State.ctxWrite (s : State) (a : Accessor) (w : Word) : State :=
  if !zh.contains a.role then s
  else
    let st := (s.tenant (fld w 8 0)).st
    if !(st == .active || st == .stopped) then s.svReject a.role
    else (s.modCore a.core (fun k => { k with ctxValid := bit w 35, vcore := fld w 15 9, tenant := fld w 8 0 })).gwaitAll

/-- Milliseconds left of the Zenith watchdog's 50. -/
def State.wdogRemain (s : State) (now : Nat) : Nat := (50000000 - (now - s.tn.wdogKick)) / 1000000

/-- Assumption 43 (DEDUCED). -/
def State.svRead (s : State) (a : Accessor) (off : Nat) : Nat × State :=
  let r := a.role
  let k := s.core a.core
  let v := s.tn
  if off == 0 then (see r zhg (b2n k.ctxValid * 2 ^ 35 + k.vcore * 2 ^ 9 + k.tenant), s)
  else if off == 1 then (see r zhg k.s1rootHi, s)
  else if off == 2 then (see r zhg (loPart k.s1root), s)
  else if off == 3 then (see r zhg k.vec2Hi, s)
  else if off == 4 then (see r zhg (loPart k.vec2), s)
  else if off == 0o20 then (see r zh (b2n v.rejectH * 2) + see r [.z] (b2n v.rejectZ), s)
  else if off == 0o21 then (see r zfh (b2n v.absent * 2 ^ 35 + b2n v.restarting * 2 ^ 34), s)
  else if off == 0o22 then
    let (n, t) := s.now
    (see r [.z] (s.wdogRemain n), t)
  else if off == 0o23 then (see r [.z] v.z1rootHi, s)
  else if off == 0o24 then (see r [.z] (loPart v.z1root), s)
  else if off == 0o25 then (see r [.z] v.vec0Hi, s)
  else if off == 0o26 then (see r [.z] (loPart v.vec0), s)
  else if off == 0o27 then (see r zh v.h1rootHi, s)
  else if off == 0o30 then (see r zh (loPart v.h1root), s)
  else if off == 0o31 then (see r zh v.vec1Hi, s)
  else if off == 0o32 then (see r zh (loPart v.vec1), s)
  else if off == 0o40 then (see r [.z] (b2n v.hoBusy * 2 ^ 34 + v.hoOp * 2 ^ 32 + v.hoTarget), s)
  else if off == 0o41 then (see r [.z] (b2n v.hoValid * 2 ^ 35 + v.hoStatus), s)
  else if 0o100 ≤ off && off < 0o253 then
    let b := s.block (off - 0o100)
    (see r zh (b2n b.revoked * 8 + blockCode b.st), s)
  else if 0o1000 ≤ off && off < 0o2000 then
    let t := s.tenant (off - 0o1000)
    (see r zh (b2n t.hvOk * 8 + tenCode t.st), s)
  else if 0o2000 ≤ off && off < 0o4000 then
    let t := s.tenant ((off - 0o2000) / 2)
    (see r zh (if off % 2 == 0 then t.s2rootHi else loPart t.s2root), s)
  else (0, s)

/-- Assumption 43 (DEDUCED). -/
def State.svWrite (s : State) (a : Accessor) (off : Nat) (w : Word) : State :=
  let r := a.role
  let h := fld w 11 0
  let own (f : Core → Core) : State := if zhg.contains r then s.modCore a.core f else s
  if off == 0 then s.ctxWrite a w
  else if off == 1 then own (fun k => { k with s1rootHi := h })
  else if off == 2 then own (fun k => { k with s1root := baseOf k.s1rootHi w 1024 })
  else if off == 3 then own (fun k => { k with vec2Hi := h })
  else if off == 4 then own (fun k => { k with vec2 := baseOf k.vec2Hi w 16 })
  else if off == 0o20 then
    { s with tn := { s.tn with rejectH := w1c r [.h] w 1 s.tn.rejectH, rejectZ := w1c r [.z] w 0 s.tn.rejectZ } }
  else if off == 0o22 then s.kick a w
  else if off == 0o40 then s.handOverWrite a w
  else if 0o100 ≤ off && off < 0o253 then
    let b := s.block (off - 0o100)
    s.setBlock (off - 0o100) { b with revoked := w1c r [.z] w 3 b.revoked }
  else if 0o2000 ≤ off && off < 0o4000 && zh.contains r then
    let n := (off - 0o2000) / 2
    let t := s.tenant n
    s.setTenant n (if off % 2 == 0 then { t with s2rootHi := h } else { t with s2root := baseOf t.s2rootHi w 1024 })
  else if r == .z && off == 0o23 then { s with tn := { s.tn with z1rootHi := h } }
  else if r == .z && off == 0o24 then { s with tn := { s.tn with z1root := baseOf s.tn.z1rootHi w 1024 } }
  else if r == .z && off == 0o25 then { s with tn := { s.tn with vec0Hi := h } }
  else if r == .z && off == 0o26 then { s with tn := { s.tn with vec0 := baseOf s.tn.vec0Hi w 16 } }
  else if r == .z && off == 0o41 then { s with tn := { s.tn with hoValid := bit w 35 } }
  else if !zh.contains r then s
  else if off == 0o27 then { s with tn := { s.tn with h1rootHi := h } }
  else if off == 0o30 then { s with tn := { s.tn with h1root := baseOf s.tn.h1rootHi w 1024 } }
  else if off == 0o31 then { s with tn := { s.tn with vec1Hi := h } }
  else if off == 0o32 then { s with tn := { s.tn with vec1 := baseOf s.tn.vec1Hi w 16 } }
  else s

/-! ## Faults and the twin (R406, R422) -/

/-- A log entry by its number; none outside the newest 4,096. -/
def State.logAt (s : State) (n : Nat) : Option LogEntry :=
  if n < 2 ^ 32 then s.fc.log[(s.fc.head + 2 ^ 32 - n) % 2 ^ 32]? else none

/-- Words 0 to 3 of a log entry (Table 13.7). -/
def LogEntry.words (e : LogEntry) : List Nat :=
  [e.time % 2 ^ 64 / 2 ^ 36, e.time % 2 ^ 36,
   2 ^ 35 + b2n e.forced * 2 ^ 34 + b2n e.rail * 2 ^ 33 + b2n e.merged * 2 ^ 32 + b2n e.squall * 2 ^ 31 + b2n e.fenced * 2 ^ 30 +
     e.cls % 4 * 2 ^ 28 + e.source % 2048,
   e.count % 65536 * 2 ^ 20 + e.detail % 65536]

/-- FC_SRC (Table 13.9). -/
def FSrc.register (v : FSrc) : Nat :=
  b2n v.squall * 2 ^ 35 + b2n v.fenced * 2 ^ 34 + b2n v.rail * 2 ^ 33 + b2n (v.forceLeft != 0) * 2 ^ 32 + v.last * 2 ^ 30 +
    min v.events.length 65535

def State.logSelOf (s : State) (r : Role) : Nat :=
  if r == .z then s.fc.selZ else if r == .f then s.fc.selF else s.fc.selH

def State.fcRead (s : State) (r : Role) (off : Nat) : Nat :=
  if off == 0 then see r zfh (b2n s.fc.halted * 4) + see r zh (b2n s.fc.rejectH * 2) + see r [.z] (b2n s.fc.rejectZ)
  else if off == 1 then see r zfh s.fc.head
  else if off == 2 then see r zfh (s.logSelOf r)
  else if 3 ≤ off && off < 7 then
    see r zfh (match s.logAt (s.logSelOf r) with
      | some e => e.words.getD (off - 3) 0
      | none => 0)
  else if 0o4000 ≤ off && off < 0o10000 && wfFaultSource (off - 0o4000) then see r zfh (s.fsrc (off - 0o4000)).register
  else 0

def State.fcWrite (s : State) (r : Role) (off : Nat) (w : Word) : State :=
  let f := s.fc
  if off == 0 then
    { s with fc := { f with halted := w1c r [.z] w 2 f.halted, rejectH := w1c r [.h] w 1 f.rejectH,
                            rejectZ := w1c r [.z] w 0 f.rejectZ } }
  else if off == 2 then
    { s with fc := { f with selZ := if r == .z then fld w 31 0 else f.selZ, selF := if r == .f then fld w 31 0 else f.selF,
                            selH := if r == .h then fld w 31 0 else f.selH } }
  else s

def State.twRead (s : State) (r : Role) (off : Nat) : Nat × State :=
  let t := s.tw
  if off == 0 then
    let (n, s) := s.now
    (see r zfh (b2n t.takenOver * 128 + b2n (s.witnessHeard n) * 32 + b2n t.selfFence * 16 + pairCode t.st) +
      see r zh (b2n s.anyLocalAck * 64), s)
  else if off == 1 then
    let (n, s) := s.now
    (see r zfh (msSince n t.heardLink 4095 * 2 ^ 12 + msSince n t.heardSvc 4095), s)
  else if off == 2 then (see r zfh (t.lanes % 16 * 16 + linkCode t.linkSt), s)
  else if off == 3 then (see r zh (min t.unacked.length (2 ^ 24 - 1)), s)
  else if off == 4 then
    (see r zfh (b2n t.mismatch * 4) + see r zh (b2n t.rejectH * 2) + see r [.z] (b2n t.rejectZ), s)
  else (0, s)

def State.twWrite (s : State) (r : Role) (off : Nat) (w : Word) : State :=
  if off == 4 then
    { s with tw := { s.tw with mismatch := w1c r zh w 2 s.tw.mismatch, rejectH := w1c r [.h] w 1 s.tw.rejectH,
                               rejectZ := w1c r [.z] w 0 s.tw.rejectZ } }
  else s

/-! ## Reads and writes -/

/-- Read a register; reads of some registers act (IRT_CLAIM, the latches of R287). Outside the map reads 0 (R372). -/
def State.ctlRead (s : State) (a : Accessor) (addr : Nat) : Word × State :=
  let off := addr % 4096
  let r := a.role
  let pure (n : Nat) : Word × State := (BitVec.ofNat 36 n, s)
  let put (p : Nat × State) : Word × State := (BitVec.ofNat 36 p.1, p.2)
  match ctlPage addr with
  | .tenantPage 0 t => pure (s.chRead r t off)
  | .tenantPage 1 t => put (s.jnRegRead r t off)
  | .tenantPage 2 t => pure (s.cxRead r t off)
  | .tenantPage 3 t => pure (s.ciRead r t off)
  | .tenantPage 4 t => s.irtRead a t off
  | .modulePage 0 => pure (s.ccRead r off)
  | .modulePage 1 => pure (s.dyRead r off)
  | .modulePage 2 =>
    if off == 0o200 || off == 0o201 then
      let (n, s) := s.now
      put (see r zfh (if off == 0o200 then n / 2 ^ 36 else n % 2 ^ 36), s)
    else pure (s.chModRead r off)
  | .modulePage 3 => pure (s.jnModRead r off)
  | .modulePage 4 => pure (s.cxModRead r off)
  | .modulePage 5 => pure (s.ciModRead r off)
  | .modulePage 6 => put (s.svRead a off)
  | .modulePage 7 => pure (s.irtModRead a off).toNat
  | .modulePage 8 => s.irtRead a 512 off
  | .modulePage 9 => s.irtRead a 513 off
  | .modulePage 10 => pure (s.fcRead r off)
  | .modulePage 11 => put (s.twRead r off)
  | _ => pure 0

/-- Read an aligned doubleword; CH_TOD is one time (Table 7.20). -/
def State.ctlReadD (s : State) (a : Accessor) (addr : Nat) : DWord × State :=
  if addr == 0o000040020200 then
    let (n, s) := s.now
    let n := see a.role zfh n
    (BitVec.ofNat 36 (n / 2 ^ 36) ++ BitVec.ofNat 36 n, s)
  else
    let (h, s) := s.ctlRead a addr
    let (l, s) := s.ctlRead a (addr + 1)
    (h ++ l, s)

/-- Write a register (R11, R12, R476). -/
def State.ctlWrite (s : State) (a : Accessor) (addr : Nat) (w : Word) : State :=
  let off := addr % 4096
  let r := a.role
  match ctlPage addr with
  | .tenantPage 0 t => s.chWrite r t off w
  | .tenantPage 1 t => s.jnWrite a t off w
  | .tenantPage 2 t => s.cxPageWrite a t off w
  | .tenantPage 3 t => s.ciWrite a t off w
  | .tenantPage 4 t => s.irtWrite a t off w
  | .modulePage 0 => s.ccWrite r off w
  | .modulePage 1 => s.dyWrite a off w
  | .modulePage 2 => s.chModWrite r off w
  | .modulePage 3 => s.jnModWrite r off w
  | .modulePage 5 => s.ciModWrite r off w
  | .modulePage 6 => s.svWrite a off w
  | .modulePage 7 => s.irtModWrite a off w
  | .modulePage 8 => s.irtWrite a 512 off w
  | .modulePage 9 => s.irtWrite a 513 off w
  | .modulePage 10 => s.fcWrite r off w
  | .modulePage 11 => s.twWrite r off w
  | _ => s

/-! ## Rows -/

/-- R476: a register write by its field rights. -/
def execRegisterWrite (acc : Accessor) (addr : Nat) (value : Word) (s : State) : Host.Outcome State Fault Refusal :=
  s.runIf (wfAccessor acc && decide (addr < 2 ^ 48)) (if s.ctlReach acc addr then s.ctlWrite acc addr value else s)

/-- A write of JN_RD_CTRL (R279). -/
def execJnRd (acc : Accessor) (tenant value : Nat) (s : State) : Host.Outcome State Fault Refusal :=
  s.runIf (wfAccessor acc && wfTenant tenant && decide (value < 2 ^ 36)) (
    if s.reach acc tenant then s.jnCtrlWrite acc tenant (BitVec.ofNat 36 value) else s)

/-- A write of JN_RELEASE, both halves (R280). -/
def execJnRelease (acc : Accessor) (tenant value : Nat) (s : State) : Host.Outcome State Fault Refusal :=
  s.runIf (wfAccessor acc && wfTenant tenant && decide (value < 2 ^ 48)) (
    if s.reach acc tenant then s.jnReleaseWrite acc tenant value else s)

end Sys2Proof.Machine
end

