-- ==== Sys2Proof/Machine/Perform.lean ====
section
/-! DEFINITION. The store buffer's entries as they are performed, replays, reservations' windows, and reports of discarded
accesses (R108-R124, R166, R178, R244). -/

namespace Sys2Proof.Machine

/-! ## Reports of discarded accesses (R124, R395) -/

/-- A report of discarded accesses waits for the core's next instruction boundary: at level 2 of the tenant, or the
issuing level 0 or 1. Assumption 49 (DEDUCED). -/
def State.addDiscard (s : State) (c level sub info : Nat) : State :=
  s.addCheck c { cls := 0o40, level := min level 2, tenant := (s.core c).tenant, sub := sub, info := info }

/-- Words 6-7 of SUB 1 and 4: how many, and the address of the oldest. -/
def discardInfo (n vaddr : Nat) : Nat := min n 65535 * 2 ^ 56 + vaddr % 2 ^ 48

/-! ## A tile's line for a store -/

/-- Cores of the same tile, other than this one, whose window is open on a line (R120). -/
def State.deferring (s : State) (c line : Nat) : List Nat :=
  s.cores.filterMap (fun e =>
    if e.1 != c && s.tileOf e.1 == s.tileOf c && e.2.res.any (fun r => r.line == line && r.deferring) then some e.1 else none)

/-- A core has the line in the owned state: what lacks is asked for. Other cores of its tile lose their copies, unless one
of them puts that off (R120). -/
def State.takeLine (s : State) (c line : Nat) (store : Option Nat) : State × Bool :=
  let s := if s.lineReady c line true then s else s.bring c line true store
  if !s.lineReady c line true then (s, false)
  else if (s.deferring c line).isEmpty then (s.loseLine (s.tileOf c) line (some c), true)
  else (s.markDeferred (s.tileOf c) line, false)

/-! ## Performing entries (Table 4.5) -/

/-- The 16 words and bit masks that an entry's words make, the youngest last. -/
def lineOfWords (ws : List SbWord) : List Word × List Word :=
  ws.foldl (fun (p : List Word × List Word) x =>
    (p.1.set x.off ((wordAt p.1 x.off &&& ~~~x.mask) ||| (x.val &&& x.mask)), p.2.set x.off (wordAt p.2 x.off ||| x.mask)))
    (List.replicate 16 0, List.replicate 16 0)

/-- A store that is sent to the home as a masked write-back: of a poisoned line (R178), or of a line that the core's
tile does not hold while its L3 is passed by (R136, R166). Assumption 36 (DEDUCED). -/
def State.storeBypass (s : State) (c line : Nat) : Bool :=
  s.poisoned line || (s.passesBy (s.tileOf c) && (s.tileLine (s.tileOf c) line).isNone)

/-- The link of a root port below which an I/O word lies is up. -/
def State.ioUp (s : State) (addr : Nat) : Bool :=
  let port := addr / 2 ^ 45 % 8
  (tget s.ch.links PcieLink.init (4 * port + Config.ioLink port (addr % 2 ^ 45) % s.portLinks port)).up

/-- Bits of an I/O access that are sent (R244). -/
def ioBits (wide : Bool) (d : DWord) : DWord := d &&& BitVec.ofNat 72 (if wide then 2 ^ 64 - 1 else 2 ^ 32 - 1)

/-- The data of a control or I/O entry. -/
def SbEntry.data (e : SbEntry) : DWord :=
  let w (i : Nat) : Word := match e.words.find? (fun x => x.off == i) with | some x => x.val | none => 0
  if e.wide then w 0 ++ w 1 else (w 0).setWidth 72

/-- Report stores discarded at a port once for each core and link-down (R124). Assumption 49 (DEDUCED). -/
def State.reportDiscard (s : State) (c port level n vaddr : Nat) : State :=
  let key := 8 * c + port
  if s.ch.ioReported.contains key then s
  else
    let t := s.addDiscard c level 1 (discardInfo n vaddr)
    { t with ch := { t.ch with ioReported := t.ch.ioReported ++ [key] } }

/-- The PCIe link below which an I/O word lies, numbered 4 * port + link. -/
def State.ioLinkOf (s : State) (addr : Nat) : Nat :=
  let port := addr / 2 ^ 45 % 8
  4 * port + Config.ioLink port (addr % 2 ^ 45) % s.portLinks port

/-- The stores that a root port holds for a link go out, in order (R122). -/
def State.flushIo (s : State) (link : Nat) : State :=
  let (mine, rest) := s.ch.ioQueued.partition (fun x => x.link == link)
  mine.foldl (fun s x => s.emit (.ioStore x.core x.addr x.wide x.data)) { s with ch := { s.ch with ioQueued := rest } }

/-- An I/O store leaves the core: the root port accepts it, and holds it while the link cannot transmit and link-down is
not yet detected; or it is discarded because the link is down (R124). Assumption 58 (DESIGN CHOICE). -/
def State.sendIo (s : State) (c : Nat) (e : SbEntry) : State :=
  let k := s.ioLinkOf e.addr
  if !s.ioUp e.addr then s.reportDiscard c (e.addr / 2 ^ 45 % 8) e.level 1 e.vaddr
  else
    let (n, s) := s.tick
    let x : IoStore := { core := c, link := k, addr := e.addr, wide := e.wide, data := ioBits e.wide e.data,
                         level := e.level, vaddr := e.vaddr }
    let s := { s with ch := { s.ch with ioQueued := s.ch.ioQueued ++ [x] } }
    if Config.transmits n k then s.flushIo k else s

/-- A control-space store is applied by its block. -/
def State.sendControl (s : State) (c : Nat) (e : SbEntry) : State :=
  let a : Accessor := { role := roleOf e.level, core := c }
  let d := e.data
  if e.wide then (s.ctlWrite a e.addr (hiWord d)).ctlWrite a (e.addr + 1) (loWord d)
  else s.ctlWrite a e.addr (loWord d)

/-- The oldest entry has been performed. Exposure may end. -/
def State.popEntry (s : State) (c : Nat) : State := s.modCore c (fun k => ({ k with sb := k.sb.drop 1 } : Core).unexpose)

/-- The oldest entry has begun to be performed, and takes no more merges (R113). -/
def State.beginEntry (s : State) (c : Nat) (sent : Option Nat) : State :=
  s.modCore c (fun k => match k.sb with
    | e :: rest => { k with sb := { e with begun := true, sent := sent } :: rest }
    | [] => k)

/-- The oldest entry goes to the home as a masked write-back of exactly these bits (R164, R166, R178); it is performed
when the home acknowledges it (Table 4.5). -/
def State.sendMasked (s : State) (c line : Nat) (words mask : List Word) : State × Bool :=
  let n := (s.core c).sb.length
  let (tag, s) := s.ask (s.tileAgent (s.tileOf c)) line 6 words mask
  let s := (s.beginEntry c (some tag)).pump
  (s, (s.core c).sb.length < n)

/-- A cached store is performed in its line, which the tile then holds modified; it writes the core's L2 (R126). -/
def State.storeHere (s : State) (c line : Nat) (ws : List SbWord) : State :=
  let (v, m) := lineOfWords ws
  let s := ((s.wrLineMask line v m).dirtyLine (s.tileOf c) line).popEntry c
  (s.modCore c (fun k => k.useStore line)).touchL3 (s.tileOf c) line

/-- The newest instruction of an entry's words. -/
def SbEntry.newest (e : SbEntry) : Nat := e.words.foldl (fun a w => max a w.seq) 0

/-- A cached store or ZERO LINE (Table 4.5): in the owned line; or by masked write-back, also where the fill that it needs
finds the line poisoned (R178). -/
def State.performStore (s : State) (c : Nat) (e : SbEntry) : State × Bool :=
  let (v, m) := lineOfWords e.words
  if s.storeBypass c e.addr then s.sendMasked c e.addr v m
  else
    let (s, ok) := (s.beginEntry c none).takeLine c e.addr (some e.newest)
    if ok then (s.storeHere c e.addr e.words, true)
    else if s.storeBypass c e.addr then s.sendMasked c e.addr v m
    else (s, false)

/-- CLEAN LINE (Table 4.9): a modified copy of this tile is written to its home; one elsewhere is by the home's
snoop-share. With the L3 passed by, a masked write-back of no bit makes the home write the line.
Assumption 42 (DEDUCED). -/
def State.performClean (s : State) (c : Nat) (e : SbEntry) : State × Bool :=
  let t := s.tileOf c
  let zero : List Word := List.replicate 16 0
  let s := s.beginEntry c none
  let s := if s.tile t e.addr == some .m then (s.cleanAt t e.addr).pump else s
  if s.tileHas t e.addr false then (if s.tile t e.addr == some .m then (s, false) else (s.popEntry c, true))
  else if s.storeBypass c e.addr then s.sendMasked c e.addr zero zero
  else
    let s := s.bring c e.addr false (some e.newest)
    if s.tileHas t e.addr false && s.tile t e.addr != some .m then (s.popEntry c, true) else (s, false)

/-- INVALIDATE LINE (Table 4.9): the tile's own copy is written back, and a masked write-back of no bit makes the home
write back and invalidate every other. Assumption 42 (DEDUCED). -/
def State.performInvalidate (s : State) (c : Nat) (e : SbEntry) : State × Bool :=
  let t := s.tileOf c
  let zero : List Word := List.replicate 16 0
  let s := s.beginEntry c none
  if !(s.deferring c e.addr).isEmpty then (s.markDeferred t e.addr, false) else
  let s := (s.evict t e.addr).pump
  if (s.tileLine t e.addr).isSome then (s, false) else s.sendMasked c e.addr zero zero

/-- Perform the oldest entry of a core's buffer if its condition is met, else ask for what it lacks (R112, Table 4.5). An
entry with a gated word is not performed (R109). -/
def State.performOldest (s : State) (c : Nat) : State × Bool :=
  let k := s.core c
  match k.sb with
  | [] => (s, false)
  | e :: _ =>
    if e.sent.isSome || e.words.any (fun x => k.gated x.seq) then (s, false) else
    match e.kind with
    | .cached => s.performStore c e
    | .zeroLine => s.performStore c e
    | .cleanLine => s.performClean c e
    | .invalidateLine => s.performInvalidate c e
    | .control => ((s.popEntry c).sendControl c e, true)
    | .io => ((s.popEntry c).sendIo c e, true)

/-- Perform up to `n` oldest entries in order. -/
def State.performN (c : Nat) : Nat → State → State
  | 0, s => s
  | n + 1, s =>
    let (t, ok) := s.performOldest c
    if ok then State.performN c n t else t

/-- Perform every store of the core (R121, R123): the state, and whether none is left. Assumption 33 (DEDUCED). -/
def State.drainCore (s : State) (c : Nat) : State × Bool :=
  let t := State.performN c (s.core c).sb.length s
  (t, (t.core c).sb.isEmpty)

/-! ## Rows -/

/-- R112: the oldest entry is performed when it meets its condition. -/
def execStoreBufferEntryPerformed (core : Nat) (s : State) : Host.Outcome State Fault Refusal :=
  s.runIf (wfCore core) ((s.performOldest core).1.deliverChecks core)

/-- R120: 64 core cycles after the LDR. -/
def execReservationDeferralExpiry (core : Nat) (s : State) : Host.Outcome State Fault Refusal :=
  s.runIf (wfCore core) (s.shutWindow core)

/-- R108, R111: an invalidation reaches a line that an exposed load holds.
Assumptions 22 (DEDUCED) and 56 (DESIGN CHOICE). -/
def execReplay (core line : Nat) (s : State) : Host.Outcome State Fault Refusal :=
  s.runIf (wfCore core && wfLine line) (
    let k := s.core core
    if k.exposed.any (fun e => e.line == line) then s.setCore core (k.invalidated (· == line)) else s)

/-- The cores whose stores a root port holds for a link. -/
def State.heldFor (s : State) (link : Nat) : List Nat :=
  ((s.ch.ioQueued.filter (fun x => x.link == link)).map (·.core)).eraseDups

/-- R124: the stores that the port holds for the link are discarded and reported once per core and port; orders on the
link lose their answers (R234). A request of the module's own that is lost with it is reported and not repeated (R236);
whether one is, is not fixed. -/
def State.linkDown (s : State) (port link : Nat) : State :=
  let k := 4 * port + link
  let held := s.ch.ioQueued.filter (fun x => x.link == k)
  let cs := s.heldFor k
  let s := s.pcieDown k
  let (n, s) := s.tick
  let s := if Config.ownRequestLost n k then s.report (1160 + k) 2 else s
  let s := { s with ch := { s.ch with ioQueued := s.ch.ioQueued.filter (fun x => x.link != k),
                                      ioReported := s.ch.ioReported.filter (· % 8 != port) } }
  cs.foldl (fun s c =>
    match held.filter (fun x => x.core == c) with
    | [] => s
    | x :: r => (s.reportDiscard c port x.level (r.length + 1) x.vaddr).deliverChecks c) s

def execLinkDownDetected (port link : Nat) (s : State) : Host.Outcome State Fault Refusal :=
  s.runIf (wfPort port && wfQuad link) (s.linkDown port link)

/-- R178: pending accesses of a core to lost homes fail, and are reported. -/
def State.failLost (s : State) (c : Nat) : State :=
  let lost (e : SbEntry) : Bool :=
    (e.kind == .cached || e.kind == .zeroLine || e.kind == .cleanLine || e.kind == .invalidateLine) &&
      !s.homeServes (e.addr * 16)
  let k := s.core c
  match k.sb.filter lost with
  | [] => s
  | x :: r =>
    let k := ({ k with sb := k.sb.filter (fun e => !lost e) } : Core).unexpose
    ((s.setCore c k).addDiscard c x.level 4 (discardInfo (r.length + 1) x.vaddr)).deliverChecks c

/-- A module outside the majority takes a fatal fault: its report is collected and halts it (R177, R398). Assumption 42 (DEDUCED). -/
def State.minorityFatal (s : State) : State := s.fatalFault 1202

/-- R177: after 1 ms without reaching a member, the module stays by majority or halts. Assumption 42 (DEDUCED). -/
def State.partitionRule (s : State) (reachable : List Nat) : State :=
  if s.md.st == ModState.halted || s.md.st == ModState.off || s.md.st == ModState.standby then s else
  let kept := s.reachSet reachable
  if kept.length == s.memberList.length then s
  else if s.majority reachable then
    let s := s.loseMembers kept
    s.cores.foldl (fun s e => s.failLost e.1) s
  else s.minorityFatal

def execPartitionRule (reachable : List Nat) (s : State) : Host.Outcome State Fault Refusal :=
  s.runIf (reachable.all wfModule) (s.partitionRule reachable)

end Sys2Proof.Machine
end

