-- ==== Sys2Proof/Machine/Flags.lean ====
section
/-! DEFINITION. The state word's flags and the condition codes (Table 2.2, R63, R75-R79, R97). -/

namespace Sys2Proof.Machine

/-! ## Fields of SW -/

def swCT (d : DWord) : Bool := bit d 68
def swIE (d : DWord) : Bool := bit d 67
def swRM (d : DWord) : Nat := fld d 66 64
def swOV (d : DWord) : Bool := bit d 61
def swCY (d : DWord) : Bool := bit d 60
def swDOF (d : DWord) : Bool := bit d 59
/-- FF: bit k is bit 54 + k of SW (Table 2.2). -/
def swFF (d : DWord) : Nat := fld d 58 54
def swFE (d : DWord) : Nat := fld d 53 49
def swOE (d : DWord) : Bool := bit d 48
def swDE (d : DWord) : Bool := bit d 47
def swPA (d : DWord) : Bool := bit d 46
def swPCNT (d : DWord) : Nat := fld d 45 0

def setBit (d : DWord) (i : Nat) (b : Bool) : DWord := setFld d i i (b2n b)

/-- Set CC when the flag CS says so. -/
def setCCIf (d : DWord) (cs : Bool) (v : Nat) : DWord := if cs then setFld d 63 62 v else d

/-- The progress fields of a long instruction stopped at a unit (R65); zero progress is none. -/
def setProgress (d : DWord) (active : Bool) (n : Nat) : DWord := setFld (setBit d 46 active) 45 0 n

/-- The fields SPM loads (Table 2.13): CT, RM, CC, OV, CY, DOF, FF, FE, OE, DE. -/
def spmMask : DWord := BitVec.ofNat 72 (2 ^ 68 + 7 * 2 ^ 64 + (2 ^ 17 - 1) * 2 ^ 47)

/-! ## Numbers of a width (R77) -/

/-- The signed value of `w` bits. -/
def sint (w v : Nat) : Int := if 2 ^ (w - 1) ≤ v then (v : Int) - 2 ^ w else v

/-- A value modulo 2^w. -/
def wrapTo (w : Nat) (i : Int) : Nat := (i % 2 ^ w).toNat

def fitsSigned (w : Nat) (i : Int) : Bool := decide (-(2 ^ (w - 1) : Int) ≤ i) && decide (i < 2 ^ (w - 1))
def fitsUnsigned (w : Nat) (i : Int) : Bool := decide (0 ≤ i) && decide (i < 2 ^ w)

/-! ## Condition codes (R63) -/

def ccArith (i : Int) : Nat := if i = 0 then 0 else if i < 0 then 1 else 2
def ccLogic (v : Nat) : Nat := if v = 0 then 0 else 2
/-- 0 equal, 1 the first lower, 2 the first higher. -/
def ccOrder (a b : Int) : Nat := if a = b then 0 else if a < b then 1 else 2

/-! ## Integer results (R75-R79) -/

/-- What an integer operation delivers: the result modulo 2^w, whether it overflowed, a carry to write, the code. -/
structure IntRes where
  val : Nat
  ov : Bool
  cy : Option Bool
  cc : Nat
deriving DecidableEq, Repr

/-- A signed result: overflow when it does not fit. -/
def IntRes.ofSigned (w : Nat) (i : Int) (cy : Option Bool) : IntRes :=
  { val := wrapTo w i, ov := !fitsSigned w i, cy := cy, cc := ccArith i }

def IntRes.ofUnsigned (w : Nat) (i : Int) : IntRes :=
  { val := wrapTo w i, ov := !fitsUnsigned w i, cy := none, cc := ccArith i }

/-- A result that never overflows, with the code of bits. -/
def IntRes.ofBits (v : Nat) : IntRes := { val := v, ov := false, cy := none, cc := ccLogic v }

/-- The class-specific words of a result of `w` bits (Table 3.1): a word lies in word 6. -/
def resultInfo (w v : Nat) : Nat := if w == 36 then v * 2 ^ 36 else v

/-- The state word after an integer operation, or the Fixed-point overflow exception (R76, R78). -/
def IntRes.flags (r : IntRes) (w : Nat) (cs : Bool) (sw : DWord) : Except Stop DWord :=
  if r.ov && swOE sw then .error (.exc { cls := 0o10, sub := 0, opn := 0, vaddr := 0, info := resultInfo w r.val })
  else
    let sw := if r.ov then setBit sw 61 true else sw
    let sw := match r.cy with
      | some b => setBit sw 60 b
      | none => sw
    .ok (setCCIf sw cs (if r.ov then 3 else r.cc))

end Sys2Proof.Machine
end

