-- ==== Sys2Proof/Machine/Operands.lean ====
section
/-! DEFINITION. Instruction words and operands: header and descriptor checks, address formation, and the accesses of
operands (R45-R60, R68, R72, Tables 2.3-2.5, 2.14). -/

namespace Sys2Proof.Machine

/-! ## What an opcode asks of its words -/

/-- How an operand is used (R55). -/
inductive Use where
  | s | d | m | t
deriving DecidableEq, Repr

/-- The kind of an operand, which limits its modes (R45, R56, R64, R138). -/
inductive OpTy where
  /-- a word, doubleword or decimal value -/
  | val
  /-- a value in a memory mode 0o04-0o26 -/
  | mem
  /-- more than a doubleword (R45) -/
  | block
  /-- operands of MVW -/
  | mov
  /-- operands of MVN -/
  | movn
  /-- B of FLN, TRC and SCN -/
  | fill
  /-- a string in nonet or octet mode -/
  | str
  /-- a string in one given character mode (R64) -/
  | chr (m : Nat)
  | bits
  | imm
  | reg
  | null
  /-- A of LNM -/
  | line
deriving DecidableEq, Repr

structure OpSpec where
  use : Use
  ty : OpTy
  /-- words -/
  n : Nat
  aligned : Bool := false
deriving DecidableEq, Repr

/-- What an instruction's opcode fixes for its words (Tables 2.7-2.13). -/
structure OpCode where
  dw : Bool := false
  sg : Bool := false
  cs : Bool := false
  ri : Bool := false
  /-- it has a count operand N (R52) -/
  count : Bool := false
  long : Bool := false
  varOk : Bool := true
  lenOk : Bool := true
  /-- the highest level number that may issue it -/
  level : Nat := 3
  ops : List OpSpec
deriving DecidableEq, Repr

/-! ## Header fields (Table 2.3) -/

def lenOf (h : Word) : Nat := fld h 23 16
def varOf (h : Word) : Nat := fld h 15 8
def hdrRI (h : Word) : Bool := bit h 3
def hdrSG (h : Word) : Bool := bit h 2
def hdrDW (h : Word) : Bool := bit h 1
def hdrCS (h : Word) : Bool := bit h 0

/-- Words of an operand by DW. -/
def dwWords (h : Word) : Nat := if hdrDW h then 2 else 1

/-- VAR and LEN of an instruction with a count (R52). -/
def countVarOk (h : Word) : Bool := if lenOf h == 0 then varOf h / 16 == 0 else varOf h == 0

/-- The header's Reserved Operation sub-code, the lowest that applies (R68). -/
def OpCode.headerSub (o : OpCode) (h : Word) : Option Nat :=
  if fld h 7 4 != 0 || (hdrRI h && !o.ri) || (hdrSG h && !o.sg) || (hdrDW h && !o.dw) || (hdrCS h && !o.cs) then some 3
  else if !o.varOk then some 4
  else if !o.lenOk then some 5
  else if o.count && lenOf h == 0 && varOf h % 16 == 0 then some 9
  else none

/-! ## Descriptors (Tables 2.4, 2.5) -/

def dMode (d : Word) : Nat := fld d 35 31
def dIX (d : Word) : Nat := fld d 30 27
def dBS (d : Word) : Nat := fld d 26 23
def dDisp (d : Word) : Nat := fld d 22 0

/-- The uses column of Table 2.5. -/
def useOk (u : Use) (m : Nat) : Bool :=
  match u with
  | .s => 1 ≤ m && m ≤ 0o35
  | .d => m == 1 || (4 ≤ m && m ≤ 0o31) || (0o33 ≤ m && m ≤ 0o35)
  | .m => m == 1 || (4 ≤ m && m ≤ 0o20) || (0o23 ≤ m && m ≤ 0o31)
  | .t => m == 1 || (4 ≤ m && m ≤ 0o15) || (0o23 ≤ m && m ≤ 0o26)

def memMode (m : Nat) : Bool := 4 ≤ m && m ≤ 0o26
def plainMode (m : Nat) : Bool := (1 ≤ m && m ≤ 0o26) || m == 0o32

/-- The mode is permitted for the operand's use and type, at a level (R45, R55, R56, R64, R138). R56 permits mode 0o33 only
in MVW, MVN and LNM, and then lists it among the modes that address memory of B of FLN, TRC and SCN; here it is permitted
there at levels 0 and 1, and at levels 2 and 3 it is Privileged Operation as in MVN. Assumption 61 (DESIGN CHOICE). -/
def OpSpec.modeOk (o : OpSpec) (pl m : Nat) : Bool :=
  match o.ty with
  | .val => useOk o.use m && plainMode m
  | .mem => useOk o.use m && memMode m
  | .block => memMode m || (m == 0o33 && pl ≤ 1)
  | .mov => useOk o.use m && (plainMode m || (0o33 ≤ m && m ≤ 0o35))
  | .movn => memMode m || (0o33 ≤ m && m ≤ 0o35)
  | .fill => memMode m || m == 0o33
  | .str => m == 0o27 || m == 0o30
  | .chr c => m == c
  | .bits => m == 0o31
  | .imm => m == 2 || m == 3
  | .reg => m == 1
  | .null => m == 0
  | .line => useOk .t m || (m == 0o33 && pl ≤ 1)

/-- The column "Fields that must be zero" of Table 2.5. -/
def fieldsOk (d : Word) : Bool :=
  let m := dMode d
  let ixZero := m ≤ 5 || m == 0o14 || m == 0o16 || m == 0o17 || m == 0o21 || m == 0o22 || m == 0o23 || m == 0o26 || 0o33 ≤ m
  let bsZero := m == 0 || m == 2 || m == 3 || m == 4 || m == 0o14 || m == 0o15
  let dispZero := m ≤ 1 || m == 0o21 || m == 0o22
  let bsSet := m == 0o16 || m == 0o17 || m == 0o21 || m == 0o22
  (!ixZero || dIX d == 0) && (!bsZero || dBS d == 0) && (!dispZero || dDisp d == 0) &&
    (!bsSet || dBS d != 0) && (m != 0o20 || dIX d != 0) && (m != 0o13 || dDisp d != 0)

/-- A descriptor's Reserved Operation sub-code (Table 2.14). -/
def OpSpec.descSub (o : OpSpec) (pl : Nat) (hm : Bool) (d : Word) : Option Nat :=
  let m := dMode d
  if 0o36 ≤ m then some 6
  else if !o.modeOk pl m then some 7
  else if !fieldsOk d then some 8
  else if (hm && 0o33 ≤ m) || (!hm && m == 0o26) then some 10
  else none

def descsOf (i : Insn) : List Word := [i.a, i.b, i.c]

/-- Reserved Operation in the descriptors, A before B before C. -/
def descErrors (pl : Nat) (hm : Bool) : Nat → List OpSpec → List Word → Except Stop Unit
  | _, [], _ => .ok ()
  | _, _, [] => .ok ()
  | n, o :: os, d :: ds =>
    match o.descSub pl hm d with
    | some sub => .error (Stop.mk' 1 sub n)
    | none => descErrors pl hm (n + 1) os ds

/-- Privileged Operation by mode 0o33 (order 9). -/
def modeErrors (pl : Nat) : Nat → List OpSpec → List Word → Except Stop Unit
  | _, [], _ => .ok ()
  | _, _, [] => .ok ()
  | n, _ :: os, d :: ds => if 2 ≤ pl && dMode d == 0o33 then .error (Stop.mk' 2 0 n) else modeErrors pl (n + 1) os ds

/-! ## Address formation (R54, R57, R59) -/

/-- Where an operand lies. -/
inductive Loc where
  | none_
  | reg (n : Nat)
  | imm (v : Nat)
  | mem (va : Nat)
  | real (a : Nat)
  | ctl (a : Nat)
  | io (a : Nat)
  /-- a string: the unit's size in bits, and the unit address -/
  | chr (q a : Nat)
deriving DecidableEq, Repr

/-- What forming addresses has done: the register file with its updates, lines loaded, lines fetched, virtual addresses
translated, and the first operand whose pointer is misaligned. -/
structure Form where
  x : Vector DWord 16
  lines : List Nat
  fetch : List Nat
  vas : List Nat
  bad : Option Nat
deriving DecidableEq, Repr

def regOf (x : Vector DWord 16) (n : Nat) : Nat := (x[n % 16]'(Nat.mod_lt _ (by decide))).toNat

def setReg (x : Vector DWord 16) (n v : Nat) : Vector DWord 16 := x.setIfInBounds (n % 16) (BitVec.ofNat 72 v)

/-- Bits of a word address. -/
def aBits (hm : Bool) : Nat := if hm then 24 else 48

/-- B and I of R54; X0 reads as zero. -/
def baseOfReg (hm : Bool) (x : Vector DWord 16) (b : Nat) : Nat := if b == 0 then 0 else regOf x b % 2 ^ aBits hm
def indexOfReg (hm : Bool) (x : Vector DWord 16) (i : Nat) : Int :=
  if i == 0 then 0 else sint (aBits hm) (regOf x i % 2 ^ aBits hm)

/-- A word that address formation reads, with the read right. -/
def State.formRead (s : State) (c opn va : Nat) (f : Form) : Except Stop (Word × Form) :=
  match s.xlate c Need.load opn va with
  | .error e => .error e
  | .ok ra =>
    match s.coreRd c ra with
    | .error e => .error e
    | .ok w => .ok (w, { f with lines := f.lines ++ [lineOf ra], vas := f.vas ++ [va] })

/-- The pointer of modes 0o23-0o25 (R57). The failures of its reads, and of its format, come before its alignment
(Table 2.18). -/
def State.pointer (s : State) (c : Nat) (hm : Bool) (opn p : Nat) (f : Form) : Except Stop (Nat × Form) :=
  let badPtr : Except Stop (Nat × Form) := .error (.exc { cls := 4, sub := 2, opn := opn, vaddr := p, info := 0 })
  if hm then
    match s.formRead c opn p f with
    | .error e => .error e
    | .ok (w, f) => if fld w 35 24 != 0 then badPtr else .ok (fld w 23 0, f)
  else
    match s.formRead c opn p f with
    | .error e => .error e
    | .ok (h, f) =>
      match s.formRead c opn ((p + 1) % 2 ^ 48) f with
      | .error e => .error e
      | .ok (l, f) =>
        if fld (h ++ l) 71 48 != 0 then badPtr
        else .ok (fld (h ++ l) 47 0, if p % 2 == 1 then { f with bad := f.bad.orElse (fun _ => some opn) } else f)

/-- Mode 0o26: words with bit 35 set lead on, at most eight (Table 2.5). -/
def State.chase (s : State) (c opn : Nat) : Nat → Nat → Form → Except Stop (Nat × Form)
  | fuel, p, f =>
    match s.formRead c opn p f with
    | .error e => .error e
    | .ok (w, f) =>
      if !bit w 35 then .ok (fld w 23 0, f)
      else match fuel with
        | 0 => .error (.exc { cls := 4, sub := 3, opn := opn, vaddr := p, info := 0 })
        | n + 1 => s.chase c opn n (fld w 23 0) f

/-- The addresses of an instruction's words: level of the core, heritage mode, and IC. -/
structure Where where
  hm : Bool
  ic : Nat
deriving DecidableEq, Repr

/-- Form one operand (Table 2.5). -/
def State.formOne (s : State) (c : Nat) (w : Where) (f : Form) (opn : Nat) (o : OpSpec) (d : Word) :
    Except Stop (Loc × Form) :=
  let m := dMode d
  let bs := dBS d
  let ix := dIX d
  let a := aBits w.hm
  let disp := sint 23 (dDisp d)
  let b : Int := baseOfReg w.hm f.x bs
  let i := indexOfReg w.hm f.x ix
  let at_ (v : Int) : Except Stop (Loc × Form) := .ok (.mem (wrapTo a v), f)
  let upd (v : Int) (r : Nat) (nv : Int) : Except Stop (Loc × Form) :=
    .ok (.mem (wrapTo a v), { f with x := setReg f.x r (wrapTo a nv) })
  let text (q bits : Nat) : Except Stop (Loc × Form) :=
    let n := if w.hm then bits - 24 else bits
    let base : Int := if bs == 0 then 0 else (regOf f.x bs % 2 ^ n : Nat)
    .ok (.chr q (wrapTo n (base + i + disp)), f)
  match m with
  | 0o00 => .ok (.none_, f)
  | 0o01 => if o.use == .t then .ok (.mem (regOf f.x bs % 2 ^ a), f) else .ok (.reg bs, f)
  | 0o02 => .ok (.imm (wrapTo (36 * o.n) disp), f)
  | 0o03 => .ok (.imm (dDisp d), f)
  | 0o04 => at_ disp
  | 0o05 => at_ (b + disp)
  | 0o06 => at_ (b + i + disp)
  | 0o07 => at_ (b + 2 * i + disp)
  | 0o10 => at_ (b + 4 * i + disp)
  | 0o11 => at_ (b + 8 * i + disp)
  | 0o12 => at_ (b + 16 * i + disp)
  | 0o13 => at_ (b + i * (dDisp d : Int))
  | 0o14 => at_ (w.ic + disp)
  | 0o15 => at_ (w.ic + i + disp)
  | 0o16 => upd b bs (b + disp)
  | 0o17 => upd (b + disp) bs (b + disp)
  | 0o20 => upd (b + i + disp) ix (i + o.n)
  | 0o21 => upd (b - o.n) bs (b - o.n)
  | 0o22 => upd b bs (b + o.n)
  | 0o23 =>
    match s.pointer c w.hm opn (wrapTo a (b + disp)) f with
    | .error e => .error e
    | .ok (p, f) => .ok (.mem p, f)
  | 0o24 =>
    match s.pointer c w.hm opn (wrapTo a (b + disp)) f with
    | .error e => .error e
    | .ok (p, f) => .ok (.mem (wrapTo a (p + i)), f)
  | 0o25 =>
    match s.pointer c w.hm opn (wrapTo a (b + i + disp)) f with
    | .error e => .error e
    | .ok (p, f) => .ok (.mem p, f)
  | 0o26 =>
    match s.chase c opn 8 (wrapTo a (b + disp)) f with
    | .error e => .error e
    | .ok (p, f) => .ok (.mem p, f)
  | 0o27 => text 9 50
  | 0o30 => text 8 51
  | 0o31 => text 1 54
  | 0o32 => .ok (.imm (wrapTo a (b + i + disp) % 2 ^ (36 * o.n)), f)
  | 0o33 => .ok (.real (wrapTo 48 (b + disp)), f)
  | 0o34 => .ok (.ctl (wrapTo 48 (b + disp)), f)
  | _ => .ok (.io (wrapTo 48 (b + disp)), f)

/-- Form the operands in the order A, B, C. Assumption 23 (DEDUCED). -/
def State.formAll (s : State) (c : Nat) (w : Where) :
    Nat → List OpSpec → List Word → Form → Except Stop (List Loc × Form)
  | _, [], _, f => .ok ([], f)
  | _, _, [], f => .ok ([], f)
  | n, o :: os, d :: ds, f =>
    match s.formOne c w f n o d with
    | .error e => .error e
    | .ok (l, f) =>
      match s.formAll c w (n + 1) os ds f with
      | .error e => .error e
      | .ok (ls, f) => .ok (l :: ls, f)

/-- An operand marked aligned lies at an odd address (R45). -/
def oddOperand (o : OpSpec) (l : Loc) : Bool :=
  o.aligned && (match l with
    | .mem a => a % 2 == 1
    | .real a => a % 2 == 1
    | _ => false)

/-- The first misaligned operand. -/
def firstOdd : Nat → List OpSpec → List Loc → Option Nat
  | _, [], _ => none
  | _, _, [] => none
  | n, o :: os, l :: ls => if oddOperand o l then some n else firstOdd (n + 1) os ls

/-! ## Accesses of operands (order 12) -/

def Use.need (u : Use) : Need :=
  match u with
  | .s => Need.load
  | .d => Need.store
  | .m => Need.both
  | .t => Need.load

/-- Translate `n` words from an address: their real and virtual addresses. -/
def State.placeWords (s : State) (c : Nat) (nd : Need) (opn : Nat) (hm : Bool) : Nat → Nat → Except Stop (List (Nat × Nat))
  | 0, _ => .ok []
  | n + 1, va =>
    match s.xlate c nd opn va with
    | .error e => .error e
    | .ok ra =>
      match s.placeWords c nd opn hm n ((va + 1) % 2 ^ aBits hm) with
      | .error e => .error e
      | .ok l => .ok ((ra, va) :: l)

/-- The same for real addresses of mode 0o33. -/
def State.placeReal (s : State) (c : Nat) (nd : Need) (opn : Nat) : Nat → Nat → Except Stop (List (Nat × Nat))
  | 0, _ => .ok []
  | n + 1, a =>
    match s.xreal c nd opn a with
    | .error e => .error e
    | .ok ra =>
      match s.placeReal c nd opn n ((a + 1) % 2 ^ 48) with
      | .error e => .error e
      | .ok l => .ok ((ra, a) :: l)

/-- The check of R372 for control-space words. -/
def State.placeCtl (s : State) (c opn : Nat) : Nat → Nat → Except Stop (List (Nat × Nat))
  | 0, _ => .ok []
  | n + 1, a =>
    if s.ctlReach ((s.core c).accessor c) a then
      match s.placeCtl c opn n ((a + 1) % 2 ^ 48) with
      | .error e => .error e
      | .ok l => .ok ((a, a) :: l)
    else .error (.exc { cls := 4, sub := 1, opn := opn, vaddr := a, info := 0 })

/-- The words of an operand of `n` words, translated for its use. -/
def State.placeOp (s : State) (c : Nat) (hm : Bool) (u : Use) (n opn : Nat) (l : Loc) : Except Stop (List (Nat × Nat)) :=
  match l with
  | .mem a => s.placeWords c u.need opn hm n a
  | .real a => s.placeReal c u.need opn n a
  | .ctl a => s.placeCtl c opn n a
  | .io a => s.placeWords c { u.need with io := true } opn hm n a
  | _ => .ok []

/-- An operand ready for its access. -/
structure Placed where
  spec : OpSpec
  loc : Loc
  opn : Nat
  words : List (Nat × Nat)
deriving DecidableEq, Repr

/-- Assumption 26 (DEDUCED). -/
def State.placeAll (s : State) (c : Nat) (hm : Bool) : Nat → List OpSpec → List Loc → Except Stop (List Placed)
  | _, [], _ => .ok []
  | _, _, [] => .ok []
  | n, o :: os, l :: ls =>
    match (if o.use == .t then (.ok [] : Except Stop (List (Nat × Nat))) else s.placeOp c hm o.use o.n n l) with
    | .error e => .error e
    | .ok ws =>
      match s.placeAll c hm (n + 1) os ls with
      | .error e => .error e
      | .ok r => .ok ({ spec := o, loc := l, opn := n, words := ws } :: r)

/-- The value of words in ascending address order (R7). -/
def wordsVal (ws : List Word) : Nat := ws.foldl (fun a w => a * 2 ^ 36 + w.toNat) 0

/-- The words of a value, the most significant first. -/
def valWords (n v : Nat) : List Word := (List.range n).map (fun i => BitVec.ofNat 36 (v / 2 ^ (36 * (n - 1 - i))))

/-- Read words at real addresses. -/
def State.loadWords (s : State) (c : Nat) : List (Nat × Nat) → Except Stop (List Word)
  | [] => .ok []
  | p :: r =>
    match s.coreRd c p.1 with
    | .error e => .error e
    | .ok w =>
      match s.loadWords c r with
      | .error e => .error e
      | .ok ws => .ok (w :: ws)

/-- A register as a source of `n` words (R47); beyond a doubleword the spec states no value.
Assumption 30 (DESIGN CHOICE). -/
def regSource (x : Vector DWord 16) (n r : Nat) : Nat :=
  if n ≤ 2 then regOf x r % 2 ^ (36 * n) else Config.wideSource (BitVec.ofNat 72 (regOf x r)) n % 2 ^ (36 * n)

/-- What a register holds after a result of `n` words. Assumption 30 (DESIGN CHOICE). -/
def regResult (n v : Nat) : Nat := if n ≤ 2 then v % 2 ^ (36 * n) else (Config.wideResult v n).toNat

/-- The data of an I/O-space load of one word or of a doubleword (R244). -/
def Core.ioData (k : Core) (addr : Nat) (wide : Bool) (va : Nat) : Except Stop Nat :=
  match k.ioHeld.find? (fun p => p.1 == addr) with
  | some p => .ok (ioBits wide p.2).toNat
  | none => .error (.ioLoad addr wide va)

/-- Read an operand: its value and the state (a control-space read may change it). -/
def State.readOp (s : State) (c : Nat) (x : Vector DWord 16) (p : Placed) : Except Stop (Nat × State) :=
  match p.loc with
  | .reg r => .ok (regSource x p.spec.n r, s)
  | .imm v => .ok (v, s)
  | .ctl a =>
    let acc := (s.core c).accessor c
    if p.spec.n == 2 then let (d, s) := s.ctlReadD acc a; .ok (d.toNat, s)
    else let (w, s) := s.ctlRead acc a; .ok (w.toNat, s)
  | .io _ =>
    match p.words with
    | [q] => ((s.core c).ioData q.1 false q.2).map (·, s)
    | [q, r] =>
      if q.1 % 2 == 0 then ((s.core c).ioData q.1 true q.2).map (·, s)
      else
        match (s.core c).ioData q.1 false q.2 with
        | .error e => .error e
        | .ok h => ((s.core c).ioData r.1 false r.2).map (fun l => (h * 2 ^ 36 + l, s))
    | _ => .ok (0, s)
  | _ => (s.loadWords c p.words).map (fun ws => (wordsVal ws, s))

/-- Read every source in order; a destination has value 0. -/
def State.readAll (s : State) (c : Nat) (x : Vector DWord 16) : List Placed → Except Stop (List Nat × State)
  | [] => .ok ([], s)
  | p :: ps =>
    if p.spec.use == .s || p.spec.use == .m then
      match s.readOp c x p with
      | .error e => .error e
      | .ok (v, s) =>
        match s.readAll c x ps with
        | .error e => .error e
        | .ok (vs, s) => .ok (v :: vs, s)
    else
      match s.readAll c x ps with
      | .error e => .error e
      | .ok (vs, s) => .ok (0 :: vs, s)

/-- Store words of a memory operand into the buffer. -/
def Core.storeWords (k : Core) : List (Nat × Nat) → List Word → Core
  | p :: ps, w :: ws => (k.pushCached p.1 w (BitVec.allOnes 36) p.2).storeWords ps ws
  | _, _ => k

/-- Write a result to an operand. -/
def Core.writeOp (k : Core) (p : Placed) (v : Nat) : Core :=
  let n := p.spec.n
  match p.loc with
  | .reg r => { k with x := setReg k.x r (regResult n v) }
  | .ctl a => k.pushAlone .control a (n == 2) a ((valWords n v).zipIdx.map (fun q => (q.2, q.1)))
  | .io _ =>
    match p.words with
    | [q] => k.pushAlone .io q.1 false q.2 [(0, BitVec.ofNat 36 v)]
    | [q, r] =>
      if q.1 % 2 == 0 then k.pushAlone .io q.1 true q.2 ((valWords 2 v).zipIdx.map (fun y => (y.2, y.1)))
      else (k.pushAlone .io q.1 false q.2 [(0, BitVec.ofNat 36 (v / 2 ^ 36))]).pushAlone .io r.1 false r.2
        [(0, BitVec.ofNat 36 v)]
    | _ => k
  | .mem _ => k.storeWords p.words (valWords n v)
  | .real _ => k.storeWords p.words (valWords n v)
  | _ => k

end Sys2Proof.Machine
end

