-- ==== Sys2Proof/Machine/Insn.lean ====
section
/-! DEFINITION. One machine instruction on a core: the checks of Table 2.18 in their order, completion, and what happens
when it does not complete (R65-R72, R108, R245). -/

namespace Sys2Proof.Machine

/-- A core executes the instruction commands it is sent: it runs, and is not waiting. Assumption 21 (DESIGN CHOICE). -/
def State.goes (s : State) (c : Nat) : Bool :=
  let k := s.core c
  s.takes c && k.run == .running && !(2 ≤ k.pl && k.ctxValid && (s.tenant k.tenant).st == .stopped)

/-- Words of an instruction (R50). -/
def OpCode.words (o : OpCode) : Nat := 1 + o.ops.length

/-- The fetch of `n` words from an address, the first for operand `opn`: the rights checks, and the lines, which are at
hand (R106, R127). Assumption 21 (DESIGN CHOICE). -/
def State.fetchOk (s : State) (c : Nat) (hm : Bool) : Nat → Nat → Nat → Except Stop (List Nat)
  | 0, _, _ => .ok []
  | n + 1, opn, va =>
    match s.xlate c Need.fetch opn va with
    | .error e => .error e
    | .ok ra =>
      if !s.lineReady c (lineOf ra) false then .error (.line (lineOf ra) false) else
      match s.fetchOk c hm n (opn + 1) ((va + 1) % 2 ^ aBits hm) with
      | .error e => .error e
      | .ok l => .ok (lineOf ra :: l)

/-- The count operand N (R52). -/
def countOf (h : Word) (x : Vector DWord 16) : Except Stop Nat :=
  if lenOf h != 0 then .ok (lenOf h)
  else
    let v := regOf x (varOf h % 16)
    if 2 ^ 46 ≤ v then .error (Stop.mk' 3 0 0) else .ok v

/-- Specification by SW.PA and by the count register (order 11, R52, R66). -/
def progressOk (o : OpCode) (h : Word) (k : Core) : Except Stop Unit :=
  if !o.long && swPA k.sw then .error (Stop.mk' 3 0 0)
  else if !o.count then .ok ()
  else
    match countOf h k.x with
    | .error e => .error e
    | .ok n => if o.long && swPA k.sw && n ≤ swPCNT k.sw then .error (Stop.mk' 3 0 0) else .ok ()

/-- Order 11: SW.PA and the count register, then the alignment of operands and pointers, the lowest operand first.
Assumption 25 (DEDUCED). -/
def specOk (o : OpCode) (h : Word) (k : Core) (ls : List Loc) (f : Form) : Except Stop Unit :=
  match progressOk o h k with
  | .error e => .error e
  | .ok _ =>
    match firstOdd 1 o.ops ls, f.bad with
    | none, none => .ok ()
    | some a, none => .error (Stop.mk' 3 0 a)
    | none, some b => .error (Stop.mk' 3 0 b)
    | some a, some b => .error (Stop.mk' 3 0 (min a b))

/-- Orders 5 to 10, once the header word has been fetched: the operands' places and the register updates. -/
def State.formInsn (s : State) (c : Nat) (ins : Insn) (o : OpCode) (hl : List Nat) : Except Stop (List Loc × Form) :=
  let k := s.core c
  let ic := k.ic.toNat
  match o.headerSub ins.hdr with
  | some sub => .error (Stop.mk' 1 sub 0)
  | none =>
    if o.level < k.pl then .error (Stop.mk' 2 0 0)
    else
      match s.fetchOk c k.hm o.ops.length 1 ((ic + 1) % 2 ^ aBits k.hm) with
      | .error e => .error e
      | .ok dl =>
        match descErrors k.pl k.hm 1 o.ops (descsOf ins) with
        | .error e => .error e
        | .ok _ =>
          match modeErrors k.pl 1 o.ops (descsOf ins) with
          | .error e => .error e
          | .ok _ =>
            s.formAll c { hm := k.hm, ic := ic } 1 o.ops (descsOf ins)
              { x := k.x, lines := [], fetch := (hl ++ dl).eraseDups, vas := (List.range o.words).map (fun i => (ic + i) % 2 ^ aBits k.hm), bad := none }

/-- Orders 4 to 11: with a failure, the length ILEN that the interruption code carries (Table 2.16). -/
def State.decodeInsn (s : State) (c : Nat) (ins : Insn) (o : OpCode) : Except (Stop × Nat) (List Loc × Form) :=
  let k := s.core c
  match s.fetchOk c k.hm 1 0 k.ic.toNat with
  | .error e => .error (e, 0)
  | .ok hl =>
    match s.formInsn c ins o hl with
    | .error e => .error (e, o.words)
    | .ok (ls, f) =>
      match specOk o ins.hdr k ls f with
      | .error e => .error (e, o.words)
      | .ok _ => .ok (ls, f)

/-- An instruction whose operands have been formed, translated and read. -/
structure Run where
  /-- the machine, as control-space reads left it -/
  s : State
  c : Nat
  hdr : Word
  /-- the core as the instruction found it -/
  start : Core
  /-- the registers with the updates of addressing modes -/
  x : Vector DWord 16
  lines : List Nat
  /-- lines of its own words -/
  fetch : List Nat
  vas : List Nat
  ops : List Placed
  vals : List Nat
  /-- words -/
  len : Nat
deriving DecidableEq, Repr

/-- The single-copy atomic loads that words make (Table 4.3): an aligned pair is one, else each word. -/
def atomLines : List (Nat × Nat) → List Nat
  | [] => []
  | p :: q :: r =>
    if p.1 % 2 == 0 && q.1 == p.1 + 1 then lineOf p.1 :: atomLines r else lineOf p.1 :: atomLines (q :: r)
  | p :: [] => [lineOf p.1]

/-- Lines that loads of an operand bind, one for each load. -/
def Placed.loadLines (p : Placed) : List Nat :=
  if p.spec.use == .s || p.spec.use == .m then
    (match p.loc with
     | .mem _ => atomLines p.words
     | .real _ => atomLines p.words
     | _ => [])
  else []

/-- Virtual addresses an operand's accesses translate. -/
def Placed.vas (p : Placed) : List Nat :=
  match p.loc with
  | .mem _ => p.words.map (·.2)
  | .io _ => p.words.map (·.2)
  | _ => []

/-- Form, translate and read the operands of an instruction that is not long. Assumptions 23 (DEDUCED) and 26 (DEDUCED). -/
def State.prepare (s : State) (c : Nat) (ins : Insn) (o : OpCode) : Except (Stop × Nat) Run :=
  let k := s.core c
  match s.decodeInsn c ins o with
  | .error e => .error e
  | .ok (ls, f) =>
    match s.placeAll c k.hm 1 o.ops ls with
    | .error e => .error (e, o.words)
    | .ok ps =>
      match s.readAll c f.x ps with
      | .error e => .error (e, o.words)
      | .ok (vs, t) =>
        .ok { s := t, c := c, hdr := ins.hdr, start := k, x := f.x, lines := f.lines ++ ps.flatMap Placed.loadLines, fetch := f.fetch,
              vas := f.vas ++ ps.flatMap Placed.vas, ops := ps, vals := vs, len := o.words }

/-- Assumption 23 (DEDUCED). -/
def Run.val (r : Run) (i : Nat) : Nat := r.vals.getD i 0

/-- The target address of a T operand, or any operand's word address. Assumption 24 (DEDUCED). -/
def Run.target (r : Run) (i : Nat) : Nat :=
  match r.ops[i]? with
  | some p => (match p.loc with
    | .mem a => a
    | .real a => a
    | .reg n => regOf r.x n
    | _ => 0)
  | none => 0

def Run.sw (r : Run) : DWord := r.start.sw

/-- The address of the next instruction. -/
def Run.nextIC (r : Run) : Nat := (r.start.ic.toNat + r.len) % 2 ^ aBits r.start.hm

/-- The translations that an instruction's accesses leave in the caches (R353). -/
def State.installAll (s : State) (p : Party) (c : Nat) (vas : List Nat) : State :=
  vas.eraseDups.foldl (fun s a => s.install p c a) s

/-- What an instruction does once it has computed: results by operand number from 0, the state word, and IC. -/
structure Eff where
  writes : List (Nat × Nat)
  sw : DWord
  ic : Nat
deriving DecidableEq, Repr

/-- The core after results: register updates of the modes, then results, SW and IC; then completion. Its loads are exposed
before its stores enter the buffer. Where two destinations are one register or overlap, R60 gives no order of the writes:
here the lower-numbered operand is written first, so the higher-numbered one prevails. Assumption 61 (DESIGN CHOICE). -/
def Run.coreAfter (r : Run) (k : Core) (e : Eff) : Core :=
  let k := e.writes.foldl (fun (k : Core) (w : Nat × Nat) => match r.ops[w.1]? with
    | some p => k.writeOp p w.2
    | none => k) (({ k with x := r.x } : Core).expose r.start.checkpoint r.lines)
  ({ k with sw := e.sw, ic := BitVec.ofNat 48 (e.ic % 2 ^ aBits (bit e.sw 69)) } : Core).retire r.start.checkpoint []

/-- Complete the instruction (R59, R109). -/
def Run.finish (r : Run) (e : Eff) : State :=
  let s := r.s.installAll r.start.party r.c r.vas
  (s.setCore r.c (r.coreAfter (s.core r.c) e)).usePasses r.c

/-- The effect of results alone: SW unchanged but as given, IC at the next instruction. -/
def Run.eff (r : Run) (writes : List (Nat × Nat)) (sw : DWord) : Eff := { writes := writes, sw := sw, ic := r.nextIC }

/-- The interruption for an exception of the instruction at IC. -/
def Exc.intr (e : Exc) (k : Core) (ilen : Nat) : Intr :=
  { cls := e.cls, sub := e.sub, opn := e.opn, ilen := if e.cls == 0o40 then 0 else ilen, vaddr := e.vaddr, info := e.info,
    sw := k.sw, ic := k.ic.toNat }

/-- A poisoned line of another home is asked for anew once its machine check has been taken. -/
def State.forgetPoison (s : State) : State :=
  { s with mem := { s.mem with poison := s.mem.poison.filter (fun p => lineHome p.1 == s.dy.modnum) } }

/-- What happens when an instruction does not complete: its exception is taken, the core replays from its oldest exposed
load in an L2 set without an eligible way (R111), an I/O-space load is sent behind the stores its port holds, or it
waits. -/
def State.stopped (s : State) (c : Nat) (ins : Insn) (ilen : Nat) : Stop → State
  | .exc e => (s.takeIntr c (e.intr (s.core c) ilen)).forgetPoison
  | .line _ _ => s
  | .older => s
  | .full => s
  | .agent _ _ => s
  | .noWay n => s.modCore c (fun k => k.replayWhere (fun l => l % 1024 == n % 1024))
  | .ioLoad a w va =>
    ((s.modCore c (fun k => k.pastPoint (.ioLoad { resume := Config.resumeIndex 1, addr := a, wide := w, vaddr := va, ins := ins }))).flushIo
      (s.ioLinkOf a)).emit (.ioLoad c a w)

/-- Try to remove what an instruction waits for: a line is asked for, older accesses are performed, or the oldest entry of
a full buffer is. The state, and whether the instruction can be tried again. -/
def State.resolve (s : State) (c : Nat) (st : Stop) : State × Bool :=
  let (t, ok) := match st with
    | .line n own => let t := s.bring c n own none; (t, t.lineReady c n own)
    | .older => s.drainCore c
    | .full => s.performOldest c
    | .agent a lines => s.agentFetch a lines
    | _ => (s, false)
  (t, ok && (t.core c).seq == (s.core c).seq)

/-- The store buffer of 32 entries and the load-order queue of 48 hold what an instruction has put into them (R108,
R115). -/
def Core.fits (k : Core) : Bool := k.sb.length ≤ 32 && k.exposed.length ≤ 48

/-- The caches that an instruction's fetch and loads use (R126); its loads need a way in the L2 (R111). -/
def Run.useCaches (r : Run) : Except Stop Run :=
  match r.s.useLoads r.c true r.fetch with
  | .error l => .error (.noWay l)
  | .ok s => match s.useLoads r.c false r.lines with
    | .error l => .error (.noWay l)
    | .ok s => .ok { r with s := s }

/-- One try at an instruction. -/
def State.tryInstr (s : State) (c : Nat) (ins : Insn) (o : OpCode) (f : Run → Except Stop State) : Except (Stop × Nat) State :=
  match s.prepare c ins o with
  | .error e => .error e
  | .ok r =>
    match r.useCaches with
    | .error e => .error (e, o.words)
    | .ok r =>
      match f r with
      | .error e => .error (e, o.words)
      | .ok t => if (t.core c).fits then .ok t else .error (.full, o.words)

/-- Try an instruction until it completes, takes an exception, or waits for what does not come now. -/
def State.tryMany (c : Nat) (ins : Insn) (o : OpCode) (f : Run → Except Stop State) : Nat → State → State
  | 0, s => s
  | n + 1, s =>
    match s.tryInstr c ins o f with
    | .ok t => t
    | .error (st, len) =>
      let (t, again) := s.resolve c st
      if again then State.tryMany c ins o f n t
      else if (t.core c).seq == (s.core c).seq then t.stopped c ins len st else t

/-- A machine check that waits is taken before the next instruction: the state, and whether the instruction can go. -/
def State.beforeInstr (s : State) (c : Nat) : State × Bool :=
  let t := s.deliverChecks c
  (t, (t.core c).nextCheck.isNone && (t.core c).seq == (s.core c).seq)

/-- One instruction command on a core: `f` completes it from its operands. Assumption 32 (DEDUCED). -/
def State.instr (s : State) (c : Nat) (ins : Insn) (o : OpCode) (f : Run → Except Stop State) : State :=
  if !s.goes c then s else
  let (s, go) := s.beforeInstr c
  if !go then s else (State.tryMany c ins o f 128 s.tick.2).deliverChecks c

/-- An instruction whose effect is results, SW and IC. -/
def State.simple (s : State) (c : Nat) (ins : Insn) (o : OpCode) (f : Run → Except Stop Eff) : State :=
  s.instr c ins o (fun r => (f r).map r.finish)

/-- The same after every older access of the core is performed (R121, R198). Assumption 33 (DEDUCED). -/
def State.drained (s : State) (c : Nat) (go : State → State) : State :=
  if !s.goes c then s else
  let (t, ok) := s.drainCore c
  if ok then go t else t.deliverChecks c

end Sys2Proof.Machine
end

