-- ==== Sys2Proof/Machine/Arith.lean ====
section
/-! DEFINITION. Integer operations on numbers of a width (R77-R82, Tables 3.2, 3.3), and their instructions (Table 2.8). -/

namespace Sys2Proof.Machine

/-! ## Operations: width, operands as unsigned numbers -/

def intAdd (w a b cin : Nat) : IntRes :=
  IntRes.ofSigned w (sint w a + sint w b + cin) (some (decide (2 ^ w ≤ a + b + cin)))

/-- Subtraction with a borrow of 0 or 1; the carry means no borrow (R79). -/
def intSub (w a b bin : Nat) : IntRes :=
  IntRes.ofSigned w (sint w a - sint w b - bin) (some (decide (b + bin ≤ a)))

def intNeg (w a : Nat) : IntRes := IntRes.ofSigned w (-(sint w a)) none
def intAbs (w a : Nat) : IntRes := IntRes.ofSigned w (sint w a).natAbs none

def intMul (w : Nat) (sg : Bool) (a b : Nat) : IntRes :=
  if sg then IntRes.ofSigned w (sint w a * sint w b) none else IntRes.ofUnsigned w (a * b : Nat)

/-- The full product of two words, in a doubleword. -/
def intMulFull (sg : Bool) (a b : Nat) : IntRes :=
  if sg then IntRes.ofSigned 72 (sint 36 a * sint 36 b) none else IntRes.ofUnsigned 72 (a * b : Nat)

/-- The sub-code of the Divide exception, when it is raised (R80). -/
def divFault (w : Nat) (sg : Bool) (a b : Nat) : Option Nat :=
  if b = 0 then some 1
  else if sg && a == 2 ^ (w - 1) && b == 2 ^ w - 1 then some 2
  else none

def intDiv (w : Nat) (sg : Bool) (a b : Nat) : IntRes :=
  if sg then IntRes.ofSigned w (Int.tdiv (sint w a) (sint w b)) none else IntRes.ofUnsigned w (a / b : Nat)

def intRem (w : Nat) (sg : Bool) (a b : Nat) : IntRes :=
  if sg then IntRes.ofSigned w (Int.tmod (sint w a) (sint w b)) none else IntRes.ofUnsigned w (a % b : Nat)

def intNot (w a : Nat) : IntRes := IntRes.ofBits (2 ^ w - 1 - a)

/-- Shifts and rotates (Table 3.3): the count is the whole unsigned operand. -/
def intSll (w a c : Nat) : IntRes := IntRes.ofBits (if c < w then a * 2 ^ c % 2 ^ w else 0)
def intSrl (w a c : Nat) : IntRes := IntRes.ofBits (if c < w then a / 2 ^ c else 0)

/-- Bits [w-1 : w-1-c] are not all equal. -/
def slaLoses (w a c : Nat) : Bool :=
  if c < w then (let t := a / 2 ^ (w - 1 - c); t != 0 && t != 2 ^ (c + 1) - 1) else a != 0

def intSla (w a c : Nat) : IntRes :=
  let v := if c < w then a * 2 ^ c % 2 ^ w else 0
  { val := v, ov := slaLoses w a c, cy := none, cc := ccArith (sint w v) }

def intSra (w a c : Nat) : IntRes :=
  let i := sint w a
  let v := if c < w then i / 2 ^ c else if i < 0 then -1 else 0
  { val := wrapTo w v, ov := false, cy := none, cc := ccArith v }

def rotl (w a c : Nat) : Nat := (a * 2 ^ c + a / 2 ^ (w - c)) % 2 ^ w
def intRol (w a c : Nat) : IntRes := IntRes.ofBits (rotl w a (c % w))
def intRor (w a c : Nat) : IntRes := IntRes.ofBits (rotl w a ((w - c % w) % w))

def clz (w a : Nat) : Nat := if a = 0 then w else w - 1 - Nat.log2 a
def popcount : Nat → Nat → Nat
  | 0, _ => 0
  | n + 1, a => a % 2 + popcount n (a / 2)

/-- XBT: `p` and `w` of the header; the width of the result is `dw`. -/
def intExtract (dw : Nat) (sg : Bool) (p w a : Nat) : IntRes :=
  let f := a / 2 ^ p % 2 ^ w
  if sg then { val := wrapTo dw (sint w f), ov := false, cy := none, cc := ccArith (sint w f) } else
  { val := f, ov := false, cy := none, cc := ccArith f }

/-- IBT: bits [p+w-1 : p] of b replaced. -/
def intInsert (p w a b : Nat) : IntRes :=
  IntRes.ofBits (b - b / 2 ^ p % 2 ^ w * 2 ^ p + a % 2 ^ w * 2 ^ p)

/-- TST (Table 2.8): 0 none set or no bit selected, 1 mixed, 2 all set. -/
def testBits (a b : Nat) : Nat :=
  let t := a &&& b
  if t = 0 then 0 else if t = b then 2 else 1

/-! ## Instructions -/

/-- Bits of the operands by DW. -/
def Run.width (r : Run) : Nat := 36 * dwWords r.hdr

def srcOp (n : Nat) : OpSpec := { use := .s, ty := .val, n := n }
def dstOp (n : Nat) : OpSpec := { use := .d, ty := .val, n := n }
def modOp (n : Nat) : OpSpec := { use := .m, ty := .val, n := n }

/-- Three operands by DW and CS. -/
def opABC (h : Word) (sg : Bool) : OpCode :=
  { dw := true, cs := true, sg := sg, varOk := varOf h == 0, lenOk := lenOf h == 0,
    ops := [srcOp (dwWords h), srcOp (dwWords h), dstOp (dwWords h)] }

/-- Two operands by DW and CS. -/
def opAB (h : Word) : OpCode :=
  { dw := true, cs := true, varOk := varOf h == 0, lenOk := lenOf h == 0, ops := [srcOp (dwWords h), dstOp (dwWords h)] }

/-- Deliver an integer result of `w` bits to one operand. Assumption 26 (DEDUCED). -/
def Run.integer (r : Run) (opn w : Nat) (x : IntRes) : Except Stop Eff :=
  (x.flags w (hdrCS r.hdr) r.sw).map (fun sw => r.eff [(opn, x.val)] sw)

/-- An operation C := A op B. -/
def State.intABC (s : State) (core : Nat) (ins : Insn) (opc : Nat) (sg : Bool) (f : Nat → Run → Nat → Nat → IntRes) :
    Host.Outcome State Fault Refusal :=
  s.runIf (wfIns core ins opc) (s.simple core ins (opABC ins.hdr sg) (fun r =>
    r.integer 2 r.width (f r.width r (r.val 0) (r.val 1))))

/-- An operation B := op A. -/
def State.intAB (s : State) (core : Nat) (ins : Insn) (opc : Nat) (f : Nat → Nat → IntRes) :
    Host.Outcome State Fault Refusal :=
  s.runIf (wfIns core ins opc) (s.simple core ins (opAB ins.hdr) (fun r => r.integer 1 r.width (f r.width (r.val 0))))

/-- The carry in. -/
def Run.cy (r : Run) : Nat := b2n (swCY r.sw)

def execAdd (core : Nat) (ins : Insn) (s : State) : Host.Outcome State Fault Refusal :=
  s.intABC core ins 0o1000 false (fun w _ a b => intAdd w a b 0)

def execSub (core : Nat) (ins : Insn) (s : State) : Host.Outcome State Fault Refusal :=
  s.intABC core ins 0o1001 false (fun w _ a b => intSub w a b 0)

def execAdc (core : Nat) (ins : Insn) (s : State) : Host.Outcome State Fault Refusal :=
  s.intABC core ins 0o1002 false (fun w r a b => intAdd w a b r.cy)

def execSbb (core : Nat) (ins : Insn) (s : State) : Host.Outcome State Fault Refusal :=
  s.intABC core ins 0o1003 false (fun w r a b => intSub w a b (1 - r.cy))

def execNeg (core : Nat) (ins : Insn) (s : State) : Host.Outcome State Fault Refusal := s.intAB core ins 0o1010 intNeg

def execAbs (core : Nat) (ins : Insn) (s : State) : Host.Outcome State Fault Refusal := s.intAB core ins 0o1011 intAbs

def execMul (core : Nat) (ins : Insn) (s : State) : Host.Outcome State Fault Refusal :=
  s.intABC core ins 0o1020 true (fun w r a b => intMul w (hdrSG r.hdr) a b)

/-- MLF: two words, a doubleword product. -/
def opMlf (h : Word) : OpCode :=
  { sg := true, cs := true, varOk := varOf h == 0, lenOk := lenOf h == 0, ops := [srcOp 1, srcOp 1, dstOp 2] }

def execMlf (core : Nat) (ins : Insn) (s : State) : Host.Outcome State Fault Refusal :=
  s.runIf (wfIns core ins 0o1021) (s.simple core ins (opMlf ins.hdr) (fun r =>
    r.integer 2 72 (intMulFull (hdrSG r.hdr) (r.val 0) (r.val 1))))

/-- A division: the Divide exception, or a result. -/
def State.intDivide (s : State) (core : Nat) (ins : Insn) (opc : Nat) (f : Nat → Bool → Nat → Nat → IntRes) :
    Host.Outcome State Fault Refusal :=
  s.runIf (wfIns core ins opc) (s.simple core ins (opABC ins.hdr true) (fun r =>
    match divFault r.width (hdrSG r.hdr) (r.val 0) (r.val 1) with
    | some sub => .error (Stop.mk' 0o11 sub 0)
    | none => r.integer 2 r.width (f r.width (hdrSG r.hdr) (r.val 0) (r.val 1))))

def execDiv (core : Nat) (ins : Insn) (s : State) : Host.Outcome State Fault Refusal := s.intDivide core ins 0o1030 intDiv

def execRem (core : Nat) (ins : Insn) (s : State) : Host.Outcome State Fault Refusal := s.intDivide core ins 0o1031 intRem

/-- DVR: words; C is an aligned doubleword, quotient first. -/
def opDvr (h : Word) : OpCode :=
  { sg := true, cs := true, varOk := varOf h == 0, lenOk := lenOf h == 0,
    ops := [srcOp 1, srcOp 1, { dstOp 2 with aligned := true }] }

def execDvr (core : Nat) (ins : Insn) (s : State) : Host.Outcome State Fault Refusal :=
  s.runIf (wfIns core ins 0o1032) (s.simple core ins (opDvr ins.hdr) (fun r =>
    let sg := hdrSG r.hdr
    match divFault 36 sg (r.val 0) (r.val 1) with
    | some sub => .error (Stop.mk' 0o11 sub 0)
    | none =>
      let q := intDiv 36 sg (r.val 0) (r.val 1)
      let m := intRem 36 sg (r.val 0) (r.val 1)
      .ok (r.eff [(2, q.val * 2 ^ 36 + m.val)] (setCCIf r.sw (hdrCS r.hdr) q.cc))))

def opCmp (h : Word) (sg : Bool) : OpCode :=
  { dw := true, sg := sg, varOk := varOf h == 0, lenOk := lenOf h == 0, ops := [srcOp (dwWords h), srcOp (dwWords h)] }

def execCmp (core : Nat) (ins : Insn) (s : State) : Host.Outcome State Fault Refusal :=
  s.runIf (wfIns core ins 0o1040) (s.simple core ins (opCmp ins.hdr true) (fun r =>
    let v (i : Nat) : Int := if hdrSG r.hdr then sint r.width (r.val i) else r.val i
    .ok (r.eff [] (setFld r.sw 63 62 (ccOrder (v 0) (v 1))))))

def execTst (core : Nat) (ins : Insn) (s : State) : Host.Outcome State Fault Refusal :=
  s.runIf (wfIns core ins 0o1041) (s.simple core ins (opCmp ins.hdr false) (fun r =>
    .ok (r.eff [] (setFld r.sw 63 62 (testBits (r.val 0) (r.val 1))))))

def execAnd (core : Nat) (ins : Insn) (s : State) : Host.Outcome State Fault Refusal :=
  s.intABC core ins 0o1050 false (fun _ _ a b => IntRes.ofBits (a &&& b))

def execOrr (core : Nat) (ins : Insn) (s : State) : Host.Outcome State Fault Refusal :=
  s.intABC core ins 0o1051 false (fun _ _ a b => IntRes.ofBits (a ||| b))

def execXor (core : Nat) (ins : Insn) (s : State) : Host.Outcome State Fault Refusal :=
  s.intABC core ins 0o1052 false (fun _ _ a b => IntRes.ofBits (a ^^^ b))

def execNot (core : Nat) (ins : Insn) (s : State) : Host.Outcome State Fault Refusal := s.intAB core ins 0o1053 intNot

def execSll (core : Nat) (ins : Insn) (s : State) : Host.Outcome State Fault Refusal :=
  s.intABC core ins 0o1060 false (fun w _ a b => intSll w a b)

def execSrl (core : Nat) (ins : Insn) (s : State) : Host.Outcome State Fault Refusal :=
  s.intABC core ins 0o1061 false (fun w _ a b => intSrl w a b)

def execSla (core : Nat) (ins : Insn) (s : State) : Host.Outcome State Fault Refusal :=
  s.intABC core ins 0o1062 false (fun w _ a b => intSla w a b)

def execSra (core : Nat) (ins : Insn) (s : State) : Host.Outcome State Fault Refusal :=
  s.intABC core ins 0o1063 false (fun w _ a b => intSra w a b)

def execRol (core : Nat) (ins : Insn) (s : State) : Host.Outcome State Fault Refusal :=
  s.intABC core ins 0o1064 false (fun w _ a b => intRol w a b)

def execRor (core : Nat) (ins : Insn) (s : State) : Host.Outcome State Fault Refusal :=
  s.intABC core ins 0o1065 false (fun w _ a b => intRor w a b)

def execClz (core : Nat) (ins : Insn) (s : State) : Host.Outcome State Fault Refusal :=
  s.intAB core ins 0o1070 (fun w a => IntRes.ofBits (clz w a))

def execPct (core : Nat) (ins : Insn) (s : State) : Host.Outcome State Fault Refusal :=
  s.intAB core ins 0o1071 (fun w a => IntRes.ofBits (popcount w a))

/-- XBT and IBT: p = VAR and w = LEN (Table 2.8). -/
def opField (h : Word) (sg : Bool) (b : OpSpec) : OpCode :=
  { dw := true, cs := true, sg := sg, varOk := varOf h + lenOf h ≤ 36 * dwWords h, lenOk := lenOf h != 0,
    ops := [srcOp (dwWords h), b] }

def execXbt (core : Nat) (ins : Insn) (s : State) : Host.Outcome State Fault Refusal :=
  s.runIf (wfIns core ins 0o1100) (s.simple core ins (opField ins.hdr true (dstOp (dwWords ins.hdr))) (fun r =>
    r.integer 1 r.width (intExtract r.width (hdrSG r.hdr) (varOf r.hdr) (lenOf r.hdr) (r.val 0))))

def execIbt (core : Nat) (ins : Insn) (s : State) : Host.Outcome State Fault Refusal :=
  s.runIf (wfIns core ins 0o1101) (s.simple core ins (opField ins.hdr false (modOp (dwWords ins.hdr))) (fun r =>
    r.integer 1 r.width (intInsert (varOf r.hdr) (lenOf r.hdr) (r.val 0) (r.val 1))))

end Sys2Proof.Machine
end

