-- ==== Sys2Proof/Machine/Move.lean ====
section
/-! DEFINITION. Data movement and reserved pairs: MVW, XCH, LDR, STC (Table 2.7, R116-R121). -/

namespace Sys2Proof.Machine

/-- The descriptor names control space or I/O space. -/
def deviceMode (d : Word) : Bool := dMode d == 0o34 || dMode d == 0o35

def opMvw (h : Word) : OpCode :=
  { dw := true, cs := true, varOk := varOf h == 0, lenOk := lenOf h == 0,
    ops := [{ use := .s, ty := .mov, n := dwWords h }, { use := .d, ty := .mov, n := dwWords h }] }

/-- B := A, and CC by the sign of the value. -/
def Run.move (r : Run) : Eff :=
  r.eff [(1, r.val 0)] (setCCIf r.sw (hdrCS r.hdr) (ccArith (sint r.width (r.val 0))))

/-- A load from control space or I/O space waits for every older access (R121). -/
def State.mvw (s : State) (core : Nat) (ins : Insn) : State :=
  let go (s : State) : State := s.simple core ins (opMvw ins.hdr) (fun r => .ok r.move)
  if deviceMode ins.a then s.drained core go else go s

def execMvw (core : Nat) (ins : Insn) (s : State) : Host.Outcome State Fault Refusal :=
  s.runIf (wfIns core ins 0o10) (s.mvw core ins)

def opXch (h : Word) : OpCode :=
  { dw := true, varOk := varOf h == 0, lenOk := lenOf h == 0, ops := [modOp (dwWords h), modOp (dwWords h)] }

def execXch (core : Nat) (ins : Insn) (s : State) : Host.Outcome State Fault Refusal :=
  s.runIf (wfIns core ins 0o30) (s.simple core ins (opXch ins.hdr) (fun r =>
    .ok (r.eff [(0, r.val 1), (1, r.val 0)] r.sw)))

/-! ## Reserved pairs (R117-R120) -/

def opLdr (h : Word) : OpCode :=
  { dw := true, varOk := varOf h == 0, lenOk := lenOf h == 0,
    ops := [{ use := .s, ty := .mem, n := dwWords h, aligned := hdrDW h }, dstOp (dwWords h)] }

/-- The line of an operand in memory. -/
def Run.lineOfOp (r : Run) (i : Nat) : Nat :=
  match r.ops[i]? with
  | some p => (match p.words with
    | q :: _ => lineOf q.1
    | [] => 0)
  | none => 0

/-- A core has a line in the owned state, or asks for it; where the L3 is passed by it has none (R136). -/
def State.ownLine (s : State) (c line : Nat) : State × Bool :=
  if s.passesBy (s.tileOf c) && (s.tileLine (s.tileOf c) line).isNone then (s, true) else s.takeLine c line none

/-- LDR: the line is obtained in the owned state, and reserved; an earlier reservation is replaced.
Assumption 32 (DEDUCED). -/
def Run.loadReserved (r : Run) : State :=
  let line := r.lineOfOp 0
  let (t, ok) := r.s.ownLine r.c line
  if ok then
    let t := t.endReservation r.c
    (({ r with s := t } : Run).finish (r.eff [(1, r.val 0)] r.sw)).modCore r.c (fun k =>
      { k with res := some { line := line, deferring := true, snooped := false } })
  else t

def execLdr (core : Nat) (ins : Insn) (s : State) : Host.Outcome State Fault Refusal :=
  s.runIf (wfIns core ins 0o40) (s.instr core ins (opLdr ins.hdr) (fun r => .ok r.loadReserved))

def opStc (h : Word) : OpCode :=
  { dw := true, varOk := varOf h == 0, lenOk := lenOf h == 0,
    ops := [srcOp (dwWords h), { use := .d, ty := .mem, n := dwWords h, aligned := hdrDW h }] }

/-- The core holds a reservation that an STC to a line may use (R118). -/
def Core.reserves (k : Core) (line : Nat) : Bool :=
  k.l2 == .enabled && (match k.res with
    | some r => r.line == line
    | none => false)

/-- STC: its store is performed while the reservation is held, or nothing is stored. Assumption 33 (DEDUCED). -/
def Run.storeConditional (r : Run) : State :=
  let line := r.lineOfOp 1
  if r.start.reserves line then
    let (t, ok) := r.s.takeLine r.c line none
    if ok then
      ((({ r with s := t } : Run).finish (r.eff [(1, r.val 0)] (setFld r.sw 63 62 0))).drainCore r.c).1.endReservation r.c
    else t
  else (r.finish (r.eff [] (setFld r.sw 63 62 1))).endReservation r.c

def execStc (core : Nat) (ins : Insn) (s : State) : Host.Outcome State Fault Refusal :=
  s.runIf (wfIns core ins 0o41) (s.drained core (fun s => s.instr core ins (opStc ins.hdr) (fun r => .ok r.storeConditional)))

end Sys2Proof.Machine
end

