-- ==== Sys2Proof/Machine/Decimal.lean ====
section
/-! DEFINITION. Decimal operands and operations (R53, R83-R89), and their instructions (Table 2.9). An operand of L words is
a number of 9L digit positions of 4 bits. -/

namespace Sys2Proof.Machine

/-! ## Operands -/

/-- Position `p` of an operand of `l` words, counted from the most significant. -/
def decCode (l v p : Nat) : Nat := v / 16 ^ (9 * l - 1 - p) % 16

/-- The first invalid position and its sub-code (R84, R86). -/
def decBad (l v : Nat) : Option (Nat × Nat) :=
  (List.range (9 * l)).findSome? (fun p =>
    let d := decCode l v p
    if p + 1 < 9 * l then (if 9 < d then some (1, p) else none)
    else if d == 12 || d == 13 || d == 15 then none else some (2, p))

/-- The value of a valid operand. -/
def decValue (l v : Nat) : Int :=
  let m := (List.range (9 * l - 1)).foldl (fun a p => a * 10 + decCode l v p) 0
  if decCode l v (9 * l - 1) == 13 then -(m : Int) else m

/-- Digits of a number, `n` of them, as 4-bit codes. -/
def decDigits : Nat → Nat → Nat
  | 0, _ => 0
  | n + 1, v => decDigits n (v / 10) * 16 + v % 10

/-- An operand of `l` words that holds the low-order digits of a number, with its sign (R85, R87). -/
def decWrite (l : Nat) (i : Int) : Nat := decDigits (9 * l - 1) i.natAbs * 16 + (if i < 0 then 13 else 12)

/-- Significant digits of a magnitude of at most `fuel` digits. -/
def sigDigits : Nat → Nat → Nat
  | 0, _ => 0
  | n + 1, v => if v = 0 then 0 else 1 + sigDigits n (v / 10)

/-- Digits of an exact result: no more than its bits. -/
def decLength (i : Int) : Nat := sigDigits (Nat.log2 i.natAbs + 1) i.natAbs

/-- A decimal source, or the Decimal data exception (R86). -/
def decSource (opn l v : Nat) : Except Stop Int :=
  match decBad l v with
  | some (sub, p) =>
    .error (.exc { cls := 0o12, sub := sub, opn := opn, vaddr := 0, info := p / 9 * 2 ^ 36 + p % 9 })
  | none => .ok (decValue l v)

/-- A shift by a power of ten, rounded half away from zero when digits are lost (R89). -/
def decShift (i : Int) (s : Int) : Int :=
  if 0 ≤ s then i * (10 : Int) ^ s.toNat
  else
    let k := s.natAbs
    let m := i.natAbs / 10 ^ k + (if 5 ≤ i.natAbs / 10 ^ (k - 1) % 10 then 1 else 0)
    if i < 0 then -(m : Int) else m

/-! ## Instructions -/

/-- L1 and L2 (R53). -/
def len1 (h : Word) : Nat := lenOf h / 16 % 8 + 1
def len2 (h : Word) : Nat := lenOf h % 8 + 1

/-- LEN holds the lengths that the opcode uses, and zeros. -/
def decLenOk (h : Word) (use1 use2 : Bool) : Bool :=
  let n := lenOf h
  n / 128 == 0 && n / 8 % 2 == 0 && (use1 || n / 16 % 8 == 0) && (use2 || n % 8 == 0)

def opDec (h : Word) (cs use1 use2 : Bool) (ops : List OpSpec) : OpCode :=
  { cs := cs, varOk := varOf h == 0, lenOk := decLenOk h use1 use2, ops := ops }

/-- Deliver a decimal result to operand B, with its flags (R87). Assumption 26 (DEDUCED). -/
def Run.decimal (r : Run) (l : Nat) (i : Int) (more : List (Nat × Nat)) : Except Stop Eff :=
  let n := decLength i
  let big := decide (9 * l - 1 < n)
  if big && swDE r.sw then .error (.exc { cls := 0o13, sub := 0, opn := 0, vaddr := 0, info := n })
  else
    let sw := if big then setBit r.sw 59 true else r.sw
    .ok (r.eff ((1, decWrite l i) :: more) (setCCIf sw (hdrCS r.hdr) (if big then 3 else ccArith i)))

/-- Both decimal sources, A before B. -/
def Run.decAB (r : Run) : Except Stop (Int × Int) :=
  match decSource 1 (len1 r.hdr) (r.val 0) with
  | .error e => .error e
  | .ok a => (decSource 2 (len2 r.hdr) (r.val 1)).map (fun b => (a, b))

/-- B := B op A. -/
def State.decArith (s : State) (core : Nat) (ins : Insn) (opc : Nat) (f : Int → Int → Int) :
    Host.Outcome State Fault Refusal :=
  s.runIf (wfIns core ins opc) (s.simple core ins
    (opDec ins.hdr true true true [srcOp (len1 ins.hdr), modOp (len2 ins.hdr)]) (fun r =>
      match r.decAB with
      | .error e => .error e
      | .ok (a, b) => r.decimal (len2 r.hdr) (f b a) []))

def execDad (core : Nat) (ins : Insn) (s : State) : Host.Outcome State Fault Refusal := s.decArith core ins 0o2000 (· + ·)
def execDsb (core : Nat) (ins : Insn) (s : State) : Host.Outcome State Fault Refusal := s.decArith core ins 0o2001 (· - ·)
def execDmu (core : Nat) (ins : Insn) (s : State) : Host.Outcome State Fault Refusal := s.decArith core ins 0o2002 (· * ·)

/-- DDV: B is written and then C, which prevails where they overlap. Assumption 61 (DESIGN CHOICE). -/
def execDdv (core : Nat) (ins : Insn) (s : State) : Host.Outcome State Fault Refusal :=
  s.runIf (wfIns core ins 0o2003) (s.simple core ins
    (opDec ins.hdr true true true [srcOp (len1 ins.hdr), modOp (len2 ins.hdr), dstOp (len1 ins.hdr)]) (fun r =>
      match r.decAB with
      | .error e => .error e
      | .ok (a, b) =>
        if a = 0 then .error (Stop.mk' 0o11 1 0)
        else r.decimal (len2 r.hdr) (Int.tdiv b a) [(2, decWrite (len1 r.hdr) (Int.tmod b a))]))

def execDcp (core : Nat) (ins : Insn) (s : State) : Host.Outcome State Fault Refusal :=
  s.runIf (wfIns core ins 0o2004) (s.simple core ins
    (opDec ins.hdr false true true [srcOp (len1 ins.hdr), srcOp (len2 ins.hdr)]) (fun r =>
      r.decAB.map (fun p => r.eff [] (setFld r.sw 63 62 (ccOrder p.2 p.1)))))

def execDmv (core : Nat) (ins : Insn) (s : State) : Host.Outcome State Fault Refusal :=
  s.runIf (wfIns core ins 0o2005) (s.simple core ins
    (opDec ins.hdr true true true [srcOp (len1 ins.hdr), dstOp (len2 ins.hdr)]) (fun r =>
      match decSource 1 (len1 r.hdr) (r.val 0) with
      | .error e => .error e
      | .ok a => r.decimal (len2 r.hdr) a []))

/-- The shift count s of DSR: VAR in two's complement. -/
def shiftOf (h : Word) : Int := sint 8 (varOf h)

def execDsr (core : Nat) (ins : Insn) (s : State) : Host.Outcome State Fault Refusal :=
  s.runIf (wfIns core ins 0o2006) (s.simple core ins
    { opDec ins.hdr true true true [srcOp (len1 ins.hdr), dstOp (len2 ins.hdr)] with
      varOk := decide (-71 ≤ shiftOf ins.hdr) && decide (shiftOf ins.hdr ≤ 71) } (fun r =>
      match decSource 1 (len1 r.hdr) (r.val 0) with
      | .error e => .error e
      | .ok a => r.decimal (len2 r.hdr) (decShift a (shiftOf r.hdr)) []))

/-- CDB: a value outside a doubleword is a fixed-point overflow (Table 3.5). -/
def execCdb (core : Nat) (ins : Insn) (s : State) : Host.Outcome State Fault Refusal :=
  s.runIf (wfIns core ins 0o2010) (s.simple core ins
    (opDec ins.hdr true true false [srcOp (len1 ins.hdr), dstOp 2]) (fun r =>
      match decSource 1 (len1 r.hdr) (r.val 0) with
      | .error e => .error e
      | .ok a => r.integer 1 72 (IntRes.ofSigned 72 a none)))

def execCbd (core : Nat) (ins : Insn) (s : State) : Host.Outcome State Fault Refusal :=
  s.runIf (wfIns core ins 0o2011) (s.simple core ins
    (opDec ins.hdr true false true [srcOp 2, dstOp (len2 ins.hdr)]) (fun r =>
      r.decimal (len2 r.hdr) (sint 72 (r.val 0)) []))

/-- DTS: CC 3 for any invalid code, and no exception. -/
def execDts (core : Nat) (ins : Insn) (s : State) : Host.Outcome State Fault Refusal :=
  s.runIf (wfIns core ins 0o2020) (s.simple core ins
    (opDec ins.hdr false true false [srcOp (len1 ins.hdr)]) (fun r =>
      let l := len1 r.hdr
      let cc := match decBad l (r.val 0) with
        | some _ => 3
        | none => ccArith (decValue l (r.val 0))
      .ok (r.eff [] (setFld r.sw 63 62 cc))))

end Sys2Proof.Machine
end

