-- ==== Sys2Proof/Machine/Float.lean ====
section
/-! DEFINITION. Floating-point formats, rounding and operations (R90-R100), exact until one rounding. -/

namespace Sys2Proof.Machine

/-- A binary format: exponent and fraction bits (R90). -/
structure Fmt where
  ebits : Nat
  fbits : Nat
deriving DecidableEq, Repr

def f36 : Fmt := { ebits := 8, fbits := 27 }
def f72 : Fmt := { ebits := 11, fbits := 60 }
def binary32 : Fmt := { ebits := 8, fbits := 23 }
def binary64 : Fmt := { ebits := 11, fbits := 52 }

def Fmt.bias (f : Fmt) : Nat := 2 ^ (f.ebits - 1) - 1
def Fmt.prec (f : Fmt) : Nat := f.fbits + 1
def Fmt.emax (f : Fmt) : Nat := 2 ^ f.ebits - 1
/-- Exponent of the last place of subnormals. -/
def Fmt.last (f : Fmt) : Int := 1 - (f.bias : Int) - f.fbits

/-- A value: a NaN with its sign and fraction, an infinity, or ±m × 2^e. -/
inductive FV where
  | nan (neg : Bool) (frac : Nat)
  | inf (neg : Bool)
  | fin (neg : Bool) (m : Nat) (e : Int)
deriving DecidableEq, Repr

/-- Encode sign, exponent field and fraction field. -/
def Fmt.pack (f : Fmt) (neg : Bool) (e frac : Nat) : Nat :=
  b2n neg * 2 ^ (f.ebits + f.fbits) + e * 2 ^ f.fbits + frac

def Fmt.unpack (f : Fmt) (v : Nat) : FV :=
  let neg := v / 2 ^ (f.ebits + f.fbits) % 2 == 1
  let e := v / 2 ^ f.fbits % 2 ^ f.ebits
  let frac := v % 2 ^ f.fbits
  if e == f.emax then (if frac == 0 then .inf neg else .nan neg frac)
  else if e == 0 then .fin neg frac f.last
  else .fin neg (2 ^ f.fbits + frac) (f.last + e - 1)

def Fmt.quietBit (f : Fmt) : Nat := 2 ^ (f.fbits - 1)
def Fmt.infinity (f : Fmt) (neg : Bool) : Nat := f.pack neg f.emax 0
def Fmt.largest (f : Fmt) (neg : Bool) : Nat := f.pack neg (f.emax - 1) (2 ^ f.fbits - 1)
def Fmt.defaultNaN (f : Fmt) : Nat := f.pack false f.emax f.quietBit

/-- Condition bits, in the order of FF: bit 4 invalid, 3 divide by zero, 2 overflow, 1 underflow, 0 inexact. -/
def fV : Nat := 16
def fZ : Nat := 8
def fO : Nat := 4
def fU : Nat := 2
def fX : Nat := 1

/-- A result: the encoding, the conditions raised, the condition code. -/
structure FRes where
  bits : Nat
  flags : Nat
  cc : Nat
deriving DecidableEq, Repr

/-! ## Rounding (R92-R94) -/

/-- Whether a magnitude with a discarded part `rem` of `2^d` rounds away from zero. -/
def roundsUp (rm : Nat) (neg : Bool) (odd : Bool) (rem d : Nat) : Bool :=
  if rem = 0 then false
  else match rm with
    | 1 => false
    | 2 => !neg
    | 3 => neg
    | 4 => 2 ^ d ≤ 2 * rem
    | _ => 2 ^ d < 2 * rem || (2 * rem == 2 ^ d && odd)

/-- m × 2^e as a multiple of 2^q: the multiple, and whether it is inexact. -/
def roundAt (rm : Nat) (neg : Bool) (m : Nat) (e q : Int) : Nat × Bool :=
  if q ≤ e then (m * 2 ^ (e - q).toNat, false)
  else
    let d := (q - e).toNat
    let m0 := m / 2 ^ d
    let r := m % 2 ^ d
    (m0 + b2n (roundsUp rm neg (m0 % 2 == 1) r d), r != 0)

/-- The result of an overflow (R94). -/
def Fmt.overflowed (f : Fmt) (rm : Nat) (neg : Bool) : Nat :=
  match rm with
  | 1 => f.largest neg
  | 2 => if neg then f.largest true else f.infinity false
  | 3 => if neg then f.infinity true else f.largest false
  | _ => f.infinity neg

/-- Round ±m × 2^e to a format. `utrap`: the underflow trap is enabled. -/
def Fmt.round (f : Fmt) (rm : Nat) (utrap neg : Bool) (m : Nat) (e : Int) : Nat × Nat :=
  if m = 0 then (f.pack neg 0 0, 0)
  else
    let top : Int := e + Nat.log2 m
    let qn : Int := top - f.fbits
    let q : Int := max qn f.last
    let (v, x) := roundAt rm neg m e q
    let emin : Int := f.last + f.fbits
    let tiny : Bool := decide (top < emin) && !((roundAt rm neg m e qn).1 == 2 ^ f.prec && top + 1 == emin)
    let u := if tiny && (x || utrap) then fU else 0
    if v < 2 ^ f.fbits then (f.pack neg 0 v, u + (if x then fX else 0))
    else
      let (v, q) := if v == 2 ^ f.prec then (2 ^ f.fbits, q + 1) else (v, q)
      let be := (q - f.last + 1).toNat
      if f.emax ≤ be then (f.overflowed rm neg, fO + fX)
      else (f.pack neg be (v - 2 ^ f.fbits), u + (if x then fX else 0))

/-- The code of a floating result (R97). -/
def Fmt.cc (f : Fmt) (v : Nat) : Nat :=
  match f.unpack v with
  | .nan _ _ => 3
  | .inf neg => if neg then 1 else 2
  | .fin neg m _ => if m = 0 then 0 else if neg then 1 else 2

def Fmt.res (f : Fmt) (v flags : Nat) : FRes := { bits := v, flags := flags, cc := f.cc v }

/-- Deliver ±m × 2^e. -/
def Fmt.deliver (f : Fmt) (rm : Nat) (ut neg : Bool) (m : Nat) (e : Int) (more : Nat) : FRes :=
  let (v, fl) := f.round rm ut neg m e
  f.res v (fl + more)

/-! ## NaNs (R95) -/

def Fmt.signaling (f : Fmt) : FV → Bool
  | .nan _ frac => frac < f.quietBit
  | _ => false

def FV.isNan : FV → Bool
  | .nan _ _ => true
  | _ => false

/-- A NaN of one format in another, quiet: payload bits kept from the most significant. -/
def nanTo (g f : Fmt) (neg : Bool) (frac : Nat) : Nat :=
  let fr := if g.fbits ≤ f.fbits then frac * 2 ^ (f.fbits - g.fbits) else frac / 2 ^ (g.fbits - f.fbits)
  f.pack neg f.emax (if fr / f.quietBit % 2 == 1 then fr else fr + f.quietBit)

/-- The result when an operand is a NaN: the first, quiet; a signaling one raises invalid. -/
def Fmt.nans (f : Fmt) (l : List FV) : Option FRes :=
  match l.find? FV.isNan with
  | some (.nan neg frac) => some (f.res (nanTo f f neg frac) (if l.any f.signaling then fV else 0))
  | _ => none

def Fmt.invalid (f : Fmt) : FRes := f.res f.defaultNaN fV

/-! ## Operations -/

/-- Signed value of ±m × 2^e over 2^q, for q at most e. -/
def scaled (neg : Bool) (m : Nat) (e q : Int) : Int :=
  let v : Int := (m * 2 ^ (e - q).toNat : Nat)
  if neg then -v else v

/-- The sum of two finite values, rounded; an exact zero has the sign of both, else + or, toward −∞, −. -/
def Fmt.addFin (f : Fmt) (rm : Nat) (ut : Bool) (n1 : Bool) (m1 : Nat) (e1 : Int) (n2 : Bool) (m2 : Nat) (e2 : Int) : FRes :=
  let q := min e1 e2
  let v := scaled n1 m1 e1 q + scaled n2 m2 e2 q
  if v = 0 then
    let neg := if m1 = 0 && m2 = 0 && n1 == n2 then n1 else rm == 3
    f.res (f.pack neg 0 0) 0
  else f.deliver rm ut (decide (v < 0)) v.natAbs q 0

def Fmt.addFV (f : Fmt) (rm : Nat) (ut : Bool) : FV → FV → FRes
  | .inf n1, .inf n2 => if n1 == n2 then f.res (f.infinity n1) 0 else f.invalid
  | .inf n, _ => f.res (f.infinity n) 0
  | _, .inf n => f.res (f.infinity n) 0
  | .fin n1 m1 e1, .fin n2 m2 e2 => f.addFin rm ut n1 m1 e1 n2 m2 e2
  | _, _ => f.invalid

def FV.negate : FV → FV
  | .nan n x => .nan n x
  | .inf n => .inf (!n)
  | .fin n m e => .fin (!n) m e

def Fmt.add (f : Fmt) (rm : Nat) (ut : Bool) (a b : Nat) : FRes :=
  let x := f.unpack a
  let y := f.unpack b
  (f.nans [x, y]).getD (f.addFV rm ut x y)

def Fmt.sub (f : Fmt) (rm : Nat) (ut : Bool) (a b : Nat) : FRes :=
  let x := f.unpack a
  let y := f.unpack b
  (f.nans [x, y]).getD (f.addFV rm ut x y.negate)

def FV.isZero : FV → Bool
  | .fin _ m _ => m == 0
  | _ => false

def FV.isInf : FV → Bool
  | .inf _ => true
  | _ => false

def FV.neg : FV → Bool
  | .nan n _ => n
  | .inf n => n
  | .fin n _ _ => n

/-- 0 × ∞ -/
def zeroInf (x y : FV) : Bool := (x.isZero && y.isInf) || (x.isInf && y.isZero)

/-- The exact product of two values that are not 0 × ∞. -/
def FV.times (x y : FV) : FV :=
  match x, y with
  | .fin n1 m1 e1, .fin n2 m2 e2 => .fin (n1 != n2) (m1 * m2) (e1 + e2)
  | _, _ => .inf (x.neg != y.neg)

def Fmt.mul (f : Fmt) (rm : Nat) (ut : Bool) (a b : Nat) : FRes :=
  let x := f.unpack a
  let y := f.unpack b
  (f.nans [x, y]).getD (
    if zeroInf x y then f.invalid
    else match x.times y with
      | .fin n m e => f.deliver rm ut n m e 0
      | z => f.res (f.infinity z.neg) 0)

/-- Fused multiply-add; 0 × ∞ with a quiet NaN C raises invalid and delivers C. -/
def Fmt.fma (f : Fmt) (rm : Nat) (ut : Bool) (a b c : Nat) : FRes :=
  let x := f.unpack a
  let y := f.unpack b
  let z := f.unpack c
  match f.nans [x, y, z] with
  | some r => if zeroInf x y then { r with flags := fV } else r
  | none => if zeroInf x y then f.invalid else f.addFV rm ut (x.times y) z

/-- A quotient to `p + 2` bits or more, the last one sticky. -/
def quotient (p m1 m2 : Nat) (e1 e2 : Int) : Nat × Int :=
  let k := p + 3 + Nat.log2 m2
  let n := m1 * 2 ^ k
  (2 * (n / m2) + (if n % m2 = 0 then 0 else 1), e1 - e2 - k - 1)

def Fmt.div (f : Fmt) (rm : Nat) (ut : Bool) (a b : Nat) : FRes :=
  let x := f.unpack a
  let y := f.unpack b
  let neg := x.neg != y.neg
  (f.nans [x, y]).getD (
    if (x.isZero && y.isZero) || (x.isInf && y.isInf) then f.invalid
    else if x.isInf then f.res (f.infinity neg) 0
    else if y.isInf || x.isZero then f.res (f.pack neg 0 0) 0
    else if y.isZero then f.res (f.infinity neg) fZ
    else match x, y with
      | .fin _ m1 e1, .fin _ m2 e2 =>
        let (m, e) := quotient f.prec m1 m2 e1 e2
        f.deliver rm ut neg m e 0
      | _, _ => f.invalid)

/-- A square root to `p + 2` bits or more, the last one sticky. -/
def root (p m : Nat) (e : Int) : Nat × Int :=
  let k := 2 * p + 4 + (if (e - (2 * p + 4)) % 2 = 0 then 0 else 1)
  let n := m * 2 ^ k
  let r := isqrtFrom 130 0 n
  (2 * r + (if r * r = n then 0 else 1), (e - k) / 2 - 1)

def Fmt.sqrt (f : Fmt) (rm : Nat) (ut : Bool) (a : Nat) : FRes :=
  let x := f.unpack a
  (f.nans [x]).getD (
    if x.isZero then f.res a 0
    else if x.neg then f.invalid
    else match x with
      | .fin _ m e =>
        let (m, e) := root f.prec m e
        f.deliver rm ut false m e 0
      | _ => f.res a 0)

/-! ## Comparison and conversion (R96-R100) -/

/-- The order of two values that are not NaN. -/
def ccValues : FV → FV → Nat
  | .inf n1, .inf n2 => if n1 == n2 then 0 else if n1 then 1 else 2
  | .inf n, _ => if n then 1 else 2
  | _, .inf n => if n then 2 else 1
  | .fin n1 m1 e1, .fin n2 m2 e2 => ccOrder (scaled n1 m1 e1 (min e1 e2)) (scaled n2 m2 e2 (min e1 e2))
  | _, _ => 3

/-- FCP: the code and the conditions; signaling raises invalid for any NaN. -/
def Fmt.compare (f : Fmt) (loud : Bool) (a b : Nat) : FRes :=
  let x := f.unpack a
  let y := f.unpack b
  if x.isNan || y.isNan then
    { bits := 0, flags := if loud || f.signaling x || f.signaling y then fV else 0, cc := 3 }
  else { bits := 0, flags := 0, cc := ccValues x y }

/-- convertFormat from `g` to `f`. -/
def Fmt.convert (f g : Fmt) (rm : Nat) (ut : Bool) (a : Nat) : FRes :=
  match g.unpack a with
  | .nan neg frac => f.res (nanTo g f neg frac) (if frac < g.quietBit then fV else 0)
  | .inf neg => f.res (f.infinity neg) 0
  | .fin neg m e => f.deliver rm ut neg m e 0

/-- ±m × 2^e rounded to an integer, and whether it is inexact. -/
def toInteger (rm : Nat) (neg : Bool) (m : Nat) (e : Int) : Int × Bool :=
  let (v, x) := roundAt rm neg m e 0
  (if neg then -(v : Int) else v, x)

/-- FCI to `w` bits (R98). -/
def Fmt.toInt (g : Fmt) (rm w : Nat) (sg : Bool) (a : Nat) : FRes :=
  let bad (neg nan : Bool) : FRes :=
    { bits := if sg then (if neg || nan then 2 ^ (w - 1) else 2 ^ (w - 1) - 1) else (if neg || nan then 0 else 2 ^ w - 1),
      flags := fV, cc := 3 }
  match g.unpack a with
  | .nan _ _ => bad false true
  | .inf neg => bad neg false
  | .fin neg m e =>
    let (i, x) := toInteger rm neg m e
    if if sg then fitsSigned w i else fitsUnsigned w i then
      { bits := wrapTo w i, flags := if x then fX else 0, cc := ccArith i }
    else bad neg false

def Fmt.ofInt (f : Fmt) (rm : Nat) (ut : Bool) (i : Int) : FRes := f.deliver rm ut (decide (i < 0)) i.natAbs 0 0

/-- FRI: an integral value keeps the sign of its operand. -/
def Fmt.integral (f : Fmt) (rm : Nat) (a : Nat) : FRes :=
  let x := f.unpack a
  (f.nans [x]).getD (match x with
    | .fin neg m e =>
      let (i, x) := toInteger rm neg m e
      f.deliver rm false neg i.natAbs 0 (if x then fX else 0)
    | _ => f.res a 0)

/-! ## Instructions (Table 2.10) -/

/-- The format by DW. -/
def fmtOf (dw : Bool) : Fmt := if dw then f72 else f36

/-- The format and words of the interchange operand by VAR[8]. -/
def interchange (h : Word) : Fmt × Nat := if varOf h % 2 == 1 then (binary64, 2) else (binary32, 1)

/-- Words of the integer operand by VAR[9]. -/
def intWords (h : Word) : Nat := if varOf h / 2 % 2 == 1 then 2 else 1

/-- VAR of a floating opcode: bits it names (of VAR[9:8]), and with RI a rounding direction in VAR[10:8]. Where the opcode
names VAR[8] or VAR[9] as well, the spec does not say how the bits are shared: here they serve both.
Assumption 61 (DESIGN CHOICE). -/
def floatVarOk (h : Word) (n8 n9 : Bool) : Bool :=
  let v := varOf h
  v / 8 == 0 && (if hdrRI h then v ≤ 4 else (n8 || v % 2 == 0) && (n9 || v / 2 % 2 == 0) && v / 4 == 0)

/-- The rounding direction (R92). -/
def Run.rm (r : Run) : Nat := if hdrRI r.hdr then varOf r.hdr % 8 else swRM r.sw

/-- The underflow trap is enabled. -/
def Run.ut (r : Run) : Bool := swFE r.sw / 2 % 2 == 1

/-- The Floating exception, when a raised condition is enabled (Table 3.1). -/
def floatTrap (sw : DWord) (flags info : Nat) : Option Stop :=
  let t := flags &&& swFE sw
  if t = 0 then none
  else some (.exc { cls := 0o14, sub := t + flags * 32, opn := 0, vaddr := 0, info := info })

/-- Add raised conditions to FF. -/
def addFF (sw : DWord) (flags : Nat) : DWord := setFld sw 58 54 (swFF sw ||| flags)

/-- Deliver a floating result of `n` words to one operand. Words 6 and 7 of a trapped result hold it as Table 3.1 has it for
the other formats; it does not place FTX's: a binary32 goes to word 6, a binary64 to both. Assumption 61 (DESIGN CHOICE). -/
def Run.floating (r : Run) (opn n : Nat) (x : FRes) : Except Stop Eff :=
  match floatTrap r.sw x.flags (resultInfo (36 * n) x.bits) with
  | some e => .error e
  | none => .ok (r.eff [(opn, x.bits)] (setCCIf (addFF r.sw x.flags) (hdrCS r.hdr) x.cc))

def opFloat (h : Word) (cs n8 n9 : Bool) (ops : List OpSpec) : OpCode :=
  { dw := true, ri := true, cs := cs, varOk := floatVarOk h n8 n9, lenOk := lenOf h == 0, ops := ops }

/-- C := A op B in the format of DW. -/
def State.floatABC (s : State) (core : Nat) (ins : Insn) (opc : Nat) (f : Fmt → Nat → Bool → Nat → Nat → FRes) :
    Host.Outcome State Fault Refusal :=
  let n := dwWords ins.hdr
  s.runIf (wfIns core ins opc) (s.simple core ins (opFloat ins.hdr true false false [srcOp n, srcOp n, dstOp n]) (fun r =>
    r.floating 2 n (f (fmtOf (hdrDW r.hdr)) r.rm r.ut (r.val 0) (r.val 1))))

def execFad (core : Nat) (ins : Insn) (s : State) : Host.Outcome State Fault Refusal := s.floatABC core ins 0o3000 Fmt.add
def execFsb (core : Nat) (ins : Insn) (s : State) : Host.Outcome State Fault Refusal := s.floatABC core ins 0o3001 Fmt.sub
def execFmu (core : Nat) (ins : Insn) (s : State) : Host.Outcome State Fault Refusal := s.floatABC core ins 0o3002 Fmt.mul
def execFdv (core : Nat) (ins : Insn) (s : State) : Host.Outcome State Fault Refusal := s.floatABC core ins 0o3003 Fmt.div

/-- B := op A: words of A and B, the bits of VAR named, and SG. -/
def State.floatAB (s : State) (core : Nat) (ins : Insn) (opc na nb : Nat) (n8 n9 sg : Bool) (f : Run → Nat → FRes) :
    Host.Outcome State Fault Refusal :=
  s.runIf (wfIns core ins opc) (s.simple core ins
    { opFloat ins.hdr true n8 n9 [srcOp na, dstOp nb] with sg := sg } (fun r => r.floating 1 nb (f r (r.val 0))))

def execFsq (core : Nat) (ins : Insn) (s : State) : Host.Outcome State Fault Refusal :=
  s.floatAB core ins 0o3004 (dwWords ins.hdr) (dwWords ins.hdr) false false false (fun r a =>
    (fmtOf (hdrDW r.hdr)).sqrt r.rm r.ut a)

def execFma (core : Nat) (ins : Insn) (s : State) : Host.Outcome State Fault Refusal :=
  let n := dwWords ins.hdr
  s.runIf (wfIns core ins 0o3005) (s.simple core ins (opFloat ins.hdr true false false [srcOp n, srcOp n, modOp n]) (fun r =>
    r.floating 2 n ((fmtOf (hdrDW r.hdr)).fma r.rm r.ut (r.val 0) (r.val 1) (r.val 2))))

def execFcp (core : Nat) (ins : Insn) (s : State) : Host.Outcome State Fault Refusal :=
  let n := dwWords ins.hdr
  s.runIf (wfIns core ins 0o3010) (s.simple core ins (opFloat ins.hdr false true false [srcOp n, srcOp n]) (fun r =>
    let x := (fmtOf (hdrDW r.hdr)).compare (varOf r.hdr % 2 == 1) (r.val 0) (r.val 1)
    match floatTrap r.sw x.flags 0 with
    | some e => .error e
    | none => .ok (r.eff [] (setFld (addFF r.sw x.flags) 63 62 x.cc))))

/-- FCV: DW names the source. -/
def execFcv (core : Nat) (ins : Insn) (s : State) : Host.Outcome State Fault Refusal :=
  s.floatAB core ins 0o3020 (dwWords ins.hdr) (3 - dwWords ins.hdr) false false false (fun r a =>
    (fmtOf (!hdrDW r.hdr)).convert (fmtOf (hdrDW r.hdr)) r.rm r.ut a)

def execFci (core : Nat) (ins : Insn) (s : State) : Host.Outcome State Fault Refusal :=
  s.floatAB core ins 0o3021 (dwWords ins.hdr) (intWords ins.hdr) false true true (fun r a =>
    (fmtOf (hdrDW r.hdr)).toInt r.rm (36 * intWords r.hdr) (hdrSG r.hdr) a)

def execFfi (core : Nat) (ins : Insn) (s : State) : Host.Outcome State Fault Refusal :=
  s.floatAB core ins 0o3022 (intWords ins.hdr) (dwWords ins.hdr) false true true (fun r a =>
    (fmtOf (hdrDW r.hdr)).ofInt r.rm r.ut (if hdrSG r.hdr then sint (36 * intWords r.hdr) a else a))

/-- FTD: the decimal value, inexact or invalid (R98). -/
def Fmt.toDecimal (g : Fmt) (rm a : Nat) : Int × Nat :=
  match g.unpack a with
  | .fin neg m e =>
    let (i, x) := toInteger rm neg m e
    (i, if x then fX else 0)
  | _ => (0, fV)

/-- FTD. Where Decimal overflow and inexact could both trap, order 14 of Table 2.18 names them in one row: Decimal overflow
is taken first. Assumption 61 (DESIGN CHOICE). -/
def execFtd (core : Nat) (ins : Insn) (s : State) : Host.Outcome State Fault Refusal :=
  s.runIf (wfIns core ins 0o3023) (s.simple core ins
    { opFloat ins.hdr true false false [srcOp (dwWords ins.hdr), dstOp (len2 ins.hdr)] with
      lenOk := decLenOk ins.hdr false true } (fun r =>
    let (i, fl) := (fmtOf (hdrDW r.hdr)).toDecimal r.rm (r.val 0)
    match floatTrap r.sw (fl &&& fV) 0 with
    | some e => .error e
    | none =>
      match r.decimal (len2 r.hdr) i [] with
      | .error e => .error e
      | .ok eff =>
        match floatTrap r.sw fl 0 with
        | some e => .error e
        | none =>
          let sw := addFF eff.sw fl
          .ok { eff with sw := if fl == fV then setCCIf sw (hdrCS r.hdr) 3 else sw }))

def execFfd (core : Nat) (ins : Insn) (s : State) : Host.Outcome State Fault Refusal :=
  let n := dwWords ins.hdr
  s.runIf (wfIns core ins 0o3024) (s.simple core ins
    { opFloat ins.hdr true false false [srcOp (len1 ins.hdr), dstOp n] with lenOk := decLenOk ins.hdr true false } (fun r =>
    match decSource 1 (len1 r.hdr) (r.val 0) with
    | .error e => .error e
    | .ok i => r.floating 1 n ((fmtOf (hdrDW r.hdr)).ofInt r.rm r.ut i)))

def execFtx (core : Nat) (ins : Insn) (s : State) : Host.Outcome State Fault Refusal :=
  s.floatAB core ins 0o3030 (dwWords ins.hdr) (interchange ins.hdr).2 true false false (fun r a =>
    (interchange r.hdr).1.convert (fmtOf (hdrDW r.hdr)) r.rm r.ut a)

/-- FFX: bits of the source outside its field raise Specification. Assumption 25 (DEDUCED). -/
def execFfx (core : Nat) (ins : Insn) (s : State) : Host.Outcome State Fault Refusal :=
  let n := dwWords ins.hdr
  let (g, na) := interchange ins.hdr
  s.runIf (wfIns core ins 0o3031) (s.simple core ins (opFloat ins.hdr true true false [srcOp na, dstOp n]) (fun r =>
    if 2 ^ (g.ebits + g.fbits + 1) ≤ r.val 0 then .error (Stop.mk' 3 0 1)
    else r.floating 1 n ((fmtOf (hdrDW r.hdr)).convert g r.rm r.ut (r.val 0))))

def execFri (core : Nat) (ins : Insn) (s : State) : Host.Outcome State Fault Refusal :=
  s.floatAB core ins 0o3040 (dwWords ins.hdr) (dwWords ins.hdr) false false false (fun r a =>
    (fmtOf (hdrDW r.hdr)).integral r.rm a)

end Sys2Proof.Machine
end

