-- ==== Sys2Proof/Machine/Flow.lean ====
section
/-! DEFINITION. Control flow, calls and the return from an interruption, state-word loads, clocks (Tables 2.11, 2.13, R47,
R49, R70, R205, R251). -/

namespace Sys2Proof.Machine

/-! ## Branches -/

def opBr (h : Word) : OpCode :=
  { varOk := varOf h / 16 == 0, lenOk := lenOf h == 0, ops := [{ use := .t, ty := .val, n := 1 }] }

def execBr (core : Nat) (ins : Insn) (s : State) : Host.Outcome State Fault Refusal :=
  s.runIf (wfIns core ins 0o4000) (s.simple core ins (opBr ins.hdr) (fun r =>
    .ok { r.eff [] r.sw with ic := if varOf r.hdr / 2 ^ r.start.cc % 2 == 1 then r.target 0 else r.nextIC }))

/-- B of BAL has the size of a pointer (R47). -/
def opBal (h : Word) (hm : Bool) : OpCode :=
  { varOk := varOf h == 0, lenOk := lenOf h == 0, ops := [{ use := .t, ty := .val, n := 1 }, dstOp (if hm then 1 else 2)] }

def execBal (core : Nat) (ins : Insn) (s : State) : Host.Outcome State Fault Refusal :=
  s.runIf (wfIns core ins 0o4001) (s.simple core ins (opBal ins.hdr (s.core core).hm) (fun r =>
    .ok { r.eff [(1, r.nextIC)] r.sw with ic := r.target 0 }))

def opBct (h : Word) : OpCode :=
  { dw := true, varOk := varOf h == 0, lenOk := lenOf h == 0, ops := [modOp (dwWords h), { use := .t, ty := .val, n := 1 }] }

def execBct (core : Nat) (ins : Insn) (s : State) : Host.Outcome State Fault Refusal :=
  s.runIf (wfIns core ins 0o4002) (s.simple core ins (opBct ins.hdr) (fun r =>
    let v := wrapTo r.width (r.val 0 - 1)
    .ok { r.eff [(0, v)] r.sw with ic := if v = 0 then r.nextIC else r.target 1 }))

/-! ## Calls (R70) -/

def opCall (h : Word) (level : Nat) : OpCode :=
  { varOk := varOf h == 0, lenOk := lenOf h == 0, level := level, ops := [{ use := .s, ty := .imm, n := 1 }] }

/-- The 23-bit call code. -/
def Run.code (r : Run) : Nat := r.val 0 % 2 ^ 23

/-- The call's interruption: its saved IC is that of the next instruction; the full code lies in word 6. -/
def Run.callIntr (r : Run) (cls : Nat) : Intr :=
  { cls := cls, sub := r.code % 4096, opn := 0, ilen := r.len, vaddr := 0, info := r.code * 2 ^ 36,
    sw := r.sw, ic := r.nextIC }

/-- A call completes before it is taken; while its block's line is not at hand, it waits. Assumption 32 (DEDUCED). -/
def Run.call (r : Run) (cls : Nat) : State :=
  let done := r.finish (r.eff [] r.sw)
  let t := done.takeIntr r.c (r.callIntr cls)
  if (t.core r.c).seq == (done.core r.c).seq then r.s.takeIntr r.c (r.callIntr cls) else t

def execCsv (core : Nat) (ins : Insn) (s : State) : Host.Outcome State Fault Refusal :=
  s.runIf (wfIns core ins 0o4010) (s.instr core ins (opCall ins.hdr 3) (fun r => .ok (r.call 0o20)))

def execChs (core : Nat) (ins : Insn) (s : State) : Host.Outcome State Fault Refusal :=
  s.runIf (wfIns core ins 0o4011) (s.instr core ins (opCall ins.hdr 2) (fun r => .ok (r.call 0o21)))

/-! ## Zenith's services (R358, R367, R368, R371) -/

/-- What a core's level-0 block saved: SW, IC, the class and the code of a call. -/
def State.zenithSaved (s : State) (c : Nat) : Option (DWord × Nat × Nat × Nat) :=
  match s.blockAt c 0 with
  | .error _ => none
  | .ok ra =>
    let k := s.core c
    let w (n : Nat) : Word := k.forward (ra + n) (s.rd (ra + n))
    some (w 0 ++ w 1, fld (w 2 ++ w 3) 47 0, fld (w 4) 35 30, fld (w 6) 22 0)

/-- Zenith returns to the caller with a status in X1. -/
def State.zenithReturn (s : State) (c status : Nat) : State :=
  match s.zenithSaved c with
  | none => s
  | some (sw, ic, _, _) =>
    let k := s.core c
    let k' := { k with sw := sw, ic := BitVec.ofNat 48 ic, run := .running, res := none, x := setReg k.x 1 status }
    s.setCore c (k'.retire k.checkpoint [])

/-- CZN: taken at level 0. An undefined code is answered there; while Zenith is absent, the hardware answers. -/
def Run.zenithCall (r : Run) : State :=
  if r.s.tn.absent then
    ({ r with x := setReg r.x 1 1 } : Run).finish (r.eff [] r.sw)
  else
    let t := r.call 0o22
    if (t.core r.c).pl == 0 && (t.core r.c).seq != r.start.seq && !(1 ≤ r.code && r.code ≤ 3) then t.zenithReturn r.c 2 else t

/-- Assumption 34 (DEDUCED). -/
def State.czn (s : State) (core : Nat) (ins : Insn) : State :=
  s.instr core ins (opCall ins.hdr 2) (fun r => .ok r.zenithCall)

def execCzn (core : Nat) (ins : Insn) (s : State) : Host.Outcome State Fault Refusal :=
  s.runIf (wfIns core ins 0o4012) (s.czn core ins)

/-- The core is at level 0 to serve a call with this code. -/
def State.serving (s : State) (c code : Nat) : Bool :=
  !s.tn.absent && s.goes c && (s.core c).pl == 0 &&
    (match s.zenithSaved c with
     | some (_, _, cls, n) => cls == 0o22 && n == code
     | none => false)

/-- A service of Zenith for a call that the core has made, or now makes with the instruction: `f` has the caller's
level. Assumption 34 (DEDUCED). -/
def State.service (s : State) (c : Nat) (ins : Insn) (code : Nat) (f : State → Nat → State × Nat) : State :=
  let s := if s.serving c code then s else s.czn c ins
  if !s.serving c code then s else
  let (s, ok) := s.drainCore c
  if !ok then s else
  match s.zenithSaved c with
  | none => s
  | some (sw, _, _, _) =>
    let (t, status) := f s (swPL sw)
    (t.zenithReturn c status).deliverChecks c

/-- The real word of an argument's address: real for the Host, intermediate for a tenant. -/
def State.argWord (s : State) (c pl : Nat) (n : Need) (a : Nat) : Option Nat :=
  if pl == 1 then
    (if a < 2 ^ 40 && tagPermits s.dy.modnum .level1 (s.tag a) && s.homeServes a then some a else none)
  else (s.agentWord (s.core c).tenant n a).toOption

/-- Every word that `n` octets from word address `a` lie in can be accessed. -/
def State.argOk (s : State) (c pl : Nat) (nd : Need) (a n : Nat) : Bool :=
  a % 2 == 0 && (octetWords (9 * (a / 2)) n).all (fun w => (s.argWord c pl nd w).any (fun ra => !nd.r || !s.poisoned (lineOf ra)))

def State.argOctets (s : State) (c pl a n : Nat) : List Octet :=
  (List.range n).map (fun i => octetOf (fun w => match s.argWord c pl Need.load w with
    | some ra => s.rd ra
    | none => 0) (9 * (a / 2) + i))

/-- Write octets from word address `a`. -/
def State.argWrite (s : State) (c pl a : Nat) (l : List Octet) : State :=
  s.agentPut serviceAgent ((octetsBitsAt (9 * (a / 2)) l).filterMap (fun b =>
    (s.argWord c pl Need.store b.ra).map (fun ra => { b with ra := ra })))

/-- Octets 0 to 335 of the report (Table 11.13). -/
def State.attestBody (s : State) (tenant now : Nat) (asked : List Octet) : List Octet :=
  natOct 4 0x4154544E ++ natOct 2 1 ++ natOct 2 tenant ++ natOct 8 s.sv.serial.toNat ++ asked ++
    s.tn.measurements.toList.flatMap (fun m => natOct 48 m.toNat) ++ natOct 4 s.sv.fusedSecver ++
    natOct 4 s.tn.restarts ++ natOct 8 now

/-- ATTEST: the report is written, or the arguments are refused. Assumption 34 (DEDUCED). -/
def State.attest (s : State) (c pl : Nat) : State × Nat :=
  let k := s.core c
  let a := regOf k.x 2
  let b := regOf k.x 3
  if !(pl == 1 || pl == 2) || 2 ^ 48 ≤ a || 2 ^ 48 ≤ b || !s.argOk c pl Need.load a 64 || !s.argOk c pl Need.store b 5059 then
    (s, 3)
  else
    let (now, s) := s.now
    let (n, s) := s.tick
    let body := s.attestBody (if pl == 1 then 0xFFFF else k.tenant) now (s.argOctets c pl a 64)
    (s.argWrite c pl b (body ++ (Config.ecSignature n).take 96 ++ (Config.mlSignature n).take 4627), 0)

def execAttest (core : Nat) (ins : Insn) (s : State) : Host.Outcome State Fault Refusal :=
  s.runIf (wfIns core ins 0o4012) (s.service core ins 1 (fun s pl => s.attest core pl))

/-- A tag that the Host may give (Table 11.9): not SEALED, of this module, of an ACTIVE tenant, with HV only where it is
permitted; fields that a kind does not use are zero. -/
def State.assignable (s : State) (t : BitVec 16) : Bool :=
  let kind := tagKind t
  kind != 3 && fld t 12 9 == s.dy.modnum &&
    (if kind == 1 then (s.tenant (fld t 8 0)).st == .active && (!bit t 13 || (s.tenant (fld t 8 0)).hvPermitted)
     else !bit t 13 && fld t 8 0 == 0)

/-- ASSIGN PAGES: every page of the range is retagged, or nothing changes. Assumption 34 (DEDUCED). -/
def State.assign (s : State) (c pl : Nat) : State × Nat :=
  let k := s.core c
  let a := regOf k.x 2
  let n := regOf k.x 3
  let tag : BitVec 16 := BitVec.ofNat 16 (regOf k.x 4)
  if pl != 1 || a % 4096 != 0 || n < 1 || 262144 < n || 2 ^ 40 < a + 4096 * n || 2 ^ 16 ≤ regOf k.x 4 || !s.assignable tag then (s, 3)
  else
    let page (i : Nat) : Nat := a / 4096 + i
    if (List.range n).all (fun i => tagKind (s.tag (page i * 4096)) != 3 && fld (s.tag (page i * 4096)) 12 9 == s.dy.modnum &&
        s.homeServes (page i * 4096)) then
      ((List.range n).foldl (fun s i => s.retagPage (page i) tag) s, 0)
    else (s, 3)

def execAssignPages (core : Nat) (ins : Insn) (s : State) : Host.Outcome State Fault Refusal :=
  s.runIf (wfIns core ins 0o4012) (s.service core ins 2 (fun s pl => s.assign core pl))

/-- DELETE NOTICE: X2 := 1 while the calling tenant is DRAINING. Assumption 34 (DEDUCED). -/
def State.deleteNotice (s : State) (c pl : Nat) : State × Nat :=
  if pl != 2 then (s, 3)
  else
    let v := b2n ((s.tenant (s.core c).tenant).st == .draining)
    (s.modCore c (fun k => { k with x := setReg k.x 2 v }), 0)

def execDeleteNotice (core : Nat) (ins : Insn) (s : State) : Host.Outcome State Fault Refusal :=
  s.runIf (wfIns core ins 0o4012) (s.service core ins 3 (fun s pl => s.deleteNotice core pl))

/-! ## State-word loads (R49, R347) -/

def opBlock (h : Word) (level n : Nat) : OpCode :=
  { varOk := varOf h == 0, lenOk := lenOf h == 0, level := level, ops := [{ use := .s, ty := .block, n := n, aligned := true }] }

/-- Load SW and go on at `next`; `ic` is the IC that the heritage rule looks at. Assumption 25 (DEDUCED). -/
def Run.loadSW (r : Run) (sw : DWord) (ic next : Nat) : Except Stop Eff :=
  match r.start.swRefused r.start.pl sw ic with
  | some cls => .error (Stop.mk' cls 0 0)
  | none => .ok { r.eff [] sw with ic := next }

def execRti (core : Nat) (ins : Insn) (s : State) : Host.Outcome State Fault Refusal :=
  s.runIf (wfIns core ins 0o4020) (s.simple core ins (opBlock ins.hdr 2 4) (fun r =>
    r.loadSW (BitVec.ofNat 72 (r.val 0 / 2 ^ 72)) (r.val 0 % 2 ^ 48) (r.val 0 % 2 ^ 48)))

def opWait (h : Word) : OpCode :=
  { varOk := varOf h == 0, lenOk := lenOf h == 0, level := 2, ops := [{ use := .s, ty := .null, n := 0 }] }

/-- WAIT: Specification when external interruptions are not enabled. -/
def execWait (core : Nat) (ins : Insn) (s : State) : Host.Outcome State Fault Refusal :=
  s.runIf (wfIns core ins 0o4030) (s.instr core ins (opWait ins.hdr) (fun r =>
    if swIE r.sw then .ok ((r.finish (r.eff [] r.sw)).modCore core (fun k => { k with run := .waiting }))
    else .error (Stop.mk' 3 0 0)))

/-- One doubleword marked aligned. -/
def opDouble (h : Word) (u : Use) (level : Nat) (aligned : Bool) : OpCode :=
  { varOk := varOf h == 0, lenOk := lenOf h == 0, level := level, ops := [{ use := u, ty := .val, n := 2, aligned := aligned }] }

/-- LSW: IC is the address of its own header word (R48, R49). -/
def execLsw (core : Nat) (ins : Insn) (s : State) : Host.Outcome State Fault Refusal :=
  s.runIf (wfIns core ins 0o6050) (s.simple core ins (opDouble ins.hdr .s 2 true) (fun r =>
    r.loadSW (BitVec.ofNat 72 (r.val 0)) r.start.ic.toNat r.nextIC))

def execSsw (core : Nat) (ins : Insn) (s : State) : Host.Outcome State Fault Refusal :=
  s.runIf (wfIns core ins 0o6051) (s.simple core ins (opDouble ins.hdr .d 3 true) (fun r =>
    .ok (r.eff [(0, (setProgress r.sw false 0).toNat)] r.sw)))

/-- SPM: a reserved rounding direction raises Specification (R49). -/
def execSpm (core : Nat) (ins : Insn) (s : State) : Host.Outcome State Fault Refusal :=
  s.runIf (wfIns core ins 0o6052) (s.simple core ins (opDouble ins.hdr .s 3 true) (fun r =>
    let v : DWord := BitVec.ofNat 72 (r.val 0)
    if 4 < swRM v then .error (Stop.mk' 3 0 0)
    else .ok (r.eff [] ((r.sw &&& ~~~spmMask) ||| (v &&& spmMask)))))

/-! ## Clocks -/

/-- RCC: the cycle count, after the cycles since its last read. Assumption 3 (DESIGN CHOICE). -/
def execRcc (core : Nat) (ins : Insn) (s : State) : Host.Outcome State Fault Refusal :=
  s.runIf (wfIns core ins 0o6060) (s.instr core ins (opDouble ins.hdr .d 3 false) (fun r =>
    let (n, t) := r.s.tick
    let t := t.modCore core (fun k => { k with cycles := k.cycles + Config.elapsedCycles n })
    .ok (({ r with s := t } : Run).finish (r.eff [(0, (t.core core).cycles % 2 ^ 72)] r.sw))))

/-- RTD: the time of day. Assumption 3 (DESIGN CHOICE). -/
def execRtd (core : Nat) (ins : Insn) (s : State) : Host.Outcome State Fault Refusal :=
  s.runIf (wfIns core ins 0o6061) (s.instr core ins (opDouble ins.hdr .d 3 false) (fun r =>
    let (n, t) := r.s.now
    .ok (({ r with s := t } : Run).finish (r.eff [(0, n)] r.sw))))

end Sys2Proof.Machine
end

