-- ==== Sys2Proof/Machine/Long.lean ====
section
/-! DEFINITION. Long instructions: MVN, FLN and the string opcodes, unit by unit (R52, R54, R64-R67, R477). -/

namespace Sys2Proof.Machine

/-! ## Units -/

/-- The unit address of a character or bit string; octets and bits are checked against the end of the space. -/
def unitAddr (hm : Bool) (opn q a k : Nat) : Except Stop Nat :=
  let bad (va : Nat) : Except Stop Nat := .error (.exc { cls := 4, sub := 1, opn := opn, vaddr := va % 2 ^ 48, info := 0 })
  match q with
  | 9 => .ok ((a + k) % 2 ^ (if hm then 26 else 50))
  | 8 => if (if hm then 75497472 else 9 * 2 ^ 47) ≤ a + k then bad ((a + k) / 9 * 2) else .ok (a + k)
  | _ => if (if hm then 603979776 else 36 * 2 ^ 48) ≤ a + k then bad ((a + k) / 36) else .ok (a + k)

/-- The first word of a unit, and how many words hold it (R8, R9, Table 2.1). Assumption 29 (DEDUCED). -/
def unitWord (q u : Nat) : Nat × Nat :=
  match q with
  | 9 => (u / 4, 1)
  | 8 => (u / 9 * 2, 2)
  | _ => (u / 36, 1)

/-- Its lowest bit within those words. -/
def unitBit (q u : Nat) : Nat :=
  match q with
  | 9 => 27 - 9 * (u % 4)
  | 8 => 64 - 8 * (u % 9)
  | _ => 35 - u % 36

/-- A unit of a string, translated. -/
structure Unit_ where
  q : Nat
  low : Nat
  words : List (Nat × Nat)
deriving DecidableEq, Repr

/-- Place unit `k` of a string. -/
def State.unitAt (s : State) (c : Nat) (hm : Bool) (u : Use) (opn q a k : Nat) : Except Stop Unit_ :=
  match unitAddr hm opn q a k with
  | .error e => .error e
  | .ok n =>
    (s.placeWords c u.need opn hm (unitWord q n).2 (unitWord q n).1).map (fun ws => { q := q, low := unitBit q n, words := ws })

/-- The value of a unit. -/
def State.unitRd (s : State) (c : Nat) (u : Unit_) : Except Stop Nat :=
  (s.loadWords c u.words).map (fun ws => wordsVal ws / 2 ^ u.low % 2 ^ u.q)

/-- Store a unit under its mask; a word without a bit of it is not written. -/
def Core.unitWr (k : Core) (u : Unit_) (v : Nat) : Core :=
  let n := u.words.length
  let vs := valWords n (v * 2 ^ u.low)
  let ms := valWords n ((2 ^ u.q - 1) * 2 ^ u.low)
  (u.words.zip (vs.zip ms)).foldl (fun k p => if p.2.2 == 0 then k else k.pushCached p.1.1 p.2.1 p.2.2 p.1.2) k

/-- Unit `k` of a word or doubleword operand. -/
def Loc.unit (l : Loc) (hm : Bool) (n k : Nat) : Loc :=
  match l with
  | .mem a => .mem ((a + n * k) % 2 ^ aBits hm)
  | .real a => .real ((a + n * k) % 2 ^ 48)
  | .ctl a => .ctl ((a + n * k) % 2 ^ 48)
  | .io a => .io ((a + n * k) % 2 ^ 48)
  | l => l

/-- Place unit `k` of a word or doubleword operand. -/
def State.wordUnit (s : State) (c : Nat) (hm : Bool) (o : OpSpec) (opn k : Nat) (l : Loc) : Except Stop Placed :=
  let l := l.unit hm o.n k
  (s.placeOp c hm o.use o.n opn l).map (fun ws => { spec := o, loc := l, opn := opn, words := ws })

/-! ## The loop (R65, R66, R477) -/

/-- A long instruction with its operands formed. -/
structure Long where
  c : Nat
  hdr : Word
  hm : Bool
  start : Core
  locs : List Loc
  /-- registers with the updates to apply at completion -/
  x : Vector DWord 16
  /-- N -/
  n : Nat
  /-- the value of operand A that fills every unit -/
  val : Nat
deriving DecidableEq, Repr

def Long.loc (l : Long) (i : Nat) : Loc := l.locs.getD i .none_

/-- Why the loop ended. -/
inductive LongEnd where
  | all
  /-- the first difference or character: its code -/
  | hit (code : Nat)
  | failed (e : Stop)
  /-- the core has replayed, and the instruction is discarded with what it did -/
  | gone
deriving DecidableEq, Repr

structure LongRes where
  s : State
  k : Nat
  flag : Bool
  fin : LongEnd

/-- The state word of a long instruction stopped at unit `k`; NTO with CS keeps its condition in CC (R65, R477). -/
def Long.stoppedSW (l : Long) (nto : Bool) (k : Nat) (flag : Bool) (sw : DWord) : DWord :=
  setCCIf (setProgress sw true k) (nto && hdrCS l.hdr) (if flag then 3 else 0)

/-- The checkpoint of the instruction boundary before unit `k` (R197, R477). -/
def Long.boundary (l : Long) (nto : Bool) (k : Nat) (flag : Bool) (c : Core) : Checkpoint :=
  { c.checkpoint with sw := if k == 0 && !swPA l.start.sw then c.sw else l.stoppedSW nto k flag c.sw }

/-- A unit's loads use the caches, and are exposed before its stores enter the buffer (R108, R126). -/
def State.bindLoads (s : State) (c : Nat) (ck : Checkpoint) (lines : List Nat) : Except Stop State :=
  match s.useLoads c false lines with
  | .error n => .error (.noWay n)
  | .ok s => .ok (s.modCore c (fun k => k.expose ck lines))

/-- Try a unit until it is done or waits for what does not come now. -/
def unitTry (c : Nat) (u : State → Except Stop (State × Nat)) : Nat → State → State × Except Stop (State × Nat)
  | 0, s => (s, .error .older)
  | n + 1, s =>
    let fails (e : Stop) : State × Except Stop (State × Nat) :=
      let (t, again) := s.resolve c e
      if again then unitTry c u n t else (t, .error e)
    match u s with
    | .error e => fails e
    | .ok (t, code) => if (t.core c).fits then (s, .ok (t, code)) else fails .full

/-- A unit boundary of a long instruction: the slot takes the checkpoint of that boundary (R197). -/
def Core.unitBoundary (k : Core) (ck : Checkpoint) : Core :=
  let k := { k with seq := k.seq + 1, ioHeld := [], dp := k.dp.boundary }
  { k with slots := k.slots.save ck }

/-- Run up to `fuel` units from unit `k`, each with the checkpoint of the boundary before it. A unit's code: 0 none, 1 or 2
a hit, 3 a nonet with bit 8 set. Assumptions 27 (DEDUCED) and 31 (DESIGN CHOICE). -/
def longLoop (c : Nat) (ckOf : Nat → Bool → Core → Checkpoint) (unit : Checkpoint → State → Nat → Except Stop (State × Nat)) :
    Nat → State → Nat → Bool → LongRes
  | 0, s, k, flag => { s := s, k := k, flag := flag, fin := .all }
  | fuel + 1, s, k, flag =>
    match unitTry c (fun s => unit (ckOf k flag (s.core c)) s k) 128 s with
    | (t, .error e) =>
      { s := t, k := k, flag := flag, fin := if (t.core c).seq == (s.core c).seq then .failed e else .gone }
    | (_, .ok (t, code)) =>
      if code == 1 || code == 2 then { s := t, k := k, flag := flag, fin := .hit code }
      else
        let t := t.modCore c (fun x => x.unitBoundary (ckOf (k + 1) (flag || code == 3) x))
        longLoop c ckOf unit fuel t (k + 1) (flag || code == 3)

/-- The progress that a stopped instruction leaves. A stop before any unit is done, in an instruction that did not start
with SW.PA = 1, leaves none, but for one after a hit at unit 0 (R65, R477). Assumption 31 (DESIGN CHOICE). -/
def State.progress (s : State) (l : Long) (nto : Bool) (k : Nat) (flag hit : Bool) : State :=
  if k == 0 && !swPA l.start.sw && !hit then s
  else s.modCore l.c (fun x => { x with sw := l.stoppedSW nto k flag x.sw })

/-- Complete: register updates, then results in registers, CC, and no progress. -/
def State.longDone (s : State) (l : Long) (len : Nat) (res : List (Nat × Nat)) (cc : Option Nat) : State :=
  s.modCore l.c (fun k =>
    let sw := setProgress k.sw false 0
    let sw := match cc with
      | some v => setFld sw 63 62 v
      | none => sw
    let k := { k with x := res.foldl (fun (x : Vector DWord 16) (r : Nat × Nat) => setReg x r.1 r.2) l.x, sw := sw,
                      ic := BitVec.ofNat 48 ((l.start.ic.toNat + len) % 2 ^ aBits l.hm) }
    k.retire l.start.checkpoint [])

/-- What a long instruction's completion reports: the hit, or none, at a unit; the condition of NTO. -/
structure LongFin where
  hit : Option (Nat × Nat)
  flag : Bool
deriving DecidableEq, Repr

/-- The virtual addresses its first unit touches, for the translation caches. Assumption 29 (DEDUCED). -/
def Long.vas (l : Long) : List Nat :=
  l.locs.filterMap (fun x => match x with
    | .mem a => some a
    | .io a => some a
    | .chr q a => some (unitWord q a).1
    | _ => none)

/-- Operand A's one value, read before the first unit: of FLN, which fills every unit with it (R56). -/
def State.longValue (s : State) (l : Long) (pre : Option OpSpec) (ck : Checkpoint) : Except Stop (State × Nat) :=
  match pre with
  | none => .ok (s, 0)
  | some o =>
    match s.wordUnit l.c l.hm o 1 0 (l.loc 0) with
    | .error e => .error e
    | .ok a =>
      match s.readOp l.c l.x a with
      | .error e => .error e
      | .ok (v, t) => (t.bindLoads l.c ck a.loadLines).map (fun t => (t, v))

/-- The end of a command of a long instruction. -/
def State.longEnd (s : State) (l : Long) (ins : Insn) (o : OpCode) (nto : Bool) (bound : Nat) (r : LongRes)
    (fin : Long → LongFin → List (Nat × Nat) × Option Nat) : State :=
  let finish (h : Option (Nat × Nat)) : State :=
    let (res, cc) := fin l { hit := h, flag := r.flag }
    s.longDone l o.words res cc
  match r.fin with
  | .gone => s
  | .all => if r.k == l.n then finish none else (s.progress l nto r.k r.flag false).external l.c
  | .hit code =>
    if swCT l.start.sw && bound < l.n then (s.progress l nto r.k r.flag true).external l.c else finish (some (r.k, code))
  | .failed (.noWay n) => s.stopped l.c ins o.words (.noWay n)
  | .failed e => (s.progress l nto r.k r.flag false).stopped l.c ins o.words e

/-- One command of a long instruction: `unit` does a unit, `fin` gives register results and CC at completion. It stops
where the command says, and within 256 units of its beginning where an enabled interruption is pending, which it then
takes (R65). Assumptions 27 (DEDUCED) and 31 (DESIGN CHOICE). -/
def State.longRun (s : State) (c : Nat) (ins : Insn) (stop : Option Nat) (o : OpCode) (nto : Bool) (pre : Option OpSpec)
    (unit : Long → Checkpoint → State → Nat → Except Stop (State × Nat))
    (fin : Long → LongFin → List (Nat × Nat) × Option Nat) (ls : List Loc) (f : Form) (n : Nat) : State :=
  let k := s.core c
  let l : Long := { c := c, hdr := ins.hdr, hm := k.hm, start := k, locs := ls, x := f.x, n := n, val := 0 }
  let first := if swPA k.sw then swPCNT k.sw else 0
  let bound := min n (stop.getD n)
  let bound := if (s.bandTaken c).isSome then min bound (first + 256) else bound
  if bound ≤ first && first < n then s
  else
    let flag := nto && hdrCS ins.hdr && swPA k.sw && k.cc == 3
    let r : LongRes :=
      match if n == first then (s, .ok (s, 0)) else unitTry c (fun s => s.longValue l pre (l.boundary nto first flag (s.core c))) 128 s with
      | (t, .error e) => { s := t, k := first, flag := flag, fin := if (t.core c).seq == k.seq then .failed e else .gone }
      | (_, .ok (t, v)) => longLoop c (l.boundary nto) (unit { l with val := v }) (bound - first) t first flag
    let t := if r.fin == .gone then r.s else (r.s.installAll k.party c (f.vas ++ l.vas)).usePasses c
    t.longEnd l ins o nto bound r fin

/-- The tries at decoding a long instruction, before its units. -/
def State.longTry (c : Nat) (ins : Insn) (o : OpCode) (go : State → List Loc → Form → Nat → State) : Nat → State → State
  | 0, s => s
  | n + 1, s =>
    let fails (e : Stop) (len : Nat) : State :=
      let (t, again) := s.resolve c e
      if again then State.longTry c ins o go n t
      else if (t.core c).seq == (s.core c).seq then t.stopped c ins len e else t
    match s.decodeInsn c ins o with
    | .error (e, len) => fails e len
    | .ok (ls, f) =>
      match countOf ins.hdr (s.core c).x, s.useLoads c true f.fetch with
      | .error e, _ => fails e o.words
      | .ok _, .error l => fails (.noWay l) o.words
      | .ok m, .ok s => go s ls f m

def State.long (s : State) (c : Nat) (ins : Insn) (stop : Option Nat) (o : OpCode) (nto : Bool) (pre : Option OpSpec)
    (unit : Long → Checkpoint → State → Nat → Except Stop (State × Nat))
    (fin : Long → LongFin → List (Nat × Nat) × Option Nat) : State :=
  if !s.goes c then s else
  let (s, ok) := s.beforeInstr c
  if !ok then s else
  (State.longTry c ins o (fun s ls f n => s.longRun c ins stop o nto pre unit fin ls f n) 128 s.tick.2).deliverChecks c

/-! ## Instructions -/

def opLong (h : Word) (dw cs : Bool) (ops : List OpSpec) : OpCode :=
  { dw := dw, cs := cs, count := true, long := true, varOk := countVarOk h, ops := ops }

def noResult (_ : Long) (_ : LongFin) : List (Nat × Nat) × Option Nat := ([], none)

/-- A unit in control space or I/O space waits for every older access (R121). -/
def Loc.device : Loc → Bool
  | .ctl _ => true
  | .io _ => true
  | _ => false

/-- B[k] := A[k]. -/
def mvnUnit (h : Word) (l : Long) (ck : Checkpoint) (s : State) (k : Nat) : Except Stop (State × Nat) :=
  let n := dwWords h
  match s.wordUnit l.c l.hm { use := .s, ty := .movn, n := n } 1 k (l.loc 0) with
  | .error e => .error e
  | .ok a =>
    match s.wordUnit l.c l.hm { use := .d, ty := .movn, n := n } 2 k (l.loc 1) with
    | .error e => .error e
    | .ok b =>
      if (l.loc 0).device && !(s.core l.c).sb.isEmpty then .error .older else
      match s.readOp l.c l.x a with
      | .error e => .error e
      | .ok (v, s) => (s.bindLoads l.c ck a.loadLines).map (fun s => (s.modCore l.c (fun c => c.writeOp b v), 0))

def State.mvn (s : State) (core : Nat) (ins : Insn) (stop : Option Nat) : State :=
  let n := dwWords ins.hdr
  s.long core ins stop (opLong ins.hdr true false [{ use := .s, ty := .movn, n := n }, { use := .d, ty := .movn, n := n }])
    false none (mvnUnit ins.hdr) noResult

def execMvn (core : Nat) (ins : Insn) (stop : Option Nat) (s : State) : Host.Outcome State Fault Refusal :=
  s.runIf (wfIns core ins 0o20) (s.mvn core ins stop)

/-- B[k] := A, whose one value fills every unit. -/
def flnUnit (h : Word) (l : Long) (_ : Checkpoint) (s : State) (k : Nat) : Except Stop (State × Nat) :=
  (s.wordUnit l.c l.hm { use := .d, ty := .fill, n := dwWords h } 2 k (l.loc 1)).map (fun b =>
    (s.modCore l.c (fun c => c.writeOp b l.val), 0))

def execFln (core : Nat) (ins : Insn) (stop : Option Nat) (s : State) : Host.Outcome State Fault Refusal :=
  let n := dwWords ins.hdr
  s.runIf (wfIns core ins 0o21) (s.long core ins stop
    (opLong ins.hdr true false [srcOp n, { use := .d, ty := .fill, n := n }]) false (some (srcOp n)) (flnUnit ins.hdr) noResult)

/-- A string operand, and one in the character mode of A (R64). -/
def strOp (u : Use) : OpSpec := { use := u, ty := .str, n := 1 }
def sameOp (u : Use) (ins : Insn) : OpSpec := { use := u, ty := .chr (dMode ins.a), n := 1 }
def chrOp (u : Use) (m : Nat) : OpSpec := { use := u, ty := .chr m, n := 1 }
def bitsOp (u : Use) : OpSpec := { use := u, ty := .bits, n := 1 }
def tableOp : OpSpec := { use := .s, ty := .fill, n := 1 }

/-- Unit `k` of string operand `i`. -/
def Long.strUnit (l : Long) (s : State) (u : Use) (i k : Nat) : Except Stop Unit_ :=
  match l.loc i with
  | .chr q a => s.unitAt l.c l.hm u (i + 1) q a k
  | _ => .error (Stop.mk' 1 7 (i + 1))

/-- B[k] := f (A[k]), with a code for the value read. -/
def copyUnit (f : Nat → Nat) (code : Nat → Nat) (l : Long) (ck : Checkpoint) (s : State) (k : Nat) : Except Stop (State × Nat) :=
  match l.strUnit s .s 0 k with
  | .error e => .error e
  | .ok a =>
    match l.strUnit s .d 1 k with
    | .error e => .error e
    | .ok b =>
      match s.unitRd l.c a with
      | .error e => .error e
      | .ok v => (s.bindLoads l.c ck (atomLines a.words)).map (fun s => (s.modCore l.c (fun c => c.unitWr b (f v)), code v))

def execMvc (core : Nat) (ins : Insn) (stop : Option Nat) (s : State) : Host.Outcome State Fault Refusal :=
  s.runIf (wfIns core ins 0o5000) (s.long core ins stop (opLong ins.hdr false false [strOp .s, sameOp .d ins]) false none
    (copyUnit id (fun _ => 0)) noResult)

/-- CPC: 1 when A is lower, 2 when it is higher. Assumption 28 (DEDUCED). -/
def cpcUnit (l : Long) (ck : Checkpoint) (s : State) (k : Nat) : Except Stop (State × Nat) :=
  match l.strUnit s .s 0 k with
  | .error e => .error e
  | .ok a =>
    match l.strUnit s .s 1 k with
    | .error e => .error e
    | .ok b =>
      match s.unitRd l.c a with
      | .error e => .error e
      | .ok v =>
        match s.unitRd l.c b with
        | .error e => .error e
        | .ok w => (s.bindLoads l.c ck (atomLines a.words ++ atomLines b.words)).map (fun s => (s, ccOrder v w))

/-- Assumption 28 (DEDUCED). -/
def execCpc (core : Nat) (ins : Insn) (stop : Option Nat) (s : State) : Host.Outcome State Fault Refusal :=
  s.runIf (wfIns core ins 0o5001) (s.long core ins stop (opLong ins.hdr false false [strOp .s, sameOp .s ins]) false none cpcUnit
    (fun _ x => ([], some (match x.hit with
      | some (_, code) => code
      | none => 0))))

/-- A word of the table operand B, and the line of its load. -/
def Long.tableWord (l : Long) (s : State) (i : Nat) : Except Stop (Word × List Nat) :=
  match s.placeOp l.c l.hm .s 1 2 ((l.loc 1).unit l.hm 1 i) with
  | .error e => .error e
  | .ok ws => (s.loadWords l.c ws).map (fun l => (wordAt l 0, atomLines ws))

/-- TRC: C[k] := the low bits of word B + A[k]. -/
def trcUnit (l : Long) (ck : Checkpoint) (s : State) (k : Nat) : Except Stop (State × Nat) :=
  match l.strUnit s .s 0 k with
  | .error e => .error e
  | .ok a =>
    match s.unitRd l.c a with
    | .error e => .error e
    | .ok v =>
      match l.tableWord s v with
      | .error e => .error e
      | .ok (w, ls) =>
        match l.strUnit s .d 2 k with
        | .error e => .error e
        | .ok c => (s.bindLoads l.c ck (atomLines a.words ++ ls)).map (fun s =>
            (s.modCore l.c (fun x => x.unitWr c (w.toNat % 2 ^ c.q)), 0))

def execTrc (core : Nat) (ins : Insn) (stop : Option Nat) (s : State) : Host.Outcome State Fault Refusal :=
  s.runIf (wfIns core ins 0o5002) (s.long core ins stop
    (opLong ins.hdr false false [strOp .s, tableOp, sameOp .d ins]) false none trcUnit noResult)

/-- SCN: the bit with bit address A[k] in the table at word B. Assumption 28 (DEDUCED). -/
def scnUnit (l : Long) (ck : Checkpoint) (s : State) (k : Nat) : Except Stop (State × Nat) :=
  match l.strUnit s .s 0 k with
  | .error e => .error e
  | .ok a =>
    match s.unitRd l.c a with
    | .error e => .error e
    | .ok v =>
      match l.tableWord s (v / 36) with
      | .error e => .error e
      | .ok (w, ls) => (s.bindLoads l.c ck (atomLines a.words ++ ls)).map (fun s => (s, if bit w (35 - v % 36) then 2 else 0))

/-- Assumption 28 (DEDUCED). -/
def execScn (core : Nat) (ins : Insn) (stop : Option Nat) (s : State) : Host.Outcome State Fault Refusal :=
  s.runIf (wfIns core ins 0o5003) (s.long core ins stop
    (opLong ins.hdr false true [strOp .s, tableOp, { use := .d, ty := .reg, n := 2 }]) false none scnUnit
    (fun l x => ([(dBS ins.c, match x.hit with
      | some (k, _) => k
      | none => l.n)],
      if hdrCS l.hdr then some (if x.hit.isSome then 2 else 0) else none)))

/-- FLC: the value of A must fit a character of B, and fills every unit (R64). -/
def flcUnit (l : Long) (_ : Checkpoint) (s : State) (k : Nat) : Except Stop (State × Nat) :=
  match l.strUnit s .d 1 k with
  | .error e => .error e
  | .ok b =>
    match l.loc 0 with
    | .imm v => if 2 ^ b.q ≤ v then .error (Stop.mk' 3 0 1) else .ok (s.modCore l.c (fun c => c.unitWr b v), 0)
    | _ => .error (Stop.mk' 1 7 1)

/-- Assumptions 25 (DEDUCED) and 27 (DEDUCED). -/
def execFlc (core : Nat) (ins : Insn) (stop : Option Nat) (s : State) : Host.Outcome State Fault Refusal :=
  s.runIf (wfIns core ins 0o5004) (s.long core ins stop
    (opLong ins.hdr false false [{ use := .s, ty := .imm, n := 1 }, strOp .d]) false none flcUnit noResult)

def execNto (core : Nat) (ins : Insn) (stop : Option Nat) (s : State) : Host.Outcome State Fault Refusal :=
  s.runIf (wfIns core ins 0o5010) (s.long core ins stop
    (opLong ins.hdr false true [chrOp .s 0o27, chrOp .d 0o30]) true none (copyUnit (· % 256) (fun v => if 256 ≤ v then 3 else 0))
    (fun l x => ([], if hdrCS l.hdr then some (if x.flag then 3 else 0) else none)))

def execOtn (core : Nat) (ins : Insn) (stop : Option Nat) (s : State) : Host.Outcome State Fault Refusal :=
  s.runIf (wfIns core ins 0o5011) (s.long core ins stop
    (opLong ins.hdr false false [chrOp .s 0o30, chrOp .d 0o27]) false none (copyUnit id (fun _ => 0)) noResult)

def execMvb (core : Nat) (ins : Insn) (stop : Option Nat) (s : State) : Host.Outcome State Fault Refusal :=
  s.runIf (wfIns core ins 0o5020) (s.long core ins stop (opLong ins.hdr false false [bitsOp .s, bitsOp .d]) false none
    (copyUnit id (fun _ => 0)) noResult)

/-! ## I/O-space loads (R245) -/

/-- The instruction that waited for an I/O-space load is executed again, with the data that has returned. In a takeover the
core holds the data until it is executed again (R198). -/
def State.resumeIo (s : State) (c : Nat) (l : IoLoad) (data : DWord) : State :=
  let s := s.modCore c (fun k => { k with run := .running, ioHeld := k.ioHeld ++ [(l.addr, data)] })
  if opcOf l.ins == 0o20 then s.mvn c l.ins none else s.mvw c l.ins

/-- A load without data: a contained machine check with the load's address (Table 13.3). -/
def State.ioFails (s : State) (c : Nat) (l : IoLoad) : State :=
  let s := s.modCore c (fun k => { k with run := .running, ioHeld := [] })
  (s.addCheck c { cls := 0o40, level := takenAt 0o40 (s.core c).pl, tenant := (s.core c).tenant, sub := 2,
                  info := l.vaddr % 2 ^ 48 }).deliverChecks c

def execIoLoadCompletion (core status : Nat) (data : DWord) (s : State) : Host.Outcome State Fault Refusal :=
  s.runIf (wfCore core) (match (s.core core).run with
    | .ioLoad l =>
      if status != 0 then s.ioFails core l
      else if s.inTakeover core then s.modCore core (fun k => { k with run := .running, ioHeld := k.ioHeld ++ [(l.addr, data)] })
      else s.resumeIo core l data
    | _ => s)

def execIoLoadTimeout (core : Nat) (s : State) : Host.Outcome State Fault Refusal :=
  s.runIf (wfCore core) (match (s.core core).run with
    | .ioLoad l => s.ioFails core l
    | _ => s)

end Sys2Proof.Machine
end

