-- ==== Sys2Proof/Machine/Cache.lean ====
section
/-! DEFINITION. BARRIER, CACHE CONTROL, LINE MAINTENANCE and PURGE TRANSLATION (R123, R129-R140, R166, R352, R353). -/

namespace Sys2Proof.Machine

/-! ## BARRIER -/

def opNull (h : Word) : OpCode :=
  { varOk := varOf h == 0, lenOk := lenOf h == 0, ops := [{ use := .s, ty := .null, n := 0 }] }

/-- BARRIER completes when every older access has been performed. -/
def execBar (core : Nat) (ins : Insn) (s : State) : Host.Outcome State Fault Refusal :=
  s.runIf (wfIns core ins 0o6000) (s.drained core (fun s => s.simple core ins (opNull ins.hdr) (fun r => .ok (r.eff [] r.sw))))

/-! ## CACHE CONTROL (R132-R137) -/

/-- The caches of Table 4.7. -/
inductive CacheId where
  | l1i | l1d | l2 | l3
deriving DecidableEq, Repr

def cacheId (v : Nat) : CacheId :=
  match v / 16 with
  | 1 => .l1i
  | 2 => .l1d
  | 3 => .l2
  | _ => .l3

def cctOk (v : Nat) : Bool := 1 ≤ v / 16 && v / 16 ≤ 4 && v % 16 ≤ 3

/-- Logical cores whose site lies in a tile. -/
def State.coresOfTile (s : State) (t : Nat) : List Nat :=
  (List.range 100 ++ [126]).filter (fun c => (c == 126 || s.bound c) && s.tileOf c == t)

def CacheId.code : CacheId → Nat
  | .l1i => 0
  | .l1d => 1
  | .l2 => 2
  | .l3 => 3

/-- The key of a cache of core or tile `n`. -/
def cacheKey (i : CacheId) (n : Nat) : Nat := 256 * i.code + n

/-- The caches that an action on one changes: a DISABLE also those below it (R134). -/
def State.covered (s : State) (i : CacheId) (n : Nat) (disable : Bool) : List Nat :=
  let core (c : Nat) : List Nat := [cacheKey .l1i c, cacheKey .l1d c, cacheKey .l2 c]
  if !disable then [cacheKey i n] else
  match i with
  | .l1i => [cacheKey i n]
  | .l1d => [cacheKey i n]
  | .l2 => core n
  | .l3 => cacheKey i n :: (s.coresOfTile n).flatMap core

/-- A cache serves another core's action (R137). -/
def State.cacheBusy (s : State) (c : Nat) (keys : List Nat) : Bool :=
  s.cc.acting.any (fun e => keys.contains e.1 && e.2 != c)

/-- The caches serve this core's action. -/
def State.cacheServes (s : State) (c : Nat) (keys : List Nat) : State :=
  { s with cc := { s.cc with acting := keys.foldl (fun t k => tput t 1000 k c) s.cc.acting } }

/-- A core's action is complete. -/
def State.cacheFree (s : State) (c : Nat) : State :=
  { s with cc := { s.cc with acting := s.cc.acting.filter (fun e => e.2 != c) } }

/-- A core's L2 gives up every line, its L1s with it: exposed loads replay and the reservation is lost (R110, R119). -/
def State.l2Leaves (s : State) (c : Nat) : State :=
  (s.modCore c (fun k => k.invalidated (fun _ => true))).endReservation c

/-- A cache that is ENABLED reads DISABLING. -/
def CacheState.begins (v : CacheState) : CacheState := if v == .enabled then .disabling else v

/-- A core's L2 and L1s begin to be disabled: the reservation is lost (R119, R134). -/
def State.l2Begins (s : State) (c : Nat) : State :=
  let was := s.core c
  (s.endReservation c).modCore c (fun k => { k with l1i := was.l1i.begins, l1d := was.l1d.begins, l2 := was.l2.begins })

/-- A core's L1s have been walked. -/
def State.l1Walked (s : State) (c : Nat) : State :=
  s.modCore c (fun k => { k with l1i := .disabled, l1d := .disabled, tagsI := .empty, tagsD := .empty })

/-- A core's L2 has been walked: its lines are gone, and its locks end (R130, R133). -/
def State.l2Walked (s : State) (c : Nat) : State :=
  (s.l2Leaves c).modCore c (fun k => { k with l2 := .disabled, locks := [] })

def State.setL3 (s : State) (t : Nat) (v : CacheState) : State :=
  { s with cc := { s.cc with l3 := tput s.cc.l3 .enabled t v } }

def State.l3 (s : State) (t : Nat) : CacheState := tget s.cc.l3 .enabled t

/-- A walk of a tile's L3 gives its lines to their homes (R133, R135). -/
def State.l3Empty (s : State) (t : Nat) : State := ((s.tileLines t).foldl (fun s l => s.evict t l) s).pump

/-- A step of the walk of DISABLE, and whether the action is complete. What the next step needs is awaited: L1s before
the L2, the L2s before the L3, and the acceptance of the L3's write-backs (R133, R134). Assumption 36 (DEDUCED). -/
def State.disableStep (s : State) (i : CacheId) (n : Nat) : State × Bool :=
  match i with
  | .l1i =>
    match (s.core n).l1i with
    | .enabled => (s.modCore n (fun k => { k with l1i := .disabling }), false)
    | _ => (s.modCore n (fun k => { k with l1i := .disabled, tagsI := .empty }), true)
  | .l1d =>
    match (s.core n).l1d with
    | .enabled => ((s.endReservation n).modCore n (fun k => { k with l1d := .disabling }), false)
    | _ => (s.modCore n (fun k => { k with l1d := .disabled, tagsD := .empty }), true)
  | .l2 =>
    match (s.core n).l2 with
    | .enabled => (s.l2Begins n, false)
    | .disabling => if (s.core n).l1d != .disabled || (s.core n).l1i != .disabled then (s.l1Walked n, false) else (s.l2Walked n, true)
    | .disabled => (s, true)
  | .l3 =>
    let cs := s.coresOfTile n
    match s.l3 n with
    | .enabled => ((cs.foldl (fun s c => s.l2Begins c) s).setL3 n .disabling, false)
    | .disabling =>
      if cs.any (fun c => (s.core c).l1d != .disabled || (s.core c).l1i != .disabled) then
        (cs.foldl (fun s c => s.l1Walked c) s, false)
      else if cs.any (fun c => (s.core c).l2 != .disabled) then (cs.foldl (fun s c => s.l2Walked c) s, false)
      else
        let s := s.l3Empty n
        if (s.tileLines n).isEmpty then (s.setL3 n .disabled, true) else (s, false)
    | .disabled => (s, true)

/-- The state of a cache's next level (R134). -/
def State.nextLevel (s : State) (i : CacheId) (n : Nat) : CacheState :=
  match i with
  | .l1i => (s.core n).l2
  | .l1d => (s.core n).l2
  | .l2 => s.l3 (s.tileOf n)
  | .l3 => .enabled

/-- A DISABLED cache becomes ENABLED and empty; an ENABLED one is unchanged. -/
def State.cacheEnable (s : State) (i : CacheId) (n : Nat) : State :=
  match i with
  | .l1i => s.modCore n (fun k => { k with l1i := .enabled })
  | .l1d => s.modCore n (fun k => { k with l1d := .enabled })
  | .l2 => s.modCore n (fun k => { k with l2 := .enabled })
  | .l3 => s.setL3 n .enabled

/-- The walk of CLEAN ALL, and with `inv` of CLEAN AND INVALIDATE ALL (R135): an L2 leaves its data in the L3, an L3 writes
it to the homes. -/
def State.cleanWalk (s : State) (i : CacheId) (n : Nat) (inv : Bool) : State :=
  match i with
  | .l1i => if inv then s.modCore n (fun k => { k with tagsI := .empty }) else s
  | .l1d => if inv then s.modCore n (fun k => { k with tagsD := .empty }) else s
  | .l2 => if inv then s.l2Leaves n
      else s.modCore n (fun k => { k with tags2 := { k.tags2 with lines := k.tags2.lines.map (fun x => { x with dirty := false }) } })
  | .l3 => if inv then s.l3Empty n else ((s.tileLines n).foldl (fun s l => s.cleanAt n l) s).pump

/-- The write-backs of a tile's walk are still to be accepted, or its cleaned lines to come back. -/
def State.walkWaits (s : State) (i : CacheId) (n : Nat) : Bool :=
  i == .l3 && s.dy.tiles.any (fun e => e.1 / 2 ^ 36 == n && (e.2.keep || e.2.st == .miS))

/-- A step of CLEAN ALL or CLEAN AND INVALIDATE ALL: the walk is made once, when the action begins to be served. -/
def State.cleanStep (s : State) (c : Nat) (i : CacheId) (n : Nat) (inv : Bool) : State × Bool :=
  let begun := s.cc.acting.any (fun e => e.1 == cacheKey i n && e.2 == c)
  let s := if begun then s else s.cleanWalk i n inv
  (s, !s.walkWaits i n)

def opCct (h : Word) : OpCode :=
  { varOk := cctOk (varOf h), lenOk := lenOf h == 0, level := 1, ops := [srcOp 1] }

/-- The operand names a core (a tile for L3), or Specification is raised (R132). -/
def cctTarget (s : State) (i : CacheId) (v : Nat) : Option Nat :=
  if i == .l3 then (if v < 4 then some v else none)
  else if v < 512 && v < s.sp.configured then some v else none

/-- A CACHE CONTROL action, after the core's older accesses are performed: it waits while a cache it changes serves
another core's action, and it goes on step by step while it is sent again (R137). Assumptions 25 (DEDUCED) and 36
(DEDUCED). -/
def State.cct (s : State) (core : Nat) (ins : Insn) (disable : Bool)
    (act : State → CacheId → Nat → Except Stop (State × Bool)) : State :=
  s.drained core (fun s => s.instr core ins (opCct ins.hdr) (fun r =>
    let i := cacheId (varOf r.hdr)
    match cctTarget r.s i (r.val 0) with
    | none => .error (Stop.mk' 3 0 1)
    | some n =>
      let keys := r.s.covered i n disable
      if r.s.cacheBusy r.c keys then .ok r.s else
      (act r.s i n).map (fun t =>
        if t.2 then (({ r with s := t.1 } : Run).finish (r.eff [] r.sw)).cacheFree r.c else t.1.cacheServes r.c keys)))

/-- ENABLE: Specification when the next level is not ENABLED. -/
def execEnable (core : Nat) (ins : Insn) (s : State) : Host.Outcome State Fault Refusal :=
  s.runIf (wfCct core ins 0) (s.cct core ins false (fun s i n =>
    if s.nextLevel i n != .enabled then .error (Stop.mk' 3 0 0) else .ok (s.cacheEnable i n, true)))

def execDisable (core : Nat) (ins : Insn) (s : State) : Host.Outcome State Fault Refusal :=
  s.runIf (wfCct core ins 1) (s.cct core ins true (fun s i n => .ok (s.disableStep i n)))

def execCleanAll (core : Nat) (ins : Insn) (s : State) : Host.Outcome State Fault Refusal :=
  s.runIf (wfCct core ins 2) (s.cct core ins false (fun s i n => .ok (s.cleanStep core i n false)))

def execCleanAndInvalidateAll (core : Nat) (ins : Insn) (s : State) : Host.Outcome State Fault Refusal :=
  s.runIf (wfCct core ins 3) (s.cct core ins false (fun s i n => .ok (s.cleanStep core i n true)))

/-! ## LINE MAINTENANCE (R138-R140) -/

/-- The lowest level of a variant (Table 4.9). -/
def lnmLevel (v : Nat) : Nat := if v == 7 then 1 else if v == 5 || v == 6 then 2 else 3

def opLnm (h : Word) : OpCode :=
  { varOk := varOf h < 8, lenOk := lenOf h == 0, level := lnmLevel (varOf h),
    ops := [{ use := .t, ty := if varOf h == 7 then .null else .line, n := 1 }] }

/-- The line of the target address, with the right checked; a preload of a poisoned line is a machine check (R178). -/
def Run.lnmLine (r : Run) (nd : Need) (preload : Bool) : Except Stop Nat :=
  let a := r.target 0
  let ra := match r.ops[0]? with
    | some p => (match p.loc with
      | .real a => r.s.xreal r.c { nd with r := false } 1 a
      | _ =>
        match r.s.translate (r.s.core r.c).party r.c nd a with
        | .error f => .error (Stop.ofX 1 a f)
        | .ok x => if r.s.homeServes x.ra then .ok x.ra else .error (Stop.check 3 a))
    | none => .error (Stop.mk' 1 7 1)
  match ra with
  | .error e => .error e
  | .ok x => if preload && r.s.poisoned (lineOf x) then .error (Stop.check 5 a) else .ok (lineOf x)

/-- Complete an LNM with its address installed. -/
def Run.lnmDone (r : Run) (s : State) : State :=
  ({ r with s := s, vas := r.vas ++ [r.target 0] } : Run).finish (r.eff [] r.sw)

/-- A variant that enters the store buffer as a maintenance entry (R139). -/
def State.lnmStore (s : State) (core : Nat) (ins : Insn) (nd : Need) (kind : SbKind) (ws : List (Nat × Word)) : State :=
  s.instr core ins (opLnm ins.hdr) (fun r =>
    (r.lnmLine nd false).map (fun line =>
      r.lnmDone (r.s.modCore r.c (fun k => k.pushAlone kind line false (r.target 0) ws))))

/-- A variant performed as a load: `f` has the line and acts once it is at hand. -/
def State.lnmLoad (s : State) (core : Nat) (ins : Insn) (nd : Need) (preload : Bool)
    (f : Run → Nat → Except Stop State) : State :=
  s.instr core ins (opLnm ins.hdr) (fun r =>
    match r.lnmLine nd preload with
    | .error e => .error e
    | .ok line => (f r line).map (fun t => r.lnmDone t))

/-- The row is the one its VAR names; a reserved VAR is Reserved Operation in every row. -/
def execCleanLine (core : Nat) (ins : Insn) (s : State) : Host.Outcome State Fault Refusal :=
  s.runIf (wfVar core ins 0o6002 8 0) (s.lnmStore core ins Need.load .cleanLine [(0, 0)])

def execInvalidateLine (core : Nat) (ins : Insn) (s : State) : Host.Outcome State Fault Refusal :=
  s.runIf (wfVar core ins 0o6002 8 1) (s.lnmStore core ins Need.load .invalidateLine [(0, 0)])

def execZeroLine (core : Nat) (ins : Insn) (s : State) : Host.Outcome State Fault Refusal :=
  s.runIf (wfVar core ins 0o6002 8 2) (s.lnmStore core ins Need.store .zeroLine ((List.range 16).map (fun i => (i, 0))))

/-- The line is in the tile for a load and is filled into the L2, or is asked for (R139). -/
def Run.preload (r : Run) (line : Nat) : Except Stop State :=
  if !r.s.lineReady r.c line false then .error (.line line false)
  else match r.s.useLoads r.c false [line] with
    | .error n => .error (.noWay n)
    | .ok s => .ok s

/-- As `Run.preload`, with the line in the L2 even where an L1 holds it. -/
def Run.preloadL2 (r : Run) (line : Nat) : Except Stop State :=
  match r.preload line with
  | .error e => .error e
  | .ok s => match (s.core r.c).useL2 line false with
    | none => .error (.noWay line)
    | some k => .ok (s.setCore r.c k)

def execPreloadShared (core : Nat) (ins : Insn) (s : State) : Host.Outcome State Fault Refusal :=
  s.runIf (wfVar core ins 0o6002 8 3) (s.lnmLoad core ins Need.load true Run.preload)

/-- PRELOAD OWNED takes the line by read-own; a deferring reservation of another core holds it back. -/
def execPreloadOwned (core : Nat) (ins : Insn) (s : State) : Host.Outcome State Fault Refusal :=
  s.runIf (wfVar core ins 0o6002 8 4) (s.instr core ins (opLnm ins.hdr) (fun r =>
    match r.lnmLine Need.store true with
    | .error e => .error e
    | .ok line =>
      let (t, ok) := r.s.ownLine r.c line
      if !ok then .ok t else
      match t.useLoads r.c false [line] with
      | .error n => .error (.noWay n)
      | .ok t => .ok (r.lnmDone t)))

/-- Locked lines of a core in the L2 set of a line. -/
def Core.locksInSet (k : Core) (line : Nat) : Nat := (k.locks.filter (fun l => l.1 % 1024 == line % 1024)).length

/-- A line that the L2 holds is locked in its way; one already locked is unchanged. -/
def Core.lockLine (k : Core) (line : Nat) : Core :=
  if k.locked line then k else
  match k.tags2.lines.find? (fun x => x.line == line) with
  | some x => { k with locks := k.locks ++ [(line, x.way)] }
  | none => k

/-- PRELOAD AND LOCK (R129): at most 12 ways of a set, in an ENABLED L2. Assumption 25 (DEDUCED). -/
def execPreloadAndLock (core : Nat) (ins : Insn) (s : State) : Host.Outcome State Fault Refusal :=
  s.runIf (wfVar core ins 0o6002 8 5) (s.lnmLoad core ins Need.load true (fun r line =>
    let k := r.s.core r.c
    if k.l2 != .enabled || (!k.locked line && 12 ≤ k.locksInSet line) then .error (Stop.mk' 3 0 0)
    else (r.preloadL2 line).map (fun t => t.modCore r.c (fun k => k.lockLine line))))

def execUnlockLine (core : Nat) (ins : Insn) (s : State) : Host.Outcome State Fault Refusal :=
  s.runIf (wfVar core ins 0o6002 8 6) (s.lnmLoad core ins Need.load false (fun r line =>
    .ok (r.s.modCore r.c (fun k => { k with locks := k.locks.filter (fun l => l.1 != line) }))))

def execUnlockAll (core : Nat) (ins : Insn) (s : State) : Host.Outcome State Fault Refusal :=
  s.runIf (wfVar core ins 0o6002 8 7) (s.instr core ins (opLnm ins.hdr) (fun r =>
    .ok (({ r with s := r.s.modCore r.c (fun k => { k with locks := [] }) } : Run).finish (r.eff [] r.sw))))

/-! ## PURGE TRANSLATION (R353) -/

def opPtl (h : Word) : OpCode :=
  { varOk := varOf h < 5, lenOk := lenOf h == 0, level := if varOf h < 2 then 2 else 1,
    ops := [match varOf h with
      | 0 => { use := .t, ty := .mem, n := 1 }
      | 2 => { use := .s, ty := .reg, n := 2 }
      | _ => { use := .s, ty := .null, n := 0 }] }

/-- An entry covers a page. -/
def TcEntry.covers (e : TcEntry) (page : Nat) : Bool := if e.large then e.page / 512 == page / 512 else e.page == page

/-- The regime of the issuing level (Table 11.8). -/
def Core.regime (k : Core) : Nat := if k.pl == 0 then 1024 else if k.pl == 1 then 1025 else k.tenant

/-- Work of a tenant that holds translations: orders, engine requests, commits that wait (R242, R256, R307).
Assumption 35 (DEDUCED). -/
def State.holdsTranslations (s : State) (t : Nat) : Bool :=
  s.ch.grants.any (fun g => g.2.tenant == t) ||
    (s.cxT t).rings.any (fun g => !g.2.ran.isEmpty) || (s.ciT t).rings.any (fun g => !g.2.ran.isEmpty) || s.jnWaiting t

/-- A purge: it completes once the held translations of the tenants it covers have been released.
Assumptions 4 (DEDUCED) and 35 (DEDUCED). -/
def State.ptl (s : State) (core : Nat) (ins : Insn) (held : State → Core → Bool) (drop : Run → TcEntry → Bool) : State :=
  s.instr core ins (opPtl ins.hdr) (fun r =>
    if held r.s r.start then .ok r.s
    else .ok ((r.finish (r.eff [] r.sw)).dropTc (drop r)))

/-- Assumption 35 (DEDUCED). -/
def noneHeld (_ : State) (_ : Core) : Bool := false

def execStage1Page (core : Nat) (ins : Insn) (s : State) : Host.Outcome State Fault Refusal :=
  s.runIf (wfVar core ins 0o6070 5 0) (s.ptl core ins noneHeld (fun r e =>
    !e.stage2 && e.regime == r.start.regime && e.covers (r.target 0 / 4096)))

def execStage1All (core : Nat) (ins : Insn) (s : State) : Host.Outcome State Fault Refusal :=
  s.runIf (wfVar core ins 0o6070 5 1) (s.ptl core ins noneHeld (fun r e => !e.stage2 && e.regime == r.start.regime))

def execStage2Page (core : Nat) (ins : Insn) (s : State) : Host.Outcome State Fault Refusal :=
  s.runIf (wfVar core ins 0o6070 5 2) (s.ptl core ins (fun s k => s.holdsTranslations k.tenant) (fun r e =>
    e.stage2 && e.regime == r.start.tenant && e.covers (r.val 0 % 2 ^ 48 / 4096)))

def execStage2Tenant (core : Nat) (ins : Insn) (s : State) : Host.Outcome State Fault Refusal :=
  s.runIf (wfVar core ins 0o6070 5 3) (s.ptl core ins (fun s k => s.holdsTranslations k.tenant) (fun r e =>
    e.regime == r.start.tenant))

def execModule (core : Nat) (ins : Insn) (s : State) : Host.Outcome State Fault Refusal :=
  s.runIf (wfVar core ins 0o6070 5 4) (s.ptl core ins (fun s _ => (List.range 512).any s.holdsTranslations) (fun _ e =>
    e.regime != 1024))

end Sys2Proof.Machine
end

