-- ==== Sys2Proof/Machine/Commits.lean ====
section
/-! DEFINITION. The rows of the journal's admission, writes and sealing (R259, R275, R277, R278). -/

namespace Sys2Proof.Machine

/-- Sealed entries or records of a tenant that are not released. -/
def State.sealedHeld (s : State) (t : Nat) : Bool :=
  s.jn.records.any (fun r => r.stream == t && r.sealedRec) || s.jn.pending.any (fun p => p.stream == t && p.toSeal)

/-- The lowest abort of a sealing command: absent service, value range, busy target. -/
def sealAbort (needsZenith absent inRange busy : Bool) : Nat :=
  if needsZenith && absent then 6 else if !inRange then 8 else if busy then 0x0B else 0

/-- R259: the first waiting commits are decided again. -/
def execCommitAdmission (tenant : Nat) (s : State) : Host.Outcome State Fault Refusal :=
  s.runIf (wfTenant tenant) (s.decideTenant tenant false)

def execWaitLimit (tenant : Nat) (s : State) : Host.Outcome State Fault Refusal :=
  s.runIf (wfTenant tenant) (s.decideTenant tenant true)

/-- R275, R276. -/
def execEntryWrite (stream : Nat) (verified : Bool) (s : State) : Host.Outcome State Fault Refusal :=
  s.runIf true (s.entryWrite stream verified)

/-- Zenith creates a root key in the tenant's sealing slot, and the key of its epoch is derived (R277). -/
def State.newRoot (s : State) (t : Nat) : State :=
  let (n, s) := s.tick
  (s.setJt t { s.jt t with rootKey := some (natOct 32 (Config.randomBits n).toNat), rootUsed := 0 }).loadEpoch t

/-- OD 1210h.08: enabling creates the root key; disabling gives the sealing slot up. Assumption 48 (DEDUCED). -/
def State.setSealing (s : State) (t : Nat) (on : Bool) : State :=
  let was := (s.jt t).sealing
  let s := s.setJt t { s.jt t with sealing := on }
  let s := if on && !was then s.newRoot t
    else if on then s
    else s.setJt t { s.jt t with rootKey := none, rootUsed := 0, epochKey := [], sealBlocks := 0 }
  s.persist 0x1210 8

def execSealing (route : Route) (value : Nat) (s : State) : Host.Outcome State Fault Refusal :=
  let t := s.select route 0x1210 1
  let more := sealAbort (value == 1) s.tn.absent (value ≤ 1) (value == 0 && s.sealedHeld t)
  s.runIf (wfRoute route) (s.odWriteNum route 0x1210 8 value more (fun s => s.setSealing t (value == 1)))

/-- OD 1210h.0B: a new root key, the epoch at 0. -/
def State.reprovision (s : State) (t : Nat) : State :=
  ((s.setJt t { s.jt t with epoch := 0, counter := 0, reserved := 0, exhausted := false }).newRoot t).persist 0x1210 0x0B

def execReProvisionSealing (route : Route) (value : Nat) (s : State) : Host.Outcome State Fault Refusal :=
  let t := s.select route 0x1210 1
  let more := sealAbort true s.tn.absent (value == 1) (s.sealedHeld t)
  s.runIf (wfRoute route) (s.odWriteNum route 0x1210 0x0B value more (fun s => s.reprovision t))

end Sys2Proof.Machine
end

