-- ==== Sys2Proof/Machine/Sparing.lean ====
section
/-! DEFINITION. The site map, instruction retry, Halo takeover, and the customer image (R193-R207, R211). -/

namespace Sys2Proof.Machine

/-! ## The site map (R200-R202) -/

/-- Spare sites of a tile for a spare count (R200). -/
def spareSites (count tile : Nat) (lockstep : Bool) : Nat :=
  let n := count / 4 + b2n (decide (tile < count % 4))
  if lockstep then n + n % 2 else n

/-- The sites, or in lockstep the primary sites, that logical cores are bound to, in ascending order. -/
def activeSites (count : Nat) (lockstep : Bool) : List Nat :=
  (List.range 104).filter (fun s => s % 26 < 26 - spareSites count (s / 26) lockstep && (!lockstep || s % 2 == 0))

def State.siteFailed (s : State) (site : Nat) : Bool :=
  s.sp.failed.contains site || (s.md.lockstep && s.sp.failed.contains (site + 1))

/-- Sites, or primaries of pairs, that are neither failed nor bound. -/
def State.spares (s : State) : List Nat :=
  (List.range 104).filter (fun x => (!s.md.lockstep || x % 2 == 0) && !s.siteFailed x && !s.sp.siteOf.any (fun e => e.2 == x))

/-- The spare that a takeover chooses for a tile (R202); a tile number of 4 or more has no spare of its own. -/
def State.chooseSpare (s : State) (tile : Nat) : Option Nat :=
  let own := s.spares.filter (fun x => x / 26 == tile)
  match own with
  | x :: _ => some x
  | [] =>
    let n (t : Nat) : Nat := (s.spares.filter (fun x => x / 26 == t)).length
    let best := (List.range 4).foldl (fun b t => if n b < n t then t else b) 0
    (s.spares.filter (fun x => x / 26 == best)).head?

def State.bindCore (s : State) (c : Nat) (site : Option Nat) : State :=
  { s with sp := { s.sp with siteOf := match site with
      | some x => tput s.sp.siteOf 0xFFFF c x
      | none => tdel s.sp.siteOf c } }

/-- Give a core whose site has failed another (R201): none left makes it LOST. -/
def State.rebind (s : State) (c : Nat) : State :=
  let site := tget s.sp.siteOf 0xFFFF c
  if site != 0xFFFF && !s.siteFailed site then s
  else
    let s := s.bindCore c none
    s.bindCore c (s.chooseSpare (if site == 0xFFFF then 4 else site / 26))

/-- Build the map at the first DAWN and after a change of spare count or lockstep, else restore it; then replace failed
sites (R201). -/
def State.siteMap (s : State) : State :=
  let same := s.sp.built && s.sp.builtSpares == s.sp.spareCount && s.sp.builtLockstep == s.md.lockstep
  let s := if same then s else
    let act := activeSites s.sp.spareCount s.md.lockstep
    { s with sp := { s.sp with built := true, builtSpares := s.sp.spareCount, builtLockstep := s.md.lockstep,
                               configured := act.length, siteOf := act.zipIdx.map (fun (p : Nat × Nat) => (p.2, p.1)) } }
  (List.range s.sp.configured).foldl (fun s c => s.rebind c) s

/-! ## Instruction retry (R199) -/

/-- The number of the oldest instruction that is not complete (R109). -/
def Core.oldest (k : Core) : Nat := (k.exposed.head?).elim k.seq (·.seq)

/-- Core faults of that instruction so far, and its unattributed miscompares. -/
def Core.faults (k : Core) : Nat := if k.retryAt == k.oldest then k.retries else 0
def Core.pairFaults (k : Core) : Nat := if k.retryAt == k.oldest then k.miscompares else 0

/-- The failing instruction's work is discarded and the checkpoint of the oldest incomplete instruction restored; the
reservation is lost, and a hand-off or load already sent is not sent again (R198). -/
def Core.retryNow (k : Core) : Core :=
  let q := k.oldest
  let n := k.faults
  let m := k.pairFaults
  let r := k.replays
  let k := k.replayWhere (fun _ => true)
  { k with res := none, retries := n + 1, retryAt := q, miscompares := m, replays := r, dp := k.dp.boundary }

/-- A core fault on a core with a site: up to two retries, then the site fails and takeover follows (R199). In lockstep
both sites retry; `who` is the site that its own checks name, 2 for neither: that is a miscompare, of both sites, and a
second one in an instruction ends the retries (R206, R207). Assumptions 56 and 64 (DESIGN CHOICE). -/
def State.coreFault (s : State) (c : Nat) (intact : Bool) (detector who : Nat) : State :=
  if !(s.bound c && c < 100) || s.inTakeover c then s else
  let site := s.siteOfCore c
  let k := s.core c
  let apart := s.md.lockstep && 2 ≤ who
  if 2 ≤ k.faults || !intact || (apart && 1 ≤ k.pairFaults) then s.takeoverDecided site
  else
    let s := s.shutWindow c
    let s := s.modCore c (fun k => { k.retryNow with miscompares := k.pairFaults + b2n apart })
    let s := { s with sp := { s.sp with retries := s.sp.retries + 1 } }
    if !s.md.lockstep then s.report (8 * site + detector % 8) 1
    else if apart then (s.report (8 * site + 7) 1).report (8 * (site + 1) + 7) 1
    else s.report (8 * (site + who) + detector % 8) 1

/-! ## Halo takeover (R203, R204) -/

/-- The caches of a core that comes to a spare: in its cache states, and empty (Table 6.14 step 4). -/
def Core.onSpare (k : Core) : Core :=
  { k with locks := [], res := none, retries := 0, miscompares := 0, tagsI := Tags.empty, tagsD := Tags.empty,
           tags2 := Tags.empty }

/-- The core resumes on the spare: locks and reservation gone, the count advanced by the takeover's time (R205). A response
that came meanwhile completes its instruction (R198). -/
def State.resumeOn (s : State) (c old new : Nat) : State :=
  let (n, s) := s.tick
  let hadLocks := !(s.core c).locks.isEmpty
  let s := s.bindCore c (some new)
  let s := s.modCore c (fun k => { k.onSpare with cycles := k.cycles + Config.elapsedCycles n })
  let s := { s with sp := { s.sp with takeovers := s.sp.takeovers + 1, taking := s.sp.taking.filter (fun k => k.site != old) } }
  ((if hadLocks then s.report (8 * old + 5) 1 else s).answerKept c).deliverChecks c

/-- No spare is left: the logical core becomes LOST (R204). -/
def State.loseCore (s : State) (c site : Nat) : State :=
  let s := s.bindCore c none
  { s with sp := { s.sp with taking := s.sp.taking.filter (fun k => k.site != site),
                             responses := s.sp.responses.filter (fun r => r.1 != c) } }

/-- The tenant that a core serves; 512 for none. -/
def Core.owner (k : Core) : Nat := if k.ctxValid then k.tenant else 512

/-- Registers of a core whose checkpoint slots are both lost: not fixed. -/
def Core.unread (k : Core) (n : Nat) : Core :=
  { k with x := Vector.ofFn (fun (i : Fin 16) => Config.lostRegister n i.val), sw := Config.lostRegister n 16,
           ic := (Config.lostRegister n 17).setWidth 48, run := .running }

/-- Steps 2, 3a and 3b of a takeover read the checkpoint, the dirty lines of the L2, and the entries of the store buffer;
the first that cannot be read gives the sub-code (Table 6.15), with the tenant it concerns. Which line or entry it is, is not
fixed. Assumption 64 (DESIGN CHOICE). -/
def State.takeoverBegins (s : State) (c base : Nat) (checkpointIntact linesIntact entriesIntact : Bool) : State :=
  let begun (s : State) (sub owner : Nat) : State :=
    { s with sp := { s.sp with taking := s.sp.taking.map (fun (k : Taking) =>
        if k.site == base then { k with begun := true, sub := sub, owner := owner } else k) } }
  let s := s.modCore c Core.retryNow
  let (n, s) := s.tick
  let k := s.core c
  if !checkpointIntact then begun (s.setCore c (k.unread n)) 3 k.owner
  else if !linesIntact then
    let dirty := (k.tags2.lines.filter (·.dirty)).map (·.line)
    match dirty[Config.lostIndex n % max 1 dirty.length]? with
    | some l => begun (s.loseData l) 2 (s.lineOwner l)
    | none => begun s 2 k.owner
  else if !entriesIntact then
    let i := Config.lostIndex n % max 1 k.sb.length
    let owner := match k.sb[i]? with
      | some e => if e.kind == .cached || e.kind == .zeroLine then s.lineOwner e.addr else k.owner
      | none => k.owner
    begun (s.setCore c ({ k with sb := k.sb.eraseIdx i } : Core).unexpose) 1 owner
  else begun s 0 512

/-- Steps 4 and 5: the core on its spare, or LOST; then the uncontained machine check, if there is one (R204). -/
def State.takeoverEnds (s : State) (c base : Nat) (k : Taking) : State :=
  match (s.bindCore c none).chooseSpare (base / 26) with
  | some x =>
    let s := s.resumeOn c base x
    if k.sub == 0 then s else s.uncontainedAt k.owner k.sub c base
  | none =>
    let owner := (s.core c).owner
    let s := s.loseCore c base
    if k.sub == 0 then s.uncontainedAt owner (if s.md.lockstep then 5 else 4) c base else s.uncontainedAt k.owner k.sub c base

/-- Table 6.14. Takeovers of one tile run one at a time, in order of detection (R202). Entries that wait for a remote line
are asked for, and the takeover goes on once they can be performed. -/
def State.takeover (s : State) (site : Nat) (checkpointIntact linesIntact entriesIntact : Bool) : State :=
  match s.coreAt site with
  | none => s
  | some c =>
    let base := s.siteOfCore c
    let s := s.takeoverDecided base
    match s.sp.taking.find? (fun k => k.site / 26 == base / 26) with
    | none => s
    | some k =>
      if k.site != base then s else
      let s := if k.begun then s else s.takeoverBegins c base checkpointIntact linesIntact entriesIntact
      let (s, done) := s.drainCore c
      if !done then s
      else s.takeoverEnds c base ((s.sp.taking.find? (fun k => k.site == base)).getD k)

/-! ## The customer image (R193, R194) -/

/-- A micro-operation's fields (Table 6.7). -/
def vop (w : Word) : Nat := fld w 35 30
def vrd (w : Word) : Nat := fld w 29 26
def vra (w : Word) : Nat := fld w 25 22
def vrb (w : Word) : Nat := fld w 21 18
def vimm (w : Word) : Nat := fld w 17 0

/-- A micro-operation of the customer region is well formed: a permitted VOP, zero in unused fields, a branch below n,
and no reserved code (R194 step 1, Table 6.8). -/
def microOk (n : Nat) (w : Word) : Bool :=
  let v := vop w
  let nd := vrd w == 0
  let na := vra w == 0
  let nb := vrb w == 0
  let ni := vimm w == 0
  let width := vimm w % 2 ^ 17 == 0
  if v == 0 then nd && na && nb && ni
  else if v == 1 || v == 2 then na && nb
  else if v == 3 then nb && ni
  else if v == 0o13 || v == 0o14 then nb && width
  else if v == 0o15 then nd && width
  else if 4 ≤ v && v ≤ 0o12 then width
  else if 0o16 ≤ v && v ≤ 0o25 then ni
  else if v == 0o26 || v == 0o27 then nb && ni
  else if v == 0o30 then decide (vimm w ≤ 0o12)
  else if v == 0o31 then decide (vimm w ≤ 0o23)
  else if 0o40 ≤ v && v ≤ 0o47 then nb
  else if v == 0o50 || v == 0o53 || v == 0o54 then nd && na && nb && decide (vimm w < n)
  else if v == 0o51 || v == 0o52 || v == 0o56 then nd && nb && decide (vimm w < n)
  else if v == 0o55 || v == 0o65 then nd && na && nb && ni
  else if v == 0o60 then na && nb && decide (vimm w < 16)
  else if v == 0o61 then nd && nb && decide (vimm w < 16)
  else if v == 0o62 then nd && na && nb && decide (vimm w < 4)
  else if v == 0o63 then nd && na && nb && decide (vimm w < 128)
  else if v == 0o64 then nd && na && nb && decide (vimm w < 5)
  else false

/-- An opcode entry (Table 6.10), if its fields are permitted. -/
def custEntry (n : Nat) (l : List Octet) : Option CustEntry :=
  let o (i : Nat) : Nat := (oct l i).toNat
  let count := o 1
  let e : CustEntry := { opcode := 0o7400 + o 0, count := count, uses := o 2, priv := (o 3).testBit 2, cls := o 3 % 4,
                         entry := o 4 * 256 + o 5, hdrFields := o 6 }
  if 1 ≤ count && count ≤ 3 && o 2 < 4 ^ count && o 3 < 8 && e.entry < n && o 6 < 32 && o 7 == 0 then some e else none

/-- What an image holds, if step 1 passes. -/
structure CustImage where
  version : Nat
  secver : Nat
  entries : List CustEntry
  ops : List Word
  ecKey : List Octet
  mlKey : List Octet
  ecSig : List Octet
  mlSig : List Octet
  body : List Octet
deriving DecidableEq, Repr

/-- Micro-operations, two to nine octets (R9). -/
def custOps (l : List Octet) (n : Nat) : List Word :=
  (List.range n).map (fun i =>
    let d : DWord := BitVec.ofNat 72 (octNat ((l.drop (9 * (i / 2))).take 9))
    if i % 2 == 0 then hiWord d else loWord d)

def ascending : List Nat → Bool
  | [] => true
  | [_] => true
  | a :: b :: r => a < b && ascending (b :: r)

/-- Step 1 of R194. -/
def parseImage (l : List Octet) : Option CustImage :=
  let num (i k : Nat) : Nat := octNat ((l.drop i).take k)
  let e := num 6 2
  let n := num 8 2
  let code := 64 + 8 * e
  let codeLen := 9 * ((n + 1) / 2)
  let ec := code + codeLen
  let ml := ec + 97
  let sig := ml + 2592
  let fin := sig + 96 + 4627
  let headOk := num 0 4 == 0x4E435543 && num 4 2 == 1 && 1 ≤ e && e ≤ 256 && 1 ≤ n && n ≤ 4096 && num 10 2 == 0 && num 20 44 == 0
  if !headOk || l.length < fin || 27956 < fin || (l.drop fin).any (· != 0) then none
  else
    let entries := (List.range e).map (fun i => custEntry n ((l.drop (64 + 8 * i)).take 8))
    let ops := custOps ((l.drop code).take codeLen) n
    let spare := custOps ((l.drop code).take codeLen) (n + n % 2)
    let es := entries.filterMap id
    if es.length == e && ascending (es.map (fun (x : CustEntry) => x.opcode)) && ops.all (microOk n) && spare.drop n == List.replicate (n % 2) 0 &&
       oct l ec == 4 then
      some { version := num 12 4, secver := num 16 4, entries := es, ops := ops, ecKey := (l.drop ec).take 97,
             mlKey := (l.drop ml).take 2592, ecSig := (l.drop sig).take 96, mlSig := (l.drop (sig + 96)).take 4627,
             body := l.take sig }
    else none

/-- The load of the staged image (R194): its status, and the region when it passes. -/
def State.loadImage (s : State) : State :=
  let status (n : Nat) : State := { s with sp := { s.sp with loadStatus := n } }
  match parseImage s.sp.staged with
  | none => status 3
  | some im =>
    if s.sp.ecDigest == 0 || s.sp.mlDigest == 0 || Config.sha384 im.ecKey != s.sp.ecDigest ||
       Config.sha384 im.mlKey != s.sp.mlDigest then status 4
    else if !(Config.ecdsaVerify im.body im.ecKey im.ecSig && Config.mldsaVerify im.body im.mlKey im.mlSig) then status 5
    else if im.secver < s.sp.custSecver then status 6
    else
      ({ s with sp := { s.sp with loadStatus := 1, custEntries := im.entries, custOps := im.ops, custVersion := im.version,
                                  custSecver := im.secver } }).persist 0x1902 7

/-- The region without an image. -/
def State.unloadImage (s : State) : State :=
  { s with sp := { s.sp with loadStatus := 0, custEntries := [], custOps := [], custVersion := 0 } }

/-- OD 1902h.04. -/
def State.customerCommand (s : State) (v : Nat) : State := if v == 1 then s.loadImage else s.unloadImage.persist 0x1902 4

/-! ## Rows -/

/-- R199: a core fault. Assumption 56 (DESIGN CHOICE). -/
def execInstructionRetry (core : Nat) (coreCopyIntact recoveryIntact : Bool) (s : State) :
    Host.Outcome State Fault Refusal :=
  s.runIf (wfCore core) (
    let (n, s) := s.tick
    s.coreFault core (coreCopyIntact || recoveryIntact) (Config.faultDetector n) (Config.faultSite n))

/-- R187: a wait other than for a hand-off or an interruption lasted 20 ms. -/
def execMicrocodeWatchdogExpiry (core : Nat) (s : State) : Host.Outcome State Fault Refusal :=
  s.runIf (wfCore core) (match (s.core core).run with
    | .waiting => s
    | .handOff _ => s
    | .stopped => s
    | _ => s.coreFault core true 7 0)

/-- R203. Assumption 3 (DESIGN CHOICE). -/
def execHaloTakeover (site : Nat) (checkpointIntact linesIntact entriesIntact : Bool) (s : State) :
    Host.Outcome State Fault Refusal :=
  s.runIf (wfSite site) (s.takeover site checkpointIntact linesIntact entriesIntact)

/-- R202: a spare's daily self-test. -/
def execSpareSelfTest (site : Nat) (passed : Bool) (s : State) : Host.Outcome State Fault Refusal :=
  s.runIf (wfSite site) (if passed || (s.coreAt site).isSome then s else s.siteFails site)

def execLoadStagedImage (route : Route) (s : State) : Host.Outcome State Fault Refusal :=
  s.runIf (wfRoute route) (s.odWriteNum route 0x1902 4 1 (if s.tn.absent then 6 else 0) (fun s => s.customerCommand 1))

def execUnload (route : Route) (s : State) : Host.Outcome State Fault Refusal :=
  s.runIf (wfRoute route) (s.odWriteNum route 0x1902 4 2 0 (fun s => s.customerCommand 2))

end Sys2Proof.Machine
end

