-- ==== Sys2Proof/Machine/Horizontal.lean ====
section
/-! DEFINITION. Horizontal microwords: their fields, their sequencing and one core cycle of the datapath (R182-R190), and
what the loader refuses. The instructions' own effects are those of their commands (assumption 54). -/

namespace Sys2Proof.Machine

/-! ## The microword (Table 6.2) -/

/-- Bits [hi:lo] of a microword. -/
def mfld (w : BitVec 168) (hi lo : Nat) : Nat := w.toNat / 2 ^ lo % 2 ^ (hi + 1 - lo)

structure Microword where
  chk : Nat
  na : BitVec 16
  seq : Nat
  cond : Nat
  cpol : Bool
  asel : Nat
  bsel : Nat
  alu : Nat
  wid : Nat
  dst : Nat
  shf : Nat
  shc : Nat
  mul : Nat
  div : Nat
  dec : Nat
  fpu : Nat
  mem : Nat
  mas : Nat
  flg : Nat
  swu : Nat
  gate : Nat
  xu : Nat
  lcc : Nat
  lit : Word
  xreg : Nat
  vec : Nat
  pcn : Nat
  ckp : Nat
deriving DecidableEq, Repr

def Microword.ofBits (w : BitVec 168) : Microword :=
  { chk := mfld w 167 156, na := BitVec.ofNat 16 (mfld w 155 140), seq := mfld w 139 136, cond := mfld w 135 129,
    cpol := mfld w 128 128 == 1, asel := mfld w 127 122, bsel := mfld w 121 116, alu := mfld w 115 111, wid := mfld w 110 109,
    dst := mfld w 108 103, shf := mfld w 102 100, shc := mfld w 99 93, mul := mfld w 92 90, div := mfld w 89 87,
    dec := mfld w 86 82, fpu := mfld w 81 77, mem := mfld w 76 72, mas := mfld w 71 69, flg := mfld w 68 65,
    swu := mfld w 64 61, gate := mfld w 60 58, xu := mfld w 57 54, lcc := mfld w 53 50, lit := BitVec.ofNat 36 (mfld w 49 14),
    xreg := mfld w 13 10, vec := mfld w 9 6, pcn := mfld w 5 2, ckp := mfld w 1 0 }

/-- Codes of Table 6.3 that are reserved as a source, and as a destination. -/
def sourceReserved (c : Nat) : Bool := 0o34 ≤ c && c ≤ 0o37
def destReserved (c : Nat) : Bool :=
  sourceReserved c || c == 0o01 || c == 0o11 || c == 0o12 || (0o15 ≤ c && c ≤ 0o25) || (0o30 ≤ c && c ≤ 0o33)

/-- The reserved condition codes (Table 6.5). -/
def condReserved (c : Nat) : Bool := c == 0o57 || c == 0o67 || 0o77 ≤ c

/-- A field of the microword holds a reserved code (Tables 6.2 to 6.5). -/
def Microword.reserved (m : Microword) : Bool :=
  13 ≤ m.seq || condReserved m.cond || sourceReserved m.asel || sourceReserved m.bsel || destReserved m.dst || 21 ≤ m.alu ||
  (0o110 ≤ m.shc && m.shc ≤ 0o175) || m.mul == 7 || 11 ≤ m.dec || 20 ≤ m.fpu || 22 ≤ m.mem || 4 ≤ m.mas || 10 ≤ m.flg ||
  6 ≤ m.swu || 4 ≤ m.gate || 11 ≤ m.xu || 4 ≤ m.lcc || 6 ≤ m.vec || 4 ≤ m.pcn || m.ckp == 3

/-! ## Addresses (R183, R189) -/

/-- The first patch-memory address, and the first that is never generated (R183). -/
def patchBase : Nat := 0o120000
def microEnd : Nat := 0o124000

/-- Fields of a match entry (Table 6.6). -/
def matchOn (w : Word) : Bool := bit w 35
def matchRom (w : Word) : Nat := fld w 29 14
def matchPatch (w : Word) : Nat := fld w 10 0

/-- A patch word (Table 6.1). -/
def patchWord (patch : List (BitVec 168)) (n : Nat) : BitVec 168 := patch[n]?.getD (Config.patchBeyond n)

/-- The microword at an address: a ROM address is compared with the enabled match entries, a patch address is not (R189). -/
def microword (patch : List (BitVec 168)) (matches_ : List Word) (a : BitVec 16) : BitVec 168 :=
  if patchBase ≤ a.toNat then patchWord patch (a.toNat - patchBase)
  else match matches_.find? (fun w => matchOn w && matchRom w == a.toNat) with
    | some w => patchWord patch (matchPatch w)
    | none => Config.mainRom a

/-! ## What the loader refuses (R186, R190) -/

/-- Keys of a dispatch table that static analysis follows: opcodes, modes, and the small tables. -/
def dispatchKeys (vec : Nat) : Nat := match vec with | 0 => 4096 | 1 => 32 | _ => 16

/-- Where control goes from a word at a call depth: address and depth. -/
def Microword.successors (m : Microword) (a : BitVec 16) (d : Nat) : List (BitVec 16 × Nat) :=
  let next := (a + 1, d)
  match m.seq with
  | 0 | 7 => [next]
  | 1 | 9 => [(m.na, d)]
  | 2 => [(m.na, d), next]
  | 3 => [(m.na, d + 1), next]
  | 4 => [(m.na, d + 1), next]
  | 6 => (List.range (dispatchKeys m.vec)).map (fun k => (Config.dispatchEntry m.vec k, d))
  | _ => []

/-- Control can come to a call depth above 8 from the addresses in `todo` (R188). -/
def deepCalls (word : BitVec 16 → BitVec 168) : Nat → List (BitVec 16 × Nat) → List (BitVec 16 × Nat) → Bool
  | 0, _, _ => false
  | _ + 1, [], _ => false
  | f + 1, x :: todo, seen =>
    if 8 < x.2 then true
    else if seen.contains x then deepCalls word f todo seen
    else deepCalls word f ((Microword.ofBits (word x.1)).successors x.1 x.2 ++ todo) (x :: seen)

/-- Steps that the analysis can need: every address at every depth, with its successors. -/
def deepFuel : Nat := 0o124000 * 9 * 4097

/-- The match entries name a main-ROM address twice, or hold a non-zero reserved field (R190, Table 6.6). -/
def matchesBad (l : List Word) : Bool :=
  let on := (l.filter matchOn).map matchRom
  l.any (fun w => fld w 34 30 != 0 || fld w 13 11 != 0 || patchBase ≤ matchRom w) || on.eraseDups.length != on.length

/-- The loader refuses a patch set (R186, R190). -/
def patchRefused (patch : List (BitVec 168)) (matches_ : List Word) : Bool :=
  patch.any (fun w => (Microword.ofBits w).reserved || microEnd ≤ (Microword.ofBits w).na.toNat) || matchesBad matches_ ||
    deepCalls (microword patch matches_) deepFuel
      ((matches_.filter matchOn).map (fun w => (BitVec.ofNat 16 (matchRom w), 0))) []

/-! ## The datapath (Table 6.3) -/

/-- The register that a source code names. -/
def Datapath.source (d : Datapath) (s : State) (c : Nat) (m : Microword) (code : Nat) : BitVec 76 :=
  let x (i : Nat) : BitVec 76 := (d.x[i % 16]?.getD 0).setWidth 76
  match code with
  | 0o01 => m.lit.setWidth 76
  | 0o02 => x m.xreg
  | 0o03 => x (dIX d.desc)
  | 0o04 => x (dBS d.desc)
  | 0o05 => d.oa
  | 0o06 => d.ob
  | 0o07 => d.oc
  | 0o10 => d.mdr
  | 0o11 => d.sw.setWidth 76
  | 0o12 => d.ic.setWidth 76
  | 0o13 => d.nextIC.setWidth 76
  | 0o14 => d.ea.setWidth 76
  | 0o15 => d.prodHi
  | 0o16 => d.prodLo
  | 0o17 => d.quot
  | 0o20 => d.rem
  | 0o21 => d.dec
  | 0o22 => d.fpu
  | 0o23 => d.shf
  | 0o24 => d.hdr.setWidth 76
  | 0o25 => d.desc.setWidth 76
  | 0o26 => d.loop
  | 0o27 => d.unit
  | 0o30 => BitVec.ofNat 76 (s.core c).cycles
  | 0o31 => BitVec.ofNat 76 s.tm.tod
  | 0o32 => d.hand
  | 0o33 => BitVec.ofNat 76 (if lenOf d.hdr != 0 then lenOf d.hdr else (x (varOf d.hdr)).toNat % 2 ^ 46)
  | _ => if 0o60 ≤ code then x (code - 0o60) else if 0o40 ≤ code then d.scratch[code - 0o40]?.getD 0 else 0

/-- A destination takes the result. -/
def Datapath.dest (d : Datapath) (m : Microword) (v : BitVec 76) : Datapath :=
  let x (i : Nat) : Datapath := { d with x := d.x.setIfInBounds (i % 16) (v.setWidth 72) }
  match m.dst with
  | 0o02 => x m.xreg
  | 0o03 => x (dIX d.desc)
  | 0o04 => x (dBS d.desc)
  | 0o05 => { d with oa := v }
  | 0o06 => { d with ob := v }
  | 0o07 => { d with oc := v }
  | 0o10 => { d with mdr := v }
  | 0o13 => { d with nextIC := v.setWidth 48 }
  | 0o14 => { d with ea := v.setWidth 48 }
  | 0o26 => { d with loop := v }
  | 0o27 => { d with unit := v }
  | n => if 0o60 ≤ n then x (n - 0o60) else if 0o40 ≤ n then { d with scratch := d.scratch.setIfInBounds (n - 0o40) v } else d

/-- What the ALU delivers: the result, carry out, signed overflow, and the order of A and B. -/
structure AluOut where
  val : Nat
  carry : Bool
  ovf : Bool
  less : Bool
deriving DecidableEq, Repr

def widthOf (wid : Nat) : Nat := match wid with | 0 => 36 | 1 => 72 | 2 => 48 | _ => 76

/-- The ALU (Table 6.2). A compare delivers the difference. Assumption 54 (DESIGN CHOICE). -/
def alu (m : Microword) (hm cy : Bool) (a b : Nat) : AluOut :=
  let w := widthOf m.wid
  let a := a % 2 ^ w
  let b := b % 2 ^ w
  let add (y : Nat) (ci : Nat) : AluOut :=
    { val := (a + y + ci) % 2 ^ w, carry := decide (2 ^ w ≤ a + y + ci), ovf := !fitsSigned w (sint w a + sint w y + ci),
      less := decide (sint w a < sint w b) }
  let sub (y : Nat) (bi : Nat) : AluOut :=
    { val := (a + 2 ^ w - y + 2 ^ w - bi) % 2 ^ w, carry := decide (y + bi ≤ a), ovf := !fitsSigned w (sint w a - sint w y - bi),
      less := decide (sint w a < sint w b) }
  let raw (v : Nat) : AluOut := { val := v % 2 ^ w, carry := false, ovf := false, less := decide (sint w a < sint w b) }
  let field := fld m.lit 13 7
  let size := fld m.lit 6 0
  match m.alu with
  | 0 => raw a
  | 1 => raw b
  | 2 => add b 0
  | 3 => add b (b2n cy)
  | 4 => sub b 0
  | 5 => sub b (b2n (!cy))
  | 6 => raw (a &&& b)
  | 7 => raw (a ||| b)
  | 8 => raw (a ^^^ b)
  | 9 => raw (2 ^ w - 1 - a)
  | 10 => { val := wrapTo w (-(sint w a)), carry := a == 0, ovf := a == 2 ^ (w - 1), less := false }
  | 11 => { val := (sint w a).natAbs % 2 ^ w, carry := false, ovf := a == 2 ^ (w - 1), less := false }
  | 12 => sub b 0
  | 13 => { sub b 0 with less := decide (a < b) }
  | 14 => raw (clz w a)
  | 15 => raw (popcount w a)
  | 16 => add 1 0
  | 17 => sub 1 0
  | 18 => raw ((a + b) % 2 ^ (if hm then 24 else 48))
  | 19 => raw (a / 2 ^ field % 2 ^ size)
  | _ => raw (a - a / 2 ^ field % 2 ^ size * 2 ^ field + b % 2 ^ size * 2 ^ field)

/-- The shifter: its result, and whether it lost a significant bit. -/
def shifter (m : Microword) (d : Datapath) (a b : Nat) : BitVec 76 × Bool :=
  let n := if m.shc == 0o176 then b else if m.shc == 0o177 then d.loop.toNat else m.shc
  let w := if m.wid == 0 then 36 else 72
  let x := a % 2 ^ w
  let r (i : IntRes) : BitVec 76 × Bool := (BitVec.ofNat 76 i.val, i.ov)
  match m.shf with
  | 1 => r (intSll w x n)
  | 2 => r (intSrl w x n)
  | 3 => r (intSla w x n)
  | 4 => r (intSra w x n)
  | 5 => r (intRol w x n)
  | 6 => r (intRor w x n)
  | 7 => (BitVec.ofNat 76 ((x * 2 ^ w + b % 2 ^ w) / 2 ^ n % 2 ^ w), false)
  | _ => (d.shf, false)

/-- The multiplier and the divider: integer results are those of R79 and R80, the others not fixed. -/
def Datapath.units (d : Datapath) (m : Microword) (a b : BitVec 76) : Datapath :=
  let w := if m.mul == 1 || m.mul == 2 then 36 else 72
  let x := a.toNat % 2 ^ w
  let y := b.toNat % 2 ^ w
  let full : Nat := if m.mul == 1 || m.mul == 3 then wrapTo (2 * w) (sint w x * sint w y) else x * y
  let d := match m.mul with
    | 0 => d
    | 5 | 6 => { d with prodHi := BitVec.ofNat 76 (a.toNat * b.toNat / 2 ^ 76), prodLo := a * b }
    | _ => { d with prodHi := BitVec.ofNat 76 (full / 2 ^ w), prodLo := BitVec.ofNat 76 (full % 2 ^ w) }
  let u := a.toNat % 2 ^ 72
  let v := b.toNat % 2 ^ 72
  let d := match m.div with
    | 1 => if (divFault 72 true u v).isSome then d
           else { d with quot := BitVec.ofNat 76 (intDiv 72 true u v).val, rem := BitVec.ofNat 76 (intRem 72 true u v).val }
    | 2 => if (divFault 72 false u v).isSome then d
           else { d with quot := BitVec.ofNat 76 (intDiv 72 false u v).val, rem := BitVec.ofNat 76 (intRem 72 false u v).val }
    | 0 | 7 => d
    | n => { d with quot := Config.horizontalUnit 0 n a b }
  let d := if m.dec == 0 then d else { d with dec := Config.horizontalUnit 1 m.dec a b }
  if m.fpu == 0 then d else { d with fpu := Config.horizontalUnit 2 m.fpu a b }

/-- The address of a memory operation (MAS). -/
def Datapath.memAddress (d : Datapath) (m : Microword) (a : BitVec 76) : Nat :=
  match m.mas with
  | 0 => d.ea.toNat
  | 1 => a.toNat % 2 ^ 48
  | 2 => (d.ic.toNat + m.lit.toNat) % 2 ^ 48
  | _ => fld d.mdr 47 0

/-- A translated access of the datapath, of `n` words, and its faults: translation, alignment. -/
def State.microTranslate (s : State) (c n va : Nat) (nd : Need) : Option Nat × Bool × Bool :=
  match s.xlate c nd 0 va with
  | .ok ra => (some ra, false, n == 2 && va % 2 == 1)
  | .error _ => (none, true, n == 2 && va % 2 == 1)

/-- The memory field: loads to the memory data register, gated stores of the A bus; and the faults. An access whose effect
is outside the datapath (I/O and control space, line maintenance, reservations) is its instruction's.
Assumption 54 (DESIGN CHOICE). -/
def Datapath.memory (d : Datapath) (s : State) (c : Nat) (m : Microword) (a b : BitVec 76) : Datapath × Bool × Bool :=
  let va := d.memAddress m a
  let load (n : Nat) : Datapath × Bool × Bool :=
    let (ra, f, u) := s.microTranslate c n va (if m.mem == 1 then Need.fetch else Need.load)
    match ra with
    | some ra =>
      let v : Nat := if n == 2 then (s.coreWord c ra).toNat * 2 ^ 36 + (s.coreWord c (ra + 1)).toNat else (s.coreWord c ra).toNat
      let d : Datapath := { d with mdr := BitVec.ofNat 76 v }
      (if m.mem == 1 then (if va == d.ic.toNat then { d with hdr := BitVec.ofNat 36 v } else { d with desc := BitVec.ofNat 36 v }) else d, f, u)
    | none => (d, f, u)
  match m.mem with
  | 0 => (d, false, false)
  | 1 | 2 | 12 => load 1
  | 3 => load 2
  | 4 | 5 | 8 | 9 | 11 | 13 =>
    let (_, f, u) := s.microTranslate c (if m.mem == 5 then 2 else 1) va Need.store
    ({ d with gated := if f || u then d.gated else d.gated ++ [(m.mem, va, b)] }, f, u)
  | 19 => let (_, f, u) := s.microTranslate c 1 va Need.load; (d, f, u)
  | _ => (d, false, false)

/-- FLG and SWU on the state word of the datapath (Table 6.2). -/
def Datapath.status (d : Datapath) (m : Microword) (r : AluOut) (a : BitVec 76) : Datapath :=
  let w := widthOf m.wid
  let cs := hdrCS d.hdr
  let cyov (sw : DWord) : DWord := setBit (if r.ovf then setBit sw 61 true else sw) 60 r.carry
  let arith := if r.ovf then 3 else ccArith (sint w r.val)
  let sw := match m.flg with
    | 1 => setCCIf d.sw cs arith
    | 2 => setCCIf d.sw cs (ccLogic r.val)
    | 3 => setCCIf d.sw cs (if r.val == 0 then 0 else if r.less then 1 else 2)
    | 4 => cyov d.sw
    | 5 => if cs then setCCIf (cyov d.sw) true arith else d.sw
    | 6 => if cs then setCCIf (if r.ovf then setBit d.sw 59 true else d.sw) true arith else d.sw
    | 8 => setFld d.sw 63 62 (fld m.lit 1 0)
    | _ => d.sw
  let sw := match m.swu with
    | 1 => a.setWidth 72
    | 2 => (sw &&& ~~~spmMask) ||| (a.setWidth 72 &&& spmMask)
    | 3 => a.setWidth 72
    | 4 => setProgress sw true d.unit.toNat
    | 5 => setProgress sw false 0
    | _ => sw
  { d with sw := sw }

/-- Loop counter, unit counter and gates. -/
def Datapath.counters (d : Datapath) (m : Microword) (a : BitVec 76) : Datapath :=
  let d := match m.lcc with
    | 1 => { d with loop := a }
    | 2 => { d with loop := m.lit.setWidth 76 }
    | 3 => { d with loop := d.loop - 1 }
    | _ => d
  let d := match m.pcn with
    | 1 => { d with unit := 0 }
    | 2 => { d with unit := d.unit + 1 }
    | 3 => { d with unit := BitVec.ofNat 76 (swPCNT d.sw) }
    | _ => d
  if m.gate == 2 || m.gate == 3 then { d with gated := [] } else d

/-! ## Conditions (Table 6.5) -/

/-- What the conditions of the cycle look at. -/
structure CondIn where
  r : AluOut
  a : BitVec 76
  b : BitVec 76
  wid : Nat
  lost : Bool
  xfault : Bool
  afault : Bool
deriving DecidableEq, Repr

/-- The floating class of an operand in a format: 0 zero, 1 subnormal, 2 normal, 3 infinite, 4 quiet NaN, 5 signaling NaN,
6 negative. -/
def floatClass (f : Fmt) (v : Nat) (k : Nat) : Bool :=
  let e := v / 2 ^ f.fbits % 2 ^ f.ebits
  let m := v % 2 ^ f.fbits
  match k with
  | 0 => e == 0 && m == 0
  | 1 => e == 0 && m != 0
  | 2 => 0 < e && e < f.emax
  | 3 => e == f.emax && m == 0
  | 4 => e == f.emax && f.quietBit ≤ m
  | 5 => e == f.emax && m != 0 && m < f.quietBit
  | _ => v.testBit (f.fbits + f.ebits)

/-- A condition of the cycle; what the state does not hold is not fixed. -/
def Datapath.condition (d : Datapath) (s : State) (c : Nat) (i : CondIn) (code n : Nat) : Bool :=
  let k := s.core c
  let w := widthOf i.wid
  let sw := d.sw
  match code with
  | 0o00 => true
  | 0o01 => i.r.val == 0
  | 0o02 => i.r.val.testBit (w - 1)
  | 0o03 => i.r.carry
  | 0o04 => i.r.ovf
  | 0o05 => i.lost
  | 0o06 => i.b == 0
  | 0o07 => i.a.toNat % 2 ^ w == 2 ^ (w - 1) && i.b.toNat % 2 ^ w == 2 ^ w - 1
  | 0o10 => i.a.toNat % 2 ^ w == i.b.toNat % 2 ^ w
  | 0o11 => i.r.less
  | 0o16 => i.xfault
  | 0o17 => i.afault
  | 0o20 => hdrCS d.hdr
  | 0o21 => hdrDW d.hdr
  | 0o22 => hdrSG d.hdr
  | 0o23 => hdrRI d.hdr
  | 0o24 => bit sw 69
  | 0o25 => swPA sw
  | 0o26 => swIE sw
  | 0o27 => swOE sw
  | 0o30 => swDE sw
  | 0o31 => swCT sw
  | 0o32 => k.pl ≤ 1
  | 0o33 => k.pl ≤ 2
  | 0o34 => k.pl == 0
  | 0o35 => d.unit == BitVec.ofNat 76 (if lenOf d.hdr != 0 then lenOf d.hdr else regOf d.x (varOf d.hdr % 16) % 2 ^ 46)
  | 0o36 => d.loop == 0
  | 0o37 => k.res.isSome
  | 0o41 => k.sb.length < 32
  | 0o42 => k.sb.isEmpty
  | 0o52 => (match k.run with | .handOff _ => false | _ => true)
  | 0o53 => !k.ioHeld.isEmpty
  | 0o54 => (s.bandTaken c).isSome
  | _ =>
    if 0o60 ≤ code && code ≤ 0o66 then floatClass (if hdrDW d.hdr then f72 else f36) d.oa.toNat (code - 0o60)
    else if 0o70 ≤ code && code ≤ 0o76 then floatClass (if hdrDW d.hdr then f72 else f36) d.ob.toNat (code - 0o70)
    else Config.horizontalCond n c code

/-! ## One core cycle (R184-R189) -/

/-- What a microword leads to. -/
inductive MicroOut where
  | go (d : Datapath)
  /-- a core fault: a reserved code, the micro-stack, or SEQ = RETRY (R186, R188) -/
  | fault
  /-- a microword that waits, with all its fields idle -/
  | wait
deriving DecidableEq, Repr

/-- The key of a dispatch table. -/
def Datapath.key (d : Datapath) (n resume vec : Nat) : Nat :=
  match vec with
  | 0 => fld d.hdr 35 24
  | 1 => dMode d.desc
  | 5 => resume
  | v => Config.dispatchKey n v

/-- The next microaddress (Table 6.4). -/
def Datapath.sequence (d : Datapath) (m : Microword) (at_ : BitVec 16) (holds : Bool) (n resume : Nat) : MicroOut :=
  let go (a : BitVec 16) : MicroOut := .go { d with at_ := some a }
  let call : MicroOut :=
    if 8 ≤ d.stack.length then .fault else .go { d with at_ := some m.na, stack := (at_ + 1) :: d.stack }
  match m.seq with
  | 0 => go (at_ + 1)
  | 1 => go m.na
  | 2 => go (if holds then m.na else at_ + 1)
  | 3 => call
  | 4 => if holds then call else go (at_ + 1)
  | 5 => (match d.stack with
    | a :: l => .go { d with at_ := some a, stack := l }
    | [] => .fault)
  | 6 => go (Config.dispatchEntry m.vec (d.key n resume m.vec))
  | 7 => if holds then go (at_ + 1) else .wait
  | 9 => go m.na
  | 10 => .go { d with vertical := some (BitVec.ofNat 13 (fld m.lit 12 0)) }
  | 12 => .fault
  | _ => .go d.boundary

/-- One microword on the datapath: all fields act in one cycle (R184). No part of a word with a reserved code is performed
(R186). -/
def Datapath.issue (d : Datapath) (s : State) (c : Nat) (m : Microword) (at_ : BitVec 16) (n resume : Nat) : MicroOut :=
  if m.reserved then .fault else
  let a := d.source s c m m.asel
  let b := d.source s c m m.bsel
  let r := alu m (bit d.sw 69) (swCY d.sw) a.toNat b.toNat
  let (shf, lost) := shifter m d a.toNat b.toNat
  let (e, xf, af) := d.memory s c m a b
  let e := ({ e with shf := if m.shf == 0 then d.shf else shf } : Datapath).units m a b
  let e := ((e.dest m (BitVec.ofNat 76 r.val)).status m r a).counters m a
  let holds := e.condition s c { r := r, a := a, b := b, wid := m.wid, lost := lost, xfault := xf, afault := af } m.cond n != m.cpol
  if m.seq == 7 && !holds then .wait else e.sequence m at_ holds n resume

/-- The datapath as an instruction begins: the core's registers, at the header fetch or, past an irrevocable point, at the
resume index's entry (R198, R199). -/
def Core.datapath (k : Core) : Datapath × BitVec 16 :=
  match k.dp.at_ with
  | some a => (k.dp, a)
  | none =>
    let resume := k.checkpoint.resume
    let a := if resume == 0 then Config.headerFetch else Config.dispatchEntry 5 resume
    ({ k.dp with x := k.x, sw := k.sw, ic := k.ic, nextIC := k.ic }, a)

/-- A core cycle: the microword at the core's microaddress is fetched and checked (R185), and acts. A single-bit error is
corrected and counted as a corrected fault of the site's microword detector; any other is a core fault (R196). -/
def State.coreCycle (s : State) (c : Nat) : State :=
  if !(s.bound c && c < 100) || !s.takes c then s else
  let (n, s) := s.tick
  let k := s.core c
  let s := s.modCore c (fun k => { k with cycles := k.cycles + 1 })
  if k.dp.vertical.isSome then s else
  let (d, a) := k.datapath
  let err := Config.microError n c
  let s := if err == 1 then s.report (8 * s.siteOfCore c + 2) 1 else s
  if 2 ≤ err || microEnd ≤ a.toNat then s.coreFault c true 2 0
  else match d.issue s c (Microword.ofBits (microword s.sp.patch s.sp.matches_ a)) a n k.checkpoint.resume with
    | .go d => s.modCore c (fun k => { k with dp := d })
    | .wait => s.modCore c (fun k => { k with dp := { d with at_ := some a } })
    | .fault => s.coreFault c true 2 0

/-- A cycle of every core: what the module does when no command waits. Assumption 54 (DESIGN CHOICE). -/
def State.coreCycles (s : State) : State := s.cores.foldl (fun s e => s.coreCycle e.1) s

end Sys2Proof.Machine
end

