-- ==== Sys2Proof/Machine/Firmware.lean ====
section
/-! DEFINITION. Credentials, the panel, the medium, and firmware banks (R433, R438-R445, R448-R453). -/

namespace Sys2Proof.Machine

/-! ## Credentials (Table 14.8) -/

/-- No credential: absent or all zero. -/
def noCredential (l : List Octet) : Bool := l.all (· == 0)

/-- The credential of a role: 1 Owner, 2 Operator, 3 Service. -/
def State.credential (s : State) (role : Nat) : List Octet :=
  if role == 1 then s.sv.credOwner else if role == 2 then s.sv.credOperator else if role == 3 then s.sv.credService else []

/-- Replace a role's credential and its always-on copy (R474); all zero removes it; the role's sessions end. -/
def State.setCredential (s : State) (role : Nat) (l : List Octet) : State :=
  let l := if noCredential l then [] else l
  let s := { s with sv :=
    if role == 1 then { s.sv with credOwner := l, copyOwner := l }
    else if role == 2 then { s.sv with credOperator := l, copyOperator := l }
    else { s.sv with credService := l, copyService := l } }
  (s.endSessions (fun x => x.role == role) none).persist 0x0300 (3 + role)

/-- A write of OD 0300h.04 to .06. -/
def State.credentialWrite (s : State) (route : Route) (sub : Nat) (octets : List Octet) : State :=
  s.odWriteOct route 0x0300 sub octets 0 (fun s => s.setCredential (sub - 3) octets)

/-! ## Firmware banks (R448-R453) -/

/-- The module is moving (R450). -/
def State.moving (s : State) : Bool :=
  s.tw.st == .pairing || s.tw.st == .resync || s.tw.plannedFence || s.md.st == .extracting

/-- The abort of a staging or activation command, the owner lock apart (R450); 0 when none applies. -/
def State.updateRefused (s : State) : Nat :=
  if s.md.st != .run && s.md.st != .safe then 5
  else if s.tn.absent then 6
  else if s.moving then 9
  else if s.es.reserve < s.es.updateThreshold then 0x0A
  else if s.sv.staging.isSome then 0x0B else 0

/-- The manifest's fields in a bank. -/
def imageBank (f : ImageFile) (st : BankSt) : Bank :=
  { st := st, version := f.version, secver := f.secver, patchVersion := f.patchVersion, patch := f.patch,
    matches_ := f.matches_, fallBack := f.fallBack }

/-- Steps 1 and 2 of Table 14.14, and the bank STAGING while its blocks are read. Assumption 50 (DEDUCED). -/
def State.stage (s : State) (m : MediumContents) : State :=
  let s := { s with sv := { s.sv with blocksStaged := 0 } }
  let b := s.sv.inactive
  if s.sv.medium != 2 || !m.usable then s.stageFails 8 b
  else match m.image with
    | none => s.stageFails 9 b
    | some f =>
      if !f.complete then s.stageFails 9 b
      else if !f.formatOk then s.stageFails 3 b
      else if !f.keysOk then s.stageFails 4 b
      else if !f.signaturesOk then s.stageFails 5 b
      else if f.secver < s.sv.fusedSecver then s.stageFails 6 b
      else (({ s with sv := { s.sv with staging := some f } }).setInactive { b with st := .staging }).updateStatus 2

/-- Steps 3 and 4 of Table 14.14, a block at a time: the block's checks, and the bank STAGED after the last.
Assumption 50 (DEDUCED). -/
def State.stageBlock (s : State) : State :=
  match s.sv.staging with
  | none => s
  | some f =>
    let i := s.sv.blocksStaged
    if f.badBlock == some i && decide (i < f.nblocks) then
      ({ s with sv := { s.sv with staging := none } }).stageFails 7 (imageBank f .invalid)
    else
      let s := { s with sv := { s.sv with blocksStaged := min (i + 1) f.nblocks } }
      if i + 1 < f.nblocks then s
      else (({ s with sv := { s.sv with staging := none } }).setInactive (imageBank f .staged)).updateStatus 0x0A

/-- The patch set and the fall-back store of a bank are installed in every tile (Table 6.12), unless the loader refuses the
set for what its microwords and match entries hold (R186, R190). Assumption 54 (DEDUCED). -/
def State.usePatch (s : State) (b : Bank) : State :=
  if patchRefused b.patch b.matches_ then s
  else { s with sp := { s.sp with patchVersion := b.patchVersion, patch := b.patch, matches_ := b.matches_, fallBack := b.fallBack } }

/-- Activation of the bank that is not active (R451): verified again, then the boot bank; live, active at once.
Assumption 50 (DEDUCED). -/
def State.activate (s : State) (live verified : Bool) : State :=
  let b := s.sv.inactive
  if !verified then
    let (n, s) := s.tick
    s.stageFails (if Config.activationCheck n then 7 else 5) b
  else
    let s := { s with sv := { s.sv with selectedB := !s.sv.activeB } }
    let s := if live then
        let old := s.sv.active
        let s := s.setInactive { b with st := .active }
        let s := { s with sv := { s.sv with activeB := !s.sv.activeB } }
        (s.setInactive { old with st := .staged }).usePatch b
      else s
    s.updateStatus 1

/-- The abort of an activation: the bank must be STAGED, and a live one needs the other components identical. -/
def State.activateAbort (s : State) (live sameOthers : Bool) : Nat :=
  let g := s.updateRefused
  let v := if s.sv.inactive.st != .staged || (live && !sameOthers) then 8 else 0
  if g == 0 then v else if v == 0 then g else min g v

/-- OD 1800h.0A = 04h (R453). Assumption 50 (DEDUCED). -/
def State.commitSecver (s : State) : State := { s with sv := { s.sv with fusedSecver := s.sv.active.secver } }

/-! ## The medium (R444, R445) -/

/-- The enrollment file's credential, when every field passes (Table 14.11). -/
def State.enrollment (s : State) (l : List Octet) : Option (List Octet) :=
  let cred := (l.drop 16).take 32
  if l.length == 52 && octNat (l.take 4) == 0x4E50454E && octNat ((l.drop 4).take 8) == s.sv.serial.toNat &&
     oct l 12 == 1 && octNat ((l.drop 13).take 3) == 0 && octNat (l.drop 48) == (crc32c (l.take 48)).toNat &&
     !noCredential cred then some cred else none

/-- Enrollment (R444). -/
def State.enroll (s : State) (l : List Octet) : State :=
  if !(noCredential s.sv.credOwner || s.sv.reenroll) then s.logEvent 1229
  else match s.enrollment l with
    | some cred => ({ s with sv := { s.sv with reenroll := false } }).setCredential 1 cred
    | none => s.logEvent 1229

/-- The medium action that REQUEST held 3 s starts (R439, R442, R444): at SERVICE, without the lock, while enabled, in
the states in which the persistent configuration is kept. -/
def State.mediumAction (s : State) (m : MediumContents) : State :=
  let served := match s.md.st with
    | .run | .safe | .halted | .extracting => true
    | _ => false
  if s.sv.key != .service || s.ownerLocked || !s.sv.mediumEnable || !served then s
  else match (if s.sv.medium == 2 && m.usable then m.enrollment else none) with
    | some l => s.enroll l
    | none => if s.updateRefused != 0 then s.logEvent 1229 else s.stage m

/-! ## The panel (R438-R440) -/

/-- R438: leaving SERVICE ends Service sessions; LOCKED stops injection and a running staging. -/
def State.turnKey (s : State) (pos : KeyPos) : State :=
  let s := { s with sv := { s.sv with key := pos } }
  let s := if pos != .service then s.endSessions (fun x => x.role == 3) (some 5) else s
  if pos == .locked then
    ({ s with fc := { s.fc with injection := 0, srcs := s.fc.srcs.filterMap (fun (e : Nat × FSrc) =>
        let v : FSrc := { e.2 with forceLeft := 0, forceCls := 0 }
        if v = FSrc.init then none else some (e.1, v)) } }).abandonStaging
  else s

/-- OD 1A00h.03: a medium that staging reads is shown as reading. -/
def State.mediumShown (s : State) : Nat := if s.sv.staging.isSome then 3 else s.sv.medium

/-- The lights of OD 1A00h.02 (Table 14.10). Assumption 52 (DEDUCED). -/
def State.lights (s : State) : Nat :=
  if s.md.st == .off then 0 else
  let fault := if s.md.st == .halted || s.md.st == .safe then 2
    else if s.fc.srcs.any (fun e => e.2.fenced || e.2.squall) then 3
    else if s.fc.lightContained then 1 else 0
  let admits := s.md.st == .run || s.md.st == .extracting
  let energy := if s.md.st == .dusk || s.es.bleeding || s.md.weak || s.es.testResult == 2 then 2
    else if admits && s.md.ceiling ≤ s.admissible then 3
    else if (s.md.charging && s.md.extractStep < 5) || s.es.reserve != 0 then 1 else 0
  let activity := if s.mediumShown == 3 then 2 else if s.md.st == .run then 3 else if s.md.st == .dawn then 1 else 0
  let ident := if s.md.latchReleased then 3 else if s.md.st == .extracting then 2 else if s.sv.identify then 1 else 0
  fault * 64 + energy * 16 + activity * 4 + ident

/-! ## Rows -/

def execCredential (route : Route) (sub : Nat) (octets : List Octet) (s : State) : Host.Outcome State Fault Refusal :=
  s.runIf (wfRoute route && decide (4 ≤ sub) && decide (sub ≤ 6)) (s.credentialWrite route sub octets)

/-- Both contacts low are taken as LOCKED and reported by source 1229 (R470): a contained fault, its class not being given.
Assumption 52 (DEDUCED). -/
def execKeySwitch (contacts : KeyContacts) (s : State) : Host.Outcome State Fault Refusal :=
  s.runIf true (match contacts with
    | .at_ pos => s.turnKey pos
    | .bothLow => (s.turnKey .locked).report 1229 2)

/-- R439. -/
def execRequestPress (milliseconds : Nat) (medium : MediumContents) (s : State) : Host.Outcome State Fault Refusal :=
  s.runIf true (
    if milliseconds < 2000 then { s with fc := { s.fc with lightContained := false } }
    else if milliseconds < 3000 then s
    else s.mediumAction medium)

def execMediumAction (medium : MediumContents) (s : State) : Host.Outcome State Fault Refusal :=
  s.runIf true (s.mediumAction medium)

/-- R439, R443. -/
def execIdentifyPress (s : State) : Host.Outcome State Fault Refusal :=
  s.runIf true (if s.md.st == .off then s else { s with sv := { s.sv with identify := !s.sv.identify } })

/-- R445; removal of the card abandons a running staging (R450). -/
def execMediumChange (state : Nat) (s : State) : Host.Outcome State Fault Refusal :=
  s.runIf (decide (state < 3)) (
    let s := { s with sv := { s.sv with medium := state } }
    if state != 2 then s.abandonStaging else s)

def execStage (route : Route) (medium : MediumContents) (s : State) : Host.Outcome State Fault Refusal :=
  s.runIf (wfRoute route) (s.odWriteNum route 0x1800 0x0A 1 s.updateRefused (fun s => s.stage medium))

def execActivateAtDawn (route : Route) (verified : Bool) (s : State) : Host.Outcome State Fault Refusal :=
  s.runIf (wfRoute route) (s.odWriteNum route 0x1800 0x0A 2 (s.activateAbort false true) (fun s => s.activate false verified))

def execActivateLive (route : Route) (verified sameOthers : Bool) (s : State) : Host.Outcome State Fault Refusal :=
  s.runIf (wfRoute route) (s.odWriteNum route 0x1800 0x0A 3 (s.activateAbort true sameOthers)
    (fun s => s.activate true verified))

def execCommitSecurityVersion (route : Route) (s : State) : Host.Outcome State Fault Refusal :=
  let more := rangeOnly (decide (s.sv.fusedSecver < s.sv.active.secver))
  s.runIf (wfRoute route) (s.odWriteNum route 0x1800 0x0A 4 more State.commitSecver)

def execAbandonStaging (route : Route) (s : State) : Host.Outcome State Fault Refusal :=
  s.runIf (wfRoute route) (s.odWriteNum route 0x1800 0x0A 5 0 State.abandonStaging)

end Sys2Proof.Machine
end

