-- ==== Sys2Proof/Machine/Life.lean ====
section
/-! DEFINITION. Dawn, the orderly stop, extraction and the reference clocks (R38-R43, R201, R283-R285, R370, R403, R414,
R446, R447, R452, R466). -/

namespace Sys2Proof.Machine

/-! ## Dawn: banks and measurements (R370, R452) -/

/-- The serial number passes the identity check (R17). -/
def State.identityOk (s : State) : Bool := s.sv.serial != 0 && s.sv.serial != BitVec.allOnes 64

/-- A bank holds an image that verifies and is not below the fused security version. -/
def State.bootable (s : State) (b : Bank) (verified : Bool) : Bool :=
  (b.st == .staged || b.st == .active) && verified && decide (s.sv.fusedSecver ≤ b.secver)

/-- A bank that fails verification is INVALID; one that was active and is not chosen is STAGED again. -/
def Bank.after (b : Bank) (tried verified chosen : Bool) : Bank :=
  if chosen then { b with st := .active }
  else if tried && !verified && (b.st == .staged || b.st == .active) then { b with st := .invalid }
  else if b.st == .active then { b with st := .staged } else b

/-- The boot ROM tries the selected bank, then the other; the bank it starts, if any (R452). Assumption 50 (DEDUCED). -/
def State.bootBank (s : State) (aOk bOk : Bool) : Option Bool × State :=
  let okA := s.bootable s.sv.bankA aOk
  let okB := s.bootable s.sv.bankB bOk
  let first := if s.sv.selectedB then okB else okA
  let pick : Option Bool :=
    if first then some s.sv.selectedB else if (if s.sv.selectedB then okA else okB) then some (!s.sv.selectedB) else none
  let triedA := !s.sv.selectedB || !first
  let triedB := s.sv.selectedB || !first
  let s := { s with sv := { s.sv with bankA := s.sv.bankA.after triedA aOk (pick == some false),
                                      bankB := s.sv.bankB.after triedB bOk (pick == some true),
                                      activeB := pick.getD s.sv.activeB } }
  (pick, if pick == some (!s.sv.selectedB) then s.report 1230 2 else s)

/-- M0 to M4, and Zenith present from now on. -/
def State.measured (s : State) (m0 : BitVec 384) : State :=
  let (n, s) := s.tick
  { s with tn := { s.tn with
    measurements := Vector.ofFn (fun (i : Fin 5) => if i.val == 0 then m0 else Config.measurement n i.val),
    absent := false, restarting := false, restarts := 0, discarded := 0, wdogKick := s.tm.tod, sealLog := [] } }

/-! ## Dawn: units returned, the site map, sealed blocks (R201, R370, R397) -/

/-- A source whose unit is returned leaves Squall and its fence. -/
def State.returnUnits (s : State) : State :=
  let back (e : Nat × FSrc) : Bool := e.2.returning || (s.sp.returnFailed && decide (e.1 < 832))
  let ids := (s.fc.srcs.filter back).map (·.1)
  let s := { s with
    fc := { s.fc with srcs := s.fc.srcs.filterMap (fun e =>
      let v : FSrc := if back e then { e.2 with squall := false, fenced := false, rail := false, events := [], returning := false }
                      else e.2
      if v = FSrc.init then none else some (e.1, v)) },
    cx := { s.cx with fenced := s.cx.fenced.filter (fun l => !ids.contains (880 + l)) },
    ci := { s.ci with fenced := s.ci.fenced.filter (fun c => !ids.contains (928 + c)) },
    ch := { s.ch with procFenced := s.ch.procFenced.filter (fun p => !ids.contains (848 + p)) },
    sp := { s.sp with failed := if s.sp.returnFailed then [] else s.sp.failed.filter (fun x => !ids.any (fun i => i < 832 && i / 8 == x)),
                      returnFailed := false } }
  let s := { s with dy := { s.dy with links := s.dy.links.map (fun (e : Nat × Link) =>
    (e.1, { e.2 with fenced0 := e.2.fenced0 && !ids.contains (952 + 2 * e.1), fenced1 := e.2.fenced1 && !ids.contains (953 + 2 * e.1) })) } }
  s

/-- Blocks whose unit is fenced stay FENCED across a reset (R397). -/
def State.refence (s : State) : State :=
  let bs := s.cx.fenced ++ s.ci.fenced.map (48 + ·) ++ s.ch.procFenced.map (72 + ·) ++
    ((List.range 3).filter (fun i => (s.fsrc (1231 + i)).fenced)).map (104 + ·)
  bs.foldl (fun s b => s.setBlock b { Block.init with st := .fenced }) s

/-- Step 3a: sites that fail their self-test are recorded, the map is restored or built, and every core starts at the
beginning of level 0. -/
def State.dawnSites (s : State) (bad : List Nat) : State :=
  let s := { s with md := { s.md with lockstep := (s.profile s.md.selected).lockstep }, cores := [], tc := [],
                    sp := { s.sp with taking := [], responses := [] },
                    mem := { words := [], tags := [], poison := [] } }
  let s := (bad.filter wfSite).foldl (fun s x => s.siteFails x) s
  s.siteMap

/-! ## Dawn: Anvil (R251, R278, R284, R333) -/

/-- The tail of a stream's records as walked from the first: the last record before one that fails or is missing, and
whether a failing record stopped the walk. Assumption 48 (DEDUCED). -/
def walkTail (bad : Nat → Bool) : Nat → List Nat → Nat × Bool
  | at_, [] => (at_, false)
  | at_, n :: r => if n ≤ at_ then walkTail bad at_ r else if n == at_ + 1 && !bad n then walkTail bad n r else (at_, bad n)

/-- The recovered tail of a stream, whether entries are lost, and whether the walk was needed and stopped (R284). -/
def State.recover (s : State) (stream : Nat) (bad : List (Nat × Nat)) : Nat × Bool × Bool :=
  let seqs := (s.jn.records.filter (fun r => r.stream == stream)).map (·.seq)
  let start := if stream < 512 then (s.jt stream).released else (seqs.headD 1) - 1
  let (found, stopped) := walkTail (fun n => bad.contains (stream, n)) start seqs
  let closing := tget s.jn.closing 0 stream
  if closing ≤ start then (found, false, stopped)
  else if found < closing then (found, true, false) else (closing, false, false)

/-- A tenant's entries are lost: JN_STATUS.LOSS, the count, and the Host's fault source (R284). -/
def State.lossOf (s : State) (t : Nat) : State :=
  let s := s.setJt t { s.jt t with loss := true }
  ({ s with jn := { s.jn with lossEvents := s.jn.lossEvents + 1 } }).ringHost

/-- Recover one stream; no record after its tail is kept. -/
def State.recoverStream (bad : List (Nat × Nat)) (s : State) (stream : Nat) : State :=
  let (tail, lost, stopped) := s.recover stream bad
  let s := { s with jn := { s.jn with
    records := s.jn.records.filter (fun r => !(r.stream == stream && tail < r.seq)),
    tailsNoClosing := s.jn.tailsNoClosing + b2n stopped } }
  if stream < 512 then
    let s := s.setJt stream { s.jt stream with committed := tail, written := tail }
    if lost || decide (tail < tget s.fc.haltSeqs 0 stream) then s.lossOf stream else s
  else if stream == 1024 then { s with jn := { s.jn with ownSeq := max s.jn.ownSeq (tail + 1) } } else s

/-- Every stream that Anvil holds, and every tenant whose journal a halt recorded. -/
def State.streams (s : State) : List Nat :=
  (s.jn.tenants.map (·.1) ++ s.jn.records.map (·.stream) ++ s.fc.haltSeqs.map (·.1)).eraseDups

/-- No copy of a halt record is left: LOSS for every tenant whose journal is enabled (R402). -/
def State.haltLoss (s : State) : State :=
  if !s.fc.haltLost then s else
  let ts := (s.jn.tenants.filter (fun e => e.2.energyQuota != 0 && e.2.anvilQuota != 0)).map (·.1)
  ts.foldl (fun s t => s.lossOf t) { s with fc := { s.fc with haltLost := false } }

/-- Steps 3b and 4: tails, the counter reservations, key-slot counts and the time floor. -/
def State.dawnAnvil (s : State) (bad : List (Nat × Nat)) : State :=
  let s := (s.streams.foldl (fun s t => s.recoverStream bad t) s).haltLoss
  let s := { s with jn := { s.jn with
    closing := [], pending := [],
    tenants := s.jn.tenants.map (fun (e : Nat × JnTenant) => (e.1, { e.2 with counter := max e.2.counter e.2.reserved })) } }
  let slot (k : KeySlot) : KeySlot := { k with used := k.reservedTo, before := [] }
  let s := { s with ci := { s.ci with tenants := s.ci.tenants.map (fun (e : Nat × CiTenant) =>
    let keys := match e.2.change with
      | some c => tput e.2.keys KeySlot.init c.handle c.slot
      | none => e.2.keys
    (e.1, { e.2 with keys := keys.map (fun (k : Nat × KeySlot) => (k.1, slot k.2)), change := none })) } }
  { s with tm := { s.tm with tod := max s.tm.tod s.tm.floor, lock := if s.tm.lock == 4 then 0 else s.tm.lock } }

/-- Step 5: persisted records that are not DONE become IN-DOUBT; the others are gone (R235). -/
def State.dawnLedger (s : State) : State :=
  { s with ch := { s.ch with ledger := s.ch.ledger.filterMap (fun (e : LedgerEntry) =>
    if !e.persistent then none
    else some { e with item := none, st := if e.st == .opened || e.st == .issued then .inDoubt else e.st }) } }

/-- Step 6: settings that apply from a DAWN, and the credentials' copies (R474). -/
def State.dawnConfig (s : State) : State :=
  let node := s.md.slot + 1
  let short := decide (s.sv.nodeCount < node + 1)
  let s := { s with
    dy := { s.dy with modnum := s.dy.modNext, members := s.dy.membersNext },
    ch := { s.ch with consNum := s.ch.consNext, bifNow := s.ch.bifurcation },
    sv := { s.sv with copyOwner := s.sv.credOwner, copyOperator := s.sv.credOperator, copyService := s.sv.credService,
                       nodesNow := max s.sv.nodeCount (node + 1) } }
  if short then s.report 1227 2 else s

/-! ## Dawn: links and the twin (R172, R177, R407, R414) -/

/-- Step 7 for one Jetstream link. -/
def State.dawnLink (f : DawnInput) (s : State) (k : Nat) : State :=
  let l := s.link k
  let v : Link := { Link.init with fenced0 := l.fenced0, fenced1 := l.fenced1 }
  if !s.isMember (s.linkPeer k) then s.setLink k v
  else if f.mismatched.contains k then (s.setLink k { v with st := .mismatch }).report (linkSource k) 2
  else match f.links.find? (fun (e : Nat × Bool × Bool) => e.1 == k) with
    | some (_, a, b) =>
      let g0 := a && !v.fenced0
      let g1 := b && !v.fenced1
      s.setLink k { v with st := if g0 || g1 then .active else .down, g0 := g0, g1 := g1 }
    | none => s.setLink k { v with st := .down }

def State.dawnLinks (s : State) (f : DawnInput) : State :=
  let s := { s with dy := { s.dy with inService := BitVec.ofNat 16 ((s.reachSet f.reachable).foldl (fun a m => a + 2 ^ m) 0),
                                      view := [], partition := false } }
  let s := (List.range 15).foldl (fun s k => s.dawnLink f k) s
  { s.flood with ch := { s.flood.ch with portUp0 := true, portUp1 := true } }

/-- The Twin link trains; a module with a recorded twin starts in SELF-FENCED, with its silence counted from RUN. -/
def State.dawnTwin (s : State) : State :=
  let (n, s) := s.tick
  let open_ := (List.range 4).foldl (fun a i => if (s.fsrc (997 + i)).fenced then a else a + 2 ^ i) 0
  let lanes := (Config.twinTrains n).toNat &&& open_
  let fenceIt := s.tw.enabled && s.tw.expected != 0
  { s with tw := { s.tw with
    st := if fenceIt then .selfFenced else if s.tw.enabled && lanes != 0 then .pairing else .unpaired,
    selfFence := fenceIt, plannedFence := false, relinquishSent := false, lanes := lanes,
    linkSt := if lanes == 0 then .down else .active, unacked := [], witness := false, heardLink := s.tm.tod,
    heardSvc := s.tm.tod, lastHb := none, rejectH := false, rejectZ := false } }

/-! ## Dawn as a whole (Table 8.7) -/

def State.toSafe (s : State) : State := { s with md := { s.md with st := .safe, resetDawn := false } }

/-- The start of the sequence: the sessions end, what DAWN resets is reset, the log restarts after a loss of VAUX. -/
def State.dawnBegin (s : State) : State :=
  let s := s.abandonStaging.endSessions (fun _ => true) (some 7)
  let s := { s with
    md := { s.md with st := .dawn, faultPins := false, extractStep := 0, latchReleased := false },
    es := { s.es with bleeding := false, bled := false },
    sv := { s.sv with selects := [], identify := false, updateStatus := 0 },
    fc := { s.fc with injection := 0, log := if s.fc.lost then (s.fc.log ++ s.fc.saved).take 4096 else s.fc.log, lost := false } }
  s.emit (.perst false)

/-- The last step: RUN with the selected profile, or Overcast by cause; SAFE while a halt is recorded that no reset
clears, or a fatal source is in Squall (R403). -/
def State.dawnEnd (s : State) : State :=
  let s := if s.md.resetDawn then { s with fc := { s.fc with haltRecorded := false, haltSeqs := [], haltInAnvil := false } } else s
  if s.fc.haltRecorded || s.fc.srcs.any (fun e => e.2.squall && fatalSource e.1) then s.toSafe
  else
    let s := { s with md := { s.md with st := .run, resetDawn := false, customLimit := 5600 } }
    let s := s.applyProfile s.targetProfile
    if s.tm.floor ≤ s.tm.tod + 1000000000 then s.newFloor else s

/-- A fatal fault of the sequence: sampled at once (Table 1.12). -/
def State.dawnFatal (s : State) (source : Nat) : State :=
  s.collect { source := source, cls := 3, rail := false, forced := false, detail := 0 }

/-- Assumption 50 (DEDUCED). -/
def State.dawn (s : State) (f : DawnInput) : State :=
  let s := s.dawnBegin
  if !f.railsOk then s.dawnFatal 1219
  else if !s.identityOk then s.toSafe
  else
    let (pick, s) := s.bootBank f.bankAOk f.bankBOk
    if pick.isNone then s.toSafe
    else
      let s := (s.measured f.m0).usePatch s.sv.active
      if (!s.sp.custEntries.isEmpty && !f.customerOk) || !f.configOk then s.toSafe
      else
        let s := (s.returnUnits.refence).dawnSites f.failedSites
        let s := (s.dawnAnvil f.badRecords).dawnLedger.dawnConfig
        let s := s.dawnLinks f
        if !s.majority f.reachable then s.dawnFatal 1202
        else s.dawnTwin.dawnEnd

/-- DAWN begins from STANDBY when every condition of Table 1.12 holds, and goes on from a reset or a lowered lever once
PORST_N is high (R467). -/
def State.dawnStarts (s : State) : Bool :=
  match s.md.st with
  | .standby => s.md.vin48 && s.md.porstHigh && s.md.startPermit && s.md.lever == .closed && s.es.held && s.md.sysclk
  | .dawn => s.md.porstHigh
  | _ => false

/-! ## The orderly stop and extraction -/

/-- RUN to SAFE (Table 1.12): commits are refused, the region flushed, TWIN tenants' failover begun, channels drained. A
refused commit's status is not given: ENERGY-LOW, as in EXTRACTING. Assumption 62 (DESIGN CHOICE). -/
def State.orderlyStop (s : State) : State :=
  let s := if s.twinServes then s.planFence else s
  let s := { s with md := { s.md with stopping := some [] } }
  s.decideEvery.flushRegion.finishStop

/-- R446. Assumption 50 (DEDUCED). -/
def State.leverLifted (s : State) : State :=
  let s := ({ s with md := { s.md with lever := .lifted } }).abandonStaging
  match s.md.st with
  | .run =>
    let s := { s with md := { s.md with st := .extracting, extractStep := 2, stopping := none },
                      es := { s.es with testResult := if s.es.testDue then 3 else s.es.testResult } }
    if s.twinServes then s.planFence else s.decideEvery
  | .safe | .halted => { s with md := { s.md with st := .extracting, extractStep := 5 }, es := { s.es with bleeding := true } }
  | .standby | .off => { s with md := { s.md with extractStep := 5 }, es := { s.es with bleeding := true } }
  | _ => s.logEvent 1229

/-- R447. -/
def State.leverLowered (s : State) : State :=
  let s := { s with md := { s.md with lever := .closed, extractStep := 0, latchReleased := false },
                    es := { s.es with bleeding := false } }
  match s.md.st with
  | .extracting =>
    let s := s.flushRegion.powerDown
    { s with md := { s.md with st := .dawn, resetDawn := false } }
  | _ => s

/-- Table 1.12: only under steady blue can the lever open. Assumption 50 (DEDUCED). -/
def State.leverOpened (s : State) : State :=
  if !s.md.latchReleased then s else
  let s := { s with md := { s.md with lever := .opened } }
  match s.md.st with
  | .extracting =>
    let s := s.toOff
    { s with md := { s.md with vin48 := false, vaux := false, vin48mV := 0, vauxmV := 0 } }
  | _ => s

/-- R285, steps 4 to 6 of Table 14.12: the region is empty, the store below 5.0 V, the latch released. In OFF the panel is
dark, so no steady blue is shown and the latch stays held (R41). -/
def State.bleedComplete (s : State) : State :=
  let bled (s : State) : State :=
    let (n, s) := s.tick
    let s := { s with md := { s.md with extractStep := 6 },
                      es := { s.es with bleeding := false, bled := true, reserve := 0, mv := Config.bledVoltage n % 5000 } }
    if s.md.st == .off then s else ({ s with md := { s.md with latchReleased := true } }).emit .latchPulse
  match s.md.st with
  | .extracting => if s.md.extractStep == 2 || s.md.extractStep == 5 then bled s.flushRegion.powerDown else s
  | .standby | .off => if s.es.bleeding then bled s else s
  | _ => s

/-! ## Reference clocks (R466) -/

/-- Every PCIe link goes down. -/
def State.pcieRefLost (s : State) : State :=
  (List.range 8).foldl (fun s p => (List.range (s.portLinks p)).foldl (fun s n =>
    if (tget s.ch.links PcieLink.init (4 * p + n)).up then s.linkDown p n else s) s) s

/-- Jetstream and Twin links fail, and the Constellation ports with them. -/
def State.ethRefLost (s : State) : State :=
  let s := ({ s with ch := { s.ch with portUp0 := false, portUp1 := false } }).twinLinkFails
  (List.range 15).foldl (fun s k => s.linkFails k) s

/-! ## Rows -/

def execDawnStart (found : DawnInput) (s : State) : Host.Outcome State Fault Refusal :=
  s.runIf true (if s.dawnStarts then s.dawn found else s)

/-- OD 1000h.0C. -/
def execOrderlyStop (route : Route) (value : Nat) (s : State) : Host.Outcome State Fault Refusal :=
  s.runIf (wfRoute route) (s.odWriteNum route 0x1000 0x0C value (rangeOnly (value == 1)) State.orderlyStop)

def execLeverLifted (s : State) : Host.Outcome State Fault Refusal := s.runIf true s.leverLifted

def execLeverLowered (s : State) : Host.Outcome State Fault Refusal := s.runIf true s.leverLowered

def execLeverOpened (s : State) : Host.Outcome State Fault Refusal := s.runIf true s.leverOpened

def execStoreBleedComplete (s : State) : Host.Outcome State Fault Refusal := s.runIf true s.bleedComplete

/-- Reference 0 is PCIE_REFCLK, 1 is ETH_REFCLK (Table 15.8). -/
def execReferenceClockLoss (which : Nat) (s : State) : Host.Outcome State Fault Refusal :=
  s.runIf (wfTwo which) (if which == 0 then s.pcieRefLost else s.ethRefLost)

end Sys2Proof.Machine
end

