-- ==== Sys2Proof/Machine/Objects.lean ====
section
/-! DEFINITION. Reading and writing every object of the dictionary (R423-R431, R474). -/

namespace Sys2Proof.Machine

/-! ## Reading -/

/-- Octets of a string of ASCII characters. -/
def strOctets (t : String) : List Octet := t.toList.map (fun c => BitVec.ofNat 8 c.toNat)

/-- A signed number in `n` octets. -/
def intOct (n : Nat) (v : Int) : List Octet := natOct n (v % (256 ^ n : Int)).toNat

def bool1 (b : Bool) : List Octet := natOct 1 (b2n b)

def bankCode : BankSt → Nat
  | .empty => 0
  | .staging => 1
  | .staged => 2
  | .active => 3
  | .invalid => 4

def stateCode : ModState → Nat
  | .off => 0
  | .standby => 1
  | .dawn => 2
  | .run => 3
  | .dusk => 4
  | .extracting => 5
  | .safe => 6
  | .halted => 7

def keyCode : KeyPos → Nat
  | .locked => 0
  | .run => 1
  | .service => 2

def leverCode : Lever → Nat
  | .closed => 0
  | .lifted => 1
  | .opened => 2

def lanesCode (n : Nat) : Nat := if n == 12 then 0 else if n == 24 then 1 else 2

/-- Sites recorded as failed, site 0 at octet 0 bit 7 (OD 1900h.0B). -/
def failedMap (l : List Nat) : List Octet :=
  (List.range 13).map (fun o => BitVec.ofNat 8 ((List.range 8).foldl (fun a b => if l.contains (8 * o + b) then a + 2 ^ (7 - b) else a) 0))

/-- OD 1901h: checker site and site of a logical core. -/
def State.siteWord (s : State) (c : Nat) : Nat :=
  let x := tget s.sp.siteOf 0xFFFF c
  if x == 0xFFFF then 0xFFFF else (if s.md.lockstep then x + 1 else 0xFF) * 256 + x

/-- Lanes enabled by the active profile, less the fenced ones. -/
def State.lanesOn (s : State) : Nat := ((List.range s.md.lanes).filter (fun l => !s.cx.fenced.contains l)).length

/-- 0100h to 0300h. -/
def State.readIdentity (s : State) (index sub : Nat) : List Octet :=
  match index, sub with
  | 0x0100, 0 => natOct 1 5
  | 0x0100, 1 => natOct 8 s.sv.serial.toNat
  | 0x0100, 2 => strOctets (if s.sv.partE then "NPX-7236-E" else "NPX-7236-C")
  | 0x0100, 3 => natOct 1 0xB0
  | 0x0100, 4 => natOct 1 s.md.slot
  | 0x0100, 5 => bool1 s.md.twinId
  | 0x0110, 0 => natOct 1 3
  | 0x0110, 1 => natOct 1 s.dy.modNext
  | 0x0110, 2 => natOct 2 s.dy.membersNext.toNat
  | 0x0110, 3 => natOct 2 s.dy.inService.toNat
  | 0x0200, 0 => natOct 1 6
  | 0x0200, 1 => natOct 1 (s.md.slot + 1)
  | 0x0200, 2 => natOct 1 s.sv.nodeCount
  | 0x0200, 3 => natOct 1 s.sv.sessions.length
  | 0x0200, 4 => natOct 2 s.sv.idleLimit
  | 0x0200, 5 => natOct 8 s.sv.discarded
  | 0x0200, 6 => natOct 1 (Config.segmentsUp s.fresh).toNat
  | 0x0300, 0 => natOct 1 8
  | 0x0300, 1 => natOct 1 (keyCode s.sv.key)
  | 0x0300, 2 => bool1 s.sv.ownerLock
  | 0x0300, 3 => bool1 s.ownerLocked
  | 0x0300, 7 => natOct 1 (b2n (!noCredential s.sv.credOwner) + 2 * b2n (!noCredential s.sv.credOperator) +
      4 * b2n (!noCredential s.sv.credService))
  | 0x0300, 8 => bool1 s.sv.reenroll
  | _, _ => []

/-- 1000h and 1001h. -/
def State.readProfile (s : State) (index sub : Nat) : List Octet :=
  match index, sub with
  | 0x1000, 0 => natOct 1 0x0C
  | 0x1000, 1 => natOct 1 s.md.selected
  | 0x1000, 2 => natOct 1 s.md.active
  | 0x1000, 3 => natOct 1 s.causes
  | 0x1000, 4 => bool1 s.lockstepPending
  | 0x1000, 5 => natOct 2 s.md.clock0
  | 0x1000, 6 => natOct 2 s.md.clock1
  | 0x1000, 7 => natOct 2 s.md.clock2
  | 0x1000, 8 => natOct 2 s.md.clock3
  | 0x1000, 9 => natOct 1 s.clockLimited
  | 0x1000, 0x0A => bool1 s.md.startPermit
  | 0x1000, 0x0B => natOct 1 (stateCode s.md.st)
  | 0x1001, 0 => natOct 1 8
  | 0x1001, 1 => natOct 2 s.md.custom.clock
  | 0x1001, 2 => bool1 s.md.custom.lockstep
  | 0x1001, 3 => bool1 s.md.custom.constTime
  | 0x1001, 4 => natOct 4 s.md.custom.ceiling
  | 0x1001, 5 => natOct 1 s.md.custom.margin
  | 0x1001, 6 => bool1 s.md.custom.ackTwin
  | 0x1001, 7 => natOct 1 (lanesCode s.md.custom.lanes)
  | 0x1001, 8 => natOct 2 s.md.custom.power
  | _, _ => []

/-- 1100h, 1200h and 1210h for tenant `t`. -/
def State.readJournal (s : State) (index sub t : Nat) : List Octet :=
  let j := s.jt t
  match index, sub with
  | 0x1100, 0 => natOct 1 0x0C
  | 0x1100, 1 => natOct 4 s.es.reserve
  | 0x1100, 2 => natOct 4 s.es.stored
  | 0x1100, 3 => natOct 4 s.es.uf
  | 0x1100, 4 => natOct 4 s.es.uohm
  | 0x1100, 5 => natOct 8 s.es.lastTest
  | 0x1100, 6 => natOct 1 s.es.testResult
  | 0x1100, 7 => natOct 4 s.admissible
  | 0x1100, 8 => natOct 4 s.es.updateThreshold
  | 0x1100, 0x0A => natOct 4 s.es.duskCount
  | 0x1100, 0x0B => natOct 4 s.es.lastDuskFlushed
  | 0x1100, 0x0C => natOct 4 s.es.lastDuskEnergy
  | 0x1200, 0 => natOct 1 7
  | 0x1200, 1 => natOct 2 s.segFree
  | 0x1200, 2 => natOct 4 (s.pendingTotal / 1024)
  | 0x1200, 3 => natOct 2 s.jn.retired.length
  | 0x1200, 4 => natOct 8 s.jn.rewrites
  | 0x1200, 5 => natOct 4 s.jn.mirrorAllowance
  | 0x1200, 6 => natOct 4 s.jn.lossEvents
  | 0x1200, 7 => natOct 4 s.jn.tailsNoClosing
  | 0x1210, 2 => natOct 4 j.energyQuota
  | 0x1210, 3 => natOct 2 j.anvilQuota
  | 0x1210, 4 => bool1 (s.ackTwin t)
  | 0x1210, 5 => bool1 j.failPolicy
  | 0x1210, 6 => natOct 4 j.waitLimit
  | 0x1210, 7 => bool1 j.refuseFallback
  | 0x1210, 8 => bool1 j.sealing
  | 0x1210, 9 => bool1 j.compression
  | 0x1210, 0x0A => natOct 4 j.epoch
  | _, _ => []

/-- 1300h to 1330h; `sel` is the value of the object's select. -/
def State.readChannels (s : State) (index sub sel : Nat) : List Octet :=
  match index, sub with
  | 0x1300, 0 => natOct 1 9
  | 0x1300, 1 => natOct 2 s.ch.chans.length
  | 0x1300, 2 => natOct 4 s.ch.ledger.length
  | 0x1300, 3 => natOct 4 (s.ch.tenants.foldl (fun a e => a + e.2.quota) 0)
  | 0x1300, 4 => natOct 4 ((List.range 32).foldl (fun a p => a + s.inflight p) 0)
  | 0x1300, 5 => natOct 8 s.ch.dups
  | 0x1300, 6 => natOct 8 s.ch.stale
  | 0x1300, 7 => natOct 8 s.ch.redrives
  | 0x1300, 8 => natOct 8 s.ch.unknown
  | 0x1300, 9 => natOct 8 s.ch.late
  | 0x1301, p => natOct 1 (tget s.ch.bifurcation 0 (p - 1))
  | 0x1310, 3 => s.configRecord sel
  | 0x1310, 4 => natOct 8 (s.chan sel).retire
  | 0x1311, 2 => natOct 4 (s.chT sel).quota
  | 0x1311, 3 => natOct 2 (s.chT sel).slice
  | 0x1320, 1 => natOct 2 s.ch.consNext
  | 0x1320, 3 => (s.ch.ckn ++ List.replicate 16 0).take 16
  | 0x1320, 4 => natOct 1 (b2n s.ch.portUp0 + 2 * b2n s.ch.portUp1)
  | 0x1320, 5 => natOct 1 s.tm.domain
  | 0x1320, 6 => bool1 s.tm.discipline
  | 0x1320, 7 => natOct 1 s.tm.lock
  | 0x1330, 1 => bool1 s.ch.needAttest
  | 0x1330, 2 => bool1 s.ch.needIde
  | 0x1330, 4 => natOct 1 (Config.attestation (nfld sel 18 16) (nfld sel 15 0) % 4)
  | 0x1330, 5 => natOct 48 (Config.functionDigest (nfld sel 18 16) (nfld sel 15 0)).toNat
  | _, _ => []

/-- 1400h to 1411h. -/
def State.readEngines (s : State) (index sub t : Nat) : List Octet :=
  match index, sub with
  | 0x1400, 0 => natOct 1 7
  | 0x1400, 1 => natOct 1 s.lanesOn
  | 0x1400, 2 => natOct 1 s.cx.fenced.length
  | 0x1400, 3 => natOct 8 s.cx.completed
  | 0x1400, 4 => natOct 8 s.cx.noGain
  | 0x1400, 5 => natOct 8 s.cx.reruns
  | 0x1400, 6 => natOct 2 (s.cx.tenants.foldl (fun a e => a + e.2.slice) 0)
  | 0x1400, 7 => natOct 1 s.cx.moduleLimit
  | 0x1401, 0 => natOct 1 3
  | 0x1401, 2 => natOct 1 (s.cxT t).slice
  | 0x1401, 3 => natOct 1 (s.cxT t).laneLimit
  | 0x1410, 0 => natOct 1 8
  | 0x1410, 1 => natOct 1 (24 - s.ci.fenced.length)
  | 0x1410, 2 => natOct 1 s.ci.fenced.length
  | 0x1410, 3 => natOct 8 s.ci.completed
  | 0x1410, 4 => natOct 8 s.ci.keyCommands
  | 0x1410, 5 => natOct 2 (s.ci.tenants.foldl (fun a e => a + e.2.handleSlice) 0)
  | 0x1410, 6 => natOct 8 s.ci.resumptions
  | 0x1410, 7 => natOct 2 1152
  | 0x1410, 8 => natOct 1 s.ci.moduleLimit
  | 0x1411, 0 => natOct 1 4
  | 0x1411, 2 => natOct 1 (s.ciT t).ringSlice
  | 0x1411, 3 => natOct 2 (s.ciT t).handleSlice
  | 0x1411, 4 => natOct 1 (s.ciT t).coreLimit
  | _, _ => []

/-- Process slices held (R364): none outside the phases that hold them; within one, a number that the spec does not state.
Assumption 66 (DESIGN CHOICE). -/
def State.processSlices (s : State) : Nat :=
  if s.md.st == .dawn || !s.sp.taking.isEmpty || s.tn.restarting then Config.processSlices s.fresh else 0

/-- 1500h and 1520h for tenant `t`. -/
def State.readTenants (s : State) (index sub t : Nat) : List Octet :=
  match index, sub with
  | 0x1500, 0 => natOct 1 0x12
  | 0x1500, 3 => natOct 1 (tenCode (s.tenant t).st)
  | 0x1500, 4 => bool1 (s.tenant t).hvPermitted
  | 0x1500, 5 => natOct 9 (s.tenant t).initialSW.toNat
  | 0x1500, 6 => natOct 4 (s.tenant t).drainTimeout
  | 0x1500, 7 => natOct 4 (s.tenant t).abandoned
  | 0x1500, 8 => natOct 2 s.processSlices
  | 0x1500, 9 => bool1 (!s.tn.absent)
  | 0x1500, 0x0B => (Config.certificate ++ List.replicate 8192 0).take 8192
  | 0x1500, 0x0C => natOct 1 s.tn.loanLanes
  | 0x1500, 0x0D => natOct 1 s.tn.loanAes
  | 0x1500, 0x0E => natOct 4 s.tn.restarts
  | 0x1500, 0x0F => natOct 1 s.tn.loanProcs
  | 0x1500, 0x10 => s.tn.measurements.toList.flatMap (fun (m : BitVec 384) => natOct 48 m.toNat)
  | 0x1500, 0x11 => natOct 2 (s.tn.tenants.filter (fun e => e.2.st == .active)).length
  | 0x1500, 0x12 => natOct 4 s.tn.discarded
  | 0x1520, 0 => natOct 1 4
  | 0x1520, 2 => natOct 2 (s.page t).slice
  | 0x1520, 3 => natOct 2 (s.page 512).slice
  | 0x1520, 4 => natOct 2 256
  | _, _ => []

/-- 1600h to 1710h, at time `now`. -/
def State.readFaults (s : State) (index sub sel now : Nat) : List Octet :=
  match index, sub with
  | 0x1600, 0 => natOct 1 7
  | 0x1600, 1 => natOct 4 s.fc.head
  | 0x1600, 2 => natOct 8 s.fc.contained
  | 0x1600, 3 => natOct 2 s.fc.hostSource
  | 0x1600, 4 => natOct 2 (s.fc.srcs.filter (fun e => e.2.squall)).length
  | 0x1600, 5 => natOct 2 (s.fc.srcs.filter (fun e => e.2.fenced)).length
  | 0x1600, 7 => natOct 2 s.fc.lastFatal
  | 0x1610, 0 => natOct 1 5
  | 0x1610, 2 => natOct 1 (s.fsrc sel).n
  | 0x1610, 3 => natOct 4 (s.fsrc sel).t
  | 0x1610, 4 => natOct 1 ((s.fsrc sel).register / 2 ^ 30 * 4)
  | 0x1620, 0 => natOct 1 3
  | 0x1620, 1 => natOct 1 s.fc.injection
  | 0x1620, 3 => natOct 4 s.fc.forced
  | 0x1700, 0 => natOct 1 0x0A
  | 0x1700, 1 => bool1 s.tw.enabled
  | 0x1700, 2 => natOct 8 s.tw.expected.toNat
  | 0x1700, 3 => natOct 1 (pairCode s.tw.st)
  | 0x1700, 4 => natOct 8 s.tw.peer.toNat
  | 0x1700, 5 => natOct 4 s.tw.takeovers
  | 0x1700, 6 => natOct 4 s.tw.resyncs
  | 0x1700, 7 => natOct 2 s.tw.conflicts.length
  | 0x1700, 8 => natOct 2 (msSince now (max s.tw.heardLink s.tw.heardSvc) 65535)
  | 0x1700, 0x0A => bool1 (s.witnessHeard now)
  | 0x1710, 2 => (tget s.sv.alternate [] sel ++ List.replicate 6 0).take 6
  | _, _ => []

/-- 1800h, 1900h to 1902h, 1A00h and 1B00h. -/
def State.readService (s : State) (index sub : Nat) : List Octet :=
  match index, sub with
  | 0x1800, 0 => natOct 1 0x0C
  | 0x1800, 1 => bool1 s.sv.activeB
  | 0x1800, 2 => bool1 s.sv.selectedB
  | 0x1800, 3 => natOct 1 (bankCode s.sv.bankA.st)
  | 0x1800, 4 => natOct 1 (bankCode s.sv.bankB.st)
  | 0x1800, 5 => natOct 4 s.sv.bankA.version
  | 0x1800, 6 => natOct 4 s.sv.bankB.version
  | 0x1800, 7 => natOct 1 s.sv.fusedSecver
  | 0x1800, 8 => natOct 1 s.sv.active.secver
  | 0x1800, 9 => natOct 4 s.sv.blocksStaged
  | 0x1800, 0x0B => natOct 1 s.sv.updateStatus
  | 0x1800, 0x0C => bool1 s.sv.mediumEnable
  | 0x1900, 0 => natOct 1 0x0C
  | 0x1900, 1 => natOct 1 s.sp.spareCount
  | 0x1900, 2 => natOct 1 s.spares.length
  | 0x1900, 3 => natOct 1 s.sp.configured
  | 0x1900, 4 => natOct 1 (s.sp.configured - s.sp.siteOf.length)
  | 0x1900, 5 => natOct 4 s.sp.patchVersion
  | 0x1900, 6 => natOct 2 s.sp.patch.length
  | 0x1900, 7 => natOct 1 (s.sp.matches_.countP (fun w => bit w 35))
  | 0x1900, 8 => natOct 8 s.sp.retries
  | 0x1900, 9 => natOct 8 s.sp.takeovers
  | 0x1900, 0x0A => natOct 4 s.sp.uncontained
  | 0x1900, 0x0B => failedMap s.sp.failed
  | 0x1901, 0 => natOct 1 100
  | 0x1901, c => natOct 2 (s.siteWord (c - 1))
  | 0x1902, 0 => natOct 1 8
  | 0x1902, 1 => natOct 48 s.sp.ecDigest.toNat
  | 0x1902, 2 => natOct 48 s.sp.mlDigest.toNat
  | 0x1902, 5 => natOct 1 s.sp.loadStatus
  | 0x1902, 6 => natOct 4 s.sp.custVersion
  | 0x1902, 7 => natOct 4 s.sp.custSecver
  | 0x1902, 8 => natOct 2 s.sp.custEntries.length
  | 0x1A00, 0 => natOct 1 5
  | 0x1A00, 1 => bool1 s.sv.identify
  | 0x1A00, 2 => natOct 1 s.lights
  | 0x1A00, 3 => natOct 1 s.mediumShown
  | 0x1A00, 4 => natOct 1 (leverCode s.md.lever)
  | 0x1A00, 5 => natOct 1 s.md.extractStep
  | 0x1B00, 0 => natOct 1 5
  | 0x1B00, 1 => intOct 4 s.md.inlet
  | 0x1B00, 2 => intOct 4 s.md.hottest
  | 0x1B00, 3 => natOct 4 s.md.powerMean
  | 0x1B00, 4 => natOct 4 s.md.vin48mV
  | 0x1B00, 5 => natOct 4 s.md.vauxmV
  | _, _ => []

/-- The select object that an index's objects are chosen by (R426), as (index, sub). -/
def selectOf (index : Nat) : Option (Nat × Nat) :=
  if index == 0x1310 then some (0x1310, 2)
  else if index == 0x1330 then some (0x1330, 3)
  else if [0x1210, 0x1311, 0x1401, 0x1411, 0x1500, 0x1520, 0x1610, 0x1710].contains index then some (index, 1)
  else none

/-- Value of the select object of an index. -/
def State.sel (s : State) (route : Route) (index : Nat) : Nat :=
  match selectOf index with
  | some (i, n) => s.select route i n
  | none => 0

/-- The value of an object in the octet form, as this route sees it, at time `now`. -/
def State.objValue (s : State) (route : Route) (index sub now : Nat) : List Octet :=
  let sel := s.sel route index
  if selectOf index == some (index, sub) then
    natOct (match objRights .owner index sub with | (some t, _) => t.lengths.2 | _ => 2) sel
  else if index == 0x1320 && sub == 8 then natOct 8 now
  else if 0x4000 ≤ index then
    let t := (index - 0x4000) / 0x20
    if sub == 1 then natOct 1 (tenCode (s.tenant t).st) else bool1 (s.tenant t).hvOk
  else if index < 0x1000 then s.readIdentity index sub
  else if index < 0x1100 then s.readProfile index sub
  else if index < 0x1300 then s.readJournal index sub sel
  else if index < 0x1400 then s.readChannels index sub sel
  else if index < 0x1500 then s.readEngines index sub sel
  else if index < 0x1600 then s.readTenants index sub sel
  else if index < 0x1800 then s.readFaults index sub sel now
  else s.readService index sub

/-- The value of a public object. -/
def State.publicValue (s : State) (index sub now : Nat) : List Octet := s.objValue (.session 0) index sub now

/-- Read an object (R425, R428). -/
def State.odRead (s : State) (route : Route) (index sub : Nat) : State :=
  match s.routeRole route with
  | none => s.odAnswer 1 []
  | some r =>
    let g := s.odGate r index sub false true 0
    if g == 0 then
      let (n, s) := s.now
      s.odAnswer 0 (s.objValue route index sub n)
    else s.odAnswer g []

/-! ## Writing -/

/-- An outcome's next state; a refusal cannot arise from a decoded write. -/
def nextOf (s : State) (o : Host.Outcome State Fault Refusal) : State :=
  match o with
  | .next t => t
  | _ => s

/-- A range of numbers (abort 08h). -/
def within (v lo hi : Nat) : Nat := rangeOnly (decide (lo ≤ v) && decide (v ≤ hi))

/-- The values that a select object takes. -/
def selectRange (index v : Nat) : Nat :=
  if index == 0x1310 || index == 0x1710 then within v 0 32767
  else if index == 0x1330 then within v 0 (2 ^ 19 - 1)
  else if index == 0x1610 then rangeOnly (wfFaultSource v)
  else within v 0 511

/-- Slices of the twin's tenants as mirrored, counted while the pair is in service (R409). -/
def State.twinShare (s : State) (f : MirrorConfig → Nat) : Nat :=
  if s.twinServes then s.tw.mConfig.foldl (fun a c => if c.twin then a + f c else a) 0 else 0

/-- Sum of a slice over the other tenants. -/
def sumOthers {α : Type} (l : Tab α) (t : Nat) (f : α → Nat) : Nat :=
  l.foldl (fun a e => if e.1 == t then a else a + f e.2) 0

/-- Anvil quotas of this module's TWIN tenants, tenant `t` counted with `q` (R409). -/
def State.twinAnvil (s : State) (t q : Nat) : Nat :=
  s.jn.tenants.foldl (fun a e => if e.1 != t && s.ackTwin e.1 then a + e.2.anvilQuota else a) q

/-- An engine ring in a range is open. -/
def ringOpenFrom (l : Tab Ring) (n : Nat) : Bool := l.any (fun e => n ≤ e.1 && e.2.opened)

/-- A source of a page at or above `n` is in use (R388). -/
def State.sourceUsed (s : State) (o n : Nat) : Bool :=
  (s.page o).srcs.any (fun e => n ≤ e.1 && (e.2.st != .inactive || e.2.defer)) ||
  (o < 512 && (s.ch.chans.any (fun e => e.2.tenant == o && e.2.opened && n ≤ e.2.isrc) ||
    (s.cxT o).rings.any (fun e => e.2.opened && n ≤ e.2.isrc) || (s.ciT o).rings.any (fun e => e.2.opened && n ≤ e.2.isrc))) ||
  (o == 512 && s.cores.any (fun e => e.2.gwen && n ≤ e.2.gwsrc))

/-- The sum of the interrupt slices with page `o` at `v`. -/
def State.irqSum (s : State) (o v : Nat) : Nat := sumOthers s.ir.pages o (fun p => p.slice) + v

def State.setIrqSlice (s : State) (o v : Nat) : State :=
  s.setPage o { s.page o with slice := v, srcs := (s.page o).srcs.filter (fun e => e.1 < v) }

/-- The abort of a value written to a setting with no row of its own, 0 when it is accepted. -/
def State.setAbort (s : State) (index sub v sel : Nat) (octets : List Octet) : Nat :=
  let busy (b : Bool) : Nat := if b then 0x0B else 0
  let both (a b : Nat) : Nat := if a != 0 then a else b
  match index, sub with
  | 0x0110, 1 => rangeOnly (v < 16 && s.dy.membersNext.getLsbD v)
  | 0x0110, 2 => rangeOnly (v != 0 && v.testBit s.dy.modNext)
  | 0x0200, 2 => rangeOnly (2 ≤ v && s.md.slot + 2 ≤ v)
  | 0x0200, 4 => within v 10 3600
  | 0x1001, 1 => rangeOnly (1200 ≤ v && v ≤ 5600 && v % 100 == 0)
  | 0x1001, 4 => rangeOnly (512 ≤ v && v ≤ 4096 && v % 256 == 0)
  | 0x1001, 5 => within v 15 50
  | 0x1001, 7 => within v 0 2
  | 0x1001, 8 => within v 900 1750
  | 0x1100, 8 => within v 4000 16000
  | 0x1200, 5 => within v 0 2048
  | 0x1210, 2 => rangeOnly (v ≤ 4032 && sumOthers s.jn.tenants sel (fun j => j.energyQuota) + v + s.twinShare (fun c => c.energyQuota) ≤ 4032 &&
      s.pendingOf sel ≤ v * MiB)
  | 0x1210, 3 => rangeOnly (v ≤ 3552 && sumOthers s.jn.tenants sel (fun j => j.anvilQuota) + v + s.twinShare (fun c => c.anvilQuota) ≤ 3552 &&
      s.anvilUse sel ≤ v * (2 * MiB) && (!(s.twinServes && s.ackTwin sel) || s.twinAnvil sel v ≤ 192))
  | 0x1210, 4 => rangeOnly (v ≤ 1 && (v == 0 || !s.twinServes || s.twinAnvil sel (s.jt sel).anvilQuota ≤ 192))
  | 0x1210, 6 => within v 1 10000
  | 0x1301, _ => within v 0 2
  | 0x1311, 2 => rangeOnly (v ≤ 1048576 && sumOthers s.ch.tenants sel (fun c => c.quota) + v + s.twinShare (fun c => c.ledgerQuota) ≤ 1048576 &&
      s.ledgerUsed sel ≤ v)
  | 0x1311, 3 => rangeOnly (v ≤ 32768 && s.ch.chans.all (fun e => e.2.tenant != sel || e.2.localNo < v) &&
      (!s.twinServes || sumOthers s.ch.tenants sel (fun c => c.slice) + v + s.twinShare (fun c => c.chanSlice) ≤ 32768))
  | 0x1320, 1 => within v 0 2047
  | 0x1320, 5 => within v 0 127
  | 0x1400, 7 => within v 1 48
  | 0x1401, 2 => both (rangeOnly (v ≤ 16 && sumOthers s.cx.tenants sel (fun c => c.slice) + v + s.twinShare (fun c => c.ringSlice) ≤ 4096))
      (busy (ringOpenFrom (s.cxT sel).rings v))
  | 0x1401, 3 => within v 1 48
  | 0x1410, 8 => within v 1 24
  | 0x1411, 2 => both (rangeOnly (v ≤ 16 && sumOthers s.ci.tenants sel (fun c => c.ringSlice) + v + s.twinShare (fun c => c.cipherRings) ≤ 4096))
      (busy (ringOpenFrom (s.ciT sel).rings v))
  | 0x1411, 3 => rangeOnly (v ≤ 1024 && sumOthers s.ci.tenants sel (fun c => c.handleSlice) + v + s.twinShare (fun c => c.handleSlice) ≤ 7040 &&
      (s.ciT sel).keys.all (fun e => !e.2.loaded || e.1 < v))
  | 0x1411, 4 => within v 1 24
  | 0x1500, 4 => rangeOnly (v ≤ 1 && (s.tenant sel).st == .absent)
  | 0x1500, 6 => within v 1 60000
  | 0x1500, 0x0C => within v 0 4
  | 0x1500, 0x0D => within v 0 4
  | 0x1500, 0x0F => rangeOnly (v % 16 ≤ 2 && v / 16 ≤ 1)
  | 0x1520, 2 => both (rangeOnly (v ≤ 1024 && s.irqSum sel v + s.twinShare (fun c => c.irqSlice) ≤ 8192))
      (busy (v < (s.page sel).slice && s.sourceUsed sel v))
  | 0x1520, 3 => both (rangeOnly (v ≤ 1024 && s.irqSum 512 v + s.twinShare (fun c => c.irqSlice) ≤ 8192))
      (busy (v < (s.page 512).slice && s.sourceUsed 512 v))
  | 0x1600, 3 => rangeOnly (v == 0xFFFF || (v < 1024 && v < (s.page 512).slice))
  | 0x1610, 3 => within v 1 86400000
  | 0x1620, 1 => within v 0 2
  | 0x1700, 2 => rangeOnly (v != 2 ^ 64 - 1)
  | 0x1710, 2 => rangeOnly ((oct octets 2).toNat < 8 && octNat (octets.drop 3) == 0)
  | 0x1900, 1 => within v 4 16
  | _, _ => match objRights .owner index sub with
    | (some t, _) => rangeOnly (t.boolOk v && (!(index == 0x1001 || index == 0x1210) || v ≤ 1))
    | _ => 0

/-- A change of the custom profile while it is active takes the profile-change sequence (Table 1.9). -/
def State.setCustom (s : State) (p : ProfileSet) : State :=
  let s := { s with md := { s.md with custom := p } }
  if s.md.active == 4 && s.md.st == .run then s.requestProfile 4 else s

/-- The effect of a setting with no row of its own. -/
def State.setValue (s : State) (index sub v sel : Nat) (octets : List Octet) : State :=
  let j := s.jt sel
  let cu := s.md.custom
  match index, sub with
  | 0x0110, 1 => { s with dy := { s.dy with modNext := v } }
  | 0x0110, 2 => { s with dy := { s.dy with membersNext := BitVec.ofNat 16 v } }
  | 0x0200, 2 => { s with sv := { s.sv with nodeCount := v } }
  | 0x0200, 4 => { s with sv := { s.sv with idleLimit := v } }
  | 0x0300, 2 => { s with sv := { s.sv with ownerLock := v == 1 } }
  | 0x0300, 8 => { s with sv := { s.sv with reenroll := v == 1 } }
  | 0x1001, 1 => s.setCustom { cu with clock := v }
  | 0x1001, 2 => s.setCustom { cu with lockstep := v == 1 }
  | 0x1001, 3 => s.setCustom { cu with constTime := v == 1 }
  | 0x1001, 4 => s.setCustom { cu with ceiling := v }
  | 0x1001, 5 => s.setCustom { cu with margin := v }
  | 0x1001, 6 => s.setCustom { cu with ackTwin := v == 1 }
  | 0x1001, 7 => s.setCustom { cu with lanes := if v == 0 then 12 else if v == 1 then 24 else 48 }
  | 0x1001, 8 => s.setCustom { cu with power := v }
  | 0x1100, 8 => { s with es := { s.es with updateThreshold := v } }
  | 0x1200, 5 => { s with jn := { s.jn with mirrorAllowance := v } }
  | 0x1210, 2 => ((s.setJt sel { j with energyQuota := v }).mirrorConfig sel).decideTenant sel false
  | 0x1210, 3 => ((s.setJt sel { j with anvilQuota := v }).mirrorConfig sel).decideTenant sel false
  | 0x1210, 4 => ((s.setJt sel { j with ackTwin := v == 1, ackSet := true }).mirrorConfig sel).decideTenant sel false
  | 0x1210, 5 => ((s.setJt sel { j with failPolicy := v == 1 }).mirrorConfig sel).decideTenant sel false
  | 0x1210, 6 => (s.setJt sel { j with waitLimit := v }).mirrorConfig sel
  | 0x1210, 7 => ((s.setJt sel { j with refuseFallback := v == 1 }).mirrorConfig sel).decideTenant sel false
  | 0x1210, 9 => (s.setJt sel { j with compression := v == 1 }).mirrorConfig sel
  | 0x1301, p => { s with ch := { s.ch with bifurcation := tput s.ch.bifurcation 0 (p - 1) v } }
  | 0x1311, 2 => (s.setChT sel { s.chT sel with quota := v }).mirrorConfig sel
  | 0x1311, 3 => (s.setChT sel { s.chT sel with slice := v }).mirrorConfig sel
  | 0x1320, 1 => { s with ch := { s.ch with consNext := v } }
  | 0x1320, 2 => { s with ch := { s.ch with cak := octets } }
  | 0x1320, 3 => { s with ch := { s.ch with ckn := octets } }
  | 0x1320, 5 => { s with tm := { s.tm with domain := v } }
  | 0x1320, 6 => { s with tm := { s.tm with discipline := v == 1 } }
  | 0x1330, 1 => { s with ch := { s.ch with needAttest := v == 1 } }
  | 0x1330, 2 => { s with ch := { s.ch with needIde := v == 1 } }
  | 0x1400, 7 => { s with cx := { s.cx with moduleLimit := v } }
  | 0x1401, 2 => (s.setCxT sel { s.cxT sel with slice := v }).mirrorConfig sel
  | 0x1401, 3 => (s.setCxT sel { s.cxT sel with laneLimit := v }).mirrorConfig sel
  | 0x1410, 8 => { s with ci := { s.ci with moduleLimit := v } }
  | 0x1411, 2 => (s.setCiT sel { s.ciT sel with ringSlice := v }).mirrorConfig sel
  | 0x1411, 3 => (s.setCiT sel { s.ciT sel with handleSlice := v }).mirrorConfig sel
  | 0x1411, 4 => (s.setCiT sel { s.ciT sel with coreLimit := v }).mirrorConfig sel
  | 0x1500, 4 => (s.setTenant sel { s.tenant sel with hvPermitted := v == 1 }).mirrorConfig sel
  | 0x1500, 6 => (s.setTenant sel { s.tenant sel with drainTimeout := v }).mirrorConfig sel
  | 0x1500, 0x0C => { s with tn := { s.tn with loanLanes := v } }
  | 0x1500, 0x0D => { s with tn := { s.tn with loanAes := v } }
  | 0x1500, 0x0F => { s with tn := { s.tn with loanProcs := v } }
  | 0x1520, 2 => (s.setIrqSlice sel v).mirrorConfig sel
  | 0x1520, 3 => s.setIrqSlice 512 v
  | 0x1600, 3 => { s with fc := { s.fc with hostSource := v } }
  | 0x1610, 2 => s.setFsrc sel { s.fsrc sel with n := v }
  | 0x1610, 3 => s.setFsrc sel { s.fsrc sel with t := v }
  | 0x1620, 1 => { s with fc := { s.fc with injection := v } }
  | 0x1700, 2 => { s with tw := { s.tw with expected := BitVec.ofNat 64 v } }
  | 0x1710, 2 => ({ s with sv := { s.sv with alternate := tput s.sv.alternate [] sel (if v == 0 then [] else octets) } }).mirrorConfig
      (s.chan sel).tenant
  | 0x1800, 0x0C => { s with sv := { s.sv with mediumEnable := v == 1 } }
  | 0x1900, 1 => { s with sp := { s.sp with spareCount := v } }
  | 0x1902, 1 => { s with sp := { s.sp with ecDigest := BitVec.ofNat 384 v } }
  | 0x1902, 2 => { s with sp := { s.sp with mlDigest := BitVec.ofNat 384 v } }
  | 0x1902, 3 => { s with sp := { s.sp with staged := octets } }
  | 0x1A00, 1 => { s with sv := { s.sv with identify := v == 1 } }
  | _, _ => s

/-- Objects whose value is not kept in the persistent configuration (R427): the volatile ones, and what a command reads. -/
def volatileObject (index sub : Nat) : Bool :=
  selectOf index == some (index, sub) || (index == 0x1A00 && sub == 1) || (index == 0x1620 && sub == 1) ||
  (index == 0x1902 && sub == 3)

/-- A write of an object with no row of its own. -/
def State.setObject (s : State) (route : Route) (index sub v : Nat) (octets : List Octet) : State :=
  if selectOf index == some (index, sub) then
    s.odWriteOct route index sub octets (selectRange index v) (fun s =>
      { s with sv := { s.sv with selects := tput s.sv.selects 0 (s.selectKey route index sub) v } })
  else
    let sel := s.sel route index
    s.odWriteOct route index sub octets (s.setAbort index sub v sel octets) (fun s =>
      let s := s.setValue index sub v sel octets
      if volatileObject index sub then s else s.persist index sub)

/-- What the medium holds when an object write starts a staging: free values, the row's operand being absent. -/
def freeMedium (n : Nat) : MediumContents :=
  { usable := Config.mediumUsable n, enrollment := none,
    image := (Config.mediumImage n).map (fun l =>
      { complete := l.getD 0 0 == 0, formatOk := l.getD 1 0 == 0, keysOk := l.getD 2 0 == 0, signaturesOk := l.getD 3 0 == 0,
        version := l.getD 4 0, secver := l.getD 5 0 % 64, nblocks := l.getD 6 0 % 4096 + 1,
        badBlock := if l.getD 7 0 == 0 then none else some (l.getD 7 0 - 1), patchVersion := l.getD 8 0,
        patch := (Config.mediumPatch n).take 2048, matches_ := (Config.mediumMatches n).take 128,
        fallBack := (Config.mediumFallBack n).take 8192 }) }

/-- OD 1500h.02 and 1800h.0A by value; a reserved value is outside the range. Assumption 41 (DEDUCED). -/
def State.tenantObject (s : State) (route : Route) (v : Nat) : State :=
  match v with
  | 1 => nextOf s (execCreate route s)
  | 2 => nextOf s (execReset route s)
  | 3 => nextOf s (execDelete route s)
  | _ => s.odWriteNum route 0x1500 2 v 8 id

/-- Assumption 12 (DESIGN CHOICE). -/
def State.updateObject (s : State) (route : Route) (v : Nat) : State :=
  let (n, s) := s.tick
  match v with
  | 1 => nextOf s (execStage route (freeMedium n) s)
  | 2 => nextOf s (execActivateAtDawn route (Config.bankVerified n) s)
  | 3 => nextOf s (execActivateLive route (Config.bankVerified n) (Config.sameComponents n) s)
  | 4 => nextOf s (execCommitSecurityVersion route s)
  | 5 => nextOf s (execAbandonStaging route s)
  | _ => s.odWriteNum route 0x1800 0x0A v 8 id

def State.customerObject (s : State) (route : Route) (v : Nat) : State :=
  match v with
  | 1 => nextOf s (execLoadStagedImage route s)
  | 2 => nextOf s (execUnload route s)
  | _ => s.odWriteNum route 0x1902 4 v 8 id

/-- Assumption 12 (DESIGN CHOICE). -/
def State.restartObject (s : State) (route : Route) (v : Nat) : State :=
  let (n, s) := s.tick
  nextOf s (execRestartZenith route v (Config.zenithVerified n) (Config.zenithMeasured n) s)

/-- Write an object: the object's own row where it has one (R423-R429). -/
def State.odWrite (s : State) (route : Route) (index sub : Nat) (octets : List Octet) : State :=
  let v := octNat octets
  let fits := match objRights .owner index sub with
    | (some t, _) => t.fits octets
    | _ => true
  if !fits || !wfRoute route then s.odWriteOct route index sub octets 4 id
  else match index, sub with
    | 0x0300, 4 => s.credentialWrite route 4 octets
    | 0x0300, 5 => s.credentialWrite route 5 octets
    | 0x0300, 6 => s.credentialWrite route 6 octets
    | 0x1000, 1 => nextOf s (execSelectedProfile route v s)
    | 0x1000, 0x0A => nextOf s (execStartPermit route v s)
    | 0x1000, 0x0C => nextOf s (execOrderlyStop route v s)
    | 0x1100, 9 => nextOf s (execStartSelfTest route v s)
    | 0x1210, 8 => nextOf s (execSealing route v s)
    | 0x1210, 0x0B => nextOf s (execReProvisionSealing route v s)
    | 0x1310, 1 => nextOf s (execConfigureChannel route octets s)
    | 0x1320, 8 => nextOf s (execTimeOfDay route (BitVec.ofNat 64 v) s)
    | 0x1500, 2 => s.tenantObject route v
    | 0x1500, 0x0A => s.restartObject route v
    | 0x1600, 6 => nextOf s (execModuleReset route v s)
    | 0x1610, 5 => nextOf s (execReturnUnit route v s)
    | 0x1620, 2 => nextOf s (execForce route v s)
    | 0x1700, 1 => nextOf s (execPairingEnabled route v s)
    | 0x1700, 9 => nextOf s (execPlannedFailover route v s)
    | 0x1800, 0x0A => s.updateObject route v
    | 0x1900, 0x0C => nextOf s (execReturnFailedSites route v s)
    | 0x1902, 4 => s.customerObject route v
    | _, _ => s.setObject route index sub v octets

/-! ## Row -/

def execObjectWrite (route : Route) (index sub : Nat) (octets : List Octet) (s : State) : Host.Outcome State Fault Refusal :=
  s.runIf (wfRoute route) (s.odWrite route index sub octets)

end Sys2Proof.Machine
end

