-- ==== Sys2Proof/Machine/Submit.lean ====
section
/-! DEFINITION. Instructions that hand work to a unit: ENGINE SUBMIT and POLL, SIGNAL CHANNEL, COMMIT and OBJECT ACCESS
(R110, R198, R255-R257, R302-R304, R323, R430, R431, R475). -/

namespace Sys2Proof.Machine

/-! ## Rings and channels: every older access is performed before the hand-off (R109, R110) -/

def opPost (h : Word) (vars : Nat) (ops : List OpSpec) : OpCode :=
  { varOk := varOf h < vars, lenOk := lenOf h == 0, ops := ops }

/-- A post of B on A, with its status word to the last operand; the level below 2 acts for no tenant (R475). The unit
reads words of the tenant for it. -/
def State.post (s : State) (core : Nat) (ins : Insn) (o : OpCode) (opn : Nat) (reads : State → Nat → Nat → Nat × List Nat)
    (f : State → Nat → Nat → Nat → Nat → Word × State) : State :=
  s.drained core (fun s => s.instr core ins o (fun r =>
    let (agent, ws) := reads r.s r.start.tenant (r.val 0)
    let ls := if r.start.pl < 2 then [] else r.s.agentLines r.start.tenant ws
    match r.s.agentReads agent ls with
    | (_, false) => .error (.agent agent ls)
    | (s, true) =>
      let (w, t) := f s r.start.tenant r.start.pl (r.val 0) (r.val 1)
      .ok (({ r with s := t } : Run).finish (r.eff [(opn, w.toNat)] r.sw))))

def execEsbCompression (core : Nat) (ins : Insn) (s : State) : Host.Outcome State Fault Refusal :=
  s.runIf (wfVar core ins 0o6030 2 0) (s.post core ins (opPost ins.hdr 2 [srcOp 1, srcOp 1, dstOp 1]) 2 (fun s t a => (compressionAgent, s.esbCxReads t a)) State.esbCx)

def execEsbCipher (core : Nat) (ins : Insn) (s : State) : Host.Outcome State Fault Refusal :=
  s.runIf (wfVar core ins 0o6030 2 1) (s.post core ins (opPost ins.hdr 2 [srcOp 1, srcOp 1, dstOp 1]) 2 (fun s t a => (cipherAgent, s.esbCiReads t a)) State.esbCi)

def execEplCompression (core : Nat) (ins : Insn) (s : State) : Host.Outcome State Fault Refusal :=
  s.runIf (wfVar core ins 0o6031 2 0) (s.post core ins (opPost ins.hdr 2 [srcOp 1, dstOp 1]) 1
    (fun _ _ _ => (compressionAgent, [])) (fun s t level a _ => s.eplCx t level a))

def execEplCipher (core : Nat) (ins : Insn) (s : State) : Host.Outcome State Fault Refusal :=
  s.runIf (wfVar core ins 0o6031 2 1) (s.post core ins (opPost ins.hdr 2 [srcOp 1, dstOp 1]) 1
    (fun _ _ _ => (cipherAgent, [])) (fun s t level a _ => s.eplCi t level a))

def execSch (core : Nat) (ins : Insn) (s : State) : Host.Outcome State Fault Refusal :=
  s.runIf (wfIns core ins 0o6040) (s.post core ins (opPost ins.hdr 1 [srcOp 1, srcOp 1, dstOp 1]) 2
    (fun s t a => (procAgent ((s.findChan t a).elim 0 (fun m => (s.chan m).proc)), s.schReads t a)) (fun s t level a n =>
    let (st, s) := s.schPost t level a n
    (postWord st n, s)))

/-! ## Blocks in memory -/

/-- The pages of a range, translated: virtual page address and real page address. -/
def State.mapPages (s : State) (c : Nat) (nd : Need) : List Nat → Except Stop (List (Nat × Nat))
  | [] => .ok []
  | va :: rest =>
    match s.translate (s.core c).party c nd va with
    | .error f => .error (Stop.ofX 1 va f)
    | .ok r =>
      if !s.homeServes r.ra then .error (Stop.check 3 va)
      else (s.mapPages c nd rest).map (fun l => (va / 4096 * 4096, r.ra / 4096 * 4096) :: l)

/-- The real address of a word in mapped pages. -/
def mapped (m : List (Nat × Nat)) (va : Nat) : Nat :=
  match m.find? (fun p => p.1 == va / 4096 * 4096) with
  | some p => p.2 + va % 4096
  | none => 0

/-- The first address in each page of `n` words from an address. -/
def wordPages (bits a n : Nat) : List Nat := (a :: (rangePages a n).drop 1).map (· % 2 ^ bits)

/-- Form the operands, read the block A, check it, and only then translate B (order 12). `check` may translate what the
block names. -/
def State.prepareBlock {α : Type} (s : State) (c : Nat) (ins : Insn) (o : OpCode)
    (check : State → List Word → Except Stop α) : Except (Stop × Nat) (Run × α) :=
  let k := s.core c
  match s.decodeInsn c ins o with
  | .error e => .error e
  | .ok (ls, f) =>
    match s.placeAll c k.hm 1 (o.ops.take 1) (ls.take 1) with
    | .error e => .error (e, o.words)
    | .ok pa =>
      match s.readAll c f.x pa with
      | .error e => .error (e, o.words)
      | .ok (vs, s) =>
        match check s (valWords ((o.ops.map (·.n)).headD 1) (vs.headD 0)) with
        | .error e => .error (e, o.words)
        | .ok d =>
          match s.placeAll c k.hm 2 (o.ops.drop 1) (ls.drop 1) with
          | .error e => .error (e, o.words)
          | .ok pb =>
            let ps := pa ++ pb
            .ok ({ s := s, c := c, hdr := ins.hdr, start := k, x := f.x, lines := f.lines ++ ps.flatMap Placed.loadLines,
                   fetch := f.fetch, vas := f.vas ++ ps.flatMap Placed.vas, ops := ps, vals := vs ++ [0], len := o.words }, d)

/-- One try at an instruction of a block. -/
def State.tryBlock {α : Type} (s : State) (c : Nat) (ins : Insn) (o : OpCode)
    (check : State → List Word → Except Stop α) (f : Run → α → Except Stop State) : Except (Stop × Nat) State :=
  match s.prepareBlock c ins o check with
  | .error e => .error e
  | .ok (r, d) =>
    match r.useCaches with
    | .error e => .error (e, o.words)
    | .ok r => (match f r d with
      | .error e => .error (e, o.words)
      | .ok t => .ok t)

/-- Try it until it completes, takes an exception, or waits. -/
def State.tryBlocks {α : Type} (c : Nat) (ins : Insn) (o : OpCode)
    (check : State → List Word → Except Stop α) (f : Run → α → Except Stop State) : Nat → State → State
  | 0, s => s
  | n + 1, s =>
    match s.tryBlock c ins o check f with
    | .ok t => t
    | .error (st, len) =>
      let (t, again) := s.resolve c st
      if again then State.tryBlocks c ins o check f n t
      else if (t.core c).seq == (s.core c).seq then t.stopped c ins len st else t

/-- The instruction of a block, after every older access of the core is performed. -/
def State.blockInsn {α : Type} (s : State) (core : Nat) (ins : Insn) (o : OpCode)
    (check : State → List Word → Except Stop α) (f : Run → α → Except Stop State) : State :=
  s.drained core (fun s =>
    let (s, go) := s.beforeInstr core
    if !go then s else (State.tryBlocks core ins o check f 128 s.tick.2).deliverChecks core)

def opBlockStatus (h : Word) (n level : Nat) : OpCode :=
  { varOk := varOf h == 0, lenOk := lenOf h == 0, level := level,
    ops := [{ use := .s, ty := .block, n := n, aligned := true }, dstOp 1] }

/-- A unit reads lines for the instruction, or it waits for them (R163). -/
def Run.reads (r : Run) (a : Nat) (lines : List Nat) : Except Stop Run :=
  match r.s.agentReads a lines with
  | (_, false) => .error (.agent a lines)
  | (s, true) => .ok { r with s := s }

/-- Where B's status word goes. -/
def Run.statusDest (r : Run) (i : Nat) : StatusDest :=
  match r.ops[i]? with
  | some p => (match p.loc with
    | .reg n => .reg n
    | _ => (match p.words with
      | q :: _ => .mem q.1
      | [] => .drop))
  | none => .drop

/-- Complete with a status word. -/
def Run.status (r : Run) (s : State) (w : Word) : State := ({ r with s := s } : Run).finish (r.eff [(1, w.toNat)] r.sw)

/-! ## COMMIT (R255-R257) -/

/-- The descriptor of Table 8.1 is in order: `sealing` says whether the tenant's entries may be sealed.
Assumption 37 (DEDUCED). -/
def comValid (ws : List Word) (sealing : Bool) : Bool :=
  let d := dwordAt ws 0
  let w := wordAt ws 2
  fld d 71 48 == 0 && fld w 33 17 == 0 && 1 ≤ fld w 16 0 && fld w 16 0 ≤ 65536 && (!bit w 35 || sealing)

/-- What the descriptor comes to: its words, whether it is valid, and the real addresses of the data. -/
structure ComDesc where
  ws : List Word
  valid : Bool
  data : List Nat
deriving DecidableEq, Repr

/-- Steps 1 and 3 of R256; at levels 0 and 1 step 1 alone (R475). -/
def State.comCheck (s : State) (c : Nat) (ws : List Word) : Except Stop ComDesc :=
  let k := s.core c
  let sealing := 2 ≤ k.pl && (s.jt k.tenant).sealing
  if !comValid ws sealing || k.pl < 2 then .ok { ws := ws, valid := comValid ws sealing, data := [] }
  else
    let a := fld (dwordAt ws 0) 47 0
    let n := fld (wordAt ws 2) 16 0
    let bits := aBits k.hm
    (s.mapPages c Need.load (wordPages bits (a % 2 ^ bits) n)).map (fun m =>
      { ws := ws, valid := true, data := (List.range n).map (fun i => mapped m ((a + i) % 2 ^ bits)) })

/-- Steps 4 to 6: the hand-off, and the controller's answer. -/
def Run.commit (r : Run) (d : ComDesc) : State :=
  if !d.valid then r.status r.s (comWord 6 0)
  else if r.start.pl < 2 then r.status r.s (comWord 8 0)
  else
    let w := wordAt d.ws 2
    let s := r.s.installAll r.start.party r.c r.vas
    let h : HandOff := {
      tag := BitVec.ofNat 16 (s.core r.c).seq, resume := Config.resumeIndex 0,
      dest := r.statusDest 1, regs := (List.range 16).map (fun i => (i, BitVec.ofNat 72 (regOf r.x i))),
      nextIC := BitVec.ofNat 48 r.nextIC, level := r.start.pl, vaddr := 0 }
    let s := s.modCore r.c (fun k => k.pastPoint (.handOff h))
    s.commitArrives r.start.tenant
      { core := r.c, user := wordAt d.ws 3, words := d.data.map s.rd, poisoned := d.data.any (fun a => s.poisoned (lineOf a)),
        toSeal := bit w 35, toCompress := bit w 34, mirrored := none }

/-- The data of a commit that the journal controller reads (R256 step 5). -/
def ComDesc.lines (d : ComDesc) : List Nat := d.data.map lineOf

def execCom (core : Nat) (ins : Insn) (s : State) : Host.Outcome State Fault Refusal :=
  s.runIf (wfIns core ins 0o6010) (s.blockInsn core ins (opBlockStatus ins.hdr 4 3) (fun s ws => s.comCheck core ws) 
    (fun r d => (r.reads journalAgent d.lines).map (·.commit d)))

/-! ## OBJECT ACCESS (R430, R431) -/

/-- A request block (Table 14.4). -/
structure OdaReq where
  op : Nat
  index : Nat
  sub : Nat
  length : Nat
  value : Nat
  result : Nat
  /-- every reserved field is zero -/
  zeros : Bool
deriving DecidableEq, Repr

def odaReq (ws : List Word) : OdaReq :=
  let w0 := wordAt ws 0
  let w1 := wordAt ws 1
  let r := dwordAt ws 4
  { op := fld w0 35 34, index := fld w0 31 16, sub := fld w0 15 8, length := fld w1 17 0, value := (dwordAt ws 2).toNat,
    result := fld r 50 0, zeros := fld w0 33 32 == 0 && fld w0 7 0 == 0 && fld w1 35 18 == 0 && fld r 71 51 == 0 }

def OType.buffer : OType → Bool
  | .str _ => true
  | .blob _ => true
  | _ => false

/-- A scalar's word form (Table 14.1). -/
def OType.toWord (t : OType) (l : List Octet) : Nat :=
  match t with
  | .i n => wrapTo 72 (sint (8 * n) (octNat l))
  | _ => octNat l

/-- The octets of a scalar's word form, if it has that form. -/
def OType.ofWord (t : OType) (v : Nat) : Option (List Octet) :=
  match t with
  | .i n => if fitsSigned (8 * n) (sint 72 v) then some (natOct n v) else none
  | .w36 => if v < 2 ^ 36 then some (natOct 5 v) else none
  | .d72 => some (natOct 9 v)
  | .u n => if v < 256 ^ n then some (natOct n v) else none
  | _ => if v < 256 then some (natOct 1 v) else none

/-- The request's form fits its operation and the object's type (Table 14.4). Assumption 38 (DEDUCED). -/
def OdaReq.formed (q : OdaReq) (ty : Option OType) : Bool :=
  q.zeros && (q.op == 1 || q.op == 2) &&
    (match ty with
     | none => true
     | some t =>
       if t.buffer then q.value == 0
       else q.length == 0 && (if q.op == 1 then q.value == 0 && q.result < 2 ^ 48 && q.result % 2 == 0
         else q.result == 0 && (t.ofWord q.value).isSome))

/-- What ODA accesses: the request, the object's type as the role sees it, and the pages of the result or buffer. -/
structure OdaPlan where
  req : OdaReq
  ty : Option OType
  pages : List (Nat × Nat)
deriving DecidableEq, Repr

/-- Translate the result doubleword or the buffer at the issuing level (R431). Assumption 38 (DEDUCED). -/
def State.odaCheck (s : State) (c : Nat) (ws : List Word) : Except Stop OdaPlan :=
  let k := s.core c
  let q := odaReq ws
  let bits := aBits k.hm
  let ty := match s.routeRole (.inBand c) with
    | some r => if (objRights r q.index q.sub).2 == 0 then none else (objRights r q.index q.sub).1
    | none => none
  let plan (m : List (Nat × Nat)) : OdaPlan := { req := q, ty := ty, pages := m }
  match ty with
  | none => .ok (plan [])
  | some t =>
    if !q.formed ty then .ok (plan [])
    else if t.buffer then
      if q.length == 0 then .ok (plan [])
      else
        let first := q.result / 9 * 2
        let last := (q.result + q.length - 1) / 9 * 2 + 1
        if 2 ^ bits ≤ last then
          .error (.exc { cls := 4, sub := 1, opn := 1, vaddr := last % 2 ^ 48, info := 0 })
        else (s.mapPages c (if q.op == 1 then Need.store else Need.load) (wordPages bits first (last + 1 - first))).map plan
    else if q.op == 1 then (s.mapPages c Need.store (wordPages bits (q.result % 2 ^ bits) 2)).map plan
    else .ok (plan [])

/-- The status word of ODA: ABORT and the octets transferred. -/
def odaWord (abort n : Nat) : Word := packW [(abort, 28), (n, 0)]

/-- The read's result goes to its doubleword or buffer. Assumption 38 (DEDUCED). -/
def State.odaResult (s : State) (p : OdaPlan) (t : OType) (l : List Octet) : State :=
  let bits := if t.buffer then octetsBitsAt p.req.result l else wordBits p.req.result (valWords 2 (t.toWord l))
  s.agentPut serviceAgent (bits.map (fun b => { b with ra := mapped p.pages b.ra }))

/-- The value that a write carries. -/
def State.odaValue (s : State) (p : OdaPlan) (t : OType) : List Octet :=
  if t.buffer then (List.range p.req.length).map (fun i => octetOf (fun va => s.rd (mapped p.pages va)) (p.req.result + i))
  else (t.ofWord p.req.value).getD []

/-- The lines of the buffer that a write carries. -/
def OdaPlan.lines (p : OdaPlan) : List Nat :=
  if p.ty.any OType.buffer && p.req.op == 2 then
    (List.range p.req.length).map (fun i => lineOf (mapped p.pages (2 * ((p.req.result + i) / 9)))) else []

/-- The access under the issuing level's role: the state with the answer. -/
def State.odaAccess (s : State) (c : Nat) (p : OdaPlan) : State :=
  let q := p.req
  let route := Route.inBand c
  match s.routeRole route, p.ty with
  | some r, some t =>
    if !q.formed p.ty then s.odAnswer (s.odGate r q.index q.sub (q.op == 2) false 0) []
    else if q.op == 2 then s.odWrite route q.index q.sub (s.odaValue p t)
    else
      let u := s.odRead route q.index q.sub
      if u.sv.answerAbort == 0 && t.buffer && q.length < u.sv.answer.length then s.odAnswer 4 [] else u
  | _, _ => s.odAnswer 1 []

/-- ODA completes with its status word, unless the access stopped the core. Assumption 38 (DEDUCED). -/
def Run.oda (r : Run) (p : OdaPlan) : State :=
  let u := r.s.odaAccess r.c p
  let l := match p.ty with
    | some t => if p.req.op == 2 then r.s.odaValue p t else u.sv.answer
    | none => []
  let ok := u.sv.answerAbort == 0
  let v := match p.ty with
    | some t => if ok && p.req.op == 1 then u.odaResult p t l else u
    | none => u
  if v.goes r.c then r.status v (odaWord u.sv.answerAbort (if ok then l.length else 0)) else v

/-- The request's OP decides between a read and a write. -/
def State.objectAccess (s : State) (core : Nat) (ins : Insn) : State :=
  s.blockInsn core ins (opBlockStatus ins.hdr 6 2) (fun s ws => s.odaCheck core ws)
    (fun r p => (r.reads serviceAgent p.lines).map (·.oda p))

def execOdaRead (core : Nat) (ins : Insn) (s : State) : Host.Outcome State Fault Refusal :=
  s.runIf (wfIns core ins 0o6020) (s.objectAccess core ins)

def execOdaWrite (core : Nat) (ins : Insn) (s : State) : Host.Outcome State Fault Refusal :=
  s.runIf (wfIns core ins 0o6020) (s.objectAccess core ins)

end Sys2Proof.Machine
end

