-- ==== Sys2Proof/Machine/Micro.lean ====
section
/-! DEFINITION. Customer opcodes: the vertical micro-operations of the customer region (R191, R192, R195, Tables 6.7, 6.8,
6.10). -/

namespace Sys2Proof.Machine

/-- The class of an entry's operands (Table 6.10). -/
inductive CustClass where
  | wide | nonets | octets | bits
deriving DecidableEq, Repr

def CustEntry.kind (e : CustEntry) : CustClass :=
  match e.cls with
  | 0 => .wide
  | 1 => .nonets
  | 2 => .octets
  | _ => .bits

/-- The use of operand `i`, from 0. -/
def CustEntry.use (e : CustEntry) (i : Nat) : Use :=
  match e.uses / 4 ^ i % 4 with
  | 0 => .s
  | 1 => .d
  | 2 => .m
  | _ => .t

/-- The entry uses a header field: 0 LEN, 1 VAR, 2 CS, 3 DW, 4 SG. -/
def CustEntry.has (e : CustEntry) (i : Nat) : Bool := e.hdrFields.testBit i

/-- A customer operand; a T operand is a target address in every class. -/
def CustEntry.operand (e : CustEntry) (h : Word) (i : Nat) : OpSpec :=
  let n := if e.has 3 && hdrDW h then 2 else 1
  if e.use i == .t then { use := .t, ty := .val, n := 1 } else
  match e.kind with
  | .wide => { use := e.use i, ty := .val, n := n }
  | .nonets => { use := e.use i, ty := .chr 0o27, n := 1 }
  | .octets => { use := e.use i, ty := .chr 0o30, n := 1 }
  | .bits => { use := e.use i, ty := .bits, n := 1 }

/-- What the entry makes of the instruction's words (R195). An entry that uses LEN has the count operand N of R52, whose
register VAR[11:8] names with LEN = 0. Assumption 11 (DESIGN CHOICE). -/
def CustEntry.opcode_ (e : CustEntry) (h : Word) : OpCode :=
  { dw := e.has 3, sg := e.has 4, cs := e.has 2, count := e.has 0,
    varOk := if e.has 0 && lenOf h == 0 then varOf h / 16 == 0 else e.has 1 || varOf h == 0, lenOk := e.has 0 || lenOf h == 0,
    level := if e.priv then 2 else 3, ops := (List.range e.count).map (e.operand h) }

/-! ## The vertical sequencer -/

/-- The sequencer within one instruction. -/
structure Micro where
  /-- the machine, with the instruction's gated stores -/
  s : State
  v : Vector DWord 16
  pc : Nat
  stack : List Nat
  /-- what the last CMP found -/
  less : Bool
  equal : Bool
  sw : DWord
  /-- the condition code that SCC sets -/
  cc : Option Nat
  /-- XWR's registers, the oldest first -/
  xs : List (Nat × Nat)
  lines : List Nat
  vas : List Nat
deriving DecidableEq, Repr

/-- V0 to V15. -/
def Micro.reg (m : Micro) (i : Nat) : Nat := regOf m.v i

/-- V0 ignores writes; V4 to V8 are read-only. -/
def Micro.put (m : Micro) (i v : Nat) : Micro :=
  if i == 0 || (4 ≤ i && i ≤ 8) then m else { m with v := setReg m.v i v }

/-- A free two-bit operand number. -/
def Micro.opn (m : Micro) : Nat := (Config.microOperand m.s.fresh).toNat

/-- Store-buffer entries that hold gated stores of the instruction. -/
def Micro.entries (m : Micro) (c : Nat) : Nat :=
  ((m.s.core c).sb.filter (fun e => e.words.any (fun w => w.seq == (m.s.core c).seq))).length

/-- At most 24 entries (R195). -/
def Micro.bounded (m : Micro) (c : Nat) : Except Stop Micro :=
  if 24 < m.entries c then .error (Stop.mk' 3 0 0) else .ok m

/-- Load from words that have been placed; `f` takes the value out. -/
def Micro.load (m : Micro) (c rd : Nat) (ws : List (Nat × Nat)) (f : Nat → Nat) : Except Stop Micro :=
  match m.s.loadWords c ws with
  | .error e => .error e
  | .ok l => .ok { m.put rd (f (wordsVal l)) with lines := m.lines ++ ws.map (fun q => lineOf q.1), vas := m.vas ++ ws.map (·.2) }

/-- A gated store. -/
def Micro.store (m : Micro) (c : Nat) (ws : List (Nat × Nat)) (f : Core → Core) : Except Stop Micro :=
  ({ m with s := m.s.modCore c f, vas := m.vas ++ ws.map (·.2) } : Micro).bounded c

/-- Load or store `n` words at RA + IMM (R192). -/
def Micro.words (m : Micro) (c n : Nat) (hm st : Bool) (w : Word) : Except Stop Micro :=
  let a := wrapTo (aBits hm) (m.reg (vra w) + sint 18 (vimm w))
  match m.s.placeWords c (if st then Need.store else Need.load) m.opn hm n a with
  | .error e => .error e
  | .ok ws =>
    if st then m.store c ws (fun k => k.storeWords ws (valWords n (m.reg (vrd w))))
    else m.load c (vrd w) ws id

/-- Load or store a nonet or octet. -/
def Micro.chars (m : Micro) (c q : Nat) (hm st : Bool) (w : Word) : Except Stop Micro :=
  let bits := (if q == 9 then 50 else 51) - (if hm then 24 else 0)
  let a := wrapTo bits (m.reg (vra w) + sint 18 (vimm w))
  match m.s.unitAt c hm (if st then .d else .s) m.opn q a 0 with
  | .error e => .error e
  | .ok u =>
    if st then m.store c u.words (fun k => k.unitWr u (m.reg (vrd w) % 2 ^ q))
    else m.load c (vrd w) u.words (fun v => v / 2 ^ u.low % 2 ^ q)

/-- The ALU (codes 0o04 to 0o14), at a width. -/
def microAlu (op w a b cy : Nat) : Nat :=
  match op with
  | 0o04 => (intAdd w a b 0).val
  | 0o05 => (intSub w a b 0).val
  | 0o06 => (intAdd w a b cy).val
  | 0o07 => (intSub w a b (1 - cy)).val
  | 0o10 => a &&& b
  | 0o11 => a ||| b
  | 0o12 => a ^^^ b
  | 0o13 => (intNot w a).val
  | _ => (intNeg w a).val

/-- Shifts, products and divisions (codes 0o16 to 0o25) on 72 bits. -/
def microWide (op : Nat) (sg : Bool) (a b : Nat) : Nat :=
  match op with
  | 0o16 => (intSll 72 a b).val
  | 0o17 => (intSrl 72 a b).val
  | 0o20 => (intSra 72 a b).val
  | 0o21 => (intRol 72 a b).val
  | 0o22 => a * b % 2 ^ 72
  | 0o23 => if sg then wrapTo 72 (sint 72 a * sint 72 b / 2 ^ 72) else a * b / 2 ^ 72
  | 0o24 => (intDiv 72 sg a b).val
  | _ => (intRem 72 sg a b).val

/-- TRP: an exception, or the sticky flag that stands for it. -/
def Micro.trap (m : Micro) (code : Nat) : Except Stop Micro :=
  let info := (Config.microInfo m.s.fresh).toNat
  match code with
  | 0 => .error (Stop.mk' 3 0 0)
  | 1 => if swOE m.sw then .error (.exc { cls := 0o10, sub := 0, opn := 0, vaddr := 0, info := info })
         else .ok { m with sw := setBit m.sw 61 true }
  | 2 => .error (Stop.mk' 0o11 1 0)
  | 3 => .error (.exc { cls := 0o12, sub := 1, opn := m.opn, vaddr := 0, info := info })
  | _ => if swDE m.sw then .error (.exc { cls := 0o13, sub := 0, opn := 0, vaddr := 0, info := info % 2 ^ 36 })
         else .ok { m with sw := setBit m.sw 59 true }

/-- SFL sets the flags whose bits are 1. -/
def microFlags (sw : DWord) (imm : Nat) : DWord :=
  let sw := if imm.testBit 0 then setBit sw 61 true else sw
  let sw := if imm.testBit 1 then setBit sw 59 true else sw
  setFld sw 58 54 (swFF sw ||| imm / 4 % 32)

/-- Whether DONE has been reached. -/
inductive MicroNext where
  | go (m : Micro)
  | done (m : Micro)
deriving DecidableEq, Repr

/-- One micro-operation (Table 6.8); `m.pc` names the next one in turn already. Assumption 11 (DESIGN CHOICE). -/
def Micro.exec (m : Micro) (r : Run) (sg : Bool) (w : Word) : Except Stop MicroNext :=
  let a := m.reg (vra w)
  let b := m.reg (vrb w)
  let imm := vimm w
  let wd := if imm.testBit 17 then 72 else 36
  let hm := r.start.hm
  let set (v : Nat) : Except Stop MicroNext := .ok (.go (m.put (vrd w) v))
  let at_ (yes : Bool) : Except Stop MicroNext := .ok (.go (if yes then { m with pc := imm } else m))
  let sgn (n : Nat) : Int := if sg then sint wd (n % 2 ^ wd) else (n % 2 ^ wd : Nat)
  match vop w with
  | 0o00 => .ok (.go m)
  | 0o01 => set (wrapTo 72 (sint 18 imm))
  | 0o02 => set (imm * 2 ^ 18)
  | 0o03 => set a
  | 0o15 => .ok (.go { m with less := decide (sgn a < sgn b), equal := decide (sgn a = sgn b) })
  | 0o24 | 0o25 =>
    match divFault 72 sg a b with
    | some sub => .error (Stop.mk' 0o11 sub 0)
    | none => set (microWide (vop w) sg a b)
  | 0o26 => set (clz 72 a)
  | 0o27 => set (popcount 72 a)
  | 0o30 => set (Config.unitStep false (imm % 32) (BitVec.ofNat 72 a) (BitVec.ofNat 72 b)).toNat
  | 0o31 => set (Config.unitStep true (imm % 32) (BitVec.ofNat 72 a) (BitVec.ofNat 72 b)).toNat
  | 0o40 => (m.words r.c 1 hm false w).map .go
  | 0o41 => (m.words r.c 2 hm false w).map .go
  | 0o42 => (m.words r.c 1 hm true w).map .go
  | 0o43 => (m.words r.c 2 hm true w).map .go
  | 0o44 => (m.chars r.c 9 hm false w).map .go
  | 0o45 => (m.chars r.c 9 hm true w).map .go
  | 0o46 => (m.chars r.c 8 hm false w).map .go
  | 0o47 => (m.chars r.c 8 hm true w).map .go
  | 0o50 => at_ true
  | 0o51 => at_ (a == 0)
  | 0o52 => at_ (a != 0)
  | 0o53 => at_ m.less
  | 0o54 =>
    if 4 ≤ m.stack.length then .error (Stop.mk' 3 0 0) else .ok (.go { m with pc := imm, stack := m.pc :: m.stack })
  | 0o55 =>
    match m.stack with
    | p :: l => .ok (.go { m with pc := p, stack := l })
    | [] => .ok (.go { m with pc := Config.microReturn m.s.fresh % 4096 })
  | 0o56 =>
    let m := m.put (vra w) (wrapTo 72 (a - 1))
    .ok (.go (if m.reg (vra w) != 0 then { m with pc := imm } else m))
  | 0o60 => set (regOf r.start.x imm)
  | 0o61 => .ok (.go { m with xs := m.xs ++ [(imm % 16, a)] })
  | 0o62 => .ok (.go { m with cc := some (imm % 4) })
  | 0o63 => .ok (.go { m with sw := microFlags m.sw imm })
  | 0o64 => (m.trap imm).map .go
  | 0o65 => .ok (.done m)
  | _ =>
    if vop w < 0o15 then set (microAlu (vop w) wd (a % 2 ^ wd) (b % 2 ^ wd) (b2n (swCY r.sw)))
    else set (microWide (vop w) sg a b)

/-- The micro-operation at an address. -/
def State.microAt (s : State) (pc : Nat) : Word :=
  match s.sp.custOps[pc]? with
  | some w => w
  | none => if microOk 4096 (Config.microBeyond pc) then Config.microBeyond pc else 0

/-- Run to DONE: at most `fuel` micro-operations, and the next raises Specification (R195). -/
def microLoop (r : Run) (sg : Bool) : Nat → Micro → Except Stop Micro
  | 0, _ => .error (Stop.mk' 3 0 0)
  | n + 1, m =>
    match ({ m with pc := (m.pc + 1) % 4096 } : Micro).exec r sg (m.s.microAt m.pc) with
    | .error e => .error e
    | .ok (.go m) => microLoop r sg n m
    | .ok (.done m) => .ok m

/-! ## The instruction -/

/-- An operand's effective address, where it has one. -/
def Run.address (r : Run) (i : Nat) : Option Nat :=
  match r.ops[i]? with
  | some p => (match p.loc with
    | .mem a => some a
    | .chr _ a => some a
    | _ => none)
  | none => none

/-- Operand `i` is a source of the word class. -/
def CustEntry.source (e : CustEntry) (i : Nat) : Bool :=
  i < e.count && e.kind == .wide && (e.use i == .s || e.use i == .m)

/-- V0 to V15 as the instruction begins (R191). -/
def CustEntry.start (e : CustEntry) (r : Run) : Vector DWord 16 :=
  Vector.ofFn (fun (i : Fin 16) =>
    let free := Config.microStart r.s.fresh i.val
    if i.val == 0 then 0
    else if i.val ≤ 3 then (if e.source (i.val - 1) then BitVec.ofNat 72 (r.val (i.val - 1)) else free)
    else if i.val ≤ 6 then (match r.address (i.val - 4) with
      | some a => BitVec.ofNat 72 a
      | none => free)
    else if i.val == 7 then
      BitVec.ofNat 72 (if lenOf r.hdr != 0 then lenOf r.hdr else regOf r.start.x (varOf r.hdr % 16) % 2 ^ 46)
    else if i.val == 8 then r.hdr.setWidth 72
    else free)

/-- The sequencer at the entry address. -/
def CustEntry.sequencer (e : CustEntry) (r : Run) : Micro :=
  { s := r.s, v := e.start r, pc := e.entry, stack := [], less := (Config.microStart r.s.fresh 16) == 0,
    equal := (Config.microStart r.s.fresh 17) == 0, sw := r.sw,
    cc := none, xs := [], lines := [], vas := [] }

/-- An octet or bit string that begins beyond the space (Table 2.5). -/
def Run.beyond (r : Run) : Nat → List Placed → Except Stop Unit
  | _, [] => .ok ()
  | n, p :: ps =>
    match p.loc with
    | .chr q a => (match unitAddr r.start.hm n q a 0 with
      | .error e => .error e
      | .ok _ => r.beyond (n + 1) ps)
    | _ => r.beyond (n + 1) ps

/-- Completion: D and M values of the word class, register updates, then XWR's registers. -/
def CustEntry.finish (e : CustEntry) (r : Run) (m : Micro) : Except Stop State :=
  let writes := (List.range e.count).filterMap (fun i =>
    if e.kind == .wide && (e.use i == .d || e.use i == .m) then some (i, m.reg (i + 1)) else none)
  let sw := match m.cc with
    | some v => setCCIf m.sw (hdrCS r.hdr) v
    | none => m.sw
  let x := m.xs.foldl (fun x (p : Nat × Nat) => setReg x p.1 p.2)
  let r := { r with s := m.s, lines := r.lines ++ m.lines, vas := r.vas ++ m.vas }
  let k := writes.foldl (fun (k : Core) (w : Nat × Nat) => match r.ops[w.1]? with
    | some p => k.writeOp p w.2
    | none => k) (m.s.core r.c)
  match ({ m with s := m.s.setCore r.c k } : Micro).bounded r.c with
  | .error e => .error e
  | .ok _ =>
    .ok ((r.finish (r.eff writes sw)).modCore r.c (fun k =>
      { k with x := x k.x, slots := if k.slots.useSecond then { k.slots with second := { k.slots.second with x := x k.slots.second.x } }
                                    else { k.slots with first := { k.slots.first with x := x k.slots.first.x } } }))

/-- A customer opcode with its entry (R195). Assumption 11 (DESIGN CHOICE). -/
def State.customer (s : State) (core : Nat) (ins : Insn) (e : CustEntry) : State :=
  s.instr core ins (e.opcode_ ins.hdr) (fun r =>
    match r.beyond 1 r.ops with
    | .error x => .error x
    | .ok _ =>
      match microLoop r (hdrSG r.hdr) 16384 (e.sequencer r) with
      | .error x => .error x
      | .ok m => e.finish r m)

/-- An opcode that no table and no entry defines: the length is not known (R68, Table 2.16). -/
def State.undefinedOpcode (s : State) (core : Nat) (ins : Insn) (sub : Nat) : State :=
  if !s.goes core then s else
  let (s, go) := s.beforeInstr core
  if !go then s else
  let fetch (s : State) : Stop := match s.fetchOk core (s.core core).hm 1 0 (s.core core).ic.toNat with
    | .error e => e
    | .ok _ => Stop.mk' 1 sub 0
  let s := s.tick.2
  let (t, again) := s.resolve core (fetch s)
  (if again then t.stopped core ins 0 (fetch t)
   else if (t.core core).seq == (s.core core).seq then t.stopped core ins 0 (fetch s) else t).deliverChecks core

/-- R195: older stores are performed first, so that the instruction has its 24 entries. -/
def State.customerInsn (s : State) (core : Nat) (ins : Insn) : State :=
  let opc := opcOf ins
  if opc < 0o7400 then s.undefinedOpcode core ins 1
  else match s.sp.custEntries.find? (fun e => e.opcode == opc) with
    | none => s.undefinedOpcode core ins 2
    | some e => s.drained core (fun s => s.customer core ins e)

def execCustomerOpcode (core : Nat) (ins : Insn) (s : State) : Host.Outcome State Fault Refusal :=
  s.runIf (wfCore core && !definedOpcodes.contains (opcOf ins)) (s.customerInsn core ins)

end Sys2Proof.Machine
end

