-- ==== Sys2Proof/Machine/Ssp.lean ====
section
/-! DEFINITION. The Silden Service Protocol: public reads, sessions, requests (R432-R436). -/

namespace Sys2Proof.Machine

def State.setSession (s : State) (x : Session) : State :=
  { s with sv := { s.sv with sessions := s.sv.sessions.map (fun y => if y.id == x.id then x else y) } }

def State.countDiscarded (s : State) : State := { s with sv := { s.sv with discarded := s.sv.discarded + 1 } }

/-- The body of a RESPONSE or PUBLIC-REPLY (Table 14.6). Assumption 51 (DEDUCED). -/
def replyBody (tag abort offset total : Nat) (value : List Octet) : List Octet :=
  natOct 2 tag ++ natOct 1 abort ++ natOct 1 0 ++ natOct 4 offset ++ natOct 4 total ++ natOct 2 value.length ++ value

/-- The piece of a value that a reply carries, up to 1,024 octets from OFFSET (R435). -/
def pieceOf (value : List Octet) (offset : Nat) : List Octet := (value.drop offset).take 1024

/-- PUBLIC-READ of a module addressed by its serial number. -/
def State.publicRead (s : State) (at_ : SspTo) (index sub offset : Nat) : State :=
  if s.md.st == .off || at_.serial != s.sv.serial then s else
  let g := s.odGate .anyone index sub false true 0
  if g == 0 then
    let (n, s) := s.now
    let v := s.publicValue index sub n
    s.emit (.ssp at_.segB s.sv.serial 2 0 0 0 (replyBody 0 0 offset v.length (pieceOf v offset)))
  else s.emit (.ssp at_.segB s.sv.serial 2 0 0 g (replyBody 0 g offset 0 []))

/-- The credential that serves an OPEN: the always-on copies in STANDBY (R474). -/
def State.openCredential (s : State) (role : Nat) : List Octet :=
  if s.md.st == .standby then
    (if role == 1 then s.sv.copyOwner else if role == 2 then s.sv.copyOperator else s.sv.copyService)
  else s.credential role

/-- A role that is refused still gets an answer, under a random key (R433). -/
def State.openKnown (s : State) (role : Nat) : Bool :=
  !noCredential (s.openCredential role) && (role != 3 || s.sv.key == .service)

/-- Somebody computes session TAGs: Zenith, or in STANDBY the boot ROM. -/
def State.sspServed (s : State) : Bool := s.md.st != .off && (s.md.st == .standby || !s.tn.absent)

/-- OPENs accepted on a segment in the second before `now`. -/
def State.recentOpens (s : State) (segB : Bool) (now : Nat) : Nat :=
  (s.sv.opens.filter (fun o => o.1 == segB && decide (now - o.2 < 1000000000))).length

/-- OPEN (R433): at most 8 sessions, and 10 OPENs a second on each segment. Assumption 51 (DEDUCED). -/
def State.sspOpen (s : State) (at_ : SspTo) (role : Nat) : State :=
  if at_.serial != s.sv.serial || !s.sspServed || role == 0 || 3 < role || 8 ≤ s.sv.sessions.length then s else
  let (now, s) := s.now
  if 10 ≤ s.recentOpens at_.segB now then s else
  let (n, s) := s.tick
  let id := s.sv.nextSession
  let x : Session := { id := id, segB := at_.segB, role := role, hasKey := s.openKnown role, rxCounter := 0, txCounter := 1,
                       lastTag := none, lastReply := (0, []), badTags := 0, piece := none }
  ({ s with sv := { s.sv with sessions := s.sv.sessions ++ [x], nextSession := id + 1,
                              opens := ((at_.segB, now) :: s.sv.opens).take 20 } }).emit
    (.ssp at_.segB s.sv.serial 4 id 1 0 (natOct 32 (Config.randomBits n).toNat))

/-- Send a RESPONSE under the next counter and keep it for a repeat; the last counter value ends the session (R434). -/
def State.respond (s : State) (x : Session) (tag abort : Nat) (body : List Octet) : State :=
  if 2 ^ 64 ≤ x.txCounter + 1 then s else
  let x := { x with txCounter := x.txCounter + 1, lastTag := some tag, lastReply := (abort, body) }
  let s := (s.setSession x).emit (.ssp x.segB s.sv.serial 6 x.id x.txCounter abort body)
  if x.txCounter + 1 == 2 ^ 64 || x.rxCounter + 1 == 2 ^ 64 then s.endSessions (fun y => y.id == x.id) (some 2) else s

/-- A REQUEST accepted, or the state after one that is discarded (R433, R434). Assumption 51 (DEDUCED). -/
def State.acceptRequest (s : State) (r : SspRequest) : Option Session × State :=
  if !s.sspServed || r.to_.serial != s.sv.serial then (none, s) else
  match s.session r.session with
  | none => (none, s.countDiscarded)
  | some x =>
    if !(r.authentic && x.hasKey) then
      let x := { x with badTags := x.badTags + 1 }
      let s := (s.setSession x).countDiscarded
      (none, if 3 ≤ x.badTags then s.endSession x (some 4) else s)
    else if r.counter ≤ x.rxCounter || 2 ^ 64 ≤ r.counter then (none, s.countDiscarded)
    else
      let x := { x with rxCounter := r.counter, badTags := 0, segB := r.to_.segB }
      (some x, s.setSession x)

/-- Execute an accepted REQUEST, unless it repeats the last one (R435): `run` answers the state, the session, the abort
and the reply's octets. -/
def State.sspRequest (s : State) (r : SspRequest) (run : State → Session → State × Session × Nat × List Octet) : State :=
  match s.acceptRequest r with
  | (none, s) => s
  | (some x, s) =>
    if x.lastTag == some r.reqTag then s.respond x r.reqTag x.lastReply.1 x.lastReply.2
    else
      let (s, x, abort, body) := run s x
      s.respond x r.reqTag abort body

/-- A read of one object. Assumption 51 (DEDUCED). -/
def State.runRead (r : SspRequest) (s : State) (x : Session) : State × Session × Nat × List Octet :=
  let s := s.odRead (.session x.id) r.index r.sub
  let a := s.sv.answerAbort
  let v := s.sv.answer
  if a == 0 then (s, x, 0, replyBody r.reqTag 0 r.offset v.length (pieceOf v r.offset))
  else (s, x, a, replyBody r.reqTag a r.offset 0 [])

/-- A type that travels in pieces. -/
def OType.pieces : OType → Bool
  | .str _ => true
  | .blob _ => true
  | _ => false

/-- The value that a write's pieces form so far, if this piece continues it. -/
def pieceJoin (x : Session) (r : SspRequest) : Option (List Octet) :=
  if r.offset == 0 then some r.value
  else match x.piece with
    | some (i, n, l) => if i == r.index && n == r.sub && l.length == r.offset then some (l ++ r.value) else none
    | none => none

/-- A write of one object, piecewise for STR and BLOB. Assumption 51 (DEDUCED). -/
def State.runWrite (r : SspRequest) (s : State) (x : Session) : State × Session × Nat × List Octet :=
  let route := Route.session x.id
  let fail (a : Nat) : State × Session × Nat × List Octet :=
    let y := { x with piece := none }
    ((s.setSession y).odAnswer a [], y, a, replyBody r.reqTag a r.offset 0 [])
  let role := (s.routeRole route).getD .anyone
  let ty := (objRights role r.index r.sub).1
  let long := ty.any OType.pieces
  let gate := s.odGate role r.index r.sub true true 1
  let most := match ty with | some t => t.lengths.2 | none => 0
  if gate != 0 && gate < 4 then fail gate
  else if 1024 < r.value.length then fail 4
  else match (if long then pieceJoin x r else if r.offset == 0 && r.last then some r.value else none) with
    | none => fail 4
    | some l =>
      if r.last then
        let y := { x with piece := none }
        let s := (s.setSession y).odWrite route r.index r.sub l
        let a := s.sv.answerAbort
        (s, y, a, replyBody r.reqTag a r.offset (if a == 0 then l.length else 0) [])
      else if most < l.length then fail 4
      else if gate != 0 then fail gate
      else
        let y := { x with piece := some (r.index, r.sub, l) }
        ((s.setSession y).odAnswer 0 [], y, 0, replyBody r.reqTag 0 r.offset l.length [])

/-- CLOSE from the client (R436). -/
def State.sspClose (s : State) (id : Nat) (authentic : Bool) (counter : Nat) : State :=
  match s.session id with
  | some x =>
    if authentic && x.hasKey && decide (x.rxCounter < counter) then s.endSession x none else s.countDiscarded
  | none => s.countDiscarded

/-! ## Rows -/

def execPublicRead (at_ : SspTo) (index sub offset : Nat) (s : State) : Host.Outcome State Fault Refusal :=
  s.runIf true (s.publicRead at_ index sub offset)

/-- The key is derived from the credential and both nonces; no role reads it. -/
def execSspOpen (at_ : SspTo) (role : Nat) (_nonce : BitVec 256) (s : State) : Host.Outcome State Fault Refusal :=
  s.runIf true (s.sspOpen at_ role)

def execRequestRead (req : SspRequest) (s : State) : Host.Outcome State Fault Refusal :=
  s.runIf true (s.sspRequest req (State.runRead req))

def execRequestWrite (req : SspRequest) (s : State) : Host.Outcome State Fault Refusal :=
  s.runIf true (s.sspRequest req (State.runWrite req))

def execSspClose (session _reason : Nat) (authentic : Bool) (counter : Nat) (s : State) :
    Host.Outcome State Fault Refusal :=
  s.runIf true (s.sspClose session authentic counter)

/-- R436: no accepted REQUEST for OD 0200h.04 seconds. -/
def execSessionIdle (session : Nat) (s : State) : Host.Outcome State Fault Refusal :=
  s.runIf true (match s.session session with
    | some x => s.endSession x (some 3)
    | none => s)

end Sys2Proof.Machine
end

