-- ==== Sys2Proof/Machine/Dispatch.lean ====
section
/-! DEFINITION. One arm per command: a direct call of its meaning. -/

namespace Sys2Proof.Machine

/-- The effect of a command. -/
def exec (i : Instr) (s : State) : Host.Outcome State Fault Refusal :=
  match i with
  | .mvw core ins => Sys2Proof.Machine.execMvw core ins s
  | .mvn core ins stop => Sys2Proof.Machine.execMvn core ins stop s
  | .fln core ins stop => Sys2Proof.Machine.execFln core ins stop s
  | .xch core ins => Sys2Proof.Machine.execXch core ins s
  | .ldr core ins => Sys2Proof.Machine.execLdr core ins s
  | .stc core ins => Sys2Proof.Machine.execStc core ins s
  | .add core ins => Sys2Proof.Machine.execAdd core ins s
  | .sub core ins => Sys2Proof.Machine.execSub core ins s
  | .adc core ins => Sys2Proof.Machine.execAdc core ins s
  | .sbb core ins => Sys2Proof.Machine.execSbb core ins s
  | .neg core ins => Sys2Proof.Machine.execNeg core ins s
  | .abs core ins => Sys2Proof.Machine.execAbs core ins s
  | .mul core ins => Sys2Proof.Machine.execMul core ins s
  | .mlf core ins => Sys2Proof.Machine.execMlf core ins s
  | .div core ins => Sys2Proof.Machine.execDiv core ins s
  | .rem core ins => Sys2Proof.Machine.execRem core ins s
  | .dvr core ins => Sys2Proof.Machine.execDvr core ins s
  | .cmp core ins => Sys2Proof.Machine.execCmp core ins s
  | .tst core ins => Sys2Proof.Machine.execTst core ins s
  | .and core ins => Sys2Proof.Machine.execAnd core ins s
  | .orr core ins => Sys2Proof.Machine.execOrr core ins s
  | .xor core ins => Sys2Proof.Machine.execXor core ins s
  | .not core ins => Sys2Proof.Machine.execNot core ins s
  | .sll core ins => Sys2Proof.Machine.execSll core ins s
  | .srl core ins => Sys2Proof.Machine.execSrl core ins s
  | .sla core ins => Sys2Proof.Machine.execSla core ins s
  | .sra core ins => Sys2Proof.Machine.execSra core ins s
  | .rol core ins => Sys2Proof.Machine.execRol core ins s
  | .ror core ins => Sys2Proof.Machine.execRor core ins s
  | .clz core ins => Sys2Proof.Machine.execClz core ins s
  | .pct core ins => Sys2Proof.Machine.execPct core ins s
  | .xbt core ins => Sys2Proof.Machine.execXbt core ins s
  | .ibt core ins => Sys2Proof.Machine.execIbt core ins s
  | .dad core ins => Sys2Proof.Machine.execDad core ins s
  | .dsb core ins => Sys2Proof.Machine.execDsb core ins s
  | .dmu core ins => Sys2Proof.Machine.execDmu core ins s
  | .ddv core ins => Sys2Proof.Machine.execDdv core ins s
  | .dcp core ins => Sys2Proof.Machine.execDcp core ins s
  | .dmv core ins => Sys2Proof.Machine.execDmv core ins s
  | .dsr core ins => Sys2Proof.Machine.execDsr core ins s
  | .cdb core ins => Sys2Proof.Machine.execCdb core ins s
  | .cbd core ins => Sys2Proof.Machine.execCbd core ins s
  | .dts core ins => Sys2Proof.Machine.execDts core ins s
  | .fad core ins => Sys2Proof.Machine.execFad core ins s
  | .fsb core ins => Sys2Proof.Machine.execFsb core ins s
  | .fmu core ins => Sys2Proof.Machine.execFmu core ins s
  | .fdv core ins => Sys2Proof.Machine.execFdv core ins s
  | .fsq core ins => Sys2Proof.Machine.execFsq core ins s
  | .fma core ins => Sys2Proof.Machine.execFma core ins s
  | .fcp core ins => Sys2Proof.Machine.execFcp core ins s
  | .fcv core ins => Sys2Proof.Machine.execFcv core ins s
  | .fci core ins => Sys2Proof.Machine.execFci core ins s
  | .ffi core ins => Sys2Proof.Machine.execFfi core ins s
  | .ftd core ins => Sys2Proof.Machine.execFtd core ins s
  | .ffd core ins => Sys2Proof.Machine.execFfd core ins s
  | .ftx core ins => Sys2Proof.Machine.execFtx core ins s
  | .ffx core ins => Sys2Proof.Machine.execFfx core ins s
  | .fri core ins => Sys2Proof.Machine.execFri core ins s
  | .br core ins => Sys2Proof.Machine.execBr core ins s
  | .bal core ins => Sys2Proof.Machine.execBal core ins s
  | .bct core ins => Sys2Proof.Machine.execBct core ins s
  | .csv core ins => Sys2Proof.Machine.execCsv core ins s
  | .chs core ins => Sys2Proof.Machine.execChs core ins s
  | .czn core ins => Sys2Proof.Machine.execCzn core ins s
  | .attest core ins => Sys2Proof.Machine.execAttest core ins s
  | .assignPages core ins => Sys2Proof.Machine.execAssignPages core ins s
  | .deleteNotice core ins => Sys2Proof.Machine.execDeleteNotice core ins s
  | .rti core ins => Sys2Proof.Machine.execRti core ins s
  | .wait core ins => Sys2Proof.Machine.execWait core ins s
  | .mvc core ins stop => Sys2Proof.Machine.execMvc core ins stop s
  | .cpc core ins stop => Sys2Proof.Machine.execCpc core ins stop s
  | .trc core ins stop => Sys2Proof.Machine.execTrc core ins stop s
  | .scn core ins stop => Sys2Proof.Machine.execScn core ins stop s
  | .flc core ins stop => Sys2Proof.Machine.execFlc core ins stop s
  | .nto core ins stop => Sys2Proof.Machine.execNto core ins stop s
  | .otn core ins stop => Sys2Proof.Machine.execOtn core ins stop s
  | .mvb core ins stop => Sys2Proof.Machine.execMvb core ins stop s
  | .bar core ins => Sys2Proof.Machine.execBar core ins s
  | .enable core ins => Sys2Proof.Machine.execEnable core ins s
  | .disable core ins => Sys2Proof.Machine.execDisable core ins s
  | .cleanAll core ins => Sys2Proof.Machine.execCleanAll core ins s
  | .cleanAndInvalidateAll core ins => Sys2Proof.Machine.execCleanAndInvalidateAll core ins s
  | .cleanLine core ins => Sys2Proof.Machine.execCleanLine core ins s
  | .invalidateLine core ins => Sys2Proof.Machine.execInvalidateLine core ins s
  | .zeroLine core ins => Sys2Proof.Machine.execZeroLine core ins s
  | .preloadShared core ins => Sys2Proof.Machine.execPreloadShared core ins s
  | .preloadOwned core ins => Sys2Proof.Machine.execPreloadOwned core ins s
  | .preloadAndLock core ins => Sys2Proof.Machine.execPreloadAndLock core ins s
  | .unlockLine core ins => Sys2Proof.Machine.execUnlockLine core ins s
  | .unlockAll core ins => Sys2Proof.Machine.execUnlockAll core ins s
  | .com core ins => Sys2Proof.Machine.execCom core ins s
  | .odaRead core ins => Sys2Proof.Machine.execOdaRead core ins s
  | .odaWrite core ins => Sys2Proof.Machine.execOdaWrite core ins s
  | .esbCompression core ins => Sys2Proof.Machine.execEsbCompression core ins s
  | .esbCipher core ins => Sys2Proof.Machine.execEsbCipher core ins s
  | .eplCompression core ins => Sys2Proof.Machine.execEplCompression core ins s
  | .eplCipher core ins => Sys2Proof.Machine.execEplCipher core ins s
  | .sch core ins => Sys2Proof.Machine.execSch core ins s
  | .lsw core ins => Sys2Proof.Machine.execLsw core ins s
  | .ssw core ins => Sys2Proof.Machine.execSsw core ins s
  | .spm core ins => Sys2Proof.Machine.execSpm core ins s
  | .rcc core ins => Sys2Proof.Machine.execRcc core ins s
  | .rtd core ins => Sys2Proof.Machine.execRtd core ins s
  | .stage1Page core ins => Sys2Proof.Machine.execStage1Page core ins s
  | .stage1All core ins => Sys2Proof.Machine.execStage1All core ins s
  | .stage2Page core ins => Sys2Proof.Machine.execStage2Page core ins s
  | .stage2Tenant core ins => Sys2Proof.Machine.execStage2Tenant core ins s
  | .module core ins => Sys2Proof.Machine.execModule core ins s
  | .customerOpcode core ins => Sys2Proof.Machine.execCustomerOpcode core ins s
  | .externalInterruption core => Sys2Proof.Machine.execExternalInterruption core s
  | .containedMachineCheck core sub info => Sys2Proof.Machine.execContainedMachineCheck core sub info s
  | .uncontainedMachineCheck line sub core => Sys2Proof.Machine.execUncontainedMachineCheck line sub core s
  | .replay core line => Sys2Proof.Machine.execReplay core line s
  | .storeBufferEntryPerformed core => Sys2Proof.Machine.execStoreBufferEntryPerformed core s
  | .reservationDeferralExpiry core => Sys2Proof.Machine.execReservationDeferralExpiry core s
  | .instructionRetry core coreCopyIntact recoveryIntact => Sys2Proof.Machine.execInstructionRetry core coreCopyIntact recoveryIntact s
  | .microcodeWatchdogExpiry core => Sys2Proof.Machine.execMicrocodeWatchdogExpiry core s
  | .haloTakeover site checkpointIntact linesIntact entriesIntact => Sys2Proof.Machine.execHaloTakeover site checkpointIntact linesIntact entriesIntact s
  | .spareSelfTest site passed => Sys2Proof.Machine.execSpareSelfTest site passed s
  | .loadStagedImage route => Sys2Proof.Machine.execLoadStagedImage route s
  | .unload route => Sys2Proof.Machine.execUnload route s
  | .selectedProfile route value => Sys2Proof.Machine.execSelectedProfile route value s
  | .deferredProfileChange => Sys2Proof.Machine.execDeferredProfileChange s
  | .customClockAdjust mean1ms mean10ms below100ms => Sys2Proof.Machine.execCustomClockAdjust mean1ms mean10ms below100ms s
  | .inletTemperatureChange inlet => Sys2Proof.Machine.execInletTemperatureChange inlet s
  | .capRaise => Sys2Proof.Machine.execCapRaise s
  | .coolantCauseClear => Sys2Proof.Machine.execCoolantCauseClear s
  | .dieOvertemperature hottest => Sys2Proof.Machine.execDieOvertemperature hottest s
  | .orderlyStop route value => Sys2Proof.Machine.execOrderlyStop route value s
  | .startPermit route value => Sys2Proof.Machine.execStartPermit route value s
  | .vauxAccepted slot twinId millivolts => Sys2Proof.Machine.execVauxAccepted slot twinId millivolts s
  | .vauxLost => Sys2Proof.Machine.execVauxLost s
  | .vin48Accepted millivolts => Sys2Proof.Machine.execVin48Accepted millivolts s
  | .vin48Fail millivolts => Sys2Proof.Machine.execVin48Fail millivolts s
  | .dawnStart found => Sys2Proof.Machine.execDawnStart found s
  | .porstNLow => Sys2Proof.Machine.execPorstNLow s
  | .sysclkLoss => Sys2Proof.Machine.execSysclkLoss s
  | .referenceClockLoss which => Sys2Proof.Machine.execReferenceClockLoss which s
  | .reverseCurrent input => Sys2Proof.Machine.execReverseCurrent input s
  | .leverLifted => Sys2Proof.Machine.execLeverLifted s
  | .leverLowered => Sys2Proof.Machine.execLeverLowered s
  | .leverOpened => Sys2Proof.Machine.execLeverOpened s
  | .storeBleedComplete => Sys2Proof.Machine.execStoreBleedComplete s
  | .fuelGaugeSample millivolts => Sys2Proof.Machine.execFuelGaugeSample millivolts s
  | .selfTest microfarads microohms millivolts => Sys2Proof.Machine.execSelfTest microfarads microohms millivolts s
  | .startSelfTest route value => Sys2Proof.Machine.execStartSelfTest route value s
  | .commitAdmission tenant => Sys2Proof.Machine.execCommitAdmission tenant s
  | .waitLimit tenant => Sys2Proof.Machine.execWaitLimit tenant s
  | .entryWrite stream verified => Sys2Proof.Machine.execEntryWrite stream verified s
  | .mirroredItem item => Sys2Proof.Machine.execMirroredItem item s
  | .jnRd acc tenant value => Sys2Proof.Machine.execJnRd acc tenant value s
  | .jnRelease acc tenant value => Sys2Proof.Machine.execJnRelease acc tenant value s
  | .reProvisionSealing route value => Sys2Proof.Machine.execReProvisionSealing route value s
  | .sealing route value => Sys2Proof.Machine.execSealing route value s
  | .nop chan => Sys2Proof.Machine.execNop chan s
  | .read chan => Sys2Proof.Machine.execRead chan s
  | .write chan => Sys2Proof.Machine.execWrite chan s
  | .flush chan => Sys2Proof.Machine.execFlush chan s
  | .writeZeroes chan => Sys2Proof.Machine.execWriteZeroes chan s
  | .deallocate chan => Sys2Proof.Machine.execDeallocate chan s
  | .control chan => Sys2Proof.Machine.execControl chan s
  | .query chan => Sys2Proof.Machine.execQuery chan s
  | .send chan => Sys2Proof.Machine.execSend chan s
  | .receive chan => Sys2Proof.Machine.execReceive chan s
  | .retire chan => Sys2Proof.Machine.execRetire chan s
  | .close chan => Sys2Proof.Machine.execClose chan s
  | .ledgerAllocation chan => Sys2Proof.Machine.execLedgerAllocation chan s
  | .issue chan => Sys2Proof.Machine.execIssue chan s
  | .completionBlock opid result duplicate attempt count detail => Sys2Proof.Machine.execCompletionBlock opid result duplicate attempt count detail s
  | .nvmExpressCompletion port rid opid status dword0 dword3 => Sys2Proof.Machine.execNvmExpressCompletion port rid opid status dword0 dword3 s
  | .completionRecord chan => Sys2Proof.Machine.execCompletionRecord chan s
  | .orderTimeout chan slot => Sys2Proof.Machine.execOrderTimeout chan slot s
  | .linkDownDetected port link => Sys2Proof.Machine.execLinkDownDetected port link s
  | .pcieLinkUp port link rate width => Sys2Proof.Machine.execPcieLinkUp port link rate width s
  | .adapterReset port rid => Sys2Proof.Machine.execAdapterReset port rid s
  | .ioLoadCompletion core status data => Sys2Proof.Machine.execIoLoadCompletion core status data s
  | .ioLoadTimeout core => Sys2Proof.Machine.execIoLoadTimeout core s
  | .deviceWrite port rid addr octets => Sys2Proof.Machine.execDeviceWrite port rid addr octets s
  | .deviceRead port rid addr len => Sys2Proof.Machine.execDeviceRead port rid addr len s
  | .configureChannel route record => Sys2Proof.Machine.execConfigureChannel route record s
  | .constellationData hdr payload => Sys2Proof.Machine.execConstellationData hdr payload s
  | .ack hdr => Sys2Proof.Machine.execAck hdr s
  | .completion hdr status count time => Sys2Proof.Machine.execCompletion hdr status count time s
  | .notReady hdr => Sys2Proof.Machine.execNotReady hdr s
  | .hello port hdr => Sys2Proof.Machine.execHello port hdr s
  | .helloSend peer => Sys2Proof.Machine.execHelloSend peer s
  | .fack peer => Sys2Proof.Machine.execFack peer s
  | .retransmit peer => Sys2Proof.Machine.execRetransmit peer s
  | .peerDown peer => Sys2Proof.Machine.execPeerDown peer s
  | .timeFloor => Sys2Proof.Machine.execTimeFloor s
  | .ptpMessage offset atLock => Sys2Proof.Machine.execPtpMessage offset atLock s
  | .timeOfDay route value => Sys2Proof.Machine.execTimeOfDay route value s
  | .readShared src line => Sys2Proof.Machine.execReadShared src line s
  | .readOwn src line => Sys2Proof.Machine.execReadOwn src line s
  | .upgrade src line => Sys2Proof.Machine.execUpgrade src line s
  | .readNoAllocate src line => Sys2Proof.Machine.execReadNoAllocate src line s
  | .writeBack src line words => Sys2Proof.Machine.execWriteBack src line words s
  | .maskedWriteBack src line words mask => Sys2Proof.Machine.execMaskedWriteBack src line words mask s
  | .invalidate tile line => Sys2Proof.Machine.execInvalidate tile line s
  | .snoopShare tile line => Sys2Proof.Machine.execSnoopShare tile line s
  | .snoopOwn tile line => Sys2Proof.Machine.execSnoopOwn tile line s
  | .snoopRead tile line => Sys2Proof.Machine.execSnoopRead tile line s
  | .acknowledge dst src line wbf => Sys2Proof.Machine.execAcknowledge dst src line wbf s
  | .negativeAcknowledge dst line => Sys2Proof.Machine.execNegativeAcknowledge dst line s
  | .nakRetry agent line => Sys2Proof.Machine.execNakRetry agent line s
  | .grant tile line => Sys2Proof.Machine.execGrant tile line s
  | .data dst src line words grant dirty => Sys2Proof.Machine.execData dst src line words grant dirty s
  | .heldSnoopRelease tile line => Sys2Proof.Machine.execHeldSnoopRelease tile line s
  | .replayRequest link seq => Sys2Proof.Machine.execReplayRequest link seq s
  | .badCrcOrSequenceGap link => Sys2Proof.Machine.execBadCrcOrSequenceGap link s
  | .linkFailure link => Sys2Proof.Machine.execLinkFailure link s
  | .retraining link g0 g1 => Sys2Proof.Machine.execRetraining link g0 g1 s
  | .training link g0 g1 => Sys2Proof.Machine.execTraining link g0 g1 s
  | .identify link matched => Sys2Proof.Machine.execIdentify link matched s
  | .trainingRetry link => Sys2Proof.Machine.execTrainingRetry link s
  | .laneGroupFence link group => Sys2Proof.Machine.execLaneGroupFence link group s
  | .linkState origin bits => Sys2Proof.Machine.execLinkState origin bits s
  | .linkStateFlood => Sys2Proof.Machine.execLinkStateFlood s
  | .delivered link seq => Sys2Proof.Machine.execDelivered link seq s
  | .drainMarker link confirmed => Sys2Proof.Machine.execDrainMarker link confirmed s
  | .partitionRule reachable => Sys2Proof.Machine.execPartitionRule reachable s
  | .admin acc link value => Sys2Proof.Machine.execAdmin acc link value s
  | .dyProbe acc value => Sys2Proof.Machine.execDyProbe acc value s
  | .compress tenant ring lane => Sys2Proof.Machine.execCompress tenant ring lane s
  | .decompress tenant ring lane => Sys2Proof.Machine.execDecompress tenant ring lane s
  | .compressionCompletion tenant ring => Sys2Proof.Machine.execCompressionCompletion tenant ring s
  | .cxClose acc tenant value => Sys2Proof.Machine.execCxClose acc tenant value s
  | .encrypt tenant ring aes => Sys2Proof.Machine.execEncrypt tenant ring aes s
  | .decrypt tenant ring aes => Sys2Proof.Machine.execDecrypt tenant ring aes s
  | .cipherCompletion tenant ring => Sys2Proof.Machine.execCipherCompletion tenant ring s
  | .ciClose acc tenant value => Sys2Proof.Machine.execCiClose acc tenant value s
  | .erase acc tenant value => Sys2Proof.Machine.execErase acc tenant value s
  | .loadPlain acc tenant value => Sys2Proof.Machine.execLoadPlain acc tenant value s
  | .loadWrapped acc tenant value => Sys2Proof.Machine.execLoadWrapped acc tenant value s
  | .generate acc tenant value => Sys2Proof.Machine.execGenerate acc tenant value s
  | .exportWrapped acc tenant value => Sys2Proof.Machine.execExportWrapped acc tenant value s
  | .effectPoint tenant => Sys2Proof.Machine.execEffectPoint tenant s
  | .create route => Sys2Proof.Machine.execCreate route s
  | .reset route => Sys2Proof.Machine.execReset route s
  | .delete route => Sys2Proof.Machine.execDelete route s
  | .drainTimeout tenant => Sys2Proof.Machine.execDrainTimeout tenant s
  | .claim acc block => Sys2Proof.Machine.execClaim acc block s
  | .release acc block => Sys2Proof.Machine.execRelease acc block s
  | .moveSource acc source => Sys2Proof.Machine.execMoveSource acc source s
  | .handOverComplete selfCheckPassed => Sys2Proof.Machine.execHandOverComplete selfCheckPassed s
  | .gatingRequest block => Sys2Proof.Machine.execGatingRequest block s
  | .gatingTimeout block => Sys2Proof.Machine.execGatingTimeout block s
  | .kick acc value => Sys2Proof.Machine.execKick acc value s
  | .zenithWatchdogExpiry => Sys2Proof.Machine.execZenithWatchdogExpiry s
  | .restartZenith route value verified measured => Sys2Proof.Machine.execRestartZenith route value verified measured s
  | .doorbell owner source => Sys2Proof.Machine.execDoorbell owner source s
  | .irtSend acc page value => Sys2Proof.Machine.execIrtSend acc page value s
  | .irtClaim acc page => Sys2Proof.Machine.execIrtClaim acc page s
  | .irtComplete acc page value => Sys2Proof.Machine.execIrtComplete acc page value s
  | .irtSrc acc page source value => Sys2Proof.Machine.execIrtSrc acc page source value s
  | .irtPrio acc page source value => Sys2Proof.Machine.execIrtPrio acc page source value s
  | .irtTgt acc page source value => Sys2Proof.Machine.execIrtTgt acc page source value s
  | .faultReport source cls detail => Sys2Proof.Machine.execFaultReport source cls detail s
  | .reportingPathFault source => Sys2Proof.Machine.execReportingPathFault source s
  | .squallExit source => Sys2Proof.Machine.execSquallExit source s
  | .force route value => Sys2Proof.Machine.execForce route value s
  | .forcedReport source => Sys2Proof.Machine.execForcedReport source s
  | .spareRebuildComplete region => Sys2Proof.Machine.execSpareRebuildComplete region s
  | .moduleReset route value => Sys2Proof.Machine.execModuleReset route value s
  | .returnUnit route value => Sys2Proof.Machine.execReturnUnit route value s
  | .returnFailedSites route value => Sys2Proof.Machine.execReturnFailedSites route value s
  | .heartbeat hb path => Sys2Proof.Machine.execHeartbeat hb path s
  | .heartbeatSend path => Sys2Proof.Machine.execHeartbeatSend path s
  | .witness segment => Sys2Proof.Machine.execWitness segment s
  | .pairing peerSerial peerTwinId attested => Sys2Proof.Machine.execPairing peerSerial peerTwinId attested s
  | .pairingEnabled route value => Sys2Proof.Machine.execPairingEnabled route value s
  | .bulkCopyComplete => Sys2Proof.Machine.execBulkCopyComplete s
  | .twinLinkSilence => Sys2Proof.Machine.execTwinLinkSilence s
  | .selfFence => Sys2Proof.Machine.execSelfFence s
  | .takeover => Sys2Proof.Machine.execTakeover s
  | .relinquish hb => Sys2Proof.Machine.execRelinquish hb s
  | .plannedFailover route value => Sys2Proof.Machine.execPlannedFailover route value s
  | .sendRelinquish => Sys2Proof.Machine.execSendRelinquish s
  | .publicRead serial index sub offset => Sys2Proof.Machine.execPublicRead serial index sub offset s
  | .sspOpen serial role nonce => Sys2Proof.Machine.execSspOpen serial role nonce s
  | .requestRead req => Sys2Proof.Machine.execRequestRead req s
  | .requestWrite req => Sys2Proof.Machine.execRequestWrite req s
  | .sspClose session reason authentic counter => Sys2Proof.Machine.execSspClose session reason authentic counter s
  | .sessionIdle session => Sys2Proof.Machine.execSessionIdle session s
  | .objectWrite route index sub octets => Sys2Proof.Machine.execObjectWrite route index sub octets s
  | .credential route sub octets => Sys2Proof.Machine.execCredential route sub octets s
  | .keySwitch pos => Sys2Proof.Machine.execKeySwitch pos s
  | .requestPress milliseconds medium => Sys2Proof.Machine.execRequestPress milliseconds medium s
  | .mediumAction medium => Sys2Proof.Machine.execMediumAction medium s
  | .identifyPress => Sys2Proof.Machine.execIdentifyPress s
  | .mediumChange state => Sys2Proof.Machine.execMediumChange state s
  | .stage route medium => Sys2Proof.Machine.execStage route medium s
  | .activateAtDawn route verified => Sys2Proof.Machine.execActivateAtDawn route verified s
  | .activateLive route verified sameOthers => Sys2Proof.Machine.execActivateLive route verified sameOthers s
  | .commitSecurityVersion route => Sys2Proof.Machine.execCommitSecurityVersion route s
  | .abandonStaging route => Sys2Proof.Machine.execAbandonStaging route s
  | .registerWrite acc addr value => Sys2Proof.Machine.execRegisterWrite acc addr value s
  | .sysclkReturn => Sys2Proof.Machine.execSysclkReturn s
  | .porstNHigh => Sys2Proof.Machine.execPorstNHigh s
  | .constellationPortFailure port => Sys2Proof.Machine.execConstellationPortFailure port s
  | .mirrorReceipt item received => Sys2Proof.Machine.execMirrorReceipt item received s
  | .linkProtocolFault link => Sys2Proof.Machine.execLinkProtocolFault link s
  | .aerErrorMessage port link => Sys2Proof.Machine.execAerErrorMessage port link s

end Sys2Proof.Machine
end

