-- ==== Sys2Proof/Safety.lean ====
section
/-! DEFINITION. Safe runs, and the terms in which the statements speak of a command's outcome. -/

namespace Sys2Proof.Safety

open Sys2Proof.Machine

/-- A step answers a next state. -/
def Goes (s : State) : Prop := ∃ t, step s = .next t

/-- Every command of the queue is well formed. -/
def QueueWf (s : State) : Prop := ∀ c ∈ s.pending, c.wf = true

/-- The three tables of memory are in canonical form. -/
def MemoryWf (s : State) : Prop := s.mem.wf = true

/-- A command answers a next state: `t`, with the queue as it was. -/
def Answers (i : Instr) (s t : State) : Prop := exec i s = .next (t.withQueue s)

/-- The same, once a waiting report of discarded accesses has been presented to the core. -/
def Ends (i : Instr) (s : State) (core : Nat) (t : State) : Prop := Answers i s (t.deliverChecks core)

/-- An agent has the lines of the intermediate words `ws` of tenant `t`, which leaves `u`: nothing is to be fetched, or what
it waited for has come. -/
def Has (s : State) (a t : Nat) (ws : List Nat) (u : State) : Prop := s.agentReads a (s.agentLines t ws) = (u, true)

/-- The same, for lines by number. -/
def HasLines (s : State) (a : Nat) (lines : List Nat) (u : State) : Prop := s.agentReads a lines = (u, true)

/-- It waits for one of them: its requests go out, which leaves `u`. -/
def Awaits (s : State) (a t : Nat) (ws : List Nat) (u : State) : Prop := s.agentReads a (s.agentLines t ws) = (u, false)

/-- The machine in which a message of another module, its flit taken from the link, meets its addressee in this module. -/
def arrived (s : State) (m : Msg) (f : FlitHead) : State := s.flitsIn f (poolOf (s.linkPeer f.link != m.src / 64) m) m.flits

/-- A message meets its addressee here, which does `act`; then the messages that this caused within the module are delivered,
and the link that brought it is served. A message from within the module has no link. -/
def Lands (i : Instr) (s : State) (m : Msg) (f : FlitHead) (act : State → State) : Prop :=
  (m.src / 64 = s.dy.modnum → Answers i s (act s).pump) ∧
  (m.src / 64 ≠ s.dy.modnum → Answers i s ((act (arrived s m f)).pump.serviceLink f.link))

/-! ## Instructions -/

/-- The machine in which an instruction is tried, once a machine check that waits has been looked at. -/
def before (s : State) (core : Nat) : State := (s.beforeInstr core).1.tick.2

/-- A core executes, no machine check comes first, the instruction's operands are formed, translated and read, and the lines
of its fetch and loads are at hand and in its caches: `r` is what they give. -/
def Begins (s : State) (core : Nat) (ins : Insn) (o : OpCode) (r : Run) : Prop :=
  s.goes core = true ∧ (s.beforeInstr core).2 = true ∧
    ∃ r0, (before s core).prepare core ins o = .ok r0 ∧ r0.useCaches = .ok r

/-- The store buffer and the load-order queue hold what the instruction has put into them, in the machine that it leaves
(R108, R115). -/
def Room (core : Nat) (t : State) : Prop := (t.core core).fits = true

/-- Every older access of the core can be performed, which leaves `t`. -/
def Drains (s : State) (core : Nat) (t : State) : Prop := s.goes core = true ∧ s.drainCore core = (t, true)

/-- The instruction completes and leaves `t`, which has room for its loads and stores. -/
def Completes (i : Instr) (s : State) (core : Nat) (t : State) : Prop := Room core t → Ends i s core t

/-- The instruction completes, with room for its loads and stores: results by operand number, SW, and IC. -/
def Delivers (i : Instr) (s : State) (core : Nat) (r : Run) (writes : List (Nat × Nat)) (sw : DWord) (ic : Nat) : Prop :=
  Completes i s core (r.finish { writes := writes, sw := sw, ic := ic })

/-- The instruction does not complete: it stops for `st`, and nothing else of it remains. -/
def Stops (i : Instr) (s : State) (core : Nat) (ins : Insn) (ilen : Nat) (st : Stop) : Prop :=
  Ends i s core ((before s core).stopped core ins ilen st)

/-- SW after an integer operation: OV on an overflow, CY where the operation writes it, CC with CS (R63, R75, R78). -/
def intSW (r : Run) (overflow : Bool) (cy : Option Bool) (cc : Nat) : DWord :=
  let a := if overflow then setBit r.sw 61 true else r.sw
  let b := match cy with
    | some c => setBit a 60 c
    | none => a
  if hdrCS r.hdr then setFld b 63 62 (if overflow then 3 else cc) else b

/-- Less, equal, greater as condition codes 1, 0 and 2. -/
def signCC (v : Int) : Nat := if v = 0 then 0 else if v < 0 then 1 else 2

/-- R78: the exact result `v` goes to operand `opn` modulo 2^w, or the Fixed-point overflow exception is taken with the
untrapped result. -/
def IntegerEnds (i : Instr) (s : State) (core : Nat) (ins : Insn) (r : Run) (opn w : Nat) (v : Int) (fits : Bool)
    (cy : Option Bool) (cc : Nat) : Prop :=
  let result := (v % 2 ^ w).toNat
  (fits = true ∨ swOE r.sw = false → Delivers i s core r [(opn, result)] (intSW r (!fits) cy cc) r.nextIC) ∧
  (fits = false → swOE r.sw = true →
    Stops i s core ins r.len
      (.exc { cls := 0o10, sub := 0, opn := 0, vaddr := 0, info := if w = 36 then result * 2 ^ 36 else result }))

/-- A result without overflow. -/
def PlainEnds (i : Instr) (s : State) (core : Nat) (r : Run) (opn v cc : Nat) : Prop :=
  Delivers i s core r [(opn, v)] (intSW r false none cc) r.nextIC

/-- R87: the low-order digits of the exact result with its sign go to operand 1 of `l` words, with further results; with
more significant digits than it holds and SW.DE set, the Decimal overflow exception is taken. -/
def DecimalEnds (i : Instr) (s : State) (core : Nat) (ins : Insn) (r : Run) (l : Nat) (v : Int) (more : List (Nat × Nat)) :
    Prop :=
  let big := decide (9 * l - 1 < decLength v)
  let sw := if big then setBit r.sw 59 true else r.sw
  (big = false ∨ swDE r.sw = false → Delivers i s core r ((1, decWrite l v) :: more)
    (if hdrCS r.hdr then setFld sw 63 62 (if big then 3 else signCC v) else sw) r.nextIC) ∧
  (big = true → swDE r.sw = true →
    Stops i s core ins r.len (.exc { cls := 0o13, sub := 0, opn := 0, vaddr := 0, info := decLength v }))

/-- A floating result of `n` words goes to an operand, and its conditions to FF; a condition enabled in FE takes the
Floating exception, which carries what was trapped, what was raised and the untrapped result (R76, Table 3.1). -/
def FloatEnds (i : Instr) (s : State) (core : Nat) (ins : Insn) (r : Run) (opn n : Nat) (x : FRes) : Prop :=
  let trapped := x.flags &&& swFE r.sw
  let sw := setFld r.sw 58 54 (swFF r.sw ||| x.flags)
  (trapped = 0 → Delivers i s core r [(opn, x.bits)] (if hdrCS r.hdr then setFld sw 63 62 x.cc else sw) r.nextIC) ∧
  let untrapped := if n = 1 then x.bits * 2 ^ 36 else x.bits
  (trapped ≠ 0 →
    Stops i s core ins r.len (.exc { cls := 0o14, sub := trapped + x.flags * 32, opn := 0, vaddr := 0, info := untrapped }))

/-! ## Long instructions -/

/-- A long instruction as its operands form it: N units, the value of operand A that fills every unit as `v`. -/
def longOf (u : State) (core : Nat) (ins : Insn) (ls : List Loc) (f : Form) (n v : Nat) : Long :=
  { c := core, hdr := ins.hdr, hm := (u.core core).hm, start := u.core core, locs := ls, x := f.x, n := n, val := v }

/-- A long instruction begins anew on a core: no machine check comes first, it does not resume, its operands are formed, its
count and, of FLN, operand A's one value `pre` are read, and no interruption that would be taken ends it within 256 units.
`u` is the machine before unit 0, `l` the instruction, `f` what forming addresses touched. -/
def LongBegins (s : State) (core : Nat) (ins : Insn) (o : OpCode) (nto : Bool) (pre : Option OpSpec) (u : State) (l : Long)
    (f : Form) : Prop :=
  s.goes core = true ∧ (s.beforeInstr core).2 = true ∧ ∃ w ls n v,
    (before s core).decodeInsn core ins o = .ok (ls, f) ∧ countOf ins.hdr ((before s core).core core).x = .ok n ∧
    (before s core).useLoads core true f.fetch = .ok w ∧ swPA (w.core core).sw = false ∧
    ((w.bandTaken core).isSome = true → n ≤ 256) ∧ l = longOf w core ins ls f n v ∧
    ((n = 0 ∧ v = 0 ∧ u = w) ∨
     (0 < n ∧ Room core u ∧
       w.longValue (longOf w core ins ls f n 0) pre ((longOf w core ins ls f n 0).boundary nto 0 false (w.core core)) = .ok (u, v)))

/-- What a long instruction leaves: from the machine `v` after its last unit, register updates, results in registers, CC,
no progress, and IC past it (R66). -/
def LongEnds (i : Instr) (s : State) (core : Nat) (o : OpCode) (v : State) (l : Long) (f : Form)
    (results : List (Nat × Nat)) (cc : Option Nat) : Prop :=
  Ends i s core (((v.installAll l.start.party core (f.vas ++ l.vas)).usePasses core).longDone l o.words results cc)

/-- Every unit of it runs to the end, with the condition of NTO. -/
def RunsAll (unit : Long → Checkpoint → State → Nat → Except Stop (State × Nat)) (nto : Bool) (l : Long) (u v : State)
    (seen : Bool) : Prop :=
  longLoop l.c (l.boundary nto) (unit l) l.n u 0 false = { s := v, k := l.n, flag := seen, fin := .all }

/-- It stops at unit `k` with a difference or a character found. -/
def RunsTo (unit : Long → Checkpoint → State → Nat → Except Stop (State × Nat)) (nto : Bool) (l : Long) (k code : Nat)
    (u v : State) : Prop :=
  ∃ seen, longLoop l.c (l.boundary nto) (unit l) l.n u 0 false = { s := v, k := k, flag := seen, fin := .hit code }

/-! ## Objects -/

/-- A route may write a number to an object: the role has the right, the value has the type's form, the module state serves
the write and no lock refuses it (R425, R428, R429, R442). -/
def MayWrite (s : State) (route : Route) (index sub v : Nat) : Prop :=
  ∃ r, s.routeRole route = some r ∧
    (match objRights r index sub with
     | (some t, _) => v < 256 ^ t.lengths.2 ∧ (t = .w36 → v < 2 ^ 36)
     | _ => True) ∧
    s.odGate r index sub true true v = 0

/-- A route may write octets to an object. -/
def MayWriteOctets (s : State) (route : Route) (index sub : Nat) (l : List Octet) : Prop :=
  ∃ r, s.routeRole route = some r ∧
    (match objRights r index sub with
     | (some t, _) => t.fits l = true
     | _ => True) ∧
    s.odGate r index sub true true (octNat l) = 0

/-- An object write is answered without an abort after its effect. -/
def Writes (i : Instr) (s t : State) : Prop := Answers i s (t.odAnswer 0 [])

/-- The state of a cache of a core or tile. -/
def cacheState (s : State) (i : CacheId) (n : Nat) : CacheState :=
  match i with
  | .l1i => (s.core n).l1i
  | .l1d => (s.core n).l1d
  | .l2 => (s.core n).l2
  | .l3 => tget s.cc.l3 .enabled n

end Sys2Proof.Safety
end

