-- ==== Sys2Proof/Certificates/Slice0/Obligations.lean ====
section
/-! DEFINITION. The statements about the model. -/

open Sys2Proof Sys2Proof.Machine Sys2Proof.Safety

/-! ## The queue, and every step -/

/-- A step runs the command at the front of the queue on the state with the queue's rest (tier 1); on an empty queue every
core that runs issues a microword, the collector samples, and a staging reads a block (assumption 1, a design choice). -/
def Obligations.StepRunsFront : Prop :=
  (∀ (c : Instr) (rest : List Instr) (s : State), step { s with pending := c :: rest } = exec c { s with pending := rest }) ∧
  (∀ s : State, s.pending = [] → step s = .next s.coreCycles.sampleAll.stageBlock)

/-- Every well-formed queue runs: a step answers a next state, which waits for exactly the rest of the commands, all of them
still well formed. On an empty queue a step is what time does (assumption 1, a design choice).
The model's own choices and readings it rests on: assumptions 13 and 19.
No command changes the queue behind it. -/
def Obligations.WellFormedQueueRuns : Prop :=
  (∀ s : State, QueueWf s → ∃ t, step s = .next t ∧ t.pending = s.pending.tail ∧ QueueWf t) ∧
  (∀ (c : Instr) (s t : State), exec c s = .next t → t.pending = s.pending)

/-- A command is refused exactly when it is ill formed, whatever the state, and no command faults.
The model's own choices and readings it rests on: assumption 19. -/
def Obligations.RefusedExactlyIllFormed : Prop :=
  ∀ (c : Instr) (s : State), (c.wf = false → exec c s = .refused .illFormed) ∧ (c.wf = true → ∃ t, exec c s = .next t)

/-- Memory keeps its canonical form through every step. -/
def Obligations.MemoryStaysCanonical : Prop :=
  ∀ s t : State, MemoryWf s → step s = .next t → MemoryWf t

/-- Reset: OFF, an empty queue, canonical memory that reads as zero, and the tags of Dawn (R370; the reset of a register
without a stated value is the model's choice, assumption 17). -/
def Obligations.ResetLeaves : Prop :=
  State.reset.md.st = .off ∧ State.reset.pending = [] ∧ MemoryWf State.reset ∧ QueueWf State.reset ∧
    (∀ a, State.reset.rd a = 0) ∧ (∀ a, State.reset.tag a = dawnTag (a / 4096)) ∧ (∀ l, State.reset.poisoned l = false)

/-! ## Memory -/

/-- A word reads as it was last written, and a write leaves every other word alone and keeps the canonical form.
The model's own choices and readings it rests on: assumption 22.
A masked write-back of a line writes the selected bits of its 16 words and no other word; a mask of all bits clears the
line's poison, any other keeps it (R178). -/
def Obligations.MemoryReadAfterWrite : Prop :=
  (∀ (s : State) (a b : Nat) (w m : Word), MemoryWf s →
    MemoryWf (s.wrMask a w m) ∧
    (s.wrMask a w m).rd b = if b = a then (s.rd a &&& ~~~m) ||| (w &&& m) else s.rd b) ∧
  (∀ (s : State) (line a : Nat) (ws mask : List Word), MemoryWf s →
    (s.wrLineMask line ws mask).rd a =
      (if a / 16 = line then (s.rd a &&& ~~~(wordAt mask (a % 16))) ||| (wordAt ws (a % 16) &&& wordAt mask (a % 16)) else s.rd a) ∧
    (s.wrLineMask line ws mask).poisoned line =
      (if (List.range 16).all (fun i => wordAt mask i == BitVec.allOnes 36) then false else s.poisoned line) ∧
    (∀ l, l ≠ line → (s.wrLineMask line ws mask).poisoned l = s.poisoned l))

/-! ## Integer instructions (Table 2.8) -/

/-- ADD, SUB, ADC, SBB, NEG and ABS deliver the exact result modulo 2^W with OV, CY and CC, or take the Fixed-point
overflow exception when SW.OE is set. -/
def Obligations.IntegerSums : Prop :=
  ∀ (s : State) (core : Nat) (ins : Insn) (r : Run),
    let w := r.width
    let a := r.val 0
    let b := r.val 1
    let c := b2n (swCY r.sw)
    let A := sint w a
    let B := sint w b
    let three (v : Int) (carry : Bool) (i : Instr) : Prop :=
      IntegerEnds i s core ins r 2 w v (fitsSigned w v) (some carry) (signCC v)
    let two (v : Int) (i : Instr) : Prop := IntegerEnds i s core ins r 1 w v (fitsSigned w v) none (signCC v)
    (Begins s core ins (opABC ins.hdr false) r →
      (wfIns core ins 0o1000 = true → three (A + B) (decide (2 ^ w ≤ a + b)) (.add core ins)) ∧
      (wfIns core ins 0o1001 = true → three (A - B) (decide (b ≤ a)) (.sub core ins)) ∧
      (wfIns core ins 0o1002 = true → three (A + B + c) (decide (2 ^ w ≤ a + b + c)) (.adc core ins)) ∧
      (wfIns core ins 0o1003 = true → three (A - B - (1 - c)) (decide (b + (1 - c) ≤ a)) (.sbb core ins))) ∧
    (Begins s core ins (opAB ins.hdr) r →
      (wfIns core ins 0o1010 = true → two (-A) (.neg core ins)) ∧
      (wfIns core ins 0o1011 = true → two (if A < 0 then -A else A) (.abs core ins)))

/-- MUL delivers the product modulo 2^W, signed or unsigned by SG; MLF the full product of two words, which never
overflows.
DIV, REM and DVR: the quotient truncated toward zero and the remainder, OV unchanged; a divisor of zero, and with SG
the most negative number by -1, take the Divide exception (R80). -/
def Obligations.IntegerProductsAndQuotients : Prop :=
  (∀ (s : State) (core : Nat) (ins : Insn) (r : Run),
    let sg := hdrSG r.hdr
    let num (w v : Nat) : Int := if sg then sint w v else v
    let fits (w : Nat) (v : Int) : Bool := if sg then fitsSigned w v else fitsUnsigned w v
    (Begins s core ins (opABC ins.hdr true) r → wfIns core ins 0o1020 = true →
      let p := num r.width (r.val 0) * num r.width (r.val 1)
      IntegerEnds (.mul core ins) s core ins r 2 r.width p (fits r.width p) none (signCC p)) ∧
    (Begins s core ins (opMlf ins.hdr) r → wfIns core ins 0o1021 = true → r.val 0 < 2 ^ 36 → r.val 1 < 2 ^ 36 →
      let p := num 36 (r.val 0) * num 36 (r.val 1)
      PlainEnds (.mlf core ins) s core r 2 (p % 2 ^ 72).toNat (signCC p))) ∧
  (∀ (s : State) (core : Nat) (ins : Insn) (r : Run),
    let sg := hdrSG r.hdr
    let num (w v : Nat) : Int := if sg then sint w v else v
    let most (w : Nat) : Prop := sg = true ∧ num w (r.val 0) = -(2 ^ (w - 1)) ∧ num w (r.val 1) = -1
    let q (w : Nat) : Int := (num w (r.val 0)).tdiv (num w (r.val 1))
    let m (w : Nat) : Int := (num w (r.val 0)).tmod (num w (r.val 1))
    let mod (w : Nat) (v : Int) : Nat := (v % 2 ^ w).toNat
    let outcome (w : Nat) (i : Instr) (good : Prop) : Prop := r.val 0 < 2 ^ w → r.val 1 < 2 ^ w →
      (num w (r.val 1) = 0 → Stops i s core ins r.len (.exc { cls := 0o11, sub := 1, opn := 0, vaddr := 0, info := 0 })) ∧
      (most w → Stops i s core ins r.len (.exc { cls := 0o11, sub := 2, opn := 0, vaddr := 0, info := 0 })) ∧
      (num w (r.val 1) ≠ 0 → ¬ most w → good)
    (Begins s core ins (opABC ins.hdr true) r →
      (wfIns core ins 0o1030 = true → outcome r.width (.div core ins)
        (PlainEnds (.div core ins) s core r 2 (mod r.width (q r.width)) (signCC (q r.width)))) ∧
      (wfIns core ins 0o1031 = true → outcome r.width (.rem core ins)
        (PlainEnds (.rem core ins) s core r 2 (mod r.width (m r.width)) (signCC (m r.width))))) ∧
    (Begins s core ins (opDvr ins.hdr) r → wfIns core ins 0o1032 = true → outcome 36 (.dvr core ins)
      (PlainEnds (.dvr core ins) s core r 2 (mod 36 (q 36) * 2 ^ 36 + mod 36 (m 36)) (signCC (q 36)))))

/-- AND, ORR, XOR and NOT deliver bits with CC 0 or 2; TST and CMP set CC and write no operand. -/
def Obligations.LogicAndCompares : Prop :=
  ∀ (s : State) (core : Nat) (ins : Insn) (r : Run),
    let a := r.val 0
    let b := r.val 1
    let cc (v : Nat) : Nat := if v = 0 then 0 else 2
    let num (v : Nat) : Int := if hdrSG r.hdr then sint r.width v else v
    (Begins s core ins (opABC ins.hdr false) r →
      (wfIns core ins 0o1050 = true → PlainEnds (.and core ins) s core r 2 (a &&& b) (cc (a &&& b))) ∧
      (wfIns core ins 0o1051 = true → PlainEnds (.orr core ins) s core r 2 (a ||| b) (cc (a ||| b))) ∧
      (wfIns core ins 0o1052 = true → PlainEnds (.xor core ins) s core r 2 (a ^^^ b) (cc (a ^^^ b)))) ∧
    (Begins s core ins (opAB ins.hdr) r → wfIns core ins 0o1053 = true →
      PlainEnds (.not core ins) s core r 1 (2 ^ r.width - 1 - a) (cc (2 ^ r.width - 1 - a))) ∧
    (Begins s core ins (opCmp ins.hdr true) r → wfIns core ins 0o1040 = true →
      Delivers (.cmp core ins) s core r [] (setFld r.sw 63 62 (signCC (num a - num b))) r.nextIC) ∧
    (Begins s core ins (opCmp ins.hdr false) r → wfIns core ins 0o1041 = true →
      Delivers (.tst core ins) s core r []
        (setFld r.sw 63 62 (if a &&& b = 0 then 0 else if a &&& b = b then 2 else 1)) r.nextIC)

/-- The shifts and rotates of Table 3.3 with a whole unsigned count, CLZ, PCT, and the bit fields. -/
def Obligations.ShiftsAndFields : Prop :=
  ∀ (s : State) (core : Nat) (ins : Insn) (r : Run),
    let w := r.width
    let a := r.val 0
    let c := r.val 1
    let cc (v : Nat) : Nat := if v = 0 then 0 else 2
    let bits (i : Instr) (v : Nat) : Prop := PlainEnds i s core r 2 v (cc v)
    let rot (n : Nat) : Nat := (a * 2 ^ n + a / 2 ^ (w - n)) % 2 ^ w
    (Begins s core ins (opABC ins.hdr false) r →
      (wfIns core ins 0o1060 = true → bits (.sll core ins) (if c < w then a * 2 ^ c % 2 ^ w else 0)) ∧
      (wfIns core ins 0o1061 = true → bits (.srl core ins) (if c < w then a / 2 ^ c else 0)) ∧
      (wfIns core ins 0o1062 = true → a < 2 ^ w →
        IntegerEnds (.sla core ins) s core ins r 2 w (if c < w then sint w a * 2 ^ c else 0)
          (if c < w then fitsSigned w (sint w a * 2 ^ c) else decide (a = 0)) none
          (signCC (if c < w then sint w a * 2 ^ c else 0))) ∧
      (wfIns core ins 0o1063 = true →
        let v : Int := if c < w then sint w a / 2 ^ c else if sint w a < 0 then -1 else 0
        PlainEnds (.sra core ins) s core r 2 (v % 2 ^ w).toNat (signCC v)) ∧
      (wfIns core ins 0o1064 = true → bits (.rol core ins) (rot (c % w))) ∧
      (wfIns core ins 0o1065 = true → bits (.ror core ins) (rot ((w - c % w) % w)))) ∧
    (Begins s core ins (opAB ins.hdr) r →
      (wfIns core ins 0o1070 = true →
        let n := if a = 0 then w else w - 1 - Nat.log2 a
        PlainEnds (.clz core ins) s core r 1 n (cc n)) ∧
      (wfIns core ins 0o1071 = true → PlainEnds (.pct core ins) s core r 1 (popcount w a) (cc (popcount w a)))) ∧
    (Begins s core ins (opField ins.hdr true (dstOp (dwWords ins.hdr))) r → wfIns core ins 0o1100 = true →
      let f := a / 2 ^ varOf r.hdr % 2 ^ lenOf r.hdr
      let v : Int := if hdrSG r.hdr then sint (lenOf r.hdr) f else f
      PlainEnds (.xbt core ins) s core r 1 (v % 2 ^ w).toNat (signCC v)) ∧
    (Begins s core ins (opField ins.hdr false (modOp (dwWords ins.hdr))) r → wfIns core ins 0o1101 = true →
      let p := varOf r.hdr
      let n := lenOf r.hdr
      let v := c - c / 2 ^ p % 2 ^ n * 2 ^ p + a % 2 ^ n * 2 ^ p
      PlainEnds (.ibt core ins) s core r 1 v (cc v))

/-! ## Decimal and floating instructions (Tables 2.9, 2.10) -/

/-- The decimal instructions whose sources are valid deliver the low-order digits of the exact result with its sign, CC and
DOF, or take the Decimal overflow exception when SW.DE is set (R87, R88).
The model's own choices and readings it rests on: assumptions 26 and 30.
An invalid code in a decimal source takes the Decimal data exception with its place, A before B; every source is
checked before anything is stored (R86). -/
def Obligations.DecimalInstructions : Prop :=
  (∀ (s : State) (core : Nat) (ins : Insn) (r : Run),
    let l1 := len1 r.hdr
    let l2 := len2 r.hdr
    let okA := decBad l1 (r.val 0) = none
    let okB := decBad l2 (r.val 1) = none
    let a := decValue l1 (r.val 0)
    let b := decValue l2 (r.val 1)
    let two := opDec ins.hdr true true true [srcOp (len1 ins.hdr), modOp (len2 ins.hdr)]
    let move := opDec ins.hdr true true true [srcOp (len1 ins.hdr), dstOp (len2 ins.hdr)]
    (Begins s core ins two r → okA → okB →
      (wfIns core ins 0o2000 = true → DecimalEnds (.dad core ins) s core ins r l2 (b + a) []) ∧
      (wfIns core ins 0o2001 = true → DecimalEnds (.dsb core ins) s core ins r l2 (b - a) []) ∧
      (wfIns core ins 0o2002 = true → DecimalEnds (.dmu core ins) s core ins r l2 (b * a) [])) ∧
    (Begins s core ins (opDec ins.hdr true true true [srcOp (len1 ins.hdr), modOp (len2 ins.hdr), dstOp (len1 ins.hdr)]) r →
      okA → okB → wfIns core ins 0o2003 = true →
      (a ≠ 0 → DecimalEnds (.ddv core ins) s core ins r l2 (b.tdiv a) [(2, decWrite l1 (b.tmod a))]) ∧
      (a = 0 → Stops (.ddv core ins) s core ins r.len (.exc { cls := 0o11, sub := 1, opn := 0, vaddr := 0, info := 0 }))) ∧
    (Begins s core ins (opDec ins.hdr false true true [srcOp (len1 ins.hdr), srcOp (len2 ins.hdr)]) r → okA → okB →
      wfIns core ins 0o2004 = true →
      Delivers (.dcp core ins) s core r [] (setFld r.sw 63 62 (signCC (b - a))) r.nextIC) ∧
    (Begins s core ins move r → okA → wfIns core ins 0o2005 = true → DecimalEnds (.dmv core ins) s core ins r l2 a []) ∧
    (Begins s core ins { move with varOk := decide (-71 ≤ shiftOf ins.hdr) && decide (shiftOf ins.hdr ≤ 71) } r → okA →
      wfIns core ins 0o2006 = true → DecimalEnds (.dsr core ins) s core ins r l2 (decShift a (shiftOf r.hdr)) []) ∧
    (Begins s core ins (opDec ins.hdr true true false [srcOp (len1 ins.hdr), dstOp 2]) r → okA →
      wfIns core ins 0o2010 = true → IntegerEnds (.cdb core ins) s core ins r 1 72 a (fitsSigned 72 a) none (signCC a)) ∧
    (Begins s core ins (opDec ins.hdr true false true [srcOp 2, dstOp (len2 ins.hdr)]) r →
      wfIns core ins 0o2011 = true → DecimalEnds (.cbd core ins) s core ins r l2 (sint 72 (r.val 0)) []) ∧
    (Begins s core ins (opDec ins.hdr false true false [srcOp (len1 ins.hdr)]) r → wfIns core ins 0o2020 = true →
      (okA → Delivers (.dts core ins) s core r [] (setFld r.sw 63 62 (signCC a)) r.nextIC) ∧
      (¬ okA → Delivers (.dts core ins) s core r [] (setFld r.sw 63 62 3) r.nextIC))) ∧
  (∀ (s : State) (core : Nat) (ins : Insn) (r : Run) (code p : Nat),
    let info := p / 9 * 2 ^ 36 + p % 9
    let bad (i : Instr) (opn : Nat) : Prop :=
      Stops i s core ins r.len (.exc { cls := 0o12, sub := code, opn := opn, vaddr := 0, info := info })
    let two := opDec ins.hdr true true true [srcOp (len1 ins.hdr), modOp (len2 ins.hdr)]
    Begins s core ins two r →
      (decBad (len1 r.hdr) (r.val 0) = some (code, p) →
        (wfIns core ins 0o2000 = true → bad (.dad core ins) 1) ∧ (wfIns core ins 0o2001 = true → bad (.dsb core ins) 1) ∧
        (wfIns core ins 0o2002 = true → bad (.dmu core ins) 1)) ∧
      (decBad (len1 r.hdr) (r.val 0) = none → decBad (len2 r.hdr) (r.val 1) = some (code, p) →
        (wfIns core ins 0o2000 = true → bad (.dad core ins) 2) ∧ (wfIns core ins 0o2001 = true → bad (.dsb core ins) 2) ∧
        (wfIns core ins 0o2002 = true → bad (.dmu core ins) 2)))

/-- The floating instructions deliver the result and add the raised conditions to FF, unless one of them is enabled in FE:
then the Floating exception is taken with the conditions and the untrapped result (R76, Table 3.1).
The model's own choices and readings it rests on: assumptions 25 and 30.
FCP sets CC to 0, 1, 2, or 3 for unordered operands, and writes no operand; FTD delivers a decimal integer. Untrapped. -/
def Obligations.FloatingInstructions : Prop :=
  (∀ (s : State) (core : Nat) (ins : Insn) (r : Run),
    let n := dwWords ins.hdr
    let g := fmtOf (hdrDW r.hdr)
    let a := r.val 0
    let b := r.val 1
    let three := opFloat ins.hdr true false false [srcOp n, srcOp n, dstOp n]
    let two (na nb : Nat) (n8 n9 sg : Bool) : OpCode := { opFloat ins.hdr true n8 n9 [srcOp na, dstOp nb] with sg := sg }
    (Begins s core ins three r →
      (wfIns core ins 0o3000 = true → FloatEnds (.fad core ins) s core ins r 2 n (g.add r.rm r.ut a b)) ∧
      (wfIns core ins 0o3001 = true → FloatEnds (.fsb core ins) s core ins r 2 n (g.sub r.rm r.ut a b)) ∧
      (wfIns core ins 0o3002 = true → FloatEnds (.fmu core ins) s core ins r 2 n (g.mul r.rm r.ut a b)) ∧
      (wfIns core ins 0o3003 = true → FloatEnds (.fdv core ins) s core ins r 2 n (g.div r.rm r.ut a b))) ∧
    (Begins s core ins (two n n false false false) r →
      (wfIns core ins 0o3004 = true → FloatEnds (.fsq core ins) s core ins r 1 n (g.sqrt r.rm r.ut a)) ∧
      (wfIns core ins 0o3040 = true → FloatEnds (.fri core ins) s core ins r 1 n (g.integral r.rm a))) ∧
    (Begins s core ins (opFloat ins.hdr true false false [srcOp n, srcOp n, modOp n]) r → wfIns core ins 0o3005 = true →
      FloatEnds (.fma core ins) s core ins r 2 n (g.fma r.rm r.ut a b (r.val 2))) ∧
    (Begins s core ins (two n (3 - n) false false false) r → wfIns core ins 0o3020 = true →
      FloatEnds (.fcv core ins) s core ins r 1 (3 - n) ((fmtOf (!hdrDW r.hdr)).convert g r.rm r.ut a)) ∧
    (Begins s core ins (two n (intWords ins.hdr) false true true) r → wfIns core ins 0o3021 = true →
      FloatEnds (.fci core ins) s core ins r 1 (intWords ins.hdr)
        (g.toInt r.rm (36 * intWords r.hdr) (hdrSG r.hdr) a)) ∧
    (Begins s core ins (two (intWords ins.hdr) n false true true) r → wfIns core ins 0o3022 = true →
      FloatEnds (.ffi core ins) s core ins r 1 n
        (g.ofInt r.rm r.ut (if hdrSG r.hdr then sint (36 * intWords r.hdr) a else a))) ∧
    (Begins s core ins (two n (interchange ins.hdr).2 true false false) r → wfIns core ins 0o3030 = true →
      FloatEnds (.ftx core ins) s core ins r 1 (interchange ins.hdr).2 ((interchange r.hdr).1.convert g r.rm r.ut a)) ∧
    (Begins s core ins (opFloat ins.hdr true true false [srcOp (interchange ins.hdr).2, dstOp n]) r →
      wfIns core ins 0o3031 = true → a < 2 ^ ((interchange ins.hdr).1.ebits + (interchange ins.hdr).1.fbits + 1) →
      FloatEnds (.ffx core ins) s core ins r 1 n (g.convert (interchange ins.hdr).1 r.rm r.ut a)) ∧
    (Begins s core ins { opFloat ins.hdr true false false [srcOp (len1 ins.hdr), dstOp n] with
        lenOk := decLenOk ins.hdr true false } r → wfIns core ins 0o3024 = true → decBad (len1 r.hdr) a = none →
      FloatEnds (.ffd core ins) s core ins r 1 n (g.ofInt r.rm r.ut (decValue (len1 r.hdr) a)))) ∧
  (∀ (s : State) (core : Nat) (ins : Insn) (r : Run),
    let n := dwWords ins.hdr
    let g := fmtOf (hdrDW r.hdr)
    (Begins s core ins (opFloat ins.hdr false true false [srcOp n, srcOp n]) r → wfIns core ins 0o3010 = true →
      let x := g.compare (varOf r.hdr % 2 == 1) (r.val 0) (r.val 1)
      x.flags &&& swFE r.sw = 0 →
      Delivers (.fcp core ins) s core r [] (setFld (addFF r.sw x.flags) 63 62 x.cc) r.nextIC) ∧
    (Begins s core ins { opFloat ins.hdr true false false [srcOp n, dstOp (len2 ins.hdr)] with
        lenOk := decLenOk ins.hdr false true } r → wfIns core ins 0o3023 = true →
      let x := g.toDecimal r.rm (r.val 0)
      x.2 &&& swFE r.sw = 0 → decLength x.1 ≤ 9 * len2 r.hdr - 1 →
      Delivers (.ftd core ins) s core r [(1, decWrite (len2 r.hdr) x.1)]
        (if x.2 = fV then setCCIf (addFF (setCCIf r.sw (hdrCS r.hdr) (signCC x.1)) x.2) (hdrCS r.hdr) 3
         else addFF (setCCIf r.sw (hdrCS r.hdr) (signCC x.1)) x.2) r.nextIC))

/-! ## Moves, control flow, state words (Tables 2.7, 2.11, 2.13) -/

/-- MVW copies and sets CC by the sign with CS, from memory, registers and immediates at once and from control space after
every older access; XCH exchanges; SSW, SPM and LSW move the state word; RTI loads SW and IC.
The model's own choices and readings it rests on: assumptions 25 and 32. -/
def Obligations.MovesAndStateWords : Prop :=
  ∀ (s : State) (core : Nat) (ins : Insn) (r : Run),
    let v := r.val 0
    let moved (t : State) : Prop := Begins t core ins (opMvw ins.hdr) r →
      Delivers (.mvw core ins) s core r [(1, v)] (if hdrCS r.hdr then setFld r.sw 63 62 (signCC (sint r.width v)) else r.sw)
        r.nextIC
    let accepted (sw : DWord) (ic : Nat) : Prop := r.start.pl ≤ swPL sw ∧ fld sw 66 64 ≤ 4 ∧
      (bit sw 69 = true → 2 ≤ swPL sw ∧ ic < 2 ^ 24) ∧ (2 ≤ swPL sw → r.start.ctxValid = true)
    (wfIns core ins 0o10 = true → (deviceMode ins.a = false → moved s) ∧
      (∀ t, deviceMode ins.a = true → Drains s core t → moved t)) ∧
    (wfIns core ins 0o30 = true → Begins s core ins (opXch ins.hdr) r →
      Delivers (.xch core ins) s core r [(0, r.val 1), (1, r.val 0)] r.sw r.nextIC) ∧
    (wfIns core ins 0o6051 = true → Begins s core ins (opDouble ins.hdr .d 3 true) r →
      Delivers (.ssw core ins) s core r [(0, (setFld (setBit r.sw 46 false) 45 0 0).toNat)] r.sw r.nextIC) ∧
    (wfIns core ins 0o6052 = true → Begins s core ins (opDouble ins.hdr .s 3 true) r → fld (BitVec.ofNat 72 v) 66 64 ≤ 4 →
      Delivers (.spm core ins) s core r [] ((r.sw &&& ~~~spmMask) ||| (BitVec.ofNat 72 v &&& spmMask)) r.nextIC) ∧
    (wfIns core ins 0o6050 = true → Begins s core ins (opDouble ins.hdr .s 2 true) r →
      accepted (BitVec.ofNat 72 v) r.start.ic.toNat →
      Delivers (.lsw core ins) s core r [] (BitVec.ofNat 72 v) r.nextIC) ∧
    (wfIns core ins 0o4020 = true → Begins s core ins (opBlock ins.hdr 2 4) r →
      accepted (BitVec.ofNat 72 (v / 2 ^ 72)) (v % 2 ^ 48) →
      Delivers (.rti core ins) s core r [] (BitVec.ofNat 72 (v / 2 ^ 72)) (v % 2 ^ 48))

/-- The branches; WAIT with external interruptions enabled waits.
A call completes, and is then taken at the level of its class: the saved IC is that of the next instruction, the code's
low 12 bits are SUB, and word 6 holds the full code (R70). CZN with Zenith absent sets X1 to SERVICE-ABSENT instead.
The model's own choices and readings it rests on: assumptions 32 and 34. -/
def Obligations.BranchesWaitAndCalls : Prop :=
  (∀ (s : State) (core : Nat) (ins : Insn) (r : Run),
    (wfIns core ins 0o4000 = true → Begins s core ins (opBr ins.hdr) r →
      Delivers (.br core ins) s core r [] r.sw (if (varOf r.hdr).testBit r.start.cc then r.target 0 else r.nextIC)) ∧
    (wfIns core ins 0o4001 = true → Begins s core ins (opBal ins.hdr (s.core core).hm) r →
      Delivers (.bal core ins) s core r [(1, r.nextIC)] r.sw (r.target 0)) ∧
    (wfIns core ins 0o4002 = true → Begins s core ins (opBct ins.hdr) r →
      let v := (((r.val 0 : Int) - 1) % 2 ^ r.width).toNat
      Delivers (.bct core ins) s core r [(0, v)] r.sw (if v = 0 then r.nextIC else r.target 1)) ∧
    (wfIns core ins 0o4030 = true → Begins s core ins (opWait ins.hdr) r →
      (swIE r.sw = true → Completes (.wait core ins) s core
        ((r.finish { writes := [], sw := r.sw, ic := r.nextIC }).modCore core (fun k => { k with run := .waiting }))) ∧
      (swIE r.sw = false → Stops (.wait core ins) s core ins r.len (Stop.mk' 3 0 0)))) ∧
  (∀ (s : State) (core : Nat) (ins : Insn) (r : Run),
    let n := r.val 0 % 2 ^ 23
    let done := r.finish { writes := [], sw := r.sw, ic := r.nextIC }
    let intr (cls : Nat) : Intr := { cls := cls, sub := n % 4096, opn := 0, ilen := r.len, vaddr := 0, info := n * 2 ^ 36,
                                     sw := r.sw, ic := r.nextIC }
    let taken (cls : Nat) : State := done.takeIntr core (intr cls)
    let called (cls : Nat) : Prop := ((taken cls).core core).seq ≠ (done.core core).seq
    (wfIns core ins 0o4010 = true → Begins s core ins (opCall ins.hdr 3) r → called 0o20 →
      Completes (.csv core ins) s core (taken 0o20)) ∧
    (wfIns core ins 0o4011 = true → Begins s core ins (opCall ins.hdr 2) r → called 0o21 →
      Completes (.chs core ins) s core (taken 0o21)) ∧
    (wfIns core ins 0o4012 = true → Begins s core ins (opCall ins.hdr 2) r → r.s.tn.absent = false → 1 ≤ n → n ≤ 3 →
      called 0o22 → Completes (.czn core ins) s core (taken 0o22)) ∧
    (wfIns core ins 0o4012 = true → Begins s core ins (opCall ins.hdr 2) r → r.s.tn.absent = true →
      Completes (.czn core ins) s core
        (({ r with x := setReg r.x 1 1 } : Run).finish { writes := [], sw := r.sw, ic := r.nextIC })))

/-- RCC delivers a cycle count that has not gone back, and RTD a time of day that has not gone back and stays below the
floor; the clock that was read holds the value delivered. How much time passes is free (assumption 3). -/
def Obligations.Clocks : Prop :=
  ∀ (s : State) (core : Nat) (ins : Insn) (r : Run), Begins s core ins (opDouble ins.hdr .d 3 false) r →
    let ran (t : State) (v : Nat) : State := ({ r with s := t } : Run).finish { writes := [(0, v)], sw := r.sw, ic := r.nextIC }
    (wfIns core ins 0o6060 = true → ∃ n, (r.s.core core).cycles ≤ n ∧
      Completes (.rcc core ins) s core (ran (r.s.tick.2.modCore core (fun k => { k with cycles := n })) (n % 2 ^ 72))) ∧
    (wfIns core ins 0o6061 = true → r.s.tm.tod < r.s.tm.floor → r.s.tm.floor ≤ 2 ^ 64 →
      ∃ n, r.s.tm.tod ≤ n ∧ n < r.s.tm.floor ∧
        Completes (.rtd core ins) s core (ran { r.s with fresh := r.s.fresh + 1, tm := { r.s.tm with tod := n } } n))

/-! ## Reserved pairs (R117-R120) -/

/-- LDR loads and holds a reservation on the line; STC stores and sets CC to 0 when the core holds the reservation of the
line, and else stores nothing and sets CC to 1; either way the reservation is gone. No reservation counts while the core's
L2 is DISABLING or DISABLED (R118).
The rule gives the outcome; the hypotheses that the line is at hand and older stores performed are the model's reading of
when it executes (assumptions 32 and 33). -/
def Obligations.ReservedPair : Prop :=
  ∀ (s : State) (core : Nat) (ins : Insn) (r : Run) (u : State),
    (wfIns core ins 0o40 = true → Begins s core ins (opLdr ins.hdr) r →
      r.s.ownLine core (r.lineOfOp 0) = (u, true) →
      Completes (.ldr core ins) s core
        ((({ r with s := u.endReservation core } : Run).finish { writes := [(1, r.val 0)], sw := r.sw, ic := r.nextIC }).modCore
          core (fun k => { k with res := some { line := r.lineOfOp 0, deferring := true, snooped := false } }))) ∧
    (∀ line, r.start.reserves line = true ↔
      r.start.l2 = .enabled ∧ ∃ x, r.start.res = some x ∧ x.line = line) ∧
    (∀ t, wfIns core ins 0o41 = true → Drains s core t → Begins t core ins (opStc ins.hdr) r →
      ((r.start.reserves (r.lineOfOp 1) = false →
        Completes (.stc core ins) s core
          ((r.finish { writes := [], sw := setFld r.sw 63 62 1, ic := r.nextIC }).endReservation core)) ∧
      (r.start.reserves (r.lineOfOp 1) = true → r.s.takeLine core (r.lineOfOp 1) none = (u, true) →
        Completes (.stc core ins) s core
          (((({ r with s := u } : Run).finish { writes := [(1, r.val 0)], sw := setFld r.sw 63 62 0, ic := r.nextIC }).drainCore
            core).1.endReservation core))))

/-! ## Long instructions (Tables 2.7, 2.12) -/

/-- A long instruction that is not stopped runs every unit in ascending order and completes; CPC and SCN end at the first
difference or character. A count of 0 processes no unit (R52, R66).
The model's own choices and readings it rests on: assumptions 27, 28, 29 and 31. -/
def Obligations.LongInstructions : Prop :=
  ∀ (s : State) (core : Nat) (ins : Insn) (u v : State) (l : Long) (f : Form) (seen : Bool) (k code : Nat),
    let n := dwWords ins.hdr
    let h := ins.hdr
    let starts (o : OpCode) (nto : Bool) (pre : Option OpSpec) : Prop := LongBegins s core ins o nto pre u l f
    let all (i : Instr) (o : OpCode) (unit : Long → Checkpoint → State → Nat → Except Stop (State × Nat))
        (res : List (Nat × Nat)) (cc : Option Nat) : Prop :=
      starts o false none → RunsAll unit false l u v seen → LongEnds i s core o v l f res cc
    let hit (i : Instr) (o : OpCode) (unit : Long → Checkpoint → State → Nat → Except Stop (State × Nat))
        (res : List (Nat × Nat)) (cc : Option Nat) : Prop :=
      starts o false none → RunsTo unit false l k code u v → LongEnds i s core o v l f res cc
    let fln := opLong h true false [srcOp n, { use := .d, ty := .fill, n := n }]
    let nto := opLong h false true [chrOp .s 0o27, chrOp .d 0o30]
    (wfIns core ins 0o20 = true → all (.mvn core ins none)
      (opLong h true false [{ use := .s, ty := .movn, n := n }, { use := .d, ty := .movn, n := n }]) (mvnUnit h) [] none) ∧
    (wfIns core ins 0o21 = true → starts fln false (some (srcOp n)) → RunsAll (flnUnit h) false l u v seen →
      LongEnds (.fln core ins none) s core fln v l f [] none) ∧
    (wfIns core ins 0o5000 = true → all (.mvc core ins none) (opLong h false false [strOp .s, sameOp .d ins])
      (copyUnit id (fun _ => 0)) [] none) ∧
    (wfIns core ins 0o5001 = true →
      all (.cpc core ins none) (opLong h false false [strOp .s, sameOp .s ins]) cpcUnit [] (some 0) ∧
      hit (.cpc core ins none) (opLong h false false [strOp .s, sameOp .s ins]) cpcUnit [] (some code)) ∧
    (wfIns core ins 0o5002 = true → all (.trc core ins none)
      (opLong h false false [strOp .s, tableOp, sameOp .d ins]) trcUnit [] none) ∧
    (wfIns core ins 0o5003 = true →
      all (.scn core ins none) (opLong h false true [strOp .s, tableOp, { use := .d, ty := .reg, n := 2 }]) scnUnit
        [(dBS ins.c, l.n)] (if hdrCS h then some 0 else none) ∧
      hit (.scn core ins none) (opLong h false true [strOp .s, tableOp, { use := .d, ty := .reg, n := 2 }]) scnUnit
        [(dBS ins.c, k)] (if hdrCS h then some 2 else none)) ∧
    (wfIns core ins 0o5004 = true → all (.flc core ins none)
      (opLong h false false [{ use := .s, ty := .imm, n := 1 }, strOp .d]) flcUnit [] none) ∧
    (wfIns core ins 0o5010 = true → starts nto true none →
      RunsAll (copyUnit (· % 256) (fun v => if 256 ≤ v then 3 else 0)) true l u v seen →
      LongEnds (.nto core ins none) s core nto v l f [] (if hdrCS h then some (if seen then 3 else 0) else none)) ∧
    (wfIns core ins 0o5011 = true → all (.otn core ins none) (opLong h false false [chrOp .s 0o30, chrOp .d 0o27])
      (copyUnit id (fun _ => 0)) [] none) ∧
    (wfIns core ins 0o5020 = true → all (.mvb core ins none) (opLong h false false [bitsOp .s, bitsOp .d])
      (copyUnit id (fun _ => 0)) [] none)

/-- One unit: it reads its source unit, whose loads are bound, and stores the value of the unit's rule to its destination
unit alone. FLN stores the one value of operand A.
The model's own choices and readings it rests on: assumptions 28 and 29. -/
def Obligations.LongUnits : Prop :=
  ∀ (l : Long) (s : State) (ck : Checkpoint) (k v w : Nat) (a b : Unit_) (p q : Placed) (t t' : State) (h : Word),
    (l.strUnit s .s 0 k = .ok a → l.strUnit s .d 1 k = .ok b → s.unitRd l.c a = .ok v →
      s.bindLoads l.c ck (atomLines a.words) = .ok t →
      ∀ (g : Nat → Nat) (code : Nat → Nat),
        copyUnit g code l ck s k = .ok (t.modCore l.c (fun c => c.unitWr b (g v)), code v)) ∧
    (l.strUnit s .s 0 k = .ok a → l.strUnit s .s 1 k = .ok b → s.unitRd l.c a = .ok v → s.unitRd l.c b = .ok w →
      s.bindLoads l.c ck (atomLines a.words ++ atomLines b.words) = .ok t →
      cpcUnit l ck s k = .ok (t, if v = w then 0 else if v < w then 1 else 2)) ∧
    (l.strUnit s .s 0 k = .ok a → s.unitRd l.c a = .ok v → ∀ (e : Word) (ls : List Nat), l.tableWord s v = .ok (e, ls) →
      l.strUnit s .d 2 k = .ok b → s.bindLoads l.c ck (atomLines a.words ++ ls) = .ok t →
      trcUnit l ck s k = .ok (t.modCore l.c (fun c => c.unitWr b (e.toNat % 2 ^ b.q)), 0)) ∧
    (l.strUnit s .s 0 k = .ok a → s.unitRd l.c a = .ok v → ∀ (e : Word) (ls : List Nat), l.tableWord s (v / 36) = .ok (e, ls) →
      s.bindLoads l.c ck (atomLines a.words ++ ls) = .ok t →
      scnUnit l ck s k = .ok (t, if bit e (35 - v % 36) then 2 else 0)) ∧
    (l.strUnit s .d 1 k = .ok b → l.loc 0 = .imm v →
      flcUnit l ck s k = if v < 2 ^ b.q then .ok (s.modCore l.c (fun c => c.unitWr b v), 0) else .error (Stop.mk' 3 0 1)) ∧
    (s.wordUnit l.c l.hm { use := .s, ty := .movn, n := dwWords h } 1 k (l.loc 0) = .ok p →
      s.wordUnit l.c l.hm { use := .d, ty := .movn, n := dwWords h } 2 k (l.loc 1) = .ok q →
      ((l.loc 0).device = true → (s.core l.c).sb = []) →
      s.readOp l.c l.x p = .ok (v, t) → t.bindLoads l.c ck p.loadLines = .ok t' →
      mvnUnit h l ck s k = .ok (t'.modCore l.c (fun c => c.writeOp q v), 0)) ∧
    (s.wordUnit l.c l.hm { use := .d, ty := .fill, n := dwWords h } 2 k (l.loc 1) = .ok q →
      flnUnit h l ck s k = .ok (s.modCore l.c (fun c => c.writeOp q l.val), 0))

/-! ## Barriers, caches, translations (R123, R129-R140, R353) -/

/-- BAR completes once every older access is performed. CACHE CONTROL acts on the cache that VAR and the operand name, while
no other core's action covers it (R137): ENABLE leaves it ENABLED when its next level is; DISABLE goes step by step, an
ENABLED cache reads DISABLING, and it is DISABLED at the end; an L2 disabled loses its locks.
The model's own choices and readings it rests on: assumption 36.
LINE MAINTENANCE: a clean, invalidate or zero of the line enters the store buffer as an entry that stands alone; a
preload completes with the line in its caches; a lock holds it and the unlocks let go.
PURGE TRANSLATION completes when no covered tenant holds translations, and drops exactly the cached translations of its
scope: by VAR, of one page or all of the issuing level's stage 1, or of the tenant's stage 2, or of the module.
The model's own choices and readings it rests on: assumptions 4 and 35. -/
def Obligations.CachesAndTranslations : Prop :=
  (∀ (s t : State) (core : Nat) (ins : Insn) (r : Run) (n : Nat), Drains s core t →
    let i := cacheId (varOf r.hdr)
    let done (u : State) : State := ({ r with s := u } : Run).finish { writes := [], sw := r.sw, ic := r.nextIC }
    let idle (disable : Bool) : Prop := r.s.cacheBusy core (r.s.covered i n disable) = false
    let ends (f : Instr) (disable : Bool) (act : State × Bool) : Prop :=
      (act.2 = true → Completes f s core ((done act.1).cacheFree core)) ∧
      (act.2 = false → Completes f s core (act.1.cacheServes core (r.s.covered i n disable)))
    (wfIns core ins 0o6000 = true → Begins t core ins (opNull ins.hdr) r → Completes (.bar core ins) s core (done r.s)) ∧
    (Begins t core ins (opCct ins.hdr) r → cctTarget r.s i (r.val 0) = some n →
      (wfCct core ins 0 = true → idle false → r.s.nextLevel i n = .enabled →
        Completes (.enable core ins) s core ((done (r.s.cacheEnable i n)).cacheFree core) ∧
        cacheState (r.s.cacheEnable i n) i n = .enabled) ∧
      (wfCct core ins 1 = true → idle true →
        let act := r.s.disableStep i n
        ends (.disable core ins) true act ∧
        (act.2 = true → cacheState act.1 i n = .disabled) ∧
        (cacheState r.s i n = .enabled → act.2 = false ∧ cacheState act.1 i n = .disabling) ∧
        (i = .l2 → cacheState r.s i n = .disabling → act.2 = true → (act.1.core n).locks = [])) ∧
      (wfCct core ins 2 = true → idle false → ends (.cleanAll core ins) false (r.s.cleanStep core i n false)) ∧
      (wfCct core ins 3 = true → idle false →
        ends (.cleanAndInvalidateAll core ins) false (r.s.cleanStep core i n true)))) ∧
  (∀ (s : State) (core : Nat) (ins : Insn) (r : Run) (line : Nat) (u v : State), Begins s core ins (opLnm ins.hdr) r →
    let k := r.s.core core
    let buffered (kind : SbKind) (ws : List (Nat × Word)) (i : Instr) : Prop :=
      Completes i s core (r.lnmDone (r.s.modCore r.c (fun k => k.pushAlone kind line false (r.target 0) ws)))
    (wfVar core ins 0o6002 8 0 = true → r.lnmLine Need.load false = .ok line →
      buffered .cleanLine [(0, 0)] (.cleanLine core ins)) ∧
    (wfVar core ins 0o6002 8 1 = true → r.lnmLine Need.load false = .ok line →
      buffered .invalidateLine [(0, 0)] (.invalidateLine core ins)) ∧
    (wfVar core ins 0o6002 8 2 = true → r.lnmLine Need.store false = .ok line →
      buffered .zeroLine ((List.range 16).map (fun i => (i, 0))) (.zeroLine core ins)) ∧
    (wfVar core ins 0o6002 8 3 = true → r.lnmLine Need.load true = .ok line → r.preload line = .ok u →
      Completes (.preloadShared core ins) s core (r.lnmDone u)) ∧
    (wfVar core ins 0o6002 8 4 = true → r.lnmLine Need.store true = .ok line → r.s.ownLine r.c line = (u, true) →
      u.useLoads r.c false [line] = .ok v → Completes (.preloadOwned core ins) s core (r.lnmDone v)) ∧
    (wfVar core ins 0o6002 8 5 = true → r.lnmLine Need.load true = .ok line → r.c = core → k.l2 = .enabled →
      (k.locked line = true ∨ k.locksInSet line < 12) → r.preloadL2 line = .ok u →
      Completes (.preloadAndLock core ins) s core (r.lnmDone (u.modCore core (fun k => k.lockLine line)))) ∧
    (k.locked line = true → k.lockLine line = k) ∧
    (∀ x, k.locked line = false → k.tags2.lines.find? (fun x => x.line == line) = some x →
      k.lockLine line = { k with locks := k.locks ++ [(line, x.way)] }) ∧
    (wfVar core ins 0o6002 8 6 = true → r.lnmLine Need.load false = .ok line →
      Completes (.unlockLine core ins) s core
        (r.lnmDone (r.s.modCore r.c (fun k => { k with locks := k.locks.filter (fun l => l.1 != line) })))) ∧
    (wfVar core ins 0o6002 8 7 = true →
      Completes (.unlockAll core ins) s core
        (({ r with s := r.s.modCore r.c (fun k => { k with locks := [] }) } : Run).finish
          { writes := [], sw := r.sw, ic := r.nextIC }))) ∧
  (∀ (s : State) (core : Nat) (ins : Insn) (r : Run), Begins s core ins (opPtl ins.hdr) r →
    let t := r.start.tenant
    let mine := if r.start.pl = 0 then 1024 else if r.start.pl = 1 then 1025 else t
    let page (e : TcEntry) (a : Nat) : Bool :=
      if e.large then e.page / 512 == a / 4096 / 512 else e.page == a / 4096
    let free (x : Nat) : Prop := r.s.holdsTranslations x = false
    let drops (i : Instr) (p : TcEntry → Bool) : Prop :=
      let d := r.finish { writes := [], sw := r.sw, ic := r.nextIC }
      Completes i s core { d with tc := d.tc.filter (fun e => !p e) }
    (wfVar core ins 0o6070 5 0 = true →
      drops (.stage1Page core ins) (fun e => !e.stage2 && e.regime == mine && page e (r.target 0))) ∧
    (wfVar core ins 0o6070 5 1 = true → drops (.stage1All core ins) (fun e => !e.stage2 && e.regime == mine)) ∧
    (wfVar core ins 0o6070 5 2 = true → free t →
      drops (.stage2Page core ins) (fun e => e.stage2 && e.regime == t && page e (r.val 0 % 2 ^ 48))) ∧
    (wfVar core ins 0o6070 5 3 = true → free t → drops (.stage2Tenant core ins) (fun e => e.regime == t)) ∧
    (wfVar core ins 0o6070 5 4 = true → (∀ x, x < 512 → free x) → drops (.module core ins) (fun e => e.regime != 1024)))

/-! ## Hand-offs (R255, R303, R323, R430, R475) -/

/-- ESB, EPL and SCH act for the tenant of the core at levels 2 and 3 and deliver a status word: a full count of new
requests on an open ring or channel with room is OK, and the SUBMITTED count rises by it modulo 2^48; a poll delivers how
far the completed count has come since the last one; at levels 0 and 1 the status is NO-RING or NO-CHANNEL and nothing
else changes.
The model's own choices and readings it rests on: assumption 33. -/
def Obligations.PostsAndPolls : Prop :=
  ∀ (s t u : State) (core : Nat) (ins : Insn) (r : Run), Drains s core t →
    let x := r.start.tenant
    let a := r.val 0
    let n := r.val 1
    let level := r.start.pl
    let tells (i : Instr) (opn : Nat) (w : Word) (u : State) : Prop :=
      Completes i s core (({ r with s := u } : Run).finish { writes := [(opn, w.toNat)], sw := r.sw, ic := r.nextIC })
    let three := opPost ins.hdr 2 [srcOp 1, srcOp 1, dstOp 1]
    let two := opPost ins.hdr 2 [srcOp 1, dstOp 1]
    let four := opPost ins.hdr 1 [srcOp 1, srcOp 1, dstOp 1]
    let okWord (n : Nat) : Word := packW [(0, 33), (n % 2 ^ 17, 0)]
    let has (agent : Nat) (ws : List Nat) : Prop := r.s.agentReads agent (r.s.agentLines x ws) = (u, true)
    let g := u.cxRing x a
    let c := u.ciRing x a
    let pg := r.s.cxRing x a
    let pc := r.s.ciRing x a
    let room (q : Ring) : Prop := q.opened = true ∧ q.closing = false ∧ (q.sub + 2 ^ 48 - q.comp) % 2 ^ 48 + n ≤ 2 ^ q.k ∧
      u.sliceDraining x = false ∧ (level = 2 ∨ q.problem = true)
    let sees (q : Ring) : Prop := level = 2 ∨ q.problem = true
    let since (q : Ring) : Nat := (q.comp + 2 ^ 48 - q.cons) % 2 ^ 48
    (wfVar core ins 0o6030 2 0 = true → Begins t core ins three r →
      (level < 2 → tells (.esbCompression core ins) 2 (packW [(1, 33), (0, 0)]) r.s) ∧
      (2 ≤ level → level ≤ 3 → has compressionAgent (r.s.esbCxReads x a) → a < (u.cxT x).slice → room g →
        tells (.esbCompression core ins) 2 (okWord n) (u.setCxRing x a { g with sub := (g.sub + n) % 2 ^ 48 }))) ∧
    (wfVar core ins 0o6030 2 1 = true → Begins t core ins three r →
      (level < 2 → tells (.esbCipher core ins) 2 (packW [(1, 33), (0, 0)]) r.s) ∧
      (2 ≤ level → level ≤ 3 → has cipherAgent (r.s.esbCiReads x a) → a < (u.ciT x).ringSlice → room c →
        tells (.esbCipher core ins) 2 (okWord n) (u.setCiRing x a { c with sub := (c.sub + n) % 2 ^ 48 }))) ∧
    (wfVar core ins 0o6031 2 0 = true → Begins t core ins two r →
      (level < 2 → tells (.eplCompression core ins) 1 (packW [(1, 33), (0, 0)]) r.s) ∧
      (2 ≤ level → level ≤ 3 → a < (r.s.cxT x).slice → sees pg →
        tells (.eplCompression core ins) 1 (okWord (since pg)) (r.s.setCxRing x a { pg with cons := pg.comp }))) ∧
    (wfVar core ins 0o6031 2 1 = true → Begins t core ins two r →
      (level < 2 → tells (.eplCipher core ins) 1 (packW [(1, 33), (0, 0)]) r.s) ∧
      (2 ≤ level → level ≤ 3 → a < (r.s.ciT x).ringSlice → sees pc →
        tells (.eplCipher core ins) 1 (okWord (since pc)) (r.s.setCiRing x a { pc with cons := pc.comp }))) ∧
    (wfIns core ins 0o6040 = true → Begins t core ins four r →
      (level < 2 → tells (.sch core ins) 2 (packW [(1, 33), (0, 0)]) r.s) ∧
      (∀ m, 2 ≤ level → level ≤ 3 → a < (r.s.chT x).slice → r.s.findChan x a = some m →
        has (procAgent (r.s.chan m).proc) (r.s.schReads x a) → a < (u.chT x).slice → u.findChan x a = some m →
        u.sliceDraining x = false →
        let q := u.chan m
        q.opened = true → (q.submitted + 2 ^ 48 - q.completed) % 2 ^ 48 + n ≤ 2 ^ q.k → (level = 2 ∨ q.problem = true) →
        tells (.sch core ins) 2 (okWord n) (u.setChan m { q with submitted := (q.submitted + n) % 2 ^ 48 })))

/-- COM with a good descriptor hands the entry's words, which the controller has read, over in the core's order and the core
waits for the answer; a bad descriptor is answered at once. ODA performs the access under the role of the level and
delivers ABORT and the octets transferred.
The model's own choices and readings it rests on: assumptions 33, 37 and 38. -/
def Obligations.CommitAndObjectAccess : Prop :=
  ∀ (s t : State) (core : Nat) (ins : Insn) (r0 r1 r : Run), Drains s core t → (t.beforeInstr core).2 = true →
    let u := before t core
    let reads (agent : Nat) (lines : List Nat) : Prop := r0.useCaches = .ok r1 ∧ r1.reads agent lines = .ok r
    (∀ d : ComDesc, wfIns core ins 0o6010 = true →
      u.prepareBlock core ins (opBlockStatus ins.hdr 4 3) (fun s ws => s.comCheck core ws) = .ok (r0, d) →
      reads journalAgent d.lines →
      (d.valid = false → Ends (.com core ins) s core (r.status r.s (comWord 6 0))) ∧
      (d.valid = true → r.start.pl < 2 → Ends (.com core ins) s core (r.status r.s (comWord 8 0))) ∧
      (d.valid = true → 2 ≤ r.start.pl → Ends (.com core ins) s core (r.commit d))) ∧
    (∀ (p : OdaPlan) (ty : OType), wfIns core ins 0o6020 = true →
      u.prepareBlock core ins (opBlockStatus ins.hdr 6 2) (fun s ws => s.odaCheck core ws) = .ok (r0, p) →
      reads serviceAgent p.lines →
      r.c = core → p.ty = some ty → p.req.formed (some ty) = true → (r.s.routeRole (.inBand core)).isSome = true →
      let rd := r.s.odRead (.inBand core) p.req.index p.req.sub
      let wr := r.s.odWrite (.inBand core) p.req.index p.req.sub (r.s.odaValue p ty)
      (p.req.op = 1 → rd.sv.answerAbort = 0 → (ty.buffer = true → rd.sv.answer.length ≤ p.req.length) →
        (rd.odaResult p ty rd.sv.answer).goes core = true →
        Ends (.odaRead core ins) s core
          (r.status (rd.odaResult p ty rd.sv.answer) (packW [(0, 28), (rd.sv.answer.length, 0)]))) ∧
      (p.req.op = 2 → wr.goes core = true → wr.sv.answerAbort = 0 →
        Ends (.odaWrite core ins) s core (r.status wr (packW [(0, 28), ((r.s.odaValue p ty).length, 0)]))))

/-- Zenith's services for a core that has made the call: under the conditions that the service states on its arguments the
status is SUCCESS, its effect is there, and the caller goes on with X1 := SUCCESS, at the state word and IC that the call
saved. ATTEST is for levels 1 and 2 and argument ranges that the caller may read and write; ASSIGN PAGES is for level 1
and an aligned range of this module's pages that are not SEALED, each of which then has the new tag; DELETE NOTICE is for
level 2 and tells in X2 whether the tenant is DRAINING.
The model's own choices and readings it rests on: assumption 34. -/
def Obligations.ZenithServices : Prop :=
  ∀ (s u : State) (core : Nat) (ins : Insn) (sw : DWord) (ic cls n : Nat), s.drainCore core = (u, true) →
    u.zenithSaved core = some (sw, ic, cls, n) → wfIns core ins 0o4012 = true →
    let x (i : Nat) : Nat := regOf (u.core core).x i
    let pl := swPL sw
    let returns (i : Instr) (t : State) : Prop := Ends i s core (t.zenithReturn core 0)
    (s.serving core 1 = true → (pl = 1 ∨ pl = 2) → x 2 < 2 ^ 48 → x 3 < 2 ^ 48 →
      u.argOk core pl Need.load (x 2) 64 = true → u.argOk core pl Need.store (x 3) 5059 = true →
      (u.attest core pl).2 = 0 ∧ returns (.attest core ins) (u.attest core pl).1) ∧
    (s.serving core 2 = true → pl = 1 → x 2 % 4096 = 0 → 1 ≤ x 3 → x 3 ≤ 262144 → x 2 + 4096 * x 3 ≤ 2 ^ 40 →
      x 4 < 2 ^ 16 → u.assignable (BitVec.ofNat 16 (x 4)) = true →
      (∀ i, i < x 3 → tagKind (u.tag (x 2 + 4096 * i)) ≠ 3 ∧ fld (u.tag (x 2 + 4096 * i)) 12 9 = u.dy.modnum ∧
        u.homeServes (x 2 + 4096 * i) = true) →
      (u.assign core pl).2 = 0 ∧ returns (.assignPages core ins) (u.assign core pl).1 ∧
      (MemoryWf u → ∀ i, i < x 3 → (u.assign core pl).1.tag (x 2 + 4096 * i) = BitVec.ofNat 16 (x 4))) ∧
    (s.serving core 3 = true → pl = 2 →
      let told := u.modCore core (fun k => { k with
        x := setReg k.x 2 (b2n ((u.tenant (u.core core).tenant).st == .draining)) })
      returns (.deleteNotice core ins) told ∧
      ((told.zenithReturn core 0).core core).sw = sw ∧ ((told.zenithReturn core 0).core core).ic = BitVec.ofNat 48 ic ∧
      regOf ((told.zenithReturn core 0).core core).x 1 = 0 ∧
      regOf ((told.zenithReturn core 0).core core).x 2 = b2n ((u.tenant (u.core core).tenant).st == .draining))

/-! ## Customer opcodes (R191, R192, R195) -/

/-- An opcode without an entry takes Reserved Operation with length 0; one with an entry runs its micro-operations from the
entry address to DONE, at most 16,384 of them, and then stores D and M values and applies XWR's registers.
The model's own choices and readings it rests on: assumption 21.
Micro-operations: V0 and the read-only registers keep their values; SCC, SFL and XWR leave the core alone until
completion; TRP takes its exception or sets its flag (Table 6.8).
The model's own choices and readings it rests on: assumption 11. -/
def Obligations.CustomerOpcodes : Prop :=
  (∀ (s : State) (core : Nat) (ins : Insn),
    wfCore core = true → definedOpcodes.contains (opcOf ins) = false →
    let u := before s core
    (∀ l, s.goes core = true → (s.beforeInstr core).2 = true →
      u.fetchOk core (u.core core).hm 1 0 (u.core core).ic.toNat = .ok l →
      s.sp.custEntries.find? (fun e => e.opcode == opcOf ins) = none →
      Ends (.customerOpcode core ins) s core
        (u.stopped core ins 0 (Stop.mk' 1 (if opcOf ins < 0o7400 then 1 else 2) 0))) ∧
    (∀ (t : State) (e : CustEntry) (r : Run) (m : Micro) (v : State), 0o7400 ≤ opcOf ins →
      s.sp.custEntries.find? (fun e => e.opcode == opcOf ins) = some e → Drains s core t →
      Begins t core ins (e.opcode_ ins.hdr) r → r.beyond 1 r.ops = .ok () →
      microLoop r (hdrSG r.hdr) 16384 (e.sequencer r) = .ok m →
      e.finish r m = .ok v → Completes (.customerOpcode core ins) s core v)) ∧
  (∀ (m : Micro) (r : Run) (sg : Bool) (w : Word) (n : MicroNext) (m' : Micro),
    m.exec r sg w = .ok n → (n = .go m' ∨ n = .done m') →
    m'.v[0] = m.v[0] ∧ m'.v[4] = m.v[4] ∧ m'.v[5] = m.v[5] ∧ m'.v[6] = m.v[6] ∧ m'.v[7] = m.v[7] ∧ m'.v[8] = m.v[8] ∧
    (vop w ≠ 0o42 → vop w ≠ 0o43 → vop w ≠ 0o45 → vop w ≠ 0o47 → m'.s = m.s) ∧
    (vop w ≠ 0o63 → vop w ≠ 0o64 → m'.sw = m.sw) ∧ (vop w ≠ 0o62 → m'.cc = m.cc) ∧ (vop w ≠ 0o61 → m'.xs = m.xs))

/-! ## Interruptions, retry and takeover (R70, R199, R203, R209, R382, R395) -/

/-- Taking an interruption: words 0-7 of the block of its level hold the old SW, the old IC, the code and the class-specific
words, SW and IC come from words 8-11, the core runs without a reservation, and neither its registers nor memory change
(Tables 2.15, 2.16). The block's line is at hand, and no other agent's snoop waits for a reservation of the core. -/
def Obligations.InterruptionEntry : Prop :=
  ∀ (s : State) (c level ra : Nat) (i : Intr),
    let k := s.core c
    let w (n : Nat) : Word := s.coreWord c (ra + n)
    let sw : DWord := w 8 ++ w 9
    let ic := fld (w 10 ++ w 11) 47 0
    let code : Nat := i.cls % 64 * 2 ^ 66 + i.sub % 4096 * 2 ^ 54 + i.opn % 4 * 2 ^ 52 + i.ilen % 16 * 2 ^ 48 + i.vaddr % 2 ^ 48
    let saved : List Word := [hiWord i.sw, loWord i.sw, BitVec.ofNat 36 (i.ic % 2 ^ 48 / 2 ^ 36), BitVec.ofNat 36 i.ic,
      BitVec.ofNat 36 (code / 2 ^ 36), BitVec.ofNat 36 code, BitVec.ofNat 36 (i.info / 2 ^ 36), BitVec.ofNat 36 i.info]
    s.blockAt c level = .ok ra → s.lineReady c (lineOf ra) false = true → i.info < 2 ^ 72 →
    (∀ x, k.res = some x → x.snooped = false) →
    level ≤ swPL sw → fld sw 66 64 ≤ 4 → (bit sw 69 = true → 2 ≤ swPL sw ∧ ic < 2 ^ 24) →
    let t := s.take c level i
    let k' := t.core c
    k'.sw = sw ∧ k'.ic = BitVec.ofNat 48 ic ∧ k'.x = k.x ∧ k'.run = .running ∧ k'.res = none ∧ k'.cycles = k.cycles ∧
      (∀ n, n < 8 → k'.forward (ra + n) (t.rd (ra + n)) = wordAt saved n) ∧
      (∀ a, t.rd a = s.rd a) ∧ (∀ d, d ≠ c → t.core d = s.core d)

/-- The level that takes each class, by the issuing level (Table 2.17).
The events of a core: an external interruption of the highest band that it takes, a contained machine check, and an
uncontained one, which is counted, stops the tenant that owns the line, and is taken at level 1 by each of its cores with
a site; a line of the sealed world is a fatal fault (R208, R209).
The model's own choices and readings it rests on: assumptions 39, 49 and 64. -/
def Obligations.CoreInterruptions : Prop :=
  (∀ cls pl : Nat, pl ≤ 3 →
    ((cls = 0o07 ∨ cls = 0o22) → takenAt cls pl = 0) ∧
    (cls = 0o41 → takenAt cls pl = 1) ∧
    ((cls = 0o06 ∨ cls = 0o21) → takenAt cls pl = if pl = 0 then 0 else 1) ∧
    (cls ∈ [0o01, 0o02, 0o03, 0o04, 0o05, 0o10, 0o11, 0o12, 0o13, 0o14, 0o20, 0o40] → takenAt cls pl = min pl 2)) ∧
  (∀ (s : State) (core sub line : Nat) (info : DWord),
    let k := s.core core
    let asyncTo (u : State) (lvl cls sub info : Nat) : State :=
      u.take core lvl { cls := cls, sub := sub, opn := 0, ilen := 0, vaddr := 0, info := info, sw := (u.core core).sw,
                        ic := (u.core core).ic.toNat }
    wfCore core = true →
    (∀ b, s.takes core = true → s.cc.acting.any (fun e => e.2 == core) = false → s.bandTaken core = some b →
      Answers (.externalInterruption core) s (asyncTo s b 0o30 b 0)) ∧
    (s.takes core = true → s.bandTaken core = none → Answers (.externalInterruption core) s s) ∧
    (sub < 6 → s.takes core = true → k.checks = [] →
      let x : Check := { cls := 0o40, level := min k.pl 2, tenant := k.tenant, sub := sub, info := info.toNat }
      let w := s.modCore core (fun k => { k with checks := [x] })
      let u := asyncTo w (min k.pl 2) 0o40 sub info.toNat
      Answers (.containedMachineCheck core sub info) s
        (if (u.core core).seq = (w.core core).seq then u else u.modCore core (fun k => { k with checks := k.checks.erase x }))) ∧
    (line < 2 ^ 36 → 1 ≤ sub → sub ≤ 5 →
      let owner := s.lineOwner line
      let base := if sub = 2 then s.loseData line else s
      let site := s.siteOfCore core % 104
      let a := base.logEntry { time := base.tm.tod, forced := false, rail := false, merged := false, squall := false,
                               fenced := false, cls := 2, source := 8 * site + 7, count := 1, detail := sub }
      let b := { a with sp := { a.sp with uncontained := a.sp.uncontained + 1 } }
      let d := if (b.tenant owner).st = .active then b.setTenant owner { b.tenant owner with st := .stopped } else b
      let hit (x : Nat × Core) (u : State) : Bool :=
        decide (x.1 < 100) && u.bound x.1 && x.2.ctxValid && x.2.tenant == owner
      let check : Check := { cls := 0o41, level := 1, tenant := owner, sub := sub, info := core * 2 ^ 36 }
      (owner < 512 → Answers (.uncontainedMachineCheck line sub core) s
        ((d.cores.foldl (fun u x => if hit x u then (u.addCheck x.1 check).deliverChecks x.1 else u) d).decideTenant
          owner false)) ∧
      (owner = 512 → Answers (.uncontainedMachineCheck line sub core) s b) ∧
      (owner = 513 → Answers (.uncontainedMachineCheck line sub core) s (base.fatalFault (8 * site + 5)))))

/-- A core fault is retried at most twice from the checkpoint, without its reservation, and counted as a corrected fault;
a third, or one whose checkpoint copies are both lost, fails the site, and the takeover of it is decided. In lockstep both
sites of the pair retry, a miscompare counts for both, and a second one of an instruction ends the retries (R206, R207). A
watchdog expiry is a core fault, but not of a wait for a hand-off or an interruption (R187, R199).
The model's own choices and readings it rests on: assumptions 56 and 64.
Halo takeover: with everything intact and a spare, the failed site is recorded, the core's older stores are performed
and the core is bound to the spare that R202 chooses; without one it is LOST, and that is an uncontained machine check of
its tenant (R204). A spare that fails its self-test is recorded as failed.
The model's own choices and readings it rests on: assumption 6. -/
def Obligations.RetryAndTakeover : Prop :=
  (∀ (s : State) (core : Nat) (a b : Bool), core < 100 → s.bound core = true → s.inTakeover core = false →
    let site := s.siteOfCore core
    let k := s.core core
    let who := Config.faultSite s.fresh
    let apart (who : Nat) : Bool := s.md.lockstep && decide (2 ≤ who)
    let retried (s : State) (detector who : Nat) : State :=
      let u := (s.shutWindow core).modCore core (fun k => { k.retryNow with miscompares := k.pairFaults + b2n (apart who) })
      let v := { u with sp := { u.sp with retries := u.sp.retries + 1 } }
      if s.md.lockstep = false then v.report (8 * site + detector % 8) 1
      else if 2 ≤ who then (v.report (8 * site + 7) 1).report (8 * (site + 1) + 7) 1
      else v.report (8 * (site + who) + detector % 8) 1
    ((a || b) = true → k.faults < 2 → (apart who = true → k.pairFaults = 0) →
      Answers (.instructionRetry core a b) s (retried s.tick.2 (Config.faultDetector s.fresh) who)) ∧
    ((a || b) = false ∨ 2 ≤ k.faults ∨ (apart who = true ∧ 1 ≤ k.pairFaults) →
      Answers (.instructionRetry core a b) s (s.tick.2.takeoverDecided site)) ∧
    (k.run = .running → k.faults < 2 → Answers (.microcodeWatchdogExpiry core) s (retried s 7 0)) ∧
    (k.run = .running → 2 ≤ k.faults → Answers (.microcodeWatchdogExpiry core) s (s.takeoverDecided site)) ∧
    (k.run = .waiting → Answers (.microcodeWatchdogExpiry core) s s)) ∧
  (∀ (s : State) (site core : Nat) (u : State), site < 104 →
    (s.coreAt site = some core →
      let base := s.siteOfCore core
      let d := s.takeoverDecided base
      let v := (d.modCore core Core.retryNow).tick.2
      ∀ k, d.sp.taking.find? (fun k => k.site / 26 == base / 26) = some k → k.site = base → k.begun = false →
      ({ v with sp := { v.sp with taking := v.sp.taking.map (fun (k : Taking) =>
          if k.site == base then { k with begun := true, sub := 0, owner := 512 } else k) } } : State).drainCore core = (u, true) →
      (∀ k, u.sp.taking.find? (fun k => k.site == base) = some k → k.sub = 0) →
      (u.sp.taking.find? (fun k => k.site == base)).isSome = true →
      (∀ x, (u.bindCore core none).chooseSpare (base / 26) = some x →
        Answers (.haloTakeover site true true true) s (u.resumeOn core base x)) ∧
      ((u.bindCore core none).chooseSpare (base / 26) = none →
        Answers (.haloTakeover site true true true) s
          ((u.loseCore core base).uncontainedAt (u.core core).owner (if u.md.lockstep then 5 else 4) core base))) ∧
    (s.coreAt site = none → Answers (.haloTakeover site true true true) s s ∧
      Answers (.spareSelfTest site false) s (s.siteFails site)) ∧
    (Answers (.spareSelfTest site true) s s))

/-- The store buffer's events: the oldest entry is performed, a deferral window shuts, and a replay of a line that an
exposed load holds restores the checkpoint of the first such load; of any other line it changes nothing.
The model's own choices and readings it rests on: assumption 56. -/
def Obligations.StoreBufferEvents : Prop :=
  ∀ (s : State) (core line : Nat), wfCore core = true → line < 2 ^ 36 →
    let k := s.core core
    Answers (.storeBufferEntryPerformed core) s ((s.performOldest core).1.deliverChecks core) ∧
    (k.res = none → Answers (.reservationDeferralExpiry core) s s) ∧
    (∀ r, k.res = some r → r.deferring = true → r.snooped = false →
      Answers (.reservationDeferralExpiry core) s
        (s.modCore core (fun k => { k with res := some { r with deferring := false } }))) ∧
    (∀ r, k.res = some r → r.deferring = true → r.snooped = true →
      Answers (.reservationDeferralExpiry core) s
        (((s.modCore core (fun k => { k with res := none })).releaseHeld (s.tileOf core) r.line).pump)) ∧
    (k.exposed.any (fun e => e.line == line) = false → Answers (.replay core line) s s) ∧
    (∀ e, k.exposed.find? (fun e => e.line == line) = some e →
      let t := s.setCore core (k.invalidated (· == line))
      let k' := t.core core
      Answers (.replay core line) s t ∧ k'.x = e.ck.x ∧ k'.sw = e.ck.sw ∧ k'.ic = e.ck.ic ∧ k'.seq = e.seq ∧ k'.run = .running ∧
        (∀ b ∈ k'.sb, ∀ w ∈ b.words, w.seq < e.seq) ∧ (∀ x ∈ k'.exposed, x.seq < e.seq) ∧
        (∀ x, k'.res = some x → x.line ≠ line))

/-- A cached store entry is performed by writing exactly its words, in a line the tile owns, once none of them is gated; the
entry leaves the buffer, and every word outside its line keeps its value (Table 4.5).
The model's own choices and readings it rests on: assumption 22. -/
def Obligations.PerformedStoreFrame : Prop :=
  ∀ (s : State) (core : Nat) (e : SbEntry) (rest : List SbEntry) (a : Nat), MemoryWf s →
    (s.core core).sb = e :: rest → e.kind = .cached → e.sent = none →
    e.words.all (fun w => !(s.core core).gated w.seq) = true →
    s.storeBypass core e.addr = false → s.lineReady core e.addr true = true → s.deferring core e.addr = [] →
    let t := (s.performOldest core).1
    (s.performOldest core).2 = true ∧ (t.core core).sb = rest ∧
      (a / 16 ≠ e.addr → t.rd a = s.rd a) ∧
      (a / 16 = e.addr → t.rd a =
        e.words.foldl (fun w x => if x.off == a % 16 then (w &&& ~~~x.mask) ||| (x.val &&& x.mask) else w) (s.rd a))

/-- What completing an instruction changes: only its core, the translation caches and the count of passing copies. Memory,
tags, every other core and every unit keep their state; of its core, only registers, SW, IC, the store buffer, the exposed
loads, its instruction number, retries and held I/O data (R59, R109). -/
def Obligations.CompletionFrame : Prop :=
  ∀ (r : Run) (e : Eff),
    let t := r.finish e
    let k := r.s.core r.c
    let k' := t.core r.c
    t.mem = r.s.mem ∧ t.out = r.s.out ∧ t.md = r.s.md ∧ t.es = r.s.es ∧ t.tm = r.s.tm ∧ t.cc = r.s.cc ∧ t.sp = r.s.sp ∧
    t.ch = r.s.ch ∧ t.jn = r.s.jn ∧ t.cx = r.s.cx ∧ t.ci = r.s.ci ∧ t.tn = r.s.tn ∧ t.ir = r.s.ir ∧ t.fc = r.s.fc ∧
    t.tw = r.s.tw ∧ t.sv = r.s.sv ∧ t.dy = { r.s.dy with passes := t.dy.passes } ∧ t.fresh = r.s.fresh ∧ (∀ d, d ≠ r.c → t.core d = r.s.core d) ∧
    k'.sw = e.sw ∧ k'.ic = BitVec.ofNat 48 (e.ic % 2 ^ aBits (bit e.sw 69)) ∧ k'.res = k.res ∧ k'.run = k.run ∧
    k'.cycles = k.cycles ∧ k'.locks = k.locks ∧ k'.ctxValid = k.ctxValid ∧ k'.tenant = k.tenant ∧ k'.checks = k.checks ∧
    k'.s1root = k.s1root ∧ k'.l1i = k.l1i ∧ k'.l1d = k.l1d ∧ k'.l2 = k.l2 ∧ k'.tagsI = k.tagsI ∧ k'.tagsD = k.tagsD ∧
    k'.tags2 = k.tags2

/-- A result in a register: the register holds the result, zero-extended from a word; every other register holds what the
addressing modes left. A result in memory: each of its words is in the store buffer, and every other word reads as before
(R47, R59, R114).
The model's own choices and readings it rests on: assumption 30. -/
def Obligations.ResultPlaces : Prop :=
  ∀ (k : Core) (p : Placed) (v : Nat),
    (∀ n : Nat, p.loc = .reg n → n < 16 → 1 ≤ p.spec.n → p.spec.n ≤ 2 →
      (∀ m : Nat, m < 16 → regOf (k.writeOp p v).x m = if m = n then v % 2 ^ (36 * p.spec.n) else regOf k.x m) ∧
      (k.writeOp p v).sb = k.sb) ∧
    (∀ va : Nat, p.loc = .mem va → p.words.length = p.spec.n →
      (k.writeOp p v).x = k.x ∧
      (∀ (a : Nat) (w : Word), (∀ q ∈ p.words, q.1 ≠ a) → (k.writeOp p v).forward a w = k.forward a w) ∧
      (∀ (i : Nat) (w : Word), (p.words.map (·.1)).Nodup → i < p.spec.n →
        (k.writeOp p v).forward ((p.words.getD i (0, 0)).1) w = BitVec.ofNat 36 (v / 2 ^ (36 * (p.spec.n - 1 - i)))))

/-! ## I/O-space loads (R244, R245) -/

/-- The data of an I/O-space load resumes the instruction that waits for it, or in a takeover is held for it; a load without
data, and one that times out, takes a contained machine check with the load's address; a core that waits for none is
unchanged.
The model's own choices and readings it rests on: assumptions 20 and 49. -/
def Obligations.IoLoads : Prop :=
  ∀ (s : State) (core status : Nat) (data : DWord) (l : IoLoad), wfCore core = true →
    let k := s.core core
    let held := s.modCore core (fun k => { k with run := .running, ioHeld := k.ioHeld ++ [(l.addr, data)] })
    let check : Check := { cls := 0o40, level := min k.pl 2, tenant := k.tenant, sub := 2, info := l.vaddr % 2 ^ 48 }
    let failed := s.modCore core (fun k => { k with run := .running, ioHeld := [], checks := [check] })
    let u := failed.takeAsync core (min k.pl 2) 0o40 2 (l.vaddr % 2 ^ 48)
    let checked := if (u.core core).seq = (failed.core core).seq then u
      else u.modCore core (fun k => { k with checks := k.checks.erase check })
    (k.run = .ioLoad l → status = 0 → s.inTakeover core = false →
      Answers (.ioLoadCompletion core status data) s
        (if opcOf l.ins = 0o20 then held.mvn core l.ins none else held.mvw core l.ins)) ∧
    (k.run = .ioLoad l → status = 0 → s.inTakeover core = true → Answers (.ioLoadCompletion core status data) s held) ∧
    (k.run = .ioLoad l → k.checks = [] → failed.takes core = true →
      (status ≠ 0 → Answers (.ioLoadCompletion core status data) s checked) ∧ Answers (.ioLoadTimeout core) s checked) ∧
    (k.run = .running → Answers (.ioLoadCompletion core status data) s s ∧ Answers (.ioLoadTimeout core) s s)

/-! ## Profiles, temperature, the power inputs (chapters 1, 8, 15) -/

/-- Selecting a profile: the object holds it, it is persisted, and unless Overcast is held by a cause the change starts at
once, or is kept as the most recent request while a change still runs; a change waits for the blocks of lanes that it
disables, then takes its last steps, and the request kept starts after it (R31, R34).
The model's own choices and readings it rests on: assumptions 20 and 62. -/
def Obligations.ProfileChanges : Prop :=
  ∀ (s : State) (route : Route) (v : Nat), wfRoute route = true →
    (v ≤ 4 → MayWrite s route 0x1000 1 v →
      let t := ({ s with md := { s.md with selected := v } }).persist 0x1000 1
      Writes (.selectedProfile route v) s
        (if t.causes ≠ 0 then t else if t.md.change.isSome then { t with md := { t.md with deferred := some v } }
         else t.applyProfile v)) ∧
    (4 < v → v < 256 → MayWrite s route 0x1000 1 v → Answers (.selectedProfile route v) s (s.odAnswer 8 [])) ∧
    (∀ p, s.md.change = none → s.md.deferred = some p →
      Answers .deferredProfileChange s (({ s with md := { s.md with deferred := none } }).applyProfile p)) ∧
    (s.md.change = none → s.md.deferred = none → Answers .deferredProfileChange s s) ∧
    (s.md.change.isSome = true → s.laneDraining = true → Answers .deferredProfileChange s s) ∧
    (s.md.change = some false → s.laneDraining = false → s.md.deferred = none →
      Answers .deferredProfileChange s
        { s with md := { s.md with change := none, power := (s.profile s.md.active).power } }) ∧
    (∀ p, (s.profile p).power < s.md.power → s.cx.busy.any (fun l => decide ((s.profile p).lanes ≤ l)) = false →
      let t := s.applyProfile p
      t.md.active = p ∧ t.md.lanes = (s.profile p).lanes ∧ t.md.ceiling = (s.profile p).ceiling ∧
      t.md.margin = (s.profile p).margin ∧ t.md.power = (s.profile p).power ∧ t.md.change = none)

/-- Temperatures and the Custom clock: the inlet's table caps the clock and holds the coolant cause, which ends 1 degree
inside the range; a die above 105 degrees is a contained fault, and at 110 degrees halts the module; in Custom the clock
of the tiles falls by 100 MHz from where it is, down to 1.2 GHz, and rises again by 100 MHz.
The model's own choices and readings it rests on: assumption 20. -/
def Obligations.Temperatures : Prop :=
  ∀ (s : State) (inlet hottest : Int) (m1 m10 : Nat) (low : Bool),
    (let a := { s with md := { s.md with inlet := inlet } }
     let b := if inlet < 150 ∨ s.inletMax < inlet then { a with md := { a.md with coolant := true } } else a
     let d := if b.sv.partE = true ∧ sustained inlet < b.md.cap then b.setCap (sustained inlet) else b
     Answers (.inletTemperatureChange inlet) s d.reprofile) ∧
    (s.sv.partE = true → s.md.cap < 5600 → s.md.inlet + 5 ≤ capBound s.md.cap →
      Answers .capRaise s (s.setCap (max s.md.cap (sustained s.md.inlet)))) ∧
    (s.md.coolant = true → 160 ≤ s.md.inlet → s.md.inlet + 10 ≤ s.inletMax →
      Answers .coolantCauseClear s ({ s with md := { s.md with coolant := false } }).reprofile) ∧
    (hottest ≤ 1050 → Answers (.dieOvertemperature hottest) s { s with md := { s.md with hottest := hottest } }) ∧
    (1050 < hottest → hottest < 1100 →
      Answers (.dieOvertemperature hottest) s (({ s with md := { s.md with hottest := hottest } }).report 1221 2)) ∧
    (1100 ≤ hottest → s.md.st ≠ .off →
      let h := { s with md := { s.md with hottest := hottest } }
      let g : LogEntry := { time := s.tm.tod, forced := false, rail := false, merged := false, squall := false,
                            fenced := false, cls := 3, source := 1221, count := 1, detail := 0 }
      Answers (.dieOvertemperature hottest) s ((h.logEntry g).halt 1221)) ∧
    (s.tilesRun = true → s.md.active = 4 →
      let p := { s with md := { s.md with powerMean := m10 } }
      let up := s.md.customLimit + 100
      (s.md.power * 97 < m1 * 100 →
        Answers (.customClockAdjust m1 m10 low) s
          ({ p with md := { p.md with customLimit := max 1200 (s.tileClock - 100) } }).relock) ∧
      (m1 * 100 ≤ s.md.power * 97 → m10 * 100 < s.md.power * 90 →
        Answers (.customClockAdjust m1 m10 true) s
          ({ p with md := { p.md with customLimit := if s.md.custom.clock ≤ up then 5600 else up } }).relock ∧
        Answers (.customClockAdjust m1 m10 false) s p))

/-- The store's measurements: a sample sets the voltage and the reserve, a good self-test sets C, R and the weak cause and
clears the due flag; a measurement outside 50 to 200 percent of nominal is discarded (R268, R270).
The power inputs: VAUX brings OFF to STANDBY with the straps sampled and the time of day at 0, and its loss ends
STANDBY; the loss of VIN48 in RUN is a Dusk; a reverse current opens the input's switch (R38, R42, R251, R272).
The model's own choices and readings it rests on: assumption 17. -/
def Obligations.PowerInputsAndStore : Prop :=
  (∀ (s : State) (mv uf uohm : Nat) (route : Route),
    (s.md.st ≠ .off → Answers (.fuelGaugeSample mv) s (s.gauge mv)) ∧
    (s.md.vin48 = true → s.md.st = .standby → s.md.lever = .closed → 77500 ≤ uf → uf ≤ 310000 → 12500 ≤ uohm →
      uohm ≤ 50000 →
      let e := { s.es with held := true, uf := uf, uohm := uohm, lastTest := s.tm.tod,
                           testResult := if uf < 108500 then 2 else 1, testDue := false }
      Answers (.selfTest uf uohm mv) s
        (({ s with es := e, md := { s.md with weak := decide (reserveOf uf uohm (vFull uf) < 11000) } }).gauge mv)) ∧
    (s.md.vin48 = true → s.md.st = .standby → s.md.lever = .closed → uf < 77500 →
      Answers (.selfTest uf uohm mv) s
        (({ s with es := { s.es with testResult := 4, testDue := true } }).report 1218 2)) ∧
    (wfRoute route = true → MayWrite s route 0x1100 9 1 →
      Writes (.startSelfTest route 1) s { s with es := { s.es with testDue := true } })) ∧
  (∀ (s : State) (slot mv : Nat) (twin : Bool),
    (s.md.st = .off → Answers (.vauxAccepted slot twin mv) s { s with
      md := { s.md with vaux := true, vauxmV := mv, vauxOpen := false, st := .standby, slot := slot % 64, twinId := twin,
                        startPermit := true },
      es := { s.es with held := false, uf := 0, uohm := 0, reserve := 0, testDue := true },
      tm := { s.tm with tod := 0, lock := 4, slewBack := 0 } }) ∧
    (s.md.st ≠ .off → Answers (.vauxAccepted slot twin mv) s
      { s with md := { s.md with vaux := true, vauxmV := mv, vauxOpen := false } }) ∧
    (s.md.st = .standby → Answers .vauxLost s ({ s with md := { s.md with vaux := false, vauxmV := 0 } }).toOff) ∧
    (s.md.st ≠ .off → s.md.st ≠ .standby →
      Answers .vauxLost s (({ s with md := { s.md with vaux := false, vauxmV := 0 } }).report 1220 2)) ∧
    (Answers (.vin48Accepted mv) s { s with
      md := { s.md with vin48 := true, vin48mV := mv, vin48Open := false },
      es := { s.es with testDue := s.es.testDue || (s.md.st == .standby && !s.es.held) } }) ∧
    (s.md.st = .standby → Answers (.vin48Fail mv) s
      (({ s with md := { s.md with vin48 := false, vin48mV := mv } }).logEvent 1219)) ∧
    (s.md.st = .run → Answers (.vin48Fail mv) s ({ s with md := { s.md with vin48 := false, vin48mV := mv } }).dusk) ∧
    (Answers (.reverseCurrent 0) s { s with md := { s.md with vin48Open := true } }) ∧
    (Answers (.reverseCurrent 1) s { s with md := { s.md with vauxOpen := true } }))

/-! ## Reset, Dawn, the orderly stop, extraction, clocks (chapters 1, 13, 14, 15) -/

/-- Dawn: from STANDBY with every condition of Table 1.12, or from DAWN with PORST_N high, the sequence runs; failed rails,
a wrong identity, no bootable bank, a bad image or configuration, and a set of reachable members that is no majority end
it as the table of the sequence says, and else it ends in RUN or SAFE.
The model's own choices and readings it rests on: assumptions 8 and 50.
The last step of Dawn: RUN with the selected profile or Overcast by cause, and a new time floor when it is near, unless
a halt that no reset has cleared is still recorded or a fatal source is in Squall; then SAFE (R403). -/
def Obligations.Dawn : Prop :=
  (∀ (s : State) (f : DawnInput),
    let b := s.dawnBegin
    ((s.md.st = .standby ∧ s.md.vin48 = true ∧ s.md.porstHigh = true ∧ s.md.startPermit = true ∧ s.md.lever = .closed ∧
        s.es.held = true ∧ s.md.sysclk = true) ∨ (s.md.st = .dawn ∧ s.md.porstHigh = true) →
      (f.railsOk = false → Answers (.dawnStart f) s (b.dawnFatal 1219)) ∧
      (f.railsOk = true → b.identityOk = false → Answers (.dawnStart f) s b.toSafe) ∧
      (f.railsOk = true → b.identityOk = true → (b.bootBank f.bankAOk f.bankBOk).1 = none →
        Answers (.dawnStart f) s (b.bootBank f.bankAOk f.bankBOk).2.toSafe) ∧
      (f.railsOk = true → b.identityOk = true → (b.bootBank f.bankAOk f.bankBOk).1 ≠ none →
        let p := ((b.bootBank f.bankAOk f.bankBOk).2.measured f.m0).usePatch (b.bootBank f.bankAOk f.bankBOk).2.sv.active
        let q := ((((p.returnUnits.refence).dawnSites f.failedSites).dawnAnvil f.badRecords).dawnLedger.dawnConfig).dawnLinks f
        let good := (p.sp.custEntries = [] ∨ f.customerOk = true) ∧ f.configOk = true
        (¬ good → Answers (.dawnStart f) s p.toSafe) ∧
        (good → q.majority f.reachable = false → Answers (.dawnStart f) s (q.dawnFatal 1202)) ∧
        (good → q.majority f.reachable = true → Answers (.dawnStart f) s q.dawnTwin.dawnEnd))) ∧
    (s.md.st ≠ .standby → s.md.st ≠ .dawn → Answers (.dawnStart f) s s)) ∧
  (∀ s : State,
    let b := if s.md.resetDawn = true then { s with fc := { s.fc with haltRecorded := false, haltSeqs := [], haltInAnvil := false } }
      else s
    let run := { b with md := { b.md with st := .run, resetDawn := false, customLimit := 5600 } }
    let t := run.applyProfile (if run.causes ≠ 0 then 3 else s.md.selected)
    (b.fc.haltRecorded = true ∨ (∃ e ∈ s.fc.srcs, e.2.squall = true ∧ fatalSource e.1 = true) →
      s.dawnEnd = { b with md := { b.md with st := .safe, resetDawn := false } }) ∧
    (b.fc.haltRecorded = false → (∀ e ∈ s.fc.srcs, e.2.squall = true → fatalSource e.1 = false) →
      s.dawnEnd = if t.tm.floor ≤ t.tm.tod + 1000000000 then t.newFloor else t))

/-- Stops and resets: the orderly stop refuses commits, flushes the region, and ends in SAFE once no order is in flight;
PORST_N low and the module reset power the domains down and begin DAWN; SYSCLK lost is fatal outside OFF, STANDBY and DUSK.
The model's own choices and readings it rests on: assumptions 20, 50 and 62.
What a power-down clears and keeps: cores, translation caches and memory are as after Dawn's start; Anvil, the ledger,
the fuses and the configuration stay. -/
def Obligations.StopsAndResets : Prop :=
  (∀ (s : State) (route : Route), wfRoute route = true →
    (MayWrite s route 0x1000 0x0C 1 → s.twinServes = false →
      Writes (.orderlyStop route 1) s
        (({ s with md := { s.md with stopping := some [] } }).decideEvery.flushRegion.finishStop)) ∧
    (∀ out, s.md.stopping = some out →
      (s.stopWaits out = true → s.finishStop = s) ∧
      (s.stopWaits out = false → s.finishStop =
        ({ s with md := { s.md with st := .safe, stopping := none, change := none, deferred := none } }).flushRegion)) ∧
    (∀ v, v ≤ 1 → MayWrite s route 0x1000 0x0A v →
      Writes (.startPermit route v) s { s with md := { s.md with startPermit := v == 1 } }) ∧
    (MayWrite s route 0x1600 6 1 → (s.md.st = .safe ∨ s.md.st = .halted) →
      Writes (.moduleReset route 1) s
        { s.powerDown with md := { s.powerDown.md with st := .dawn, resetDawn := true, faultPins := false } }) ∧
    (s.md.st = .safe ∨ s.md.st = .halted → Answers .porstNLow s
      (let t := ({ s with md := { s.md with porstHigh := false } }).powerDown
       { t with md := { t.md with st := .dawn, resetDawn := true, faultPins := false } })) ∧
    (s.md.st = .run → Answers .porstNLow s
      (let t := (({ s with md := { s.md with porstHigh := false } }).flushRegion).powerDown
       { t with md := { t.md with st := .dawn, resetDawn := true } })) ∧
    (s.md.st = .standby → Answers .porstNLow s { s with md := { s.md with porstHigh := false } }) ∧
    (Answers .porstNHigh s { s with md := { s.md with porstHigh := true } }) ∧
    (s.md.st = .standby → Answers .sysclkLoss s { s with md := { s.md with sysclk := false, internalOsc := true } }) ∧
    (s.md.st = .run → Answers .sysclkLoss s (({ s with md := { s.md with sysclk := false } }).report 1222 3)) ∧
    (Answers .sysclkReturn s { s with md := { s.md with sysclk := true, internalOsc := false } }) ∧
    (Answers (.referenceClockLoss 0) s s.pcieRefLost) ∧ (Answers (.referenceClockLoss 1) s s.ethRefLost)) ∧
  (∀ s : State,
    let t := s.powerDown
    t.mem = { words := [], tags := [], poison := [] } ∧ t.cores = [] ∧ t.tc = [] ∧ t.dy.entries = [] ∧ t.dy.tiles = [] ∧
    t.ch.ledger = s.ch.ledger ∧ t.jn.records = s.jn.records ∧ t.jn.pending = [] ∧ t.sv = s.sv ∧ t.sp = s.sp ∧ t.fc = s.fc ∧
    t.tw = s.tw ∧ t.tm = s.tm ∧ t.md = { s.md with change := none, deferred := none, stopping := none, resetDawn := false } ∧
    (∀ x, (t.ciT x).keys = (s.ciT x).keys))

/-- The lever: lifted it abandons a staging and begins extraction (from RUN with commits refused, else with the bleed; while
DAWN, DUSK or an extraction goes on it is only logged); lowered it ends it with a Dawn; opened under the released latch it
takes both inputs away; the bleed's end leaves the store below 5.0 V, at a voltage that is free, and releases the latch
but in OFF, where no panel shows it (R41, R285, R446, R447).
The model's own choices and readings it rests on: assumptions 6 and 50. -/
def Obligations.Extraction : Prop :=
  ∀ s : State,
    let up := ({ s with md := { s.md with lever := .lifted } }).abandonStaging
    let begun := { up with md := { up.md with st := .extracting, extractStep := 2, stopping := none },
                           es := { up.es with testResult := if up.es.testDue then 3 else up.es.testResult } }
    (s.md.st = .run → s.tw.st ≠ .inService → Answers .leverLifted s begun.decideEvery) ∧
    (s.md.st = .run → s.tw.st = .inService → Answers .leverLifted s begun.planFence) ∧
    (s.md.st = .safe ∨ s.md.st = .halted → Answers .leverLifted s
      { up with md := { up.md with st := .extracting, extractStep := 5 }, es := { up.es with bleeding := true } }) ∧
    (s.md.st = .standby ∨ s.md.st = .off → Answers .leverLifted s
      { up with md := { up.md with extractStep := 5 }, es := { up.es with bleeding := true } }) ∧
    (s.md.st = .dawn ∨ s.md.st = .dusk ∨ s.md.st = .extracting → Answers .leverLifted s (up.logEvent 1229)) ∧
    (let d := { s with md := { s.md with lever := .closed, extractStep := 0, latchReleased := false },
                       es := { s.es with bleeding := false } }
     (s.md.st = .extracting → Answers .leverLowered s
       { d.flushRegion.powerDown with md := { d.flushRegion.powerDown.md with st := .dawn, resetDawn := false } }) ∧
     (s.md.st ≠ .extracting → Answers .leverLowered s d)) ∧
    (s.md.latchReleased = false → Answers .leverOpened s s) ∧
    (s.md.latchReleased = true → s.md.st = .extracting → Answers .leverOpened s
      (let t := ({ s with md := { s.md with lever := .opened } }).toOff
       { t with md := { t.md with vin48 := false, vaux := false, vin48mV := 0, vauxmV := 0 } })) ∧
    (s.md.latchReleased = true → s.md.st ≠ .extracting → Answers .leverOpened s
      { s with md := { s.md with lever := .opened } }) ∧
    (let bled (w : State) (released : Bool) (pulse : List Output) : State :=
       { w with fresh := w.fresh + 1, out := w.out ++ pulse,
                md := { w.md with extractStep := 6, latchReleased := released },
                es := { w.es with bleeding := false, bled := true, reserve := 0, mv := Config.bledVoltage w.fresh % 5000 } }
     (s.md.st = .standby → s.es.bleeding = true → Answers .storeBleedComplete s (bled s true [.latchPulse])) ∧
     (s.md.st = .extracting → s.md.extractStep = 2 ∨ s.md.extractStep = 5 →
       Answers .storeBleedComplete s (bled s.flushRegion.powerDown true [.latchPulse])) ∧
     (s.md.st = .off → s.es.bleeding = true → Answers .storeBleedComplete s (bled s s.md.latchReleased [])))

/-! ## Faults (chapter 13) -/

/-- Reports reach the collector with the higher of the class reported and the class held; an injected report counts down;
a report-only source leaves Squall; the fault of a source's reporting path is a contained one (R392, R393, R397, R404).
Recovery commands: the injection's word sets a source's count and class; a unit and the failed sites return at the next
Dawn; a rebuilt region leaves the list.
The model's own choices and readings it rests on: assumption 42. -/
def Obligations.FaultReportsAndRecovery : Prop :=
  (∀ (s : State) (n detail : Nat) (c : FaultClass), wfFaultSource n = true →
    let v := s.fsrc n
    Answers (.faultReport n c detail) s (s.collect { source := n, cls := max (classCode' c) v.held, rail := false,
                                                     forced := false, detail := detail }) ∧
    Answers (.reportingPathFault n) s (s.collect { source := n, cls := 2, rail := true, forced := false, detail := 0 }) ∧
    (v.squall = true → reportOnly n = true → v.rail = false →
      Answers (.squallExit n) s (s.setFsrc n { v with squall := false, events := [] })) ∧
    (v.squall = false → Answers (.squallExit n) s s) ∧
    (v.forceLeft = 0 → Answers (.forcedReport n) s s) ∧
    (v.forceLeft ≠ 0 →
      let t := s.setFsrc n { v with forceLeft := v.forceLeft - 1 }
      let u := { t with fc := { t.fc with forced := t.fc.forced + 1 } }
      Answers (.forcedReport n) s (u.collect { source := n, cls := if v.forceCls = 0 then 2 else v.forceCls,
                                               rail := v.forceCls == 0, forced := true, detail := 0 }))) ∧
  (∀ (s : State) (route : Route) (w region : Nat), wfRoute route = true →
    (MayWrite s route 0x1620 2 w → s.forceAbort w = 0 →
      let n := w % 2 ^ 11
      Writes (.force route w) s
        (s.setFsrc n { s.fsrc n with forceLeft := w / 2 ^ 16 % 256, forceCls := w / 2 ^ 12 % 4 })) ∧
    (MayWrite s route 0x1610 5 1 →
      let n := s.select route 0x1610 1
      Writes (.returnUnit route 1) s (s.setFsrc n { s.fsrc n with returning := true })) ∧
    (MayWrite s route 0x1900 0x0C 1 →
      Writes (.returnFailedSites route 1) s { s with sp := { s.sp with returnFailed := true } }) ∧
    (region < 128 → Answers (.spareRebuildComplete region) s
      { s with fc := { s.fc with rebuilding := s.fc.rebuilding.filter (· != region) } }))

/-- The collector: a fatal sample is logged and halts the module; another is counted, and enters Squall at the threshold;
a source whose reporting path has failed, and a module in OFF, collect nothing (R393, R394, R396).
A fatal fault in RUN or DAWN: the module is HALTED, the pins say so, the source is recorded, the log's newest 256
entries and each journal's committed number are saved; in any other state nothing changes but the log (R38, R402).
The model's own choices and readings it rests on: assumption 6. -/
def Obligations.CollectorAndHalt : Prop :=
  (∀ (s : State) (x : Sample),
    let v := s.fsrc x.source
    let now := s.now.1
    let t := s.now.2
    (v.rail = true ∨ s.md.st = .off → s.collect x = s) ∧
    (v.rail = false → s.md.st ≠ .off → x.cls = 3 → x.rail = false →
      s.collect x = ((t.setFsrc x.source { v with last := 3, held := 0, merged := false }).logSample now x v false false 1).halt
        x.source) ∧
    (v.rail = false → s.md.st ≠ .off → (x.cls ≠ 3 ∨ x.rail = true) → v.squall = false → v.n ≠ 0 →
      let events := (now :: v.events.filter (fun e => now - e ≤ v.t * 1000000)).take 65535
      ((v.countEvent now x.cls x.rail).2 = true ↔ x.rail = true ∨ v.n ≤ events.length))) ∧
  (∀ (s : State) (n : Nat),
    (s.md.st ≠ .run → s.md.st ≠ .dawn → s.halt n = s) ∧
    (s.md.st = .dawn → (s.halt n).md.st = .halted ∧ (s.halt n).md.faultPins = true ∧ (s.halt n).fc.lastFatal = n ∧
      (s.halt n).fc.halted = true ∧ (s.halt n).fc.haltRecorded = true ∧ (s.halt n).fc.saved = s.fc.log.take 256 ∧
      (s.halt n).cores = [] ∧ (s.halt n).mem.words = []) ∧
    (s.md.st = .run → (s.halt n).md.st = .halted ∧ (s.halt n).fc.halted = true ∧ (s.halt n).cores = [] ∧
      (s.halt n).mem.words = []))

/-! ## The twin (R407-R419) -/

/-- The pair's state by its rows: pairing, the end of RESYNC, silence, the fence, takeover, and the planned failover. A
message goes on the Twin link under the link's next number and the pair's key, or waits while the link is not ACTIVE.
The model's own choices and readings it rests on: assumptions 10, 20 and 60.
Heartbeats: one that authenticates, is the twin's and is new on its path is heard, and moves the pair's state; another is
discarded. One is sent with the next count of its path in RUN, EXTRACTING and SAFE once the keys agree (R411, R413). -/
def Obligations.TwinRows : Prop :=
  (∀ (s : State) (route : Route) (segment item : Nat) (got : Bool) (serial : BitVec 64) (id att : Bool) (hb : Heartbeat),
    let now := s.now.1
    let later := s.now.2
    (∀ m, s.tw.linkSt = .active →
      (s.emitTwin m).out = s.out ++ [.twin { seq := s.tw.seq, epoch := s.tw.keyEpoch, count := s.tw.sent, msg := m }] ∧
      (s.emitTwin m).tw.seq = (s.tw.seq + 1) % 1024 ∧ (s.emitTwin m).tw.sent = (s.tw.sent + 1) % 2 ^ 64) ∧
    (∀ m, s.tw.linkSt ≠ .active → (s.emitTwin m).out = s.out ∧
      { seq := s.tw.seq, epoch := s.tw.keyEpoch, count := s.tw.sent, msg := m } ∈ (s.emitTwin m).tw.replayBuf) ∧
    (segment < 2 → Answers (.witness segment) s { s with tw := { s.tw with witness := true, witnessAt := s.tm.tod } }) ∧
    (s.tw.st = .resync → Answers .bulkCopyComplete s
      (let t := s.bulkCopy.setPair .inService
       { t with jn := { t.jn with tenants := t.jn.tenants.map (fun (e : Nat × JnTenant) => (e.1, { e.2 with localAck := false })) } }).decideEvery) ∧
    (s.tw.st = .inService → Answers .twinLinkSilence s (s.setPair .detached).twinLeaves.ringHost) ∧
    (s.tw.st = .selfFenced → s.tw.witness = true → (now - s.tw.witnessAt) / 1000000 < 50 →
      (s.tw.lastHb.isSome = true ∨ 2000000000 ≤ now - max s.tw.heardLink s.tw.heardSvc) →
      Answers .takeover s later.takeOver) ∧
    (s.tw.st = .selfFenced → (s.tw.witness = false ∨ 50 ≤ (now - s.tw.witnessAt) / 1000000) → Answers .takeover s later) ∧
    (s.tw.st = .inService → hb.authentic = true → hb.serial = s.tw.serial → s.tw.serial ≠ 0 →
      Answers (.relinquish hb) s s.twinLeaves.takeOver) ∧
    (hb.authentic = false → Answers (.relinquish hb) s s) ∧
    (s.tw.plannedFence = true → s.tw.relinquishSent = false → s.tw.st = .inService →
      Answers .sendRelinquish s (({ s with tw := { s.tw with relinquishSent := true } }).emitTwin .relinquish)) ∧
    (wfRoute route = true → s.tw.st = .inService → MayWrite s route 0x1700 9 1 →
      Writes (.plannedFailover route 1) s s.planFence) ∧
    (wfRoute route = true → MayWrite s route 0x1700 1 1 →
      Writes (.pairingEnabled route 1) s (({ s with tw := { s.tw with enabled := true } }).persist 0x1700 1)) ∧
    (s.tw.st = .detached → Answers .selfFence s
      (({ s with tw := { s.tw with st := .selfFenced, selfFence := true } }).decideEvery).ringHost) ∧
    (s.tw.st = .solo → Answers .selfFence s s) ∧
    (s.tw.enabled = true → s.tw.st = .pairing → s.tw.expected = serial → serial ≠ 0 → id ≠ s.md.twinId → att = true →
      s.tw.takenOver = false → Answers (.pairing serial id att) s
        { s with tw := { s.tw with st := .resync, peer := serial, keysAgreed := true,
                                   keyEpoch := (s.tw.keyEpoch + 1) % 2 ^ 32, sent := 0, seq := 1, replayBuf := [],
                                   replayCount := 0, resyncs := s.tw.resyncs + 1, takenOver := false, iTookOver := false,
                                   linkSt := if s.tw.lanes = 0 then .down else .active } }) ∧
    (s.tw.enabled = true → s.tw.st = .pairing → att = false → Answers (.pairing serial id att) s
      (({ s with tw := { s.tw with st := .unpaired, mismatch := true } }).report 1001 2)) ∧
    (s.tw.unacked.contains item = false → Answers (.mirrorReceipt item got) s s) ∧
    (∀ t, item ∈ s.tw.unacked →
      let u := { s with tw := { s.tw with unacked := s.tw.unacked.filter (· != item) } }
      u.itemCommit item = some t → Answers (.mirrorReceipt item got) s (u.entryReceipt t got)) ∧
    (∀ t h, s.md.st = .run → s.tw.st = .inService → Answers (.mirroredItem (.key t h false)) s
      (({ s with tw := { s.tw with mKeys := s.tw.mKeys.filter (fun k => !(k.1 == t && k.2 == h)) } }).emitTwin
        (.receipt 1027 t true)))) ∧
  (∀ (s : State) (hb : Heartbeat) (path : Nat), path < 3 →
    let heard := { s.tw with rxCount := tput s.tw.rxCount 0 path hb.count, lastHb := some hb,
                             heardLink := if path = 0 then s.tm.tod else s.tw.heardLink,
                             heardSvc := if path = 0 then s.tw.heardSvc else s.tm.tod }
    let sound := hb.authentic = true ∧ tget s.tw.rxCount 0 path < hb.count
    let own := sound ∧ s.tw.serial ≠ 0 ∧ hb.serial = s.tw.serial
    (¬ own → (path = 0 ∨ sound) → Answers (.heartbeat hb path) s s) ∧
    (¬ own → path ≠ 0 → ¬ sound →
      Answers (.heartbeat hb path) s { s with sv := { s.sv with discarded := s.sv.discarded + 1 } }) ∧
    (own → s.tw.st = .solo → Answers (.heartbeat hb path) s { s with tw := { heard with st := .pairing } }) ∧
    (own → s.tw.st = .selfFenced → hb.takenOver = true →
      Answers (.heartbeat hb path) s { s with tw := { heard with st := .pairing, takenOver := true } }) ∧
    (own → s.tw.st = .selfFenced → hb.takenOver = false → Answers (.heartbeat hb path) s
      { s with tw := { heard with st := .resync, selfFence := false, resyncs := s.tw.resyncs + 1 } }) ∧
    (own → s.tw.st = .unpaired → Answers (.heartbeat hb path) s { s with tw := heard }) ∧
    (s.tw.keysAgreed = false → Answers (.heartbeatSend path) s s) ∧
    (s.tw.keysAgreed = true → s.md.st = .run →
      let n := tget s.tw.txCount 0 path + 1
      let t := s.now.2
      let u := { t with tw := { t.tw with txCount := tput t.tw.txCount 0 path n } }
      let hb : Heartbeat :=
        { authentic := true, serial := s.sv.serial, twinId := s.md.twinId, state := pairCode s.tw.st,
          selfFenced := s.tw.selfFence, takenOver := s.tw.iTookOver, localAck := s.anyLocalAck, count := n,
          time := BitVec.ofNat 64 s.now.1, reserve := s.es.reserve }
      (path ≠ 0 → Answers (.heartbeatSend path) s { u with out := u.out ++ [.heartbeat path hb] }) ∧
      (path = 0 → s.tw.linkSt = .active → Answers (.heartbeatSend path) s (u.emitTwin (.heartbeat hb))) ∧
      (path = 0 → s.tw.linkSt ≠ .active → Answers (.heartbeatSend path) s s)))

/-! ## Commits and the journal (chapter 8) -/

/-- A tenant's only waiting commit, where the twin is not asked: admitted when the reserve, the ceiling and both quotas
allow it, it enters the region under the next sequence number and is DURABLE; a poisoned one is not; one that is not
admitted waits, and fails when its limit passes or its policy says so (R256-R263).
The model's own choices and readings it rests on: assumption 20. -/
def Obligations.CommitDecisions : Prop :=
  ∀ (s : State) (t : Nat) (c : Commit), t < 512 →
    let j := s.jt t
    let w := c.words.length
    let k := regionCharge w
    let live := s.drainingT t = false ∧ (s.tenant t).st ≠ .stopped ∧ s.md.st = .run ∧ j.energyQuota ≠ 0 ∧
      j.anvilQuota ≠ 0 ∧ s.ackTwin t = false ∧ s.md.stopping = none ∧ (c.toSeal = true → s.sealSpent t w = false)
    let n := (j.committed + 1) % 2 ^ 48
    let p : Pend := { stream := t, seq := n, type := 1, user := c.user, words := c.words, toSeal := c.toSeal,
                      toCompress := c.toCompress, charge := k, time := s.tm.tod }
    let done := (s.acceptEntry t c).finishCommit t c 0 n
    let low := if s.admission t w = .energyLow then 2 else 3
    (s.admission t w = .yes ↔ s.es.short = false ∧
      (s.pendingTotal + k) * 200 + 250000 * MiB ≤ s.es.reserve * (100 - s.md.margin) * MiB ∧
      s.pendingTotal + k ≤ s.md.ceiling * MiB ∧ s.pendingOf t + k ≤ j.energyQuota * MiB ∧
      s.anvilUse t + recordSize (wordOctets w) ≤ j.anvilQuota * (2 * MiB)) ∧
    (j.waiting = [] → Answers (.commitAdmission t) s s ∧ Answers (.waitLimit t) s s) ∧
    (j.waiting = [c] → c.mirrored = none → live →
      (s.admission t w = .yes → c.poisoned = false →
        Answers (.commitAdmission t) s done ∧ done.jn.pending = s.jn.pending ++ [p] ∧ (done.jt t).committed = n ∧
        (done.jt t).waiting = []) ∧
      (s.admission t w = .yes → c.poisoned = true → Answers (.commitAdmission t) s (s.finishCommit t c 9 0)) ∧
      (s.admission t w ≠ .yes → j.failPolicy = true → Answers (.commitAdmission t) s (s.finishCommit t c low 0)) ∧
      (s.admission t w ≠ .yes → j.failPolicy = false →
        Answers (.commitAdmission t) s s ∧ Answers (.waitLimit t) s (s.finishCommit t c low 0)))

/-- The background flush writes a stream's oldest pending entry as a record; a segment in which the write does not verify
is retired, and the first spare one takes the record; with no spare left the failure is reported and the entry stays.
Sealing is switched and re-provisioned only with Zenith, no sealed record held and a value in range; a read copies entries
or says why not, is not begun again while it is BUSY, and a release frees them (R275-R280, R343).
The model's own choices and readings it rests on: assumptions 14, 48 and 65. -/
def Obligations.JournalRows : Prop :=
  (∀ (s : State) (stream g x : Nat) (p : Pend),
    let size := recordSize (s.bodyOf p true).1
    let again := { s with jn := { s.jn with retired := s.jn.retired ++ [g], rewrites := s.jn.rewrites + 1,
                                            lastSeg := if s.segNew g then g else s.jn.lastSeg } }
    (s.jn.pending.find? (fun p => p.stream == stream) = none → ∀ b, Answers (.entryWrite stream b) s s) ∧
    (s.jn.pending.find? (fun p => p.stream == stream) = some p → s.place stream size = none →
      ∀ b, Answers (.entryWrite stream b) s s) ∧
    (s.jn.pending.find? (fun p => p.stream == stream) = some p → s.place stream size = some g →
      Answers (.entryWrite stream true) s (s.writeRecord p true g) ∧
      (s.jn.spares.head? = some x → Answers (.entryWrite stream false) s (again.writeRecord p true x)) ∧
      (s.jn.spares = [] → Answers (.entryWrite stream false) s (s.report 1217 2)))) ∧
  (∀ (s : State) (p : Pend) (b : Bool) (g : Nat), ∃ r : Rec,
    r.stream = p.stream ∧ r.seq = p.seq ∧ r.words = p.words ∧ r.user = p.user ∧ r.segment = g ∧
    r.sealedRec = p.toSeal ∧ r.stored = (s.bodyOf p b).1 ∧
    (s.writeRecord p b g).jn.records = s.jn.records ++ [r] ∧ (s.writeRecord p b g).jn.pending = s.jn.pending.erase p) ∧
  (∀ (s : State) (route : Route) (v : Nat), wfRoute route = true →
    let t := s.select route 0x1210 1
    (MayWrite s route 0x1210 8 v →
      (v = 1 → s.tn.absent = false → Writes (.sealing route v) s (s.setSealing t true)) ∧
      (v = 1 → s.tn.absent = true → Answers (.sealing route v) s (s.odAnswer 6 [])) ∧
      (v = 0 → s.sealedHeld t = false → Writes (.sealing route v) s (s.setSealing t false)) ∧
      (v = 0 → s.sealedHeld t = true → Answers (.sealing route v) s (s.odAnswer 0x0B []))) ∧
    (MayWrite s route 0x1210 0x0B 1 →
      (s.tn.absent = true → Answers (.reProvisionSealing route 1) s (s.odAnswer 6 [])) ∧
      (s.tn.absent = false → s.sealedHeld t = false → Writes (.reProvisionSealing route 1) s (s.reprovision t)) ∧
      (s.tn.absent = false → s.sealedHeld t = true → Answers (.reProvisionSealing route 1) s (s.odAnswer 0x0B [])))) ∧
  (∀ (s u : State) (acc : Accessor) (t v e w : Nat) (d : Bool), wfAccessor acc = true → t < 512 → roleZHG acc.role = true →
    s.reach acc t = true →
    let j := s.jt t
    let pages := rangePages j.rdBase j.rdSize
    let tell (u : State) (r e w : Nat) (d : Bool) : State :=
      u.setJt t { u.jt t with
        rdResult := r, rdEntries := e, rdWords := w, damaged := (u.jt t).damaged || d,
        rdLines := (u.dy.agents.filter (fun e => e.1 / 2 ^ 36 == journalAgent && e.2.st == .writing)).map (·.1 % 2 ^ 36) }
    (v < 2 ^ 36 → v.testBit 35 = true → s.jnBusy t = true → Answers (.jnRd acc t v) s s) ∧
    (v < 2 ^ 36 → v.testBit 35 = true → s.jnBusy t = false →
      ((j.rdFrom ≤ j.released ∨ j.committed < j.rdFrom) → Answers (.jnRd acc t v) s (tell s 2 0 0 false)) ∧
      (j.released < j.rdFrom → j.rdFrom ≤ j.committed → (s.entry t j.rdFrom).isSome = true →
        (s.agentOk t Need.store pages = false → Answers (.jnRd acc t v) s (tell s 4 0 0 false)) ∧
        (s.agentOk t Need.store pages = true →
          State.jnCopy t j.rdBase j.rdSize 32767 (s.readFailures t) j.rdFrom 0 0 false = (u, w, e, d) →
          (e = 0 → Answers (.jnRd acc t v) s (tell (s.readFailures t) 3 0 0 false)) ∧
          (e ≠ 0 → Answers (.jnRd acc t v) s (tell u 1 e w d))))) ∧
    (v < 2 ^ 48 →
      (v < j.released ∨ j.committed < v → Answers (.jnRelease acc t v) s (s.jnReject t acc.role)) ∧
      (j.released ≤ v → v ≤ j.committed →
        let gone := s.setJt t { j with released := v }
        let freed := { gone with jn := { gone.jn with
          records := s.jn.records.filter (fun r => !(r.stream == t && r.seq ≤ v)),
          pending := s.jn.pending.filter (fun p => !(p.stream == t && p.seq ≤ v)) } }
        Answers (.jnRelease acc t v) s (freed.updateWritten t).decideEvery)))

/-! ## Channels and orders (chapter 7) -/

/-- A channel's next order, if the row is of its code, is read once with its channel program and started; one whose slot
cannot be read is TRANSLATION-FAULT, an invalid one INVALID-ORDER; a channel that cannot start one is unchanged, and one
whose slot is not at hand asks for it. A started order is stale, in conflict, attached, a duplicate, waits for an entry, or
opens one; RETIRE sets the mark once the twin has it, and CLOSE ends the batch (R219-R229).
A waiting order gets its entry when the quota allows; an opened order is delivered to a target that can be reached, its
entry ISSUED, and one that a channel without a target holds is NOT-ISSUED; a done order's record is written to its slot and
its source rings (R229, R231-R234).
The model's own choices and readings it rests on: assumptions 49 and 63. -/
def Obligations.Orders : Prop :=
  (∀ (s w v : State) (m : Nat) (o : Order) (readable : Bool), m < 32768 →
    let c := s.chan m
    let a := procAgent c.proc
    let started (v : State) : State := v.setChan m { c with started := (c.started + 1) % 2 ^ 48, orders := c.orders ++ [o] }
    let row (i : Instr) (code : OCode) : Prop :=
      (s.canStart m = false → Answers i s s) ∧
      (s.canStart m = true → Awaits s a c.tenant (c.slotWords c.started) w → Answers i s w) ∧
      (s.canStart m = true → Has s a c.tenant (c.slotWords c.started) w → w.nextOrder m = (o, readable) →
        (readable = true → o.code ≠ code → o.code ≠ .reserved → Answers i s w) ∧
        (readable = false → Answers i s ((started w).finishOrder m o.slot 0o006)) ∧
        (readable = true → (o.code = code ∨ o.code = .reserved) →
          (o.chain = true → State.bringProgram a c.tenant 256 (fld o.w6 50 0) w = (v, false) → Answers i s v) ∧
          ((o.chain = false ∧ v = w) ∨ (o.chain = true ∧ State.bringProgram a c.tenant 256 (fld o.w6 50 0) w = (v, true)) →
            ((started v).orderInvalid c o = true → Answers i s ((started v).finishOrder m o.slot 0o005)) ∧
            ((started v).orderInvalid c o = false → Answers i s ((started v).startRead m o)))))
    row (.nop m) .nop ∧ row (.read m) .read ∧ row (.write m) .write ∧ row (.flush m) .flush ∧
    row (.writeZeroes m) .writeZeroes ∧ row (.deallocate m) .deallocate ∧ row (.control m) .control ∧ row (.query m) .query ∧
    row (.send m) .send ∧ row (.receive m) .receive ∧ row (.retire m) .retire ∧ row (.close m) .close) ∧
  (∀ (u : State) (m : Nat) (o : Order),
    let c := u.chan m
    let id := o.opid c.tenant
    let e := u.findEntry ownSource id
    let plain := o.code ≠ .retire ∧ o.code ≠ .close
    (plain → o.seq ≤ c.retire →
      u.startRead m o = ({ u with ch := { u.ch with stale := u.ch.stale + 1 } }).finishOrder m o.slot 0o001) ∧
    (plain → c.retire < o.seq →
      (∀ x, e = some x → x.digest ≠ o.digest → u.startRead m o = u.finishOrder m o.slot 0o004) ∧
      (∀ x, e = some x → x.digest = o.digest → (x.st = .opened ∨ x.st = .issued) →
        u.startRead m o = u.countDup.modOrder m o.slot (fun o => { o with stage := .attached })) ∧
      (∀ x, e = some x → x.digest = o.digest → (x.st = .done ∨ x.st = .resetAbandoned) →
        u.startRead m o = u.countDup.modOrder m o.slot (fun o => { o with
          stage := .done, dup := true, status := x.status, attempts := min 3 x.attempt, count := x.count, time := x.time,
          detail := x.detail })) ∧
      (∀ x, e = some x → x.digest = o.digest → x.st = .inDoubt →
        let other := c.orders.any (fun p => p.slot != o.slot && p.stage == .opened && !p.isControl && p.opid c.tenant == id)
        (other = true → u.startRead m o = u.countDup.modOrder m o.slot (fun o => { o with stage := .attached })) ∧
        (other = false → u.startRead m o = u.duplicateInDoubt m o.slot)) ∧
      (e = none → (u.chT c.tenant).quota ≤ u.ledgerUsed c.tenant →
        u.startRead m o = u.modOrder m o.slot (fun o => { o with stage := .waitAlloc })) ∧
      (e = none → u.ledgerUsed c.tenant < (u.chT c.tenant).quota → u.startRead m o = u.openEntry m o.slot)) ∧
    (o.code = .retire →
      let r := u.ownRecord 3 [BitVec.ofNat 36 m]
      let q := r.mirrorOut c.tenant (.config ((r.setChan m { c with retire := o.mark }).configOf c.tenant))
      (q.1 = none → u.startRead m o = q.2.applyRetire m o.slot o.mark) ∧
      (∀ i, q.1 = some i → u.startRead m o = q.2.modOrder m o.slot (fun o => { o with stage := .opened, item := some i }))) ∧
    (o.code = .close → u.startRead m o = (u.setChan m { c with closing := true }).finishOrder m o.slot 0)) ∧
  (∀ (s u : State) (m : Nat) (o : Order), m < 32768 →
    let c := s.chan m
    let id := o.opid c.tenant
    let e := s.findEntry ownSource id
    let a := procAgent c.proc
    let ready (o : Order) : Bool := o.stage == .opened && !o.isControl &&
      ((s.findEntry ownSource (o.opid c.tenant)).elim true (·.item.isNone))
    let issued := (u.modEntry ownSource id (fun e => { e with st := .issued, series := e.series + 1 })).modOrder m o.slot
      (fun o => { o with stage := .issued, lostAnswer := false })
    let function := c.cls = .c ∨ c.cls = .n
    let noted := if o.unrecorded then s.recordDone m o.slot else s
    let d := u.chan m
    let wrote := (u.agentWrWords (procAgent d.proc) d.tenant (d.cring + 8 * (o.slot % 2 ^ d.k)) (o.record d)).setChan m
      { d with completed := (o.slot + 1) % 2 ^ 48, orders := d.orders.filter (fun p => p.slot != o.slot) }
    let shown := (if o.intr then wrote.ringAfter (procAgent d.proc) d.tenant d.isrc else wrote).afterRecord m o
    (c.orders.find? (fun o => o.stage == .waitAlloc) = some o →
      (s.ledgerUsed c.tenant < (s.chT c.tenant).quota → Answers (.ledgerAllocation m) s (s.openEntry m o.slot)) ∧
      ((s.chT c.tenant).quota ≤ s.ledgerUsed c.tenant → Answers (.ledgerAllocation m) s s)) ∧
    (c.orders.find? (fun o => o.stage == .waitAlloc) = none → Answers (.ledgerAllocation m) s s) ∧
    (c.orders.find? ready = none → Answers (.issue m) s s) ∧
    ((s.md.st = .run ∨ s.md.st = .extracting) → c.orders.find? ready = some o → s.fencedTenant c.tenant = false →
      (c.noTarget = true →
        (e.any (fun e => e.st == .inDoubt) = false → Answers (.issue m) s (s.outcome m o.slot 0o010 0 0)) ∧
        (e.any (fun e => e.st == .inDoubt) = true → Answers (.issue m) s ((s.closeGrant o).finishOrder m o.slot 0o010))) ∧
      (c.noTarget = false → o.code = .nop → c.cls ≠ .c →
        Answers (.issue m) s ((s.modEntry ownSource id (fun e => { e with st := .issued })).outcome m o.slot 0 0 0)) ∧
      (c.noTarget = false → (o.code ≠ .nop ∨ c.cls = .c) →
        (s.targetUp c = false ∨ (function ∧ s.queueRoom c = false) → Answers (.issue m) s s) ∧
        (s.targetUp c = true → (function → s.queueRoom c = true) → HasLines s a (s.deliverLines c o) u →
          Answers (.issue m) s (issued.deliver m o.slot ((u.findEntry ownSource id).elim 0 (·.attempt)))))) ∧
    (c.orders.find? (fun o => o.slot == c.completed) = some o →
      (o.stage ≠ .done ∨ s.agentQuiet c.dataAgent = false → Answers (.completionRecord m) s s) ∧
      (o.stage = .done → s.agentQuiet c.dataAgent = true →
        (noted.recordWaits m o = true → Answers (.completionRecord m) s noted) ∧
        (noted.recordWaits m o = false → Has noted a c.tenant (c.restWords o) u →
          (o.sender = none → Answers (.completionRecord m) s shown.finishStop) ∧
          (∀ src id, o.sender = some (src, id) →
            Answers (.completionRecord m) s
              (shown.sendCompletion src id ((u.findEntry src id).elim 0 (·.attempt)) 0 o.count o.time))))) ∧
    (c.orders.find? (fun o => o.slot == c.completed) = none → Answers (.completionRecord m) s s))

/-- The answers of the targets: a completion block or an NVM Express completion of the issued order is taken from its queue
and gives its outcome, any other is late; an order without an answer is re-driven while its series lasts, and is
OUTCOME-UNKNOWN on an NVM Express target when it is not idempotent; a link's fall and rise and an adapter's reset lose
answers, and the stores that the port held are discarded and reported (R124, R234-R240).
The model's own choices and readings it rests on: assumptions 20, 49, 58 and 63. -/
def Obligations.OrderAnswers : Prop :=
  ∀ (s : State) (m : Nat) (o : Order) (id : DWord) (att count detail port rid link cid : Nat) (d : BitVec 64) (dup : Bool),
    let c := s.chan m
    let late := { s with ch := { s.ch with late := s.ch.late + 1 } }
    let size := if o.code.data then count else 0
    let cur := (s.findEntry ownSource id).elim 0 (·.attempt)
    let taken := s.completionOut c
    (s.issuedOrder id = none → Answers (.completionBlock id 0 dup att count d) s late) ∧
    (s.issuedOrder id = some (m, o) → (c.cls ≠ .c ∨ cur ≠ att % 256) → Answers (.completionBlock id 0 dup att count d) s late) ∧
    (s.issuedOrder id = some (m, o) → c.cls = .c → cur = att % 256 →
      (o.code ≠ .query →
        Answers (.completionBlock id 0 dup att count d) s (taken.outcome m o.slot 0 size (d.setWidth 72))) ∧
      Answers (.completionBlock id 1 dup att count d) s (taken.outcome m o.slot 0o007 size (d.setWidth 72)) ∧
      Answers (.completionBlock id 2 dup att count d) s (taken.outcome m o.slot 0o010 0 0) ∧
      (o.code = .query → Answers (.completionBlock id 0 dup att 0 d) s (taken.outcome m o.slot 0o013 0 0))) ∧
    (port < 8 → s.issuedCid port rid cid = none → Answers (.nvmExpressCompletion port rid cid 0 count detail) s late) ∧
    (port < 8 → s.issuedCid port rid cid = some (m, o) →
      let word : DWord := BitVec.ofNat 72 ((detail / 2 ^ 17 * 2 % 2 ^ 16) * 2 ^ 32 + count % 2 ^ 32)
      Answers (.nvmExpressCompletion port rid cid 0 count detail) s
        (taken.outcome m o.slot 0 (if o.code = .read ∨ o.code = .write then o.len else 0) word) ∧
      Answers (.nvmExpressCompletion port rid cid 1 count detail) s (taken.outcome m o.slot 0o007 0 word) ∧
      Answers (.nvmExpressCompletion port rid cid 4 count detail) s (taken.noAnswer m o.slot)) ∧
    (m < 32768 → ∀ slot, c.orders.find? (fun o => o.slot == slot && o.stage == .issued) = none →
      Answers (.orderTimeout m slot) s s) ∧
    (m < 32768 → ∀ slot, c.orders.find? (fun o => o.slot == slot && o.stage == .issued) = some o →
      (c.cls = .n → o.idem = false → Answers (.orderTimeout m slot) s (s.outcome m slot 0o002 0 0)) ∧
      ((c.cls = .c ∨ c.cls = .send ∨ (c.cls = .n ∧ o.idem = true)) → Answers (.orderTimeout m slot) s (s.redrive m slot)) ∧
      (c.cls = .receive → Answers (.orderTimeout m slot) s s)) ∧
    (port < 8 → link < 4 →
      let k := 4 * port + link
      let fell := (s.pcieDown k).tick
      let told := if Config.ownRequestLost fell.1 k then fell.2.report (1160 + k) 2 else fell.2
      (∀ rate width, s.ch.chans = [] → Answers (.pcieLinkUp port link rate width) s { s with ch := { s.ch with
        links := tput s.ch.links PcieLink.init k
          { up := true, rate := rate % 16, width := width % 32, ide := Config.ideActive port link },
        ioReported := s.ch.ioReported.filter (· % 8 != port) } }) ∧
      (∀ rate width, Answers (.pcieLinkUp port link rate width) s (s.pcieUpEvent k rate width)) ∧
      (s.heldFor k = [] → Answers (.linkDownDetected port link) s { told with ch := { told.ch with
        ioQueued := told.ch.ioQueued.filter (fun x => x.link != k), ioReported := told.ch.ioReported.filter (· % 8 != port) } }) ∧
      Answers (.linkDownDetected port link) s (s.linkDown port link) ∧
      Answers (.aerErrorMessage port link) s (s.report (1160 + k) 2) ∧
      Answers (.adapterReset port rid) s (s.targetReset port rid))

/-- A device reads and writes through an open grant of its own: the octets of the real addresses of the grant's segments,
and no others; it reads and writes its own private queues; an access to neither is counted late and a read answered
Unsupported Request. A class D function works in its tenant's octet space under stage 2. A channel is configured while it is
not open, once the twin has the configuration (R213, R227, R237, R241, R242).
The model's own choices and readings it rests on: assumptions 7, 15 and 63. -/
def Obligations.DeviceAccess : Prop :=
  ∀ (s u : State) (port rid addr n : Nat) (octets : List Octet) (l : List Nat) (t : Nat) (route : Route) (form : List Octet),
    port < 8 →
    let a := portAgentOf port
    let late := { s with ch := { s.ch with late := s.ch.late + 1 } }
    let told (u : State) (a : Option (List Octet)) : State := { u with out := u.out ++ [.devRead port rid a] }
    (s.pcieUp port rid = false → Answers (.deviceWrite port rid addr octets) s s ∧ Answers (.deviceRead port rid addr n) s s) ∧
    (s.pcieUp port rid = true → Config.classDTenant port rid = none → 0x8000000000000000 ≤ addr →
      (s.grantOctets port rid addr octets.length = some l →
        Answers (.deviceWrite port rid addr octets) s (s.wrRealOctets a (l.zip octets))) ∧
      (s.grantOctets port rid addr octets.length = none → Answers (.deviceWrite port rid addr octets) s late) ∧
      (s.grantOctets port rid addr n = some l → HasLines s a ((l.flatMap (fun k => octetLines k 1)).eraseDups) u →
        Answers (.deviceRead port rid addr n) s (told u (some (l.map (octetOf u.rd))))) ∧
      (s.grantOctets port rid addr n = none → Answers (.deviceRead port rid addr n) s (told late none))) ∧
    (s.pcieUp port rid = true → Config.classDTenant port rid = none → addr < 0x8000000000000000 →
      (s.privateOf port rid addr octets.length = true → Answers (.deviceWrite port rid addr octets) s (s.putPriv addr octets)) ∧
      (s.privateOf port rid addr octets.length = false → Answers (.deviceWrite port rid addr octets) s late) ∧
      (s.privateOf port rid addr n = true → Answers (.deviceRead port rid addr n) s (told s (some (s.getPriv addr n)))) ∧
      (s.privateOf port rid addr n = false → Answers (.deviceRead port rid addr n) s (told late none))) ∧
    (s.pcieUp port rid = true → Config.classDTenant port rid = some t → s.drainingT (t % 512) = false →
      (addr + octets.length ≤ 2 ^ 51 → s.dmaCause (t % 512) Need.store (octetWords addr octets.length) = none →
        Answers (.deviceWrite port rid addr octets) s (s.agentWrOctets a (t % 512) addr octets)) ∧
      (∀ x, addr + octets.length ≤ 2 ^ 51 → s.dmaCause (t % 512) Need.store (octetWords addr octets.length) = some x →
        Answers (.deviceWrite port rid addr octets) s (s.ioFault (t % 512) true x rid addr)) ∧
      (addr + n ≤ 2 ^ 51 → s.dmaCause (t % 512) Need.load (octetWords addr n) = none →
        Has s a (t % 512) (octetWords addr n) u →
        Answers (.deviceRead port rid addr n) s (told u (some (u.agentOctets (t % 512) addr n))))) ∧
    (wfRoute route = true → MayWriteOctets s route 0x1310 1 form →
      let q := (s.persist 0x1310 1).configItem form
      (s.configAbort form = 0 →
        (q.1 = none → Writes (.configureChannel route form) s (q.2.configured form)) ∧
        (∀ i, q.1 = some i → Writes (.configureChannel route form) s
          { q.2 with ch := { q.2.ch with configs := q.2.ch.configs ++ [(i, form)] } })) ∧
      (s.configAbort form ≠ 0 → Answers (.configureChannel route form) s (s.odAnswer (s.configAbort form) []))) ∧
    (∀ m, octNat (form.take 2) = m → m < 32768 → octNat ((form.drop 2).take 2) = 0xFFFF → (s.chan m).opened = true →
      s.configAbort form = 0x0B)

/-! ## Constellation and the time of day (chapter 7) -/

/-- Frames: one that is not for this module, or reserved, is counted and changes nothing else; a sequenced one is taken only
in order, and its FACK frees what it covers. HELLO and ACK show the peer alive; a peer that is not heard is down; every
header names the module and its serial number; a frame takes its pair's next sequence number, and a retransmission sends the
frames kept, in order (R16, R247-R250).
The model's own choices and readings it rests on: assumptions 5 and 7. -/
def Obligations.ConstellationFrames : Prop :=
  (∀ (s : State) (h : CHeader) (payload : List Octet) (status count port : Nat) (time : BitVec 64),
    let p := h.srcMod
    let v := s.peer p
    let dropped := { s with ch := { s.ch with dropped := s.ch.dropped + 1 } }
    let freed := (s.setPeer p { v with retained := v.retained.filter (fun x => !decide ((h.fack - x.hdr.fseq).toNat < 2 ^ 31)),
                                       used := true, alive := true, down := false }).servePeer p
    let w := freed.peer p
    let next := h.fseq.toNat = (w.rxFseq + 1) % 2 ^ 32
    let took := freed.setPeer p { w with rxFseq := h.fseq.toNat, sinceAck := w.sinceAck + 1 }
    let key (r : RxMsg) : Bool := r.src == p && r.opid == h.opid
    let got := (((took.ch.rx.find? key).map (·.octets)).getD []).take h.offset ++ payload
    let rest := took.ch.rx.filter (fun r => !key r)
    (s.frameOk h = false → Answers (.constellationData h payload) s dropped ∧ Answers (.ack h) s dropped ∧
      Answers (.completion h status count time) s dropped ∧ Answers (.notReady h) s dropped) ∧
    (port < 2 → (if port = 0 then s.ch.portUp0 else s.ch.portUp1) = true →
      (s.frameOk h = false → Answers (.hello port h) s dropped) ∧
      (s.frameOk h = true → Answers (.hello port h) s (freed.peerAlive p))) ∧
    (port < 2 → (if port = 0 then s.ch.portUp0 else s.ch.portUp1) = false → Answers (.hello port h) s s) ∧
    (8192 < payload.length → Answers (.constellationData h payload) s dropped) ∧
    (s.frameOk h = true → Answers (.ack h) s (freed.peerAlive p) ∧
      (¬ next → payload.length ≤ 8192 → Answers (.constellationData h payload) s freed ∧
        Answers (.completion h status count time) s freed ∧ Answers (.notReady h) s freed) ∧
      (next → Answers (.notReady h) s took ∧
        (payload.length ≤ 8192 → h.last = false → Answers (.constellationData h payload) s
          { took with ch := { took.ch with rx := rest ++ [{ src := p, opid := h.opid, octets := got }] } }) ∧
        (payload.length ≤ 8192 → h.last = true → got.length = h.total → Answers (.constellationData h payload) s
          (({ took with ch := { took.ch with rx := rest } }).message h got)) ∧
        (payload.length ≤ 8192 → h.last = true → got.length ≠ h.total → Answers (.constellationData h payload) s
          { took with ch := { took.ch with rx := rest } }) ∧
        (took.issuedOrder h.opid = none → Answers (.completion h status count time) s took.countLate) ∧
        (∀ m o, took.issuedOrder h.opid = some (m, o) → (took.chan m).cls = .send → (took.chan m).target = p →
          let this := (took.findEntry ownSource h.opid).any (fun e => h.attempt % 256 == e.attempt)
          (this = true → Answers (.completion h status count time) s (took.outcome m o.slot status count 0)) ∧
          (this = false → Answers (.completion h status count time) s took.countLate))))) ∧
  (∀ (s : State) (p type : Nat) (h : CHeader) (payload : List Octet), p < 2048 →
    let v := s.peer p
    let up := s.ch.portUp0 = true ∨ s.ch.portUp1 = true
    let port := if s.ch.portUp0 then 0 else 1
    let hdr := s.frameHeader p
    let plain (type : Nat) : State :=
      let u := s.setPeer p { v with sinceAck := 0, used := true }
      { u with out := u.out ++ [.frame port type hdr []] }
    (hdr.srcSerial = s.sv.serial ∧ hdr.srcMod = s.ch.consNum ∧ hdr.dstMod = p ∧ hdr.fack = BitVec.ofNat 32 v.rxFseq) ∧
    (up → Answers (.helloSend p) s (plain 5)) ∧ (up → v.used = true → Answers (.fack p) s (plain 2)) ∧
    (up → Answers (.retransmit p) s { s with out := s.out ++ v.retained.map (fun x =>
      .frame port x.type { x.hdr with retransmit := true, fack := BitVec.ofNat 32 v.rxFseq } x.payload) }) ∧
    (up → v.queue = [] → v.retained.length < 256 →
      let x : Sent := { hdr := { h with fseq := BitVec.ofNat 32 v.nextFseq, fack := BitVec.ofNat 32 v.rxFseq },
                        type := type, payload := payload }
      let u := s.setPeer p { v with nextFseq := (v.nextFseq + 1) % 2 ^ 32, retained := v.retained ++ [x], sinceAck := 0 }
      s.sendFrame p type h payload = { u with out := u.out ++ [.frame port type x.hdr payload] }) ∧
    (¬ up → Answers (.helloSend p) s s ∧ Answers (.fack p) s s ∧ Answers (.retransmit p) s s) ∧
    Answers (.peerDown p) s (s.setPeer p { v with alive := false, down := true })) ∧
  (∀ s : State, Answers (.constellationPortFailure 0) s { s with ch := { s.ch with portUp0 := false } } ∧
    Answers (.constellationPortFailure 1) s { s with ch := { s.ch with portUp1 := false } })

/-- The time of day never goes back: a persisted floor stays 10 s ahead, a forward step above 10 ms at lock steps the count,
any other correction slews it, and a setting while discipline is off is taken the same way (R251, R252). -/
def Obligations.TimeOfDay : Prop :=
  ∀ (s : State) (offset : Int) (lock : Bool) (route : Route) (v : BitVec 64),
    let t := { s with tm := { s.tm with lock := if lock then 2 else 1 } }
    (s.md.st = .run → s.tm.floor ≤ s.tm.tod + 1000000000 →
      Answers .timeFloor s (({ s with tm := { s.tm with floor := s.tm.tod + 10000000000 } }).ownRecord 4 [0])) ∧
    (s.tm.tod + 1000000000 < s.tm.floor → Answers .timeFloor s s) ∧
    (s.tm.discipline = false ∨ s.md.st ≠ .run → Answers (.ptpMessage offset lock) s s) ∧
    (s.tm.discipline = true → s.md.st = .run →
      (lock = true → 10000000 < offset →
        Answers (.ptpMessage offset lock) s (t.stepTime (s.tm.tod + offset.toNat))) ∧
      (lock = false ∨ offset ≤ 10000000 →
        Answers (.ptpMessage offset lock) s { t with tm := { t.tm with slewBack := (-offset).toNat } })) ∧
    (wfRoute route = true → MayWrite s route 0x1320 8 v.toNat →
      (s.tm.discipline = true → Answers (.timeOfDay route v) s (s.odAnswer 8 [])) ∧
      (s.tm.discipline = false → s.tm.tod ≤ v.toNat → Writes (.timeOfDay route v) s
        (let u := s.stepTime v.toNat
         { u with tm := { u.tm with slewBack := 0 } })) ∧
      (s.tm.discipline = false → v.toNat < s.tm.tod → Writes (.timeOfDay route v) s
        { s with tm := { s.tm with slewBack := s.tm.tod - v.toNat } })) ∧
    (∀ n, s.tm.tod ≤ (s.stepTime n).tm.tod ∨ 2 ^ 64 ≤ max s.tm.tod n)

/-! ## Coherence (chapter 5) -/

/-- Table 5.8 at the home, for a request of another module's agent on a line without an open transaction or earlier
requests: on a line that no agent holds it is served from memory, given a way, makes a victim's recall go first, or is
refused; a shared line gains a reader, is invalidated at its other holders for an owner, and is read past them; an owned
line is asked of its owner, and a held one of its agent. A request for another home is carried on, and one for a line that
waits is queued in order. A request of this module's own agent is sent (R155-R160, R162-R165, R175).
The home's answers: a write-back is stored, acknowledged, and removes its sender; an awaited acknowledge or data message
counts toward the transaction, which closes with the last one (R157).
The model's own choices and readings it rests on: assumptions 9, 15, 16, 57 and 60. -/
def Obligations.DirectoryRows : Prop :=
  (∀ (s : State) (e : MsgEnd) (line : Nat) (ws mask : List Word), wfMsg e = true → line < 2 ^ 36 → wfLineWords ws = true →
    wfLineWords mask = true → e.agent / 64 ≠ s.dy.modnum →
    let src := e.agent
    let f := e.head.flit
    let msg (type : Nat) (w k : List Word) : Msg := rowMsg e type src (homeAgent (lineHome line)) line 0 w k
    let rows : List (Instr × Msg × DirReq) := [(.readShared e line, msg 1 [] [], .readShared),
      (.readOwn e line, msg 2 [] [], .readOwn), (.upgrade e line, msg 3 [] [], .upgrade),
      (.readNoAllocate e line, msg 4 [] [], .readNoAllocate), (.maskedWriteBack e line ws mask, msg 6 ws mask, .masked ws mask)]
    let req (r : DirReq) : DirWait := { req := r, src := src, tag := e.head.tag, line := line, behind := none }
    (∀ r ∈ rows, lineHome line ≠ s.dy.modnum →
      let u := s.flitsIn f (poolOf true r.2.1) r.2.1.flits
      let k := linkTo s.dy.modnum (lineHome line)
      Answers r.1 s (((u.setLink k { u.link k with forward := (u.link k).forward ++ [r.2.1] }).transmit k).serviceLink f.link)) ∧
    (lineHome line = s.dy.modnum → ∀ r ∈ rows, Lands r.1 s r.2.1 f (fun u =>
      if s.lineWaits line then { u with dy := { u.dy with waiting := u.dy.waiting ++ [req r.2.2] } } else u.takeRequest (req r.2.2))) ∧
    (∀ u : State, u.dir line = none →
      u.takeRequest (req .readNoAllocate) = u.dataTo (req .readNoAllocate) 4 ∧
      u.takeRequest (req (.masked ws mask)) = (u.wrLineMask line ws mask).homeSays (req (.masked ws mask)) src 16 0 [] false ∧
      (∀ r, r = .readShared ∨ r = .readOwn ∨ r = .upgrade →
        (u.poisoned line = true → u.takeRequest (req r) = (u.dataTo (req r) 4).unrefuse src line) ∧
        (u.poisoned line = false →
          (∀ w, u.allocateWay src line = .way w →
            u.takeRequest (req r) = (((u.own src line w).touch line).dataTo (req r) (soleGrant src)).unrefuse src line) ∧
          (∀ v en, u.allocateWay src line = .victim v → u.dir v = some en →
            u.takeRequest (req r) = (u.recall v en).requeue { req r with behind := some v }) ∧
          (u.allocateWay src line = .nak → ∃ v : State, u.takeRequest (req r) = v.homeSays (req r) src 17 0 [] false ∧
            v.dy.naks = sat36 (u.dy.naks + 1) ∧ v.dy.refused.any (fun x => x.src == src && x.line == line) = true)))) ∧
    (∀ (u : State) (en : DirEntry), u.dir line = some en → Config.entryError u.fresh line = 0 →
      let v := (u.tick.2.touch line).unrefuse src line
      let others := en.holders.filter (· != src)
      let snoop (req : DirWait) (type : Nat) (l : List Nat) : State := v.openTx req en .busy type l l []
      (en.ioh = true →
        (∀ r, r = .readShared ∨ r = .readOwn ∨ r = .upgrade →
          u.takeRequest (req r) = v.openTx (req r) en .busy 10 en.holders [] en.holders) ∧
        u.takeRequest (req .readNoAllocate) = v.openTx (req .readNoAllocate) en .busy 10 [] [] en.holders ∧
        u.takeRequest (req (.masked ws mask)) = v.openTx (req (.masked ws mask)) en .busy 10 [] [] en.holders) ∧
      (en.ioh = false → en.st = .shared →
        (v.poisoned line = false → u.takeRequest (req .readShared) =
          (v.setDir line { en with holders := others ++ [src] }).dataTo (req .readShared) 0) ∧
        (v.poisoned line = false → others = [] →
          u.takeRequest (req .readOwn) = (v.own src line en.way).dataTo (req .readOwn) (soleGrant src)) ∧
        (others ≠ [] → u.takeRequest (req .readOwn) = snoop (req .readOwn) 8 others ∧
          u.takeRequest (req .upgrade) = snoop (req .upgrade) 8 others) ∧
        (others = [] → src ∈ en.holders →
          u.takeRequest (req .upgrade) = (v.own src line en.way).homeSays (req .upgrade) src 18 0 [] false) ∧
        u.takeRequest (req .readNoAllocate) = v.dataTo (req .readNoAllocate) 4 ∧
        (en.holders ≠ [] → u.takeRequest (req (.masked ws mask)) = snoop (req (.masked ws mask)) 8 en.holders)) ∧
      (en.ioh = false → en.st = .owned → others ≠ [] →
        u.takeRequest (req .readShared) = snoop (req .readShared) 9 en.holders ∧
        u.takeRequest (req .readOwn) = snoop (req .readOwn) 10 en.holders ∧
        u.takeRequest (req .upgrade) = snoop (req .upgrade) 10 en.holders ∧
        u.takeRequest (req .readNoAllocate) = snoop (req .readNoAllocate) 11 en.holders ∧
        u.takeRequest (req (.masked ws mask)) = snoop (req (.masked ws mask)) 10 en.holders)) ∧
    (∀ (u : State) (en : DirEntry) (r : DirReq), u.dir line = some en → 2 ≤ Config.entryError u.fresh line →
      let v := { u.tick.2 with dy := { u.tick.2.dy with entryErrors := sat36 (u.dy.entryErrors + 1) } }
      u.takeRequest (req r) = (v.broadcastRecall line en).requeue (req r))) ∧
  (∀ (s : State) (e : MsgEnd) (line : Nat) (ws mask : List Word) (data : Option (List Word)), wfMsg e = true →
    line < 2 ^ 36 → wfLineWords ws = true → wfLineWords mask = true → wfLineData data = true →
    e.agent / 64 = s.dy.modnum →
    let a := e.agent % 64
    (a < 4 →
      Answers (.readShared e line) s (s.tileRequest a 15 line false none).pump ∧
      Answers (.readOwn e line) s (s.tileRequest a 15 line true none).pump ∧
      Answers (.upgrade e line) s (s.tileRequest a 15 line true none).pump ∧
      Answers (.readNoAllocate e line) s (s.copyAsks e.agent (tileKey a line) line).pump ∧
      Answers (.writeBack e line data) s (s.evict a line).pump) ∧
    (4 ≤ a →
      Answers (.readOwn e line) s (s.agentAsks a line).pump ∧
      Answers (.readNoAllocate e line) s (s.copyAsks e.agent (tileKey a line) line).pump ∧
      Answers (.writeBack e line data) s (s.agentReleases a line (data.getD [])).pump) ∧
    Answers (.maskedWriteBack e line ws mask) s (s.agentMerges a line ws mask).pump) ∧
  (∀ (s : State) (e : MsgEnd) (line : Nat) (ws : Option (List Word)), wfMsg e = true → line < 2 ^ 36 →
    wfLineData ws = true → e.agent / 64 ≠ s.dy.modnum → lineHome line = s.dy.modnum →
    let src := e.agent
    let m := rowMsg e 5 src (homeAgent (lineHome line)) line 0 (ws.getD []) []
    let acked (u : State) : State :=
      let put := match ws with
        | some x => u.wrWords (line * 16) ((List.range 16).map (wordAt x))
        | none => u
      put.homeSays { req := .recall, src := src, tag := e.head.tag, line := line, behind := none } src 16 0 [] false
    (s.dir line = none → Lands (.writeBack e line ws) s m e.head.flit acked) ∧
    (∀ en, s.dir line = some en →
      let left := en.holders.filter (· != src)
      (en.tx = none → left ≠ [] → Lands (.writeBack e line ws) s m e.head.flit (fun u =>
        (acked u).setDir line { en with holders := left })) ∧
      (en.tx = none → left = [] → Lands (.writeBack e line ws) s m e.head.flit (fun u => ((acked u).dropDir line).drainHome)) ∧
      (∀ x, en.tx = some x → src ∈ x.wbWait → Lands (.writeBack e line ws) s m e.head.flit (fun u =>
        ((acked u).setDir line
          { en with holders := left, tx := some { x with wbWait := x.wbWait.filter (· != src) } }).tryClose line)))) ∧
  (∀ (s : State) (e : MsgEnd) (line g : Nat) (ws : List Word) (dirty : Bool), wfMsgEnd e = true → line < 2 ^ 36 →
    wfLineWords ws = true → g < 5 → s.dy.modnum < 16 →
    let src := e.agent
    let dst := homeAgent s.dy.modnum
    let ack (wbf : Bool) : Msg := rowMsg e 16 src dst line (b2n wbf * 32) [] []
    let dat : Msg := rowMsg e 19 src dst line (dataAux g dirty) ws []
    (s.awaited src line = false →
      (∀ wbf, Lands (.acknowledge dst e line wbf) s (ack wbf) e.head.flit id) ∧
      Lands (.data dst e line ws g dirty) s dat e.head.flit id) ∧
    (∀ en x, s.dir line = some en → en.tx = some x → src ∈ x.awaits → x.wbWait = [] →
      let less : List Nat := x.awaits.filter (· != src)
      let waitsFor (u : State) (f : DirTx) : State := (u.setDir line { en with tx := some f }).tryClose line
      Lands (.acknowledge dst e line false) s (ack false) e.head.flit (fun u => waitsFor u { x with awaits := less }) ∧
      Lands (.acknowledge dst e line true) s (ack true) e.head.flit (fun u =>
        waitsFor u { x with awaits := less, wbWait := [src] }) ∧
      (x.got = none → Lands (.data dst e line ws g dirty) s dat e.head.flit (fun u =>
        waitsFor u { x with awaits := less, got := some (ws, dirty) }))))

/-- Table 5.7 at a tile: its answers to the four snoops by its state, a grant that ends an upgrade, data that fill a
waiting line, a NAK that is counted and the retry that repeats the request, and a held snoop once the fill is in and its
access performed; DY_PROBE shows the entry of a set and way to Zenith (R152-R154, R159, R161).
The model's own choices and readings it rests on: assumptions 9, 15, 16 and 57. -/
def Obligations.TileSnoops : Prop :=
  ∀ (s : State) (e : MsgEnd) (t line : Nat) (src : MsgEnd) (ws : List Word) (dirty : Bool) (acc : Accessor) (v : Word),
    wfMsg e = true → t < 4 → e.agent = 64 * s.dy.modnum + t → line < 2 ^ 36 → wfMsgEnd src = true → wfLineWords ws = true →
    let st := s.tile t line
    let a := 64 * s.dy.modnum + t
    let f := e.head.flit
    let msg (type : Nat) : Msg := rowMsg e type (homeAgent (lineHome line)) a line 0 [] []
    let held (k : Snoop) : Held := { kind := k, tag := e.head.tag, orig := e.head.orig }
    let rows : List (Instr × Nat × Snoop) := [(.invalidate e line, 8, .invalidate), (.snoopShare e line, 9, .share),
      (.snoopOwn e line, 10, .own), (.snoopRead e line, 11, .read)]
    let ack (k : Snoop) (w : Nat) (u : State) : State := u.tileAnswers t line 16 w (held k) []
    let data (k : Snoop) (d : Bool) (n : Option TileState) (u : State) : State :=
      (u.tileAnswers t line 19 (dataAux 4 d) (held k) (u.rdLine line)).setTile t line n
    (st = none → ∀ r ∈ rows, Lands r.1 s (msg r.2.1) f (ack r.2.2 0)) ∧
    ((st = some .isS ∨ st = some .imS) → ∀ r ∈ rows, Lands r.1 s (msg r.2.1) f (fun u => u.holdSnoop t line (held r.2.2))) ∧
    ((st = some .miS ∨ st = some .eiS ∨ st = some .siS) →
      ∀ r ∈ rows, Lands r.1 s (msg r.2.1) f (ack r.2.2 (if r.2.2 = .invalidate then 0 else 32))) ∧
    (s.deferred t line = false →
      (st = some .s → Lands (.invalidate e line) s (msg 8) f (fun u =>
        ((ack .invalidate 0 u).setTile t line none).loseLine t line none)) ∧
      (st = some .smS → Lands (.invalidate e line) s (msg 8) f (fun u =>
        ((ack .invalidate 0 u).setTile t line (some .imS)).loseLine t line none)) ∧
      (st = some .e → Lands (.snoopOwn e line) s (msg 10) f (fun u => (data .own false none u).loseLine t line none)) ∧
      (st = some .m → Lands (.snoopOwn e line) s (msg 10) f (fun u => (data .own true none u).loseLine t line none))) ∧
    (s.deferred t line = true →
      (st = some .s → Lands (.invalidate e line) s (msg 8) f (fun u =>
        (u.holdSnoop t line (held .invalidate)).markDeferred t line)) ∧
      ((st = some .e ∨ st = some .m) → Lands (.snoopOwn e line) s (msg 10) f (fun u =>
        (u.holdSnoop t line (held .own)).markDeferred t line))) ∧
    (st = some .e → Lands (.snoopShare e line) s (msg 9) f (data .share false (some .s)) ∧
      Lands (.snoopRead e line) s (msg 11) f (data .read false (some .e))) ∧
    (st = some .m → Lands (.snoopShare e line) s (msg 9) f (data .share true (some .s)) ∧
      Lands (.snoopRead e line) s (msg 11) f (data .read true (some .m))) ∧
    (∀ x, s.tileLine t line = some x →
      (x.st = .smS → x.tag = e.head.tag → Lands (.grant e line) s (msg 18) f (fun u => u.setTile t line (some .e))) ∧
      ((x.st ≠ .smS ∨ x.tag ≠ e.head.tag) → Lands (.grant e line) s (msg 18) f id)) ∧
    (st = none → Lands (.grant e line) s (msg 18) f id) ∧
    (∀ x, s.tileLine t line = some x → x.tag = src.head.tag → x.st = .imS → x.keep = false →
      let m := rowMsg src 19 src.agent a line (dataAux 2 dirty) ws []
      let ended (u : State) : State := { u with dy := { u.dy with attempts := tdel u.dy.attempts (attemptKey a line) } }
      (src.head.poisoned = true → Lands (.data a src line ws 2 dirty) s m src.head.flit (fun u =>
        ((ended u).putTile t line none).setPoison line true)) ∧
      (src.head.poisoned = false → Lands (.data a src line ws 2 dirty) s m src.head.flit (fun u =>
        let w := ((ended u).takeWords line ws).putTile t line (some { x with
          st := .m, keep := false, age := ((ended u).takeWords line ws).dy.uses })
        { w with dy := { w.dy with uses := w.dy.uses + 1 } }))) ∧
    (let n := tget s.dy.attempts 0 (attemptKey a line)
     Lands (.negativeAcknowledge e line) s (msg 17) f (fun u =>
        { u with dy := { u.dy with attempts := tput u.dy.attempts 0 (attemptKey a line) (n + 1) } }) ∧
     (n = 0 → Answers (.nakRetry a line) s s) ∧
     (∀ x, n ≠ 0 → s.tileLine t line = some x →
       (x.st = .isS → Answers (.nakRetry a line) s (s.sayHome a line 1 x.tag 0 0 [] [] false).pump) ∧
       (x.st = .imS → Answers (.nakRetry a line) s (s.sayHome a line 2 x.tag 0 0 [] [] false).pump) ∧
       (x.st = .smS → Answers (.nakRetry a line) s (s.sayHome a line 3 x.tag 0 0 [] [] false).pump))) ∧
    (∀ k x, s.dy.heldSnoops.find? (fun e => e.1 == tileKey t line) = some (tileKey t line, k) → s.tileLine t line = some x →
      ((x.st = .isS ∨ x.st = .imS ∨ x.st = .smS) → Answers (.heldSnoopRelease t line) s s.pump) ∧
      ((x.st = .s ∨ x.st = .e ∨ x.st = .m) → s.served line x.waiter = false → Answers (.heldSnoopRelease t line) s s.pump) ∧
      ((x.st = .s ∨ x.st = .e ∨ x.st = .m) → s.served line x.waiter = true → Answers (.heldSnoopRelease t line) s
        (({ s with dy := { s.dy with heldSnoops := tdel s.dy.heldSnoops (tileKey t line) } }).snoop t line k).pump)) ∧
    (s.dy.heldSnoops.find? (fun e => e.1 == tileKey t line) = none → Answers (.heldSnoopRelease t line) s s.pump) ∧
    (wfAccessor acc = true →
      (acc.role = .z → Answers (.dyProbe acc v) s { s with dy := { s.dy with
        probeSet := fld v 21 4, probeWay := fld v 3 0, probe := s.probeEntry (fld v 21 4) (fld v 3 0) } }) ∧
      (acc.role ≠ .z → Answers (.dyProbe acc v) s s))

/-! ## Links and the partition rule (chapter 5) -/

/-- The life of a link (Table 5.11): training, identification, failure to RETRAINING, its end, a fenced lane group, the
detour's delivered flit and markers, ADMIN; replays; link-state flits; the Twin link's own life in the same rows; and the
partition rule (R171-R178, R407).
The model's own choices and readings it rests on: assumptions 20, 42 and 60. -/
def Obligations.LinkRows : Prop :=
  ∀ (s : State) (k : Nat) (g0 g1 : Bool) (n x : Nat) (acc : Accessor) (w : Word) (reach : List Nat) (f : FlitHead), k < 15 →
    x < 1024 →
    let l := s.link k
    let to_ (v : Link) : State := s.setLink k v
    let failed := (to_ { l with st := .retraining }).flood
    let u0 := g0 && (l.admin != 2) && !l.fenced0
    let u1 := g1 && (l.admin != 1) && !l.fenced1
    (l.st = .training → Answers (.training k g0 g1) s
      (to_ { l with g0 := u0, g1 := u1, st := if (u0 || u1) = true then .identify else .down })) ∧
    (l.st = .detoured → Answers (.training k g0 g1) s (to_ { l with g0 := u0, g1 := u1 })) ∧
    (l.st ≠ .training → l.st ≠ .detoured → Answers (.training k g0 g1) s s) ∧
    (l.st = .down → Answers (.trainingRetry k) s (to_ { l with st := .training })) ∧
    (l.st ≠ .down → Answers (.trainingRetry k) s s) ∧
    (l.st = .identify → Answers (.identify k true) s ((to_ { l with st := .active }).flood.transmit k) ∧
      Answers (.identify k false) s ((to_ { l with st := .mismatch }).report (982 + k) 2)) ∧
    (l.st = .detoured → (l.g0 || l.g1) = true → l.admin ≠ 3 → Answers (.identify k true) s
      ((to_ { l with drainSent := true }).sendFlit (linkTo s.dy.modnum l.via) (.control 5 []))) ∧
    (l.st ≠ .identify → l.st ≠ .detoured → Answers (.identify k g0) s s) ∧
    (l.st = .active → Answers (.linkFailure k) s failed) ∧ (l.st ≠ .active → Answers (.linkFailure k) s s) ∧
    (l.st ≠ .retraining → Answers (.retraining { link := k, expected := x } g0 g1) s s) ∧
    (l.st = .retraining → l.admin = 0 → Answers (.retraining { link := k, expected := x } true true) s
      ((((to_ { (l.expects x) with st := .active, g0 := true, g1 := true, fenced0 := false, fenced1 := false,
                                   replayCount := 0 }).resend k).flood).transmit k)) ∧
    (l.st = .retraining → Answers (.retraining { link := k, expected := x } false false) s (s.detour k).flood) ∧
    (l.st = .active → (l.g0 = true ∧ l.g1 = true) → n < 2 → Answers (.laneGroupFence k n) s (s.fenceGroup k n)) ∧
    (l.st = .active → n < 2 → ((s.fenceGroup k n).link k).g0 = false → ((s.fenceGroup k n).link k).g1 = false →
      Answers (.laneGroupFence k n) s ((s.fenceGroup k n).linkFails k)) ∧
    (l.st = .active → Answers (.badCrcOrSequenceGap k) s (s.sendFlit k (.control 2 (oct2 ((l.rxSeq + 1) % 1024))))) ∧
    (l.st ≠ .active → Answers (.badCrcOrSequenceGap k) s s ∧ (n < 2 → Answers (.laneGroupFence k n) s s)) ∧
    (let c := if l.lastReplay = n then l.replayCount + 1 else 1
     let v := ((to_ { (l.expects n) with lastReplay := n, replayCount := c, replays := sat36 (l.replays + 1) }).report
       (982 + k) 1).resend k
     (c < 8 → Answers (.replayRequest k n) s v) ∧ (8 ≤ c → Answers (.replayRequest k n) s (v.linkFails k))) ∧
    (l.st = .active → Answers (.linkProtocolFault k) s ((s.report (982 + k) 2).linkFails k)) ∧
    (n < 16 → wfFlit f = true → ∀ bits,
      let u := s.flitsIn f 10 1
      ((n = s.dy.modnum ∨ tget s.dy.view 0 n = bits % 2 ^ 15) →
        Answers (.linkState { module := n, flit := f } bits) s (u.serviceLink f.link)) ∧
      (n ≠ s.dy.modnum → tget s.dy.view 0 n ≠ bits % 2 ^ 15 → Answers (.linkState { module := n, flit := f } bits) s
        ((({ u with dy := { u.dy with view := tput u.dy.view 0 n (bits % 2 ^ 15) } }).floodOf n (bits % 2 ^ 15)
          (some f.link)).serviceLink f.link))) ∧
    Answers .linkStateFlood s s.flood ∧
    (l.st ≠ .detoured → Answers (.delivered k n) s s ∧ Answers (.drainMarker k g0) s s) ∧
    (l.st = .detoured → l.resent = true → Answers (.delivered k n) s s) ∧
    (l.st = .detoured → l.resent = false → ∀ i, l.replayBuf.findIdx? (fun f => f.seq == n) = some i →
      Answers (.delivered k n) s
        ((to_ { l with replayBuf := [], queue := bufferedMsgs (l.replayBuf.drop (i + 1)) ++ l.queue, resent := true }).transmit k)) ∧
    (l.st = .detoured → l.drainSent = true → Answers (.drainMarker k true) s
      ((to_ { l with st := .active, drainSent := false, drainSeen := false, resent := false, deliveredSent := false,
                     credits := linkBuffers }).flood.transmit k)) ∧
    (l.st = .detoured → l.drainSent = false → Answers (.drainMarker k true) s s) ∧
    (l.st = .detoured → Answers (.drainMarker k false) s ((to_ { l with drainSeen := true }).sendFlit k (.control 5 [1]))) ∧
    (wfAccessor acc = true → (acc.role = .z ∨ acc.role = .h) → s.isMember (s.linkPeer k) = true →
      (fld w 10 8 < 3 → l.st ≠ .active → Answers (.admin acc k w) s (to_ { l with admin := fld w 10 8 })) ∧
      (fld w 10 8 < 3 → l.st = .active → Answers (.admin acc k w) s (to_ { l with admin := fld w 10 8, st := .retraining }).flood) ∧
      (fld w 10 8 = 3 → (s.relay (s.linkPeer k)).isSome = true → (l.st = .active ∨ l.st = .retraining) →
        Answers (.admin acc k w) s ((to_ { l with admin := 3 }).detour k).flood) ∧
      ((4 ≤ fld w 10 8 ∨ (fld w 10 8 = 3 ∧ s.relay (s.linkPeer k) = none)) →
        (acc.role = .z → Answers (.admin acc k w) s { s with dy := { s.dy with rejectZ := true } }) ∧
        (acc.role = .h → Answers (.admin acc k w) s { s with dy := { s.dy with rejectH := true } }))) ∧
    (wfAccessor acc = true → acc.role ≠ .z → acc.role ≠ .h → Answers (.admin acc k w) s s) ∧
    (let tw (st : LinkSt) : State := { s with tw := { s.tw with linkSt := st } }
     (s.tw.linkSt = .active → Answers (.linkFailure 15) s (tw .retraining)) ∧
     (s.tw.linkSt = .down → Answers (.trainingRetry 15) s (tw .training)) ∧
     (s.tw.linkSt = .identify → Answers (.identify 15 true) s (tw .active) ∧
       Answers (.identify 15 false) s ((tw .mismatch).report 1001 2)) ∧
     (s.tw.linkSt = .retraining → Answers (.retraining { link := 15, expected := x } false false) s (tw .down)) ∧
     (s.tw.linkSt = .training → Answers (.training 15 false false) s (tw .down)) ∧
     Answers (.linkProtocolFault 15) s (s.report 1001 2).twinLinkFails) ∧
    (reach.all wfModule = true →
      ((s.md.st = .halted ∨ s.md.st = .off ∨ s.md.st = .standby) → Answers (.partitionRule reach) s s) ∧
      ((s.reachSet reach).length = s.memberList.length → Answers (.partitionRule reach) s s) ∧
      (s.md.st = .run → (s.reachSet reach).length ≠ s.memberList.length →
        (s.majority reach = false → Answers (.partitionRule reach) s (s.fatalFault 1202)) ∧
        (s.majority reach = true → Answers (.partitionRule reach) s
          (let t := s.loseMembers (s.reachSet reach)
           t.cores.foldl (fun u e => u.failLost e.1) t))))

/-! ## The engines (chapters 9 and 10) -/

/-- A compression lane starts a ring's next request when the ring is open with one waiting, the lane is enabled and idle,
and the request, its slot and what it reads at hand, is of the row's operation; it ends invalid, untranslatable, without its
context, or with the outcome of its codec. Completion records are written in ring order once the engine's writes have been
acknowledged, a draining ring's requests not started complete SQUASHED, and a close ends a ring whose requests are done
(R302-R314).
The model's own choices and readings it rests on: assumptions 6 and 40. -/
def Obligations.CompressionRows : Prop :=
  (∀ (s w u : State) (t r lane : Nat), t < 512 → r < 16 → lane < 48 →
    let g := s.cxRing t r
    let q := w.cxNext t r
    let can := g.opened = true ∧ g.squash = false ∧ 0 < g.waiting ∧ s.laneEnabled lane = true ∧ s.blockOpen lane = true ∧
      s.cx.busy.contains lane = false ∧ (s.cxT t).lanesHeld < (s.cxT t).laneLimit ∧ s.worksNow = true
    let free := q.fresh = true ∨ g.ran.all (fun y => y.handle != q.ctx + 1) = true
    let ends (i : Instr) : Prop :=
      let x := (u.cxRun t q).2
      let res := (u.cxRun t q).1
      let h := x.cxRing t r
      let slot := (u.cxRing t r).started
      let ran : Ran := { slot := slot, words := res.words, irq := q.intr, unit := lane,
                         handle := if q.usesCtx then q.ctx + 1 else 0 }
      let y := x.setCxRing t r { h with started := (slot + 1) % 2 ^ 48, ran := h.ran ++ [ran] }
      Answers i s { y with cx := { y.cx with busy := y.cx.busy ++ [lane],
                                             noGain := if res.status = 1 then y.cx.noGain + 1 else y.cx.noGain } }
    (can → Has s compressionAgent t (g.slotWords g.started) w →
      (q.op = 0 → Answers (.decompress t r lane) s w) ∧ (q.op = 1 → Answers (.compress t r lane) s w) ∧
      (free → Has w compressionAgent t (w.cxReads t q) u →
        (q.op = 0 → ends (.compress t r lane)) ∧ (q.op = 1 → ends (.decompress t r lane))) ∧
      (free → Awaits w compressionAgent t (w.cxReads t q) u →
        (q.op = 0 → Answers (.compress t r lane) s u) ∧ (q.op = 1 → Answers (.decompress t r lane) s u)) ∧
      (¬ free → Answers (.compress t r lane) s w ∧ Answers (.decompress t r lane) s w)) ∧
    (can → Awaits s compressionAgent t (g.slotWords g.started) w →
      Answers (.compress t r lane) s w ∧ Answers (.decompress t r lane) s w) ∧
    (¬ can → Answers (.compress t r lane) s s ∧ Answers (.decompress t r lane) s s)) ∧
  (∀ (s : State) (t : Nat) (q : CxReq),
    (q.invalid = true → s.cxRun t q = (cxFail 7, s)) ∧
    (q.invalid = false → s.cxTranslates t q = false → s.cxRun t q = (cxFail 6, s)) ∧
    (q.invalid = false → s.cxTranslates t q = true →
      (q.fresh = false → s.restore t q = none → s.cxRun t q = (cxFail 5, s)) ∧
      (q.fresh = true → q.op = 0 → s.cxRun t q = s.cxCompress t q ⟨q.q, q.maxbits, []⟩ 0) ∧
      (q.fresh = true → q.op = 1 → s.cxRun t q = s.cxDecompress t q ⟨q.q, q.maxbits, []⟩ 0) ∧
      (∀ d b, q.fresh = false → s.restore t q = some (d, b) →
        (q.op = 0 → s.cxRun t q = s.cxCompress t q d b) ∧ (q.op = 1 → s.cxRun t q = s.cxDecompress t q d b)))) ∧
  (∀ (s : State) (t r : Nat) (acc : Accessor) (v : Word) (x : Ran), t < 512 → r < 16 →
    let g := s.cxRing t r
    (s.agentQuiet compressionAgent = false → Answers (.compressionCompletion t r) s s) ∧
    (g.ran.find? (fun y => y.slot == g.comp) = none → g.squash = false → Answers (.compressionCompletion t r) s s) ∧
    (s.agentQuiet compressionAgent = true → g.ran.find? (fun y => y.slot == g.comp) = none → g.squash = true →
      0 < g.waiting → g.comp = g.started →
      let n := (g.comp + 1) % 2 ^ 48
      let u := (s.ringComplete t g g.comp [packW [(8, 0)], 0, 0, 0, 0, 0] false).setCxRing t r
        ({ g with comp := n, started := n }).settle
      Answers (.compressionCompletion t r) s { u with cx := { u.cx with completed := u.cx.completed + 1 } }) ∧
    (s.agentQuiet compressionAgent = true → g.ran.find? (fun y => y.slot == g.comp) = some x →
      (s.cxHasLane x = false → Answers (.compressionCompletion t r) s s) ∧
      (s.cxHasLane x = true →
        let u := (s.ringComplete t g x.slot x.words x.irq).setCxRing t r
          ({ g with comp := (g.comp + 1) % 2 ^ 48, ran := g.ran.filter (fun y => y.slot != x.slot) }).settle
        Answers (.compressionCompletion t r) s
          ({ u with cx := { u.cx with busy := u.cx.busy.filter (· != x.unit), completed := u.cx.completed + 1 } }).finishChange)) ∧
    (wfAccessor acc = true → s.reach acc t = true →
      (roleZHG acc.role = false → Answers (.cxClose acc t v) s s) ∧
      (roleZHG acc.role = true → (fld v 15 0 < 2 ^ (s.cxT t).slice →
        Answers (.cxClose acc t v) s ((List.range 16).foldl (fun u n =>
          if bit v n && (u.cxRing t n).opened then u.setCxRing t n ({ u.cxRing t n with closing := true }).settle else u) s)) ∧
      (2 ^ (s.cxT t).slice ≤ fld v 15 0 → acc.role = .g →
        Answers (.cxClose acc t v) s (s.setCxT t { s.cxT t with rejectG := true })))) ∧
    (wfAccessor acc = true → s.reach acc t = false → Answers (.cxClose acc t v) s s))

/-- A cipher core starts a ring's next request as a lane does; it is checked in the order of the statuses, its blocks are
counted on the slot, and they are transformed block by block by the slot's key before the record, which waits for the home's
acknowledge; a draining ring's requests not started complete SQUASHED (R321-R327, R333, R337, R340).
The model's own choices and readings it rests on: assumptions 5, 6 and 40. -/
def Obligations.CipherRows : Prop :=
  (∀ (s w : State) (t r aes : Nat), t < 512 → r < 16 → aes < 24 →
    let g := s.ciRing t r
    let q := w.ciNext t r
    let can := g.opened = true ∧ g.squash = false ∧ 0 < g.waiting ∧ s.aesEnabled aes = true ∧ s.blockOpen (48 + aes) = true ∧
      s.ci.busy.contains aes = false ∧ (s.ciT t).coresHeld < (s.ciT t).coreLimit ∧ s.worksNow = true
    let starts (i : Instr) (st : Nat) (u : State) : Prop :=
      let h := u.ciRing t r
      let n := if st = 0 then q.blocks else 0
      let ran : Ran := { slot := (w.ciRing t r).started, words := ciWords st 0 q.tag, irq := q.intr, unit := aes,
                         handle := q.handle, dec := q.op == 1, left := n, total := n, src := q.src, dst := q.dst }
      let y := u.setCiRing t r { h with started := (h.started + 1) % 2 ^ 48, ran := h.ran ++ [ran] }
      Answers i s { y with ci := { y.ci with busy := y.ci.busy ++ [aes] } }
    let row (i : Instr) : Prop := (w.ciCheck t r q = 0 → starts i 0 (w.ciCount t q.handle q.blocks)) ∧
      (w.ciCheck t r q ≠ 0 → starts i (w.ciCheck t r q) w)
    (can → Has s cipherAgent t (g.slotWords g.started) w →
      (q.op = 0 → row (.encrypt t r aes) ∧ Answers (.decrypt t r aes) s w) ∧
      (q.op = 1 → row (.decrypt t r aes) ∧ Answers (.encrypt t r aes) s w)) ∧
    (can → Awaits s cipherAgent t (g.slotWords g.started) w →
      Answers (.encrypt t r aes) s w ∧ Answers (.decrypt t r aes) s w) ∧
    (¬ can → Answers (.encrypt t r aes) s s ∧ Answers (.decrypt t r aes) s s)) ∧
  (∀ (s : State) (t r : Nat) (q : CiReq),
    let k := s.keySlot t q.handle
    let fresh := k.before.any (fun e => e.1 == r && countBefore (s.ciRing t r).started e.2) = false
    let room := k.used + q.blocks ≤ 2 ^ 40
    (q.invalid (s.ciT t).handleSlice = true → s.ciCheck t r q = 7) ∧
    (q.invalid (s.ciT t).handleSlice = false →
      (¬ fresh → s.ciCheck t r q = 4) ∧ (fresh → k.loaded = false → s.ciCheck t r q = 1) ∧
      (fresh → k.loaded = true → (if q.op = 0 then k.enc else k.dec) = false → s.ciCheck t r q = 2) ∧
      (fresh → k.loaded = true → (if q.op = 0 then k.enc else k.dec) = true →
        (¬ room → s.ciCheck t r q = 3) ∧ (room → s.ciTranslates t q = false → s.ciCheck t r q = 6) ∧
        (room → s.ciTranslates t q = true → s.ciCheck t r q = 0)))) ∧
  (∀ (s w : State) (t r : Nat) (acc : Accessor) (v : Word) (x : Ran), t < 512 → r < 16 →
    let g := s.ciRing t r
    let y : Ran := { x with left := 0, words := x.words.set 1 (packW [(x.total, 0)]) }
    (g.ran.find? (fun y => y.slot == g.comp) = none → g.squash = false → Answers (.cipherCompletion t r) s s) ∧
    (g.ran.find? (fun y => y.slot == g.comp) = none → g.squash = true → 0 < g.waiting → g.comp = g.started →
      Has s cipherAgent t (g.slotWords g.started) w →
      let q := w.ciNext t r
      let n := (g.comp + 1) % 2 ^ 48
      let u := (w.ciRecord t g g.comp (ciWords 8 0 q.tag) q.intr).setCiRing t r ({ g with comp := n, started := n }).settle
      Answers (.cipherCompletion t r) s { u with ci := { u.ci with completed := u.ci.completed + 1 } }) ∧
    (g.ran.find? (fun y => y.slot == g.comp) = some x → s.ciHasCore x = false → Answers (.cipherCompletion t r) s s) ∧
    (g.ran.find? (fun y => y.slot == g.comp) = some x → s.ciHasCore x = true → 0 < x.left → x.left = x.total →
      Has s cipherAgent t (x.blockWords x.left) w →
      let u := State.ciBlocks t (w.keySlot t x.handle).key x.dec x.src x.dst x.left 0 w
      let done := u.setCiRing t r { w.ciRing t r with
        ran := (w.ciRing t r).ran.map (fun z => if z.slot == x.slot then y else z) }
      (done.agentQuiet cipherAgent = false → Answers (.cipherCompletion t r) s done) ∧
      (done.agentQuiet cipherAgent = true →
        let z := (done.ciRecord t g x.slot y.words x.irq).setCiRing t r
          ({ g with comp := (g.comp + 1) % 2 ^ 48, ran := g.ran.filter (fun y => y.slot != x.slot) }).settle
        Answers (.cipherCompletion t r) s
          { z with ci := { z.ci with busy := z.ci.busy.filter (· != x.unit), completed := z.ci.completed + 1 } })) ∧
    (wfAccessor acc = true → s.reach acc t = true →
      (roleZHG acc.role = false → Answers (.ciClose acc t v) s s) ∧
      (roleZHG acc.role = true → fld v 15 0 < 2 ^ (s.ciT t).ringSlice →
        Answers (.ciClose acc t v) s ((List.range 16).foldl (fun u n =>
          if bit v n && (u.ciRing t n).opened then u.setCiRing t n ({ u.ciRing t n with closing := true }).settle else u) s))) ∧
    (wfAccessor acc = true → s.reach acc t = false → Answers (.ciClose acc t v) s s))

/-- The key commands of level 2 on a slot of its slice: each writes its fields, is checked, and leaves BUSY with its change
persisted, or answers; at the effect point the running requests that name the slot end and the slot holds the change. Level
1 may erase only (R333-R338).
The model's own choices and readings it rests on: assumption 5. -/
def Obligations.KeyCommands : Prop :=
  ∀ (s w : State) (t : Nat) (acc : Accessor) (v : Word), t < 512 → wfAccessor acc = true → s.reach acc t = true →
    let c := s.ciT t
    let op := fld v 33 30
    let size := fld v 29 28
    let h := fld v 9 0
    let u := s.setCiT t { c with cmdOp := op, cmdSize := size, cmdEnc := bit v 27, cmdDec := bit v 26, cmdExport := bit v 25,
                                 cmdHandle := h }
    let addr := c.addrHi * 2 ^ 36 + c.addrLo
    let ready := acc.role = .g ∧ bit v 35 = true ∧ c.busy = false ∧ size < 3 ∧ s.drainingT t = false ∧ h < c.handleSlice
    let key (o : Bool) (l : List Octet) : KeySlot :=
      { KeySlot.init with loaded := true, size := size, enc := bit v 27, dec := bit v 26, exportOk := bit v 25, origin := o, key := l }
    (op = 0 → ready → Answers (.erase acc t v) s (u.keyPersist t h KeySlot.init)) ∧
    (op = 0 → acc.role = .h → bit v 35 = true → c.busy = false → size < 3 → s.drainingT t = false → h < c.handleSlice →
      Answers (.erase acc t v) s (u.keyPersist t h KeySlot.init)) ∧
    (op = 1 → ready → Has u cipherAgent t (u.keyReads t op size) w →
      (w.octetsOk t Need.load addr (keyOctets size) = true →
        Answers (.loadPlain acc t v) s (w.keyPersist t h (key false (w.agentOctets t addr (keyOctets size))))) ∧
      (w.octetsOk t Need.load addr (keyOctets size) = false → Answers (.loadPlain acc t v) s (w.keyResult t 6))) ∧
    (op = 2 → ready → size = 0 → bit v 27 = false → bit v 26 = false → bit v 25 = false →
      Has u cipherAgent t (u.keyReads t op size) w → w.octetsOk t Need.load addr 48 = true → ∀ kek, c.kek = some kek →
      Answers (.loadWrapped acc t v) s (((kwUnwrap kek (w.agentOctets t addr 48)).bind keyOfPlain).elim
        (w.keyResult t 10) (fun n => w.keyPersist t h n))) ∧
    (op = 3 → ready →
      (Config.entropyFails s.fresh = true → Answers (.generate acc t v) s (u.tick.2.keyResult t 11)) ∧
      (Config.entropyFails s.fresh = false → Answers (.generate acc t v) s
        (u.tick.2.keyPersist t h (key true (natOct (keyOctets size) (Config.randomBits s.fresh).toNat))))) ∧
    (op = 4 → ready →
      ((u.keySlot t h).loaded = false → Answers (.exportWrapped acc t v) s (u.keyResult t 1)) ∧
      ((u.keySlot t h).loaded = true → (u.keySlot t h).exportOk = false → Answers (.exportWrapped acc t v) s (u.keyResult t 9)) ∧
      ((u.keySlot t h).loaded = true → (u.keySlot t h).exportOk = true → u.octetsOk t Need.store addr 48 = true →
        ∀ kek, c.kek = some kek → Answers (.exportWrapped acc t v) s
          ((u.agentWrOctets cipherAgent t addr (kwWrap kek (keyPlain (u.keySlot t h)))).keyResult t 0))) ∧
    (acc.role = .h → op = 1 → Answers (.loadPlain acc t v) s (s.setCiT t { c with rejectH := true })) ∧
    (acc.role = .u → op = 0 → Answers (.erase acc t v) s s) ∧
    (c.change = none → Answers (.effectPoint t) s s) ∧
    (∀ d, c.change = some d →
      (d.item = none ∨ s.twinServes = false → Answers (.effectPoint t) s ((s.keyEffect t d.handle d.slot).keyResult t 0) ∧
        ((s.keyEffect t d.handle d.slot).keySlot t d.handle).key = d.slot.key) ∧
      (d.item.isSome = true → s.twinServes = true → Answers (.effectPoint t) s s))

/-! ## Tenants and the hand-over between the worlds (chapter 11) -/

/-- Tenant commands by the state of the tenant: created from ABSENT, drained from ACTIVE or STOPPED while no core runs for
it; the drain's end makes it ACTIVE again, and deletes it when that was asked (R359, R360, Table 11.12).
The model's own choices and readings it rests on: assumptions 40 and 41. -/
def Obligations.TenantLife : Prop :=
  ∀ (s : State) (route : Route), wfRoute route = true →
    let t := s.select route 0x1500 1
    let st := (s.tenant t).st
    let idle := (st = .active ∨ st = .stopped) ∧ s.coreRuns t = false
    (MayWrite s route 0x1500 2 1 → s.tn.absent = false → s.tw.enabled = false →
      (st = .absent → Writes (.create route) s (s.create t)) ∧
      (st ≠ .absent → Answers (.create route) s (s.odAnswer 0x0B []))) ∧
    (MayWrite s route 0x1500 2 1 → s.tn.absent = true → s.tw.enabled = false → Answers (.create route) s (s.odAnswer 6 [])) ∧
    (MayWrite s route 0x1500 2 2 → (idle → Writes (.reset route) s (s.drain t false)) ∧
      (¬ idle → Answers (.reset route) s (s.odAnswer 0x0B []))) ∧
    (MayWrite s route 0x1500 2 3 → s.tn.absent = false → (idle → Writes (.delete route) s (s.drain t true)) ∧
      (¬ idle → Answers (.delete route) s (s.odAnswer 0x0B []))) ∧
    (∀ n, n < 512 → ((s.tenant n).st ≠ .draining → s.md.stopping = none → Answers (.drainTimeout n) s s) ∧
      Answers (.drainTimeout n) s ((s.drainEnds n).stopTimeout n)) ∧
    ((s.create t).tenant t).st = .active

/-- The hand-over: a claim of an OPEN block within the loan makes it CLAIMING, a release of a SEALED one RELEASING, and a
move takes a source; the end seals, opens or moves. A gating request acts at once on an OPEN block, is held against a
SEALED one, and revokes it in time. Zenith's kick restarts its watchdog, whose expiry opens the sealed world, and Zenith
restarts by command (R365-R369).
The model's own choices and readings it rests on: assumption 41. -/
def Obligations.WorldsHandOver : Prop :=
  ∀ (s : State) (acc : Accessor) (b src : Nat) (v : Word) (route : Route), b < 107 → src < 8192 →
    let k := s.block b
    let z := wfAccessor acc = true ∧ acc.role = .z ∧ s.tn.absent = false ∧ s.tn.hoBusy = false
    let asked (op target : Nat) : State := { s with tn := { s.tn with hoOp := op, hoTarget := target } }
    let busy (u : State) : State := { u with tn := { u.tn with hoBusy := true } }
    let bus := 72 ≤ b ∧ b < 104 ∧ (s.ch.chans.any fun e => e.2.proc == b - 72) = true
    (z → k.revoked = false →
      (k.st = .opened → s.heldBlocks b < (s.loanOf b).2.2 → ¬ bus →
        Answers (.claim acc b) s (busy ((asked 1 b).setBlock b { k with st := .claiming }))) ∧
      (k.st = .opened → (s.loanOf b).2.2 ≤ s.heldBlocks b → Answers (.claim acc b) s ((asked 1 b).handOverResult 6 false)) ∧
      (k.st = .fenced → Answers (.claim acc b) s ((asked 1 b).handOverResult 4 false)) ∧
      (k.st = .sealed → Answers (.release acc b) s (busy ((asked 2 b).setBlock b { k with st := .releasing }))) ∧
      (k.st = .opened → Answers (.release acc b) s ((asked 2 b).handOverResult 5 false))) ∧
    (z → Answers (.moveSource acc src) s (busy (asked 3 src))) ∧
    (wfAccessor acc = true → acc.role ≠ .z →
      Answers (.claim acc b) s s ∧ Answers (.release acc b) s s ∧ Answers (.moveSource acc src) s s ∧ Answers (.kick acc v) s s) ∧
    (∀ p, s.tn.hoBusy = false → Answers (.handOverComplete p) s s) ∧
    (s.tn.hoBusy = true → s.tn.hoTarget = b → s.blockBusy b = false →
      (s.tn.hoOp = 1 → k.gateHeld = false →
        Answers (.handOverComplete true) s ((s.setBlock b { k with st := .sealed }).handOverResult 0 true)) ∧
      (s.tn.hoOp = 2 → Answers (.handOverComplete true) s
        ((s.setBlock b { k with st := .opened, gated := k.gated || k.gateHeld, gateHeld := false }).handOverResult 0 true)) ∧
      (s.tn.hoOp ≠ 3 → Answers (.handOverComplete false) s (s.fenceBlock b))) ∧
    ((k.st = .opened ∨ k.st = .fenced) → Answers (.gatingRequest b) s (s.setBlock b { k with gated := true })) ∧
    (k.st = .sealed → Answers (.gatingRequest b) s
      (let u := s.setBlock b { k with gateHeld := true }
       { u with tn := { u.tn with notices := u.tn.notices ++ [b] } })) ∧
    (k.st = .sealed → k.gateHeld = true → Answers (.gatingTimeout b) s
      (s.setBlock b { k with st := .opened, gated := true, gateHeld := false, revoked := true })) ∧
    (k.gateHeld = false → Answers (.gatingTimeout b) s s) ∧
    (wfAccessor acc = true → acc.role = .z → s.tn.absent = false → bit v 35 = true →
      Answers (.kick acc v) s { s with tn := { s.tn with wdogKick := s.tm.tod } }) ∧
    (s.tn.absent = false → s.md.st = .run → Answers .zenithWatchdogExpiry s (s.zenithAbsent.report 1234 2)) ∧
    (s.tn.absent = true → Answers .zenithWatchdogExpiry s s) ∧
    (wfRoute route = true → MayWrite s route 0x1500 0x0A 1 →
      (s.tn.absent = false → Answers (.restartZenith route 1 true true) s (s.odAnswer 0x0B [])) ∧
      (s.tn.absent = true → Writes (.restartZenith route 1 true true) s
        (let u := s.setCore 126 Core.init
         { u with tn := { u.tn with absent := false, restarting := false, wdogKick := u.tm.tod, restarts := u.tn.restarts + 1 } })) ∧
      (s.tn.absent = true → Writes (.restartZenith route 1 false true) s (s.report 1230 2)))

/-! ## The interrupt router (chapter 12) -/

/-- Table 12.1: a doorbell makes an INACTIVE source PENDING and an ACTIVE one ACTIVE-PENDING, or is deferred at priority 0;
a claim answers the best qualifying source and makes it ACTIVE at the core's priority, or 8191; a completion by that core
ends it. Priorities, targets and enables are written by the roles of Table 12.6, and a source outside the slice or held by
the sealed world is not reached (R376-R390).
The model's own choices and readings it rests on: assumptions 47 and 55. -/
def Obligations.InterruptRouter : Prop :=
  ∀ (s : State) (acc : Accessor) (o : Owner) (n : Nat) (v : Word), wfAccessor acc = true → wfOwner o = true →
    s.reach acc (ownerKey o) = true →
    let p := ownerKey o
    let x := s.src p n
    let here := n < (s.page p).slice ∧ x.away = false
    let put (y : Src) : State := (s.setSrc p n y).gwaitRule p n
    let may := pageRight p acc.role true true true false = true
    let host := pageRight p acc.role true true false false = true
    (here → x.prio = 0 → Answers (.doorbell o n) s (put { x with defer := true })) ∧
    (here → x.prio ≠ 0 → x.st = .inactive → Answers (.doorbell o n) s (put { x with st := .pending })) ∧
    (here → x.prio ≠ 0 → x.st = .active → Answers (.doorbell o n) s (put { x with st := .activePending })) ∧
    (here → x.prio ≠ 0 → (x.st = .pending ∨ x.st = .activePending) → Answers (.doorbell o n) s (put x)) ∧
    ((s.page p).slice ≤ n → Answers (.doorbell o n) s s) ∧
    (may → fld v 9 0 = n → here → Answers (.irtSend acc o v) s (s.doorbell p n)) ∧
    (may → (s.page p).slice ≤ fld v 9 0 → Answers (.irtSend acc o v) s (s.irtReject p acc.role)) ∧
    (¬ may → Answers (.irtSend acc o v) s s ∧ Answers (.irtSrc acc o n v) s s ∧ Answers (.irtPrio acc o n v) s s) ∧
    (s.ownWindow acc p = true →
      (∀ y, s.best p acc.core = some (n, y) → Answers (.irtClaim acc o) s
        (let u := s.setSrc p n { y with st := .active, acore := acc.core, apri := y.prio }
         { u with sv := { u.sv with regAnswer := BitVec.ofNat 36 n } })) ∧
      (s.best p acc.core = none → Answers (.irtClaim acc o) s { s with sv := { s.sv with regAnswer := 8191 } }) ∧
      (fld v 9 0 = n → n < (s.page p).slice → x.acore = acc.core →
        (x.st = .active → Answers (.irtComplete acc o v) s (s.setSrc p n { x with st := .inactive }).gwaitAll) ∧
        (x.st = .activePending → Answers (.irtComplete acc o v) s (s.setSrc p n { x with st := .pending }).gwaitAll) ∧
        (x.st = .inactive → Answers (.irtComplete acc o v) s (s.irtReject p acc.role)))) ∧
    (s.ownWindow acc p = false → Answers (.irtComplete acc o v) s s ∧
      Answers (.irtClaim acc o) s { s with sv := { s.sv with regAnswer := 0 } }) ∧
    (here → may →
      (bit v 35 = true → x.st = .inactive → Answers (.irtSrc acc o n v) s (put { x with st := .pending, enable := bit v 34 })) ∧
      (bit v 35 = false → x.st = .pending → Answers (.irtSrc acc o n v) s (put { x with st := .inactive, enable := bit v 34 })) ∧
      (x.defer = false → Answers (.irtPrio acc o n v) s (put { x with prio := fld v 5 0 })) ∧
      (x.defer = true → fld v 5 0 ≠ 0 → x.st = .inactive → Answers (.irtPrio acc o n v) s
        (put { x with st := .pending, defer := false, prio := fld v 5 0 }))) ∧
    (host → here → tgtOk p (fld v 6 0) = true → Answers (.irtTgt acc o (some n) v) s (put { x with tgt := fld v 6 0 })) ∧
    (host → here → tgtOk p (fld v 6 0) = false → Answers (.irtTgt acc o (some n) v) s (s.irtReject p acc.role)) ∧
    (host → tgtOk p (fld v 6 0) = false → Answers (.irtTgt acc o none v) s (s.irtReject p acc.role)) ∧
    (host → tgtOk p (fld v 6 0) = true → (s.page p).srcs = [] →
      Answers (.irtTgt acc o none v) s (s.setPage p { s.page p with dflt := fld v 6 0 })) ∧
    (¬ host → Answers (.irtTgt acc o (some n) v) s s ∧ Answers (.irtTgt acc o none v) s s)

/-! ## Service (chapter 14) -/

/-- The service protocol: a public read of this module answers up to 1,024 octets; an OPEN takes a free session and sends a
nonce; a request is accepted under its session's key and a rising counter, executed once, and answered under the next
counter; a bad TAG is counted and the third ends the session; a close and idleness end it (R432-R436).
The model's own choices and readings it rests on: assumptions 5 and 51. -/
def Obligations.ServiceProtocol : Prop :=
  ∀ (s : State) (at_ : SspTo) (index sub offset role reason id n : Nat) (nonce : BitVec 256) (q : SspRequest)
    (x : Session) (auth : Bool),
    let value := s.now.2.publicValue index sub s.now.1
    let reply (u : State) (abort : Nat) (body : List Octet) : State :=
      { u with out := u.out ++ [.ssp at_.segB u.sv.serial 2 0 0 abort body] }
    let discarded := { s with sv := { s.sv with discarded := s.sv.discarded + 1 } }
    let served := s.md.st ≠ .off ∧ (s.md.st = .standby ∨ s.tn.absent = false)
    let mine := q.to_.serial = s.sv.serial
    (s.md.st = .off ∨ at_.serial ≠ s.sv.serial → Answers (.publicRead at_ index sub offset) s s) ∧
    (s.md.st ≠ .off → at_.serial = s.sv.serial →
      (s.odGate .anyone index sub false true 0 = 0 → Answers (.publicRead at_ index sub offset) s
        (reply s.now.2 0 (replyBody 0 0 offset value.length (pieceOf value offset)))) ∧
      (s.odGate .anyone index sub false true 0 ≠ 0 → Answers (.publicRead at_ index sub offset) s
        (reply s (s.odGate .anyone index sub false true 0)
          (replyBody 0 (s.odGate .anyone index sub false true 0) offset 0 [])))) ∧
    (at_.serial ≠ s.sv.serial → Answers (.sspOpen at_ role nonce) s s) ∧
    (served → at_.serial = s.sv.serial → 1 ≤ role → role ≤ 3 →
      let u := s.now.2
      (8 ≤ s.sv.sessions.length → Answers (.sspOpen at_ role nonce) s s) ∧
      (s.sv.sessions.length < 8 → 10 ≤ u.recentOpens at_.segB s.now.1 → Answers (.sspOpen at_ role nonce) s u) ∧
      (s.sv.sessions.length < 8 → u.recentOpens at_.segB s.now.1 < 10 →
        let own := natOct 32 (Config.randomBits u.fresh).toNat
        Answers (.sspOpen at_ role nonce) s
          (let y : Session := { id := s.sv.nextSession, segB := at_.segB, role := role, hasKey := s.openKnown role,
                                rxCounter := 0, txCounter := 1, lastTag := none, lastReply := (0, []), badTags := 0,
                                piece := none }
           { u with fresh := u.fresh + 1, out := u.out ++ [.ssp at_.segB u.sv.serial 4 u.sv.nextSession 1 0 own],
                    sv := { u.sv with sessions := u.sv.sessions ++ [y], nextSession := u.sv.nextSession + 1,
                                      opens := ((at_.segB, s.now.1) :: u.sv.opens).take 20 } }))) ∧
    (served → ¬ mine → Answers (.requestRead q) s s ∧ Answers (.requestWrite q) s s) ∧
    (served → mine → s.session q.session = none → Answers (.requestRead q) s discarded ∧ Answers (.requestWrite q) s discarded) ∧
    (served → mine → s.session q.session = some x →
      (x.hasKey = true → q.authentic = true → q.counter ≤ x.rxCounter →
        Answers (.requestRead q) s discarded ∧ Answers (.requestWrite q) s discarded) ∧
      (q.authentic = false → x.badTags < 2 →
        Answers (.requestRead q) s (s.setSession { x with badTags := x.badTags + 1 }).countDiscarded ∧
        Answers (.requestWrite q) s (s.setSession { x with badTags := x.badTags + 1 }).countDiscarded) ∧
      (q.authentic = false → 2 ≤ x.badTags → Answers (.requestRead q) s
        ((s.setSession { x with badTags := x.badTags + 1 }).countDiscarded.endSession { x with badTags := x.badTags + 1 }
          (some 4))) ∧
      (x.hasKey = true → q.authentic = true → x.rxCounter < q.counter → q.counter < 2 ^ 64 →
        let y := { x with rxCounter := q.counter, badTags := 0, segB := q.to_.segB }
        let u := s.setSession y
        (x.lastTag = some q.reqTag → Answers (.requestRead q) s (u.respond y q.reqTag x.lastReply.1 x.lastReply.2) ∧
          Answers (.requestWrite q) s (u.respond y q.reqTag x.lastReply.1 x.lastReply.2)) ∧
        (x.lastTag ≠ some q.reqTag →
          (let w := u.odRead (.session y.id) q.index q.sub
           (w.sv.answerAbort = 0 → Answers (.requestRead q) s (w.respond y q.reqTag 0
             (replyBody q.reqTag 0 q.offset w.sv.answer.length (pieceOf w.sv.answer q.offset)))) ∧
           (w.sv.answerAbort ≠ 0 → Answers (.requestRead q) s (w.respond y q.reqTag w.sv.answerAbort
             (replyBody q.reqTag w.sv.answerAbort q.offset 0 [])))) ∧
          (∀ ty, (objRights ((u.routeRole (.session y.id)).getD .anyone) q.index q.sub).1 = some ty → ty.pieces = false →
            u.odGate ((u.routeRole (.session y.id)).getD .anyone) q.index q.sub true true 1 = 0 →
            q.value.length ≤ 1024 → q.offset = 0 → q.last = true →
            let z := { y with piece := none }
            let w := (u.setSession z).odWrite (.session y.id) q.index q.sub q.value
            w.sv.answerAbort = 0 →
            Answers (.requestWrite q) s
              (w.respond z q.reqTag 0 (replyBody q.reqTag 0 q.offset q.value.length [])))))) ∧
    (s.session id = none → Answers (.sspClose id reason auth n) s discarded ∧ Answers (.sessionIdle id) s s) ∧
    (s.session id = some x →
      (auth = true → x.hasKey = true → x.rxCounter < n → Answers (.sspClose id reason auth n) s (s.endSession x none)) ∧
      (auth = false → Answers (.sspClose id reason auth n) s discarded) ∧
      Answers (.sessionIdle id) s (s.endSession x (some 3)))

/-- Writes of objects and registers: a select object is kept per route; an object without a command of its own takes the
value, and is persisted unless it is volatile; a role without the right is answered with abort 02h, and one that does not
see the object 01h; a credential replaces the role's and ends its sessions; and the register pages of SV are written by
their roles (R423-R429, R433, R474, R476).
The model's own choices and readings it rests on: assumptions 43, 44, 45, 46 and 47. -/
def Obligations.ObjectsAndRegisters : Prop :=
  (∀ (s : State) (route : Route) (sub : Nat) (l : List Octet), wfRoute route = true → 4 ≤ sub → sub ≤ 6 →
    (MayWriteOctets s route 0x0300 sub l → Writes (.credential route sub l) s (s.setCredential (sub - 3) l)) ∧
    (s.routeRole route = none → Answers (.credential route sub l) s (s.odAnswer 1 []))) ∧
  (∀ (s : State) (route : Route) (l : List Octet), wfRoute route = true →
    let v := octNat l
    (MayWriteOctets s route 0x1A00 1 l → l.length = 1 → v ≤ 1 →
      Writes (.objectWrite route 0x1A00 1 l) s { s with sv := { s.sv with identify := v == 1 } }) ∧
    (MayWriteOctets s route 0x1000 0x0A l → l.length = 1 → v ≤ 1 →
      Writes (.objectWrite route 0x1000 0x0A l) s { s with md := { s.md with startPermit := v == 1 } }) ∧
    (MayWriteOctets s route 0x1500 1 l → l.length = 2 → v < 512 → Writes (.objectWrite route 0x1500 1 l) s
      { s with sv := { s.sv with selects := tput s.sv.selects 0 (s.selectKey route 0x1500 1) v } }) ∧
    (s.routeRole route = none → ∀ index sub, index ≠ 0x1500 → index ≠ 0x1800 →
      Answers (.objectWrite route index sub l) s (s.odAnswer 1 []))) ∧
  (∀ (s : State) (acc : Accessor) (addr : Nat) (v : Word), wfAccessor acc = true → addr < 2 ^ 48 →
    let off := addr % 4096
    let k := s.core acc.core
    (s.ctlReach acc addr = false → Answers (.registerWrite acc addr v) s s) ∧
    (s.ctlReach acc addr = true → ctlPage addr = .outside → Answers (.registerWrite acc addr v) s s) ∧
    (s.ctlReach acc addr = true → ctlPage addr = .modulePage 6 → zhg.contains acc.role = true →
      (off = 1 → Answers (.registerWrite acc addr v) s (s.setCore acc.core { k with s1rootHi := fld v 11 0 })) ∧
      (off = 2 → Answers (.registerWrite acc addr v) s (s.setCore acc.core { k with s1root := baseOf k.s1rootHi v 1024 })) ∧
      (off = 4 → Answers (.registerWrite acc addr v) s (s.setCore acc.core { k with vec2 := baseOf k.vec2Hi v 16 }))) ∧
    (ctlPage addr = .modulePage 6 → acc.role = .h →
      (off = 0o27 → Answers (.registerWrite acc addr v) s { s with tn := { s.tn with h1rootHi := fld v 11 0 } }) ∧
      (off = 0o32 → Answers (.registerWrite acc addr v) s { s with tn := { s.tn with vec1 := baseOf s.tn.vec1Hi v 16 } }) ∧
      (off = 0o23 → Answers (.registerWrite acc addr v) s s)) ∧
    (ctlPage addr = .modulePage 6 → acc.role = .z → off = 0o26 →
      Answers (.registerWrite acc addr v) s { s with tn := { s.tn with vec0 := baseOf s.tn.vec0Hi v 16 } }))

/-- The panel and the medium: the key switch ends Service sessions when it leaves SERVICE, and injection and staging at
LOCKED, which both contacts low are taken for and reported; REQUEST
by how long it was held; IDENTIFY toggles; a card change; an enrollment installs the owner's credential (R438-R445).
The model's own choices and readings it rests on: assumption 52. -/
def Obligations.PanelAndMedium : Prop :=
  ∀ (s : State) (m : MediumContents) (ms n : Nat) (l cred : List Octet),
    let at_ (k : KeyPos) : State := { s with sv := { s.sv with key := k } }
    let may := s.sv.key = .service ∧ s.ownerLocked = false ∧ s.sv.mediumEnable = true ∧
      (s.md.st = .run ∨ s.md.st = .safe ∨ s.md.st = .halted ∨ s.md.st = .extracting)
    let locked :=
      let t := (at_ .locked).endSessions (fun x => x.role == 3) (some 5)
      ({ t with fc := { t.fc with injection := 0 } }).abandonStaging
    Answers (.keySwitch (.at_ .service)) s (at_ .service) ∧
    Answers (.keySwitch (.at_ .run)) s ((at_ .run).endSessions (fun x => x.role == 3) (some 5)) ∧
    (s.fc.srcs = [] → Answers (.keySwitch (.at_ .locked)) s locked ∧
      Answers (.keySwitch .bothLow) s (locked.report 1229 2)) ∧
    (ms < 2000 → Answers (.requestPress ms m) s { s with fc := { s.fc with lightContained := false } }) ∧
    (2000 ≤ ms → ms < 3000 → Answers (.requestPress ms m) s s) ∧
    (¬ may → (3000 ≤ ms → Answers (.requestPress ms m) s s) ∧ Answers (.mediumAction m) s s) ∧
    (may → s.sv.medium = 2 → m.usable = true → m.enrollment = some l →
      (3000 ≤ ms → Answers (.requestPress ms m) s (s.enroll l)) ∧ Answers (.mediumAction m) s (s.enroll l)) ∧
    (may → m.enrollment = none → s.updateRefused = 0 →
      (3000 ≤ ms → Answers (.requestPress ms m) s (s.stage m)) ∧ Answers (.mediumAction m) s (s.stage m)) ∧
    (may → m.enrollment = none → s.updateRefused ≠ 0 → Answers (.mediumAction m) s (s.logEvent 1229)) ∧
    ((noCredential s.sv.credOwner = true ∨ s.sv.reenroll = true) → s.enrollment l = some cred →
      s.enroll l = ({ s with sv := { s.sv with reenroll := false } }).setCredential 1 cred) ∧
    (noCredential s.sv.credOwner = false → s.sv.reenroll = false → s.enroll l = s.logEvent 1229) ∧
    (s.md.st ≠ .off → Answers .identifyPress s { s with sv := { s.sv with identify := !s.sv.identify } }) ∧
    (s.md.st = .off → Answers .identifyPress s s) ∧
    Answers (.mediumChange 2) s { s with sv := { s.sv with medium := 2 } } ∧
    (n < 2 → Answers (.mediumChange n) s ({ s with sv := { s.sv with medium := n } }).abandonStaging)

/-- Firmware and the customer image: staging checks an image's file and then reads it block by block into the bank that is
not active, which a failing check leaves INVALID with its status; an activation verified again selects the bank, live at
once with its patch set unless the loader refuses it; the security version only rises; staging is abandoned; the staged
customer image is loaded, or the region emptied (R186, R190, R194, R449-R453).
The model's own choices and readings it rests on: assumptions 8, 12, 50 and 54. -/
def Obligations.Firmware : Prop :=
  ∀ (s : State) (route : Route) (m : MediumContents) (f : ImageFile), wfRoute route = true →
    let b := s.sv.inactive
    let z := { s with sv := { s.sv with blocksStaged := 0 } }
    let file := f.complete = true ∧ f.formatOk = true ∧ f.keysOk = true
    let cmd (n : Nat) : Prop := MayWrite s route 0x1800 0x0A n
    let block := s.sv.blocksStaged
    let read := { s with sv := { s.sv with blocksStaged := min (block + 1) f.nblocks } }
    let ended (u : State) : State := { u with sv := { u.sv with staging := none } }
    (cmd 1 → s.updateRefused = 0 → Writes (.stage route m) s (s.stage m)) ∧
    (cmd 1 → s.updateRefused ≠ 0 → Answers (.stage route m) s (s.odAnswer s.updateRefused [])) ∧
    (s.sv.medium ≠ 2 ∨ m.usable = false → s.stage m = z.stageFails 8 b) ∧
    (s.sv.medium = 2 → m.usable = true → m.image = none → s.stage m = z.stageFails 9 b) ∧
    (s.sv.medium = 2 → m.usable = true → m.image = some f →
      (f.complete = false → s.stage m = z.stageFails 9 b) ∧
      (f.complete = true → f.formatOk = false → s.stage m = z.stageFails 3 b) ∧
      (f.complete = true → f.formatOk = true → f.keysOk = false → s.stage m = z.stageFails 4 b) ∧
      (file → f.signaturesOk = false → s.stage m = z.stageFails 5 b) ∧
      (file → f.signaturesOk = true → f.secver < s.sv.fusedSecver → s.stage m = z.stageFails 6 b) ∧
      (file → f.signaturesOk = true → s.sv.fusedSecver ≤ f.secver → s.stage m =
        (({ z with sv := { z.sv with staging := some f } }).setInactive { b with st := .staging }).updateStatus 2)) ∧
    (s.sv.staging = none → s.stageBlock = s) ∧
    (s.sv.staging = some f →
      (f.badBlock = some block → block < f.nblocks → s.stageBlock = (ended s).stageFails 7 (imageBank f .invalid)) ∧
      (f.badBlock ≠ some block → block + 1 < f.nblocks → s.stageBlock = read) ∧
      (f.badBlock ≠ some block → f.nblocks ≤ block + 1 →
        s.stageBlock = ((ended read).setInactive (imageBank f .staged)).updateStatus 0x0A)) ∧
    (cmd 2 → s.updateRefused = 0 → b.st = .staged → Writes (.activateAtDawn route true) s
      { s with sv := { s.sv with selectedB := !s.sv.activeB, updateStatus := 1 } }) ∧
    (cmd 2 → s.updateRefused = 0 → b.st ≠ .staged → Answers (.activateAtDawn route true) s (s.odAnswer 8 [])) ∧
    (cmd 3 → s.updateRefused = 0 → b.st = .staged →
      Writes (.activateLive route true true) s (s.activate true true) ∧
      (s.activate true true).sv.activeB = !s.sv.activeB ∧ (s.activate true true).sv.active = { b with st := .active } ∧
      (patchRefused b.patch b.matches_ = true → (s.activate true true).sp = s.sp) ∧
      (patchRefused b.patch b.matches_ = false → (s.activate true true).sp = { s.sp with
        patchVersion := b.patchVersion, patch := b.patch, matches_ := b.matches_, fallBack := b.fallBack }) ∧
      Answers (.activateLive route true false) s (s.odAnswer 8 [])) ∧
    (cmd 4 → s.sv.fusedSecver < s.sv.active.secver → Writes (.commitSecurityVersion route) s
      { s with sv := { s.sv with fusedSecver := s.sv.active.secver } }) ∧
    (cmd 4 → s.sv.active.secver ≤ s.sv.fusedSecver → Answers (.commitSecurityVersion route) s (s.odAnswer 8 [])) ∧
    (cmd 5 → Writes (.abandonStaging route) s s.abandonStaging) ∧
    (s.sv.staging = some f → s.abandonStaging = (ended s).stageFails 0x0B b) ∧
    (MayWrite s route 0x1902 4 1 → s.tn.absent = false → Writes (.loadStagedImage route) s s.loadImage) ∧
    (MayWrite s route 0x1902 4 1 → s.tn.absent = true → Answers (.loadStagedImage route) s (s.odAnswer 6 [])) ∧
    (parseImage s.sp.staged = none → s.loadImage = { s with sp := { s.sp with loadStatus := 3 } }) ∧
    (MayWrite s route 0x1902 4 2 → Writes (.unload route) s (({ s with sp := { s.sp with
      loadStatus := 0, custEntries := [], custOps := [], custVersion := 0 } }).persist 0x1902 4))
end

