-- ==== Sys2Proof/Laws/Table.lean ====
section
/-! SUPPORT. Tables: a key reads as it was last set, every other key is unchanged, and setting keeps the canonical form. -/

namespace Sys2Proof.Machine

variable {α : Type}

@[simp] theorem tget_nil (d : α) (k : Nat) : tget [] d k = d := rfl

theorem tget_tdel_same (t : Tab α) (d : α) (k : Nat) : tget (tdel t k) d k = d := by
  induction t with
  | nil => rfl
  | cons e r ih => simp only [tdel]; split <;> simp_all [tget]

theorem tget_tdel_ne (t : Tab α) (d : α) {k j : Nat} (h : j ≠ k) : tget (tdel t k) d j = tget t d j := by
  induction t with
  | nil => rfl
  | cons e r ih =>
    simp only [tdel]
    split
    · rename_i hk
      simp only [ih, tget]
      rw [if_neg (by omega)]
    · simp only [tget, ih]

theorem tget_tins_ne (t : Tab α) (d : α) (v : α) {k j : Nat} (h : j ≠ k) : tget (tins t k v) d j = tget t d j := by
  induction t with
  | nil => simp [tins, tget, Ne.symm h]
  | cons e r ih =>
    simp only [tins]
    split
    · simp [tget, Ne.symm h]
    · simp only [tget, ih]

theorem tget_tins_same (t : Tab α) (d : α) (k : Nat) (v : α) (h : ∀ e ∈ t, e.1 ≠ k) : tget (tins t k v) d k = v := by
  induction t with
  | nil => simp [tins, tget]
  | cons e r ih =>
    simp only [tins]
    split
    · simp [tget]
    · simp [tget, h e (by simp), ih (fun x hx => h x (by simp [hx]))]

theorem tdel_keys (t : Tab α) (k : Nat) : ∀ e ∈ tdel t k, e ∈ t ∧ e.1 ≠ k := by
  induction t with
  | nil => simp [tdel]
  | cons e r ih =>
    intro x hx
    simp only [tdel] at hx
    split at hx
    · exact ⟨List.mem_cons_of_mem _ (ih x hx).1, (ih x hx).2⟩
    · rcases List.mem_cons.1 hx with rfl | hx
      · exact ⟨by simp, by assumption⟩
      · exact ⟨List.mem_cons_of_mem _ (ih x hx).1, (ih x hx).2⟩

variable [DecidableEq α]

@[simp] theorem tget_tput_same (t : Tab α) (d : α) (k : Nat) (v : α) : tget (tput t d k v) d k = v := by
  unfold tput
  split
  · rename_i h; rw [h, tget_tdel_same]
  · exact tget_tins_same _ _ _ _ (fun e he => (tdel_keys t k e he).2)

theorem tget_tput_ne (t : Tab α) (d d' : α) (v : α) {k j : Nat} (h : j ≠ k) :
    tget (tput t d k v) d' j = tget t d' j := by
  unfold tput
  split
  · exact tget_tdel_ne t d' h
  · rw [tget_tins_ne _ _ _ h, tget_tdel_ne t d' h]

theorem tget_tput (t : Tab α) (d : α) (v : α) (k j : Nat) : tget (tput t d k v) d j = if j = k then v else tget t d j := by
  split
  · rename_i h; rw [h, tget_tput_same]
  · rename_i h; exact tget_tput_ne t d d v h

/-! ## Canonical form, for a default that may depend on the key -/

/-- Keys rise from `lo` on, and no entry equals its key's default. -/
def Rising (d : Nat → α) : Nat → Tab α → Prop
  | _, [] => True
  | lo, (k, v) :: r => lo ≤ k ∧ v ≠ d k ∧ Rising d (k + 1) r

omit [DecidableEq α] in
theorem Rising.mono {d : Nat → α} {lo lo' : Nat} {t : Tab α} (h : Rising d lo t) (hl : lo' ≤ lo) : Rising d lo' t := by
  cases t with
  | nil => trivial
  | cons e r => exact ⟨Nat.le_trans hl h.1, h.2⟩

omit [DecidableEq α] in
theorem Rising.tdel {d : Nat → α} {lo : Nat} {t : Tab α} (h : Rising d lo t) (k : Nat) : Rising d lo (tdel t k) := by
  induction t generalizing lo with
  | nil => trivial
  | cons e r ih =>
    obtain ⟨h1, h2, h3⟩ := h
    simp only [Machine.tdel]
    split
    · exact (ih h3).mono (by omega)
    · exact ⟨h1, h2, ih h3⟩

omit [DecidableEq α] in
theorem Rising.tins {d : Nat → α} {lo : Nat} {t : Tab α} (h : Rising d lo t) {k : Nat} {v : α} (hk : lo ≤ k) (hv : v ≠ d k)
    (hn : ∀ e ∈ t, e.1 ≠ k) : Rising d lo (tins t k v) := by
  induction t generalizing lo with
  | nil => exact ⟨hk, hv, trivial⟩
  | cons e r ih =>
    obtain ⟨h1, h2, h3⟩ := h
    have hne : e.1 ≠ k := hn e (by simp)
    simp only [Machine.tins]
    split
    · exact ⟨hk, hv, by omega, h2, h3⟩
    · exact ⟨h1, h2, ih h3 (by omega) (fun x hx => hn x (by simp [hx]))⟩

theorem Rising.tput {d : Nat → α} {lo : Nat} {t : Tab α} (h : Rising d lo t) {k : Nat} (v : α) (hk : lo ≤ k) :
    Rising d lo (tput t (d k) k v) := by
  unfold Machine.tput
  split
  · exact h.tdel k
  · exact (h.tdel k).tins hk (by assumption) (fun e he => (tdel_keys t k e he).2)

omit [DecidableEq α] in
theorem Rising.filter {d : Nat → α} {lo : Nat} {t : Tab α} (h : Rising d lo t) (p : Nat × α → Bool) :
    Rising d lo (t.filter p) := by
  induction t generalizing lo with
  | nil => trivial
  | cons e r ih =>
    obtain ⟨h1, h2, h3⟩ := h
    simp only [List.filter]
    split
    · exact ⟨h1, h2, ih h3⟩
    · exact (ih h3).mono (by omega)

theorem rising_of_twf {d : α} {t : Tab α} : twf d t = true ↔ Rising (fun _ => d) 0 t := by
  have key : ∀ (t : Tab α) (k : Nat) (v : α), twf d ((k, v) :: t) = true ↔ v ≠ d ∧ Rising (fun _ => d) (k + 1) t := by
    intro t
    induction t with
    | nil => intro k v; simp [twf, Rising]
    | cons e r ih =>
      intro k v
      obtain ⟨k', v'⟩ := e
      have := ih k' v'
      simp only [twf, Bool.and_eq_true, decide_eq_true_eq, Rising] at this ⊢
      rw [this]
      constructor
      · rintro ⟨⟨h1, h2⟩, h3, h4⟩; exact ⟨h1, h2, h3, h4⟩
      · rintro ⟨h1, h2, h3, h4⟩; exact ⟨⟨h1, h2⟩, h3, h4⟩
  cases t with
  | nil => simp [twf, Rising]
  | cons e r => obtain ⟨k, v⟩ := e; rw [key]; simp [Rising]

theorem twf_tput {d : α} {t : Tab α} (h : twf d t = true) (k : Nat) (v : α) : twf d (tput t d k v) = true :=
  rising_of_twf.2 ((rising_of_twf.1 h).tput (d := fun _ => d) v (Nat.zero_le k))

theorem twf_filter {d : α} {t : Tab α} (h : twf d t = true) (p : Nat × α → Bool) : twf d (t.filter p) = true :=
  rising_of_twf.2 ((rising_of_twf.1 h).filter p)

omit [DecidableEq α] in
theorem tget_filter {t : Tab α} {d : α} {p : Nat × α → Bool} {k : Nat} (h : ∀ v, p (k, v) = true) :
    tget (t.filter p) d k = tget t d k := by
  induction t with
  | nil => rfl
  | cons e r ih =>
    obtain ⟨k', v'⟩ := e
    simp only [List.filter]
    split
    · simp only [tget, ih]
    · rename_i hp
      simp only [ih, tget]
      split
      · rename_i hk; subst hk; rw [h v'] at hp; cases hp
      · rfl

end Sys2Proof.Machine
end

