-- ==== Sys2Proof/Laws/Memory.lean ====
section
/-! SUPPORT. Memory: a word reads as it was last written, and every operation on memory keeps its canonical form. -/

namespace Sys2Proof.Machine

theorem rising_of_tagsWf {t : Tab (BitVec 16)} : tagsWf t = true ↔ Rising dawnTag 0 t := by
  have key : ∀ (t : Tab (BitVec 16)) (k : Nat) (v : BitVec 16),
      tagsWf ((k, v) :: t) = true ↔ v ≠ dawnTag k ∧ Rising dawnTag (k + 1) t := by
    intro t
    induction t with
    | nil => intro k v; simp [tagsWf, Rising]
    | cons e r ih =>
      intro k v
      obtain ⟨k', v'⟩ := e
      have := ih k' v'
      simp only [tagsWf, Bool.and_eq_true, decide_eq_true_eq, Rising] at this ⊢
      rw [this]
      constructor
      · rintro ⟨⟨h1, h2⟩, h3, h4⟩; exact ⟨h1, h2, h3, h4⟩
      · rintro ⟨h1, h2, h3, h4⟩; exact ⟨⟨h1, h2⟩, h3, h4⟩
  cases t with
  | nil => simp [tagsWf, Rising]
  | cons e r => obtain ⟨k, v⟩ := e; rw [key]; simp [Rising]

theorem Mem.wf_iff (m : Mem) : m.wf = true ↔ twf 0 m.words = true ∧ tagsWf m.tags = true ∧ twf false m.poison = true := by
  simp [Mem.wf, and_assoc]

/-! ## One word -/

@[simp] theorem State.rd_wr (s : State) (a b : Nat) (w : Word) : (s.wr a w).rd b = if b = a then w else s.rd b := tget_tput ..

@[simp] theorem State.tag_wr (s : State) (a b : Nat) (w : Word) : (s.wr a w).tag b = s.tag b := rfl

@[simp] theorem State.poisoned_wr (s : State) (a b : Nat) (w : Word) : (s.wr a w).poisoned b = s.poisoned b := rfl

theorem State.wr_wf {s : State} (h : s.mem.wf = true) (a : Nat) (w : Word) : (s.wr a w).mem.wf = true := by
  rw [Mem.wf_iff] at *
  exact ⟨twf_tput h.1 a w, h.2⟩

theorem State.rd_wrMask (s : State) (a b : Nat) (w m : Word) :
    (s.wrMask a w m).rd b = if b = a then (s.rd a &&& ~~~m) ||| (w &&& m) else s.rd b := State.rd_wr ..

theorem State.wrMask_wf {s : State} (h : s.mem.wf = true) (a : Nat) (w m : Word) : (s.wrMask a w m).mem.wf = true :=
  State.wr_wf h a _

theorem State.wrWords_wf {s : State} (h : s.mem.wf = true) (a : Nat) (ws : List Word) : (s.wrWords a ws).mem.wf = true := by
  induction ws generalizing s a with
  | nil => exact h
  | cons w r ih => exact ih (State.wr_wf h a w) (a + 1)

theorem State.rd_wrWords (s : State) (a b : Nat) (ws : List Word) :
    (s.wrWords a ws).rd b = if a ≤ b ∧ b < a + ws.length then wordAt ws (b - a) else s.rd b := by
  induction ws generalizing s a with
  | nil => simp [State.wrWords]
  | cons w r ih =>
    simp only [State.wrWords, ih, State.rd_wr, List.length_cons]
    by_cases h1 : b = a
    · subst h1; rw [if_neg (by omega), if_pos rfl, if_pos (by omega)]; simp [wordAt]
    · by_cases h2 : a ≤ b ∧ b < a + (r.length + 1)
      · rw [if_pos (by omega), if_pos h2]
        obtain ⟨n, hn⟩ : ∃ n, b - a = n + 1 := ⟨b - a - 1, by omega⟩
        have : b - (a + 1) = n := by omega
        simp [wordAt, hn, this]
      · rw [if_neg (by omega), if_neg h1, if_neg h2]

/-! ## Tags, poison, lines -/

theorem State.tag_setTag (s : State) (page : Nat) (t : BitVec 16) (a : Nat) :
    (s.setTag page t).tag a = if a / 4096 = page then t else s.tag a := by
  unfold State.tag State.setTag
  split
  · rename_i h; rw [h]; exact tget_tput_same ..
  · rename_i h; exact tget_tput_ne _ _ _ _ h

theorem State.setTag_wf {s : State} (h : s.mem.wf = true) (page : Nat) (t : BitVec 16) : (s.setTag page t).mem.wf = true := by
  rw [Mem.wf_iff] at *
  exact ⟨h.1, rising_of_tagsWf.2 ((rising_of_tagsWf.1 h.2.1).tput (d := dawnTag) t (Nat.zero_le page)), h.2.2⟩

@[simp] theorem State.poisoned_setPoison (s : State) (l k : Nat) (b : Bool) :
    (s.setPoison l b).poisoned k = if k = l then b else s.poisoned k := tget_tput ..

@[simp] theorem State.rd_setPoison (s : State) (l a : Nat) (b : Bool) : (s.setPoison l b).rd a = s.rd a := rfl

theorem State.setPoison_wf {s : State} (h : s.mem.wf = true) (l : Nat) (b : Bool) : (s.setPoison l b).mem.wf = true := by
  rw [Mem.wf_iff] at *
  exact ⟨h.1, h.2.1, twf_tput h.2.2 l b⟩

theorem State.zeroPage_wf {s : State} (h : s.mem.wf = true) (page : Nat) : (s.zeroPage page).mem.wf = true := by
  rw [Mem.wf_iff] at *
  exact ⟨twf_filter h.1 _, h.2.1, twf_filter h.2.2 _⟩

theorem State.wrLine_wf {s : State} (h : s.mem.wf = true) (l : Nat) (ws : List Word) : (s.wrLine l ws).mem.wf = true :=
  State.setPoison_wf (State.wrWords_wf h _ _) l false

theorem State.masks_wf {s : State} (h : s.mem.wf = true) (l : Nat) (ws m : List Word) (n : List Nat) :
    (n.foldl (fun s i => s.wrMask (l * 16 + i) (wordAt ws i) (wordAt m i)) s).mem.wf = true := by
  induction n generalizing s with
  | nil => exact h
  | cons i r ih => exact ih (State.wrMask_wf h _ _ _)

theorem State.wrLineMask_wf {s : State} (h : s.mem.wf = true) (l : Nat) (ws m : List Word) :
    (s.wrLineMask l ws m).mem.wf = true := by
  unfold State.wrLineMask
  split
  · exact State.setPoison_wf (State.masks_wf h l ws m _) l false
  · exact State.masks_wf h l ws m _

end Sys2Proof.Machine
end

