-- ==== Sys2Proof/Laws/State.lean ====
section
/-! SUPPORT. What each update of the state leaves alone, field by field, and what it sets. -/

namespace Sys2Proof.Machine

@[simp] theorem State.withQueue_fresh (s : State) (t : State) : (s.withQueue t).fresh = s.fresh := rfl
@[simp] theorem State.withQueue_out (s : State) (t : State) : (s.withQueue t).out = s.out := rfl
@[simp] theorem State.withQueue_md (s : State) (t : State) : (s.withQueue t).md = s.md := rfl
@[simp] theorem State.withQueue_es (s : State) (t : State) : (s.withQueue t).es = s.es := rfl
@[simp] theorem State.withQueue_tm (s : State) (t : State) : (s.withQueue t).tm = s.tm := rfl
@[simp] theorem State.withQueue_mem (s : State) (t : State) : (s.withQueue t).mem = s.mem := rfl
@[simp] theorem State.withQueue_cores (s : State) (t : State) : (s.withQueue t).cores = s.cores := rfl
@[simp] theorem State.withQueue_tc (s : State) (t : State) : (s.withQueue t).tc = s.tc := rfl
@[simp] theorem State.withQueue_cc (s : State) (t : State) : (s.withQueue t).cc = s.cc := rfl
@[simp] theorem State.withQueue_dy (s : State) (t : State) : (s.withQueue t).dy = s.dy := rfl
@[simp] theorem State.withQueue_sp (s : State) (t : State) : (s.withQueue t).sp = s.sp := rfl
@[simp] theorem State.withQueue_ch (s : State) (t : State) : (s.withQueue t).ch = s.ch := rfl
@[simp] theorem State.withQueue_jn (s : State) (t : State) : (s.withQueue t).jn = s.jn := rfl
@[simp] theorem State.withQueue_cx (s : State) (t : State) : (s.withQueue t).cx = s.cx := rfl
@[simp] theorem State.withQueue_ci (s : State) (t : State) : (s.withQueue t).ci = s.ci := rfl
@[simp] theorem State.withQueue_tn (s : State) (t : State) : (s.withQueue t).tn = s.tn := rfl
@[simp] theorem State.withQueue_ir (s : State) (t : State) : (s.withQueue t).ir = s.ir := rfl
@[simp] theorem State.withQueue_fc (s : State) (t : State) : (s.withQueue t).fc = s.fc := rfl
@[simp] theorem State.withQueue_tw (s : State) (t : State) : (s.withQueue t).tw = s.tw := rfl
@[simp] theorem State.withQueue_sv (s : State) (t : State) : (s.withQueue t).sv = s.sv := rfl

@[simp] theorem State.setCore_pending (s : State) (c : Nat) (v : Core) : (s.setCore c v).pending = s.pending := rfl
@[simp] theorem State.setCore_fresh (s : State) (c : Nat) (v : Core) : (s.setCore c v).fresh = s.fresh := rfl
@[simp] theorem State.setCore_out (s : State) (c : Nat) (v : Core) : (s.setCore c v).out = s.out := rfl
@[simp] theorem State.setCore_md (s : State) (c : Nat) (v : Core) : (s.setCore c v).md = s.md := rfl
@[simp] theorem State.setCore_es (s : State) (c : Nat) (v : Core) : (s.setCore c v).es = s.es := rfl
@[simp] theorem State.setCore_tm (s : State) (c : Nat) (v : Core) : (s.setCore c v).tm = s.tm := rfl
@[simp] theorem State.setCore_mem (s : State) (c : Nat) (v : Core) : (s.setCore c v).mem = s.mem := rfl
@[simp] theorem State.setCore_tc (s : State) (c : Nat) (v : Core) : (s.setCore c v).tc = s.tc := rfl
@[simp] theorem State.setCore_cc (s : State) (c : Nat) (v : Core) : (s.setCore c v).cc = s.cc := rfl
@[simp] theorem State.setCore_dy (s : State) (c : Nat) (v : Core) : (s.setCore c v).dy = s.dy := rfl
@[simp] theorem State.setCore_sp (s : State) (c : Nat) (v : Core) : (s.setCore c v).sp = s.sp := rfl
@[simp] theorem State.setCore_ch (s : State) (c : Nat) (v : Core) : (s.setCore c v).ch = s.ch := rfl
@[simp] theorem State.setCore_jn (s : State) (c : Nat) (v : Core) : (s.setCore c v).jn = s.jn := rfl
@[simp] theorem State.setCore_cx (s : State) (c : Nat) (v : Core) : (s.setCore c v).cx = s.cx := rfl
@[simp] theorem State.setCore_ci (s : State) (c : Nat) (v : Core) : (s.setCore c v).ci = s.ci := rfl
@[simp] theorem State.setCore_tn (s : State) (c : Nat) (v : Core) : (s.setCore c v).tn = s.tn := rfl
@[simp] theorem State.setCore_ir (s : State) (c : Nat) (v : Core) : (s.setCore c v).ir = s.ir := rfl
@[simp] theorem State.setCore_fc (s : State) (c : Nat) (v : Core) : (s.setCore c v).fc = s.fc := rfl
@[simp] theorem State.setCore_tw (s : State) (c : Nat) (v : Core) : (s.setCore c v).tw = s.tw := rfl
@[simp] theorem State.setCore_sv (s : State) (c : Nat) (v : Core) : (s.setCore c v).sv = s.sv := rfl

@[simp] theorem State.emit_pending (s : State) (o : Output) : (s.emit o).pending = s.pending := rfl
@[simp] theorem State.emit_fresh (s : State) (o : Output) : (s.emit o).fresh = s.fresh := rfl
@[simp] theorem State.emit_md (s : State) (o : Output) : (s.emit o).md = s.md := rfl
@[simp] theorem State.emit_es (s : State) (o : Output) : (s.emit o).es = s.es := rfl
@[simp] theorem State.emit_tm (s : State) (o : Output) : (s.emit o).tm = s.tm := rfl
@[simp] theorem State.emit_mem (s : State) (o : Output) : (s.emit o).mem = s.mem := rfl
@[simp] theorem State.emit_cores (s : State) (o : Output) : (s.emit o).cores = s.cores := rfl
@[simp] theorem State.emit_tc (s : State) (o : Output) : (s.emit o).tc = s.tc := rfl
@[simp] theorem State.emit_cc (s : State) (o : Output) : (s.emit o).cc = s.cc := rfl
@[simp] theorem State.emit_dy (s : State) (o : Output) : (s.emit o).dy = s.dy := rfl
@[simp] theorem State.emit_sp (s : State) (o : Output) : (s.emit o).sp = s.sp := rfl
@[simp] theorem State.emit_ch (s : State) (o : Output) : (s.emit o).ch = s.ch := rfl
@[simp] theorem State.emit_jn (s : State) (o : Output) : (s.emit o).jn = s.jn := rfl
@[simp] theorem State.emit_cx (s : State) (o : Output) : (s.emit o).cx = s.cx := rfl
@[simp] theorem State.emit_ci (s : State) (o : Output) : (s.emit o).ci = s.ci := rfl
@[simp] theorem State.emit_tn (s : State) (o : Output) : (s.emit o).tn = s.tn := rfl
@[simp] theorem State.emit_ir (s : State) (o : Output) : (s.emit o).ir = s.ir := rfl
@[simp] theorem State.emit_fc (s : State) (o : Output) : (s.emit o).fc = s.fc := rfl
@[simp] theorem State.emit_tw (s : State) (o : Output) : (s.emit o).tw = s.tw := rfl
@[simp] theorem State.emit_sv (s : State) (o : Output) : (s.emit o).sv = s.sv := rfl

@[simp] theorem State.setChan_pending (s : State) (n : Nat) (c : Chan) : (s.setChan n c).pending = s.pending := rfl
@[simp] theorem State.setChan_fresh (s : State) (n : Nat) (c : Chan) : (s.setChan n c).fresh = s.fresh := rfl
@[simp] theorem State.setChan_out (s : State) (n : Nat) (c : Chan) : (s.setChan n c).out = s.out := rfl
@[simp] theorem State.setChan_md (s : State) (n : Nat) (c : Chan) : (s.setChan n c).md = s.md := rfl
@[simp] theorem State.setChan_es (s : State) (n : Nat) (c : Chan) : (s.setChan n c).es = s.es := rfl
@[simp] theorem State.setChan_tm (s : State) (n : Nat) (c : Chan) : (s.setChan n c).tm = s.tm := rfl
@[simp] theorem State.setChan_mem (s : State) (n : Nat) (c : Chan) : (s.setChan n c).mem = s.mem := rfl
@[simp] theorem State.setChan_cores (s : State) (n : Nat) (c : Chan) : (s.setChan n c).cores = s.cores := rfl
@[simp] theorem State.setChan_tc (s : State) (n : Nat) (c : Chan) : (s.setChan n c).tc = s.tc := rfl
@[simp] theorem State.setChan_cc (s : State) (n : Nat) (c : Chan) : (s.setChan n c).cc = s.cc := rfl
@[simp] theorem State.setChan_dy (s : State) (n : Nat) (c : Chan) : (s.setChan n c).dy = s.dy := rfl
@[simp] theorem State.setChan_sp (s : State) (n : Nat) (c : Chan) : (s.setChan n c).sp = s.sp := rfl
@[simp] theorem State.setChan_jn (s : State) (n : Nat) (c : Chan) : (s.setChan n c).jn = s.jn := rfl
@[simp] theorem State.setChan_cx (s : State) (n : Nat) (c : Chan) : (s.setChan n c).cx = s.cx := rfl
@[simp] theorem State.setChan_ci (s : State) (n : Nat) (c : Chan) : (s.setChan n c).ci = s.ci := rfl
@[simp] theorem State.setChan_tn (s : State) (n : Nat) (c : Chan) : (s.setChan n c).tn = s.tn := rfl
@[simp] theorem State.setChan_ir (s : State) (n : Nat) (c : Chan) : (s.setChan n c).ir = s.ir := rfl
@[simp] theorem State.setChan_fc (s : State) (n : Nat) (c : Chan) : (s.setChan n c).fc = s.fc := rfl
@[simp] theorem State.setChan_tw (s : State) (n : Nat) (c : Chan) : (s.setChan n c).tw = s.tw := rfl
@[simp] theorem State.setChan_sv (s : State) (n : Nat) (c : Chan) : (s.setChan n c).sv = s.sv := rfl

@[simp] theorem State.setPeer_pending (s : State) (p : Nat) (v : Peer) : (s.setPeer p v).pending = s.pending := rfl
@[simp] theorem State.setPeer_fresh (s : State) (p : Nat) (v : Peer) : (s.setPeer p v).fresh = s.fresh := rfl
@[simp] theorem State.setPeer_out (s : State) (p : Nat) (v : Peer) : (s.setPeer p v).out = s.out := rfl
@[simp] theorem State.setPeer_md (s : State) (p : Nat) (v : Peer) : (s.setPeer p v).md = s.md := rfl
@[simp] theorem State.setPeer_es (s : State) (p : Nat) (v : Peer) : (s.setPeer p v).es = s.es := rfl
@[simp] theorem State.setPeer_tm (s : State) (p : Nat) (v : Peer) : (s.setPeer p v).tm = s.tm := rfl
@[simp] theorem State.setPeer_mem (s : State) (p : Nat) (v : Peer) : (s.setPeer p v).mem = s.mem := rfl
@[simp] theorem State.setPeer_cores (s : State) (p : Nat) (v : Peer) : (s.setPeer p v).cores = s.cores := rfl
@[simp] theorem State.setPeer_tc (s : State) (p : Nat) (v : Peer) : (s.setPeer p v).tc = s.tc := rfl
@[simp] theorem State.setPeer_cc (s : State) (p : Nat) (v : Peer) : (s.setPeer p v).cc = s.cc := rfl
@[simp] theorem State.setPeer_dy (s : State) (p : Nat) (v : Peer) : (s.setPeer p v).dy = s.dy := rfl
@[simp] theorem State.setPeer_sp (s : State) (p : Nat) (v : Peer) : (s.setPeer p v).sp = s.sp := rfl
@[simp] theorem State.setPeer_jn (s : State) (p : Nat) (v : Peer) : (s.setPeer p v).jn = s.jn := rfl
@[simp] theorem State.setPeer_cx (s : State) (p : Nat) (v : Peer) : (s.setPeer p v).cx = s.cx := rfl
@[simp] theorem State.setPeer_ci (s : State) (p : Nat) (v : Peer) : (s.setPeer p v).ci = s.ci := rfl
@[simp] theorem State.setPeer_tn (s : State) (p : Nat) (v : Peer) : (s.setPeer p v).tn = s.tn := rfl
@[simp] theorem State.setPeer_ir (s : State) (p : Nat) (v : Peer) : (s.setPeer p v).ir = s.ir := rfl
@[simp] theorem State.setPeer_fc (s : State) (p : Nat) (v : Peer) : (s.setPeer p v).fc = s.fc := rfl
@[simp] theorem State.setPeer_tw (s : State) (p : Nat) (v : Peer) : (s.setPeer p v).tw = s.tw := rfl
@[simp] theorem State.setPeer_sv (s : State) (p : Nat) (v : Peer) : (s.setPeer p v).sv = s.sv := rfl

@[simp] theorem State.setJt_pending (s : State) (t : Nat) (v : JnTenant) : (s.setJt t v).pending = s.pending := rfl
@[simp] theorem State.setJt_fresh (s : State) (t : Nat) (v : JnTenant) : (s.setJt t v).fresh = s.fresh := rfl
@[simp] theorem State.setJt_out (s : State) (t : Nat) (v : JnTenant) : (s.setJt t v).out = s.out := rfl
@[simp] theorem State.setJt_md (s : State) (t : Nat) (v : JnTenant) : (s.setJt t v).md = s.md := rfl
@[simp] theorem State.setJt_es (s : State) (t : Nat) (v : JnTenant) : (s.setJt t v).es = s.es := rfl
@[simp] theorem State.setJt_tm (s : State) (t : Nat) (v : JnTenant) : (s.setJt t v).tm = s.tm := rfl
@[simp] theorem State.setJt_mem (s : State) (t : Nat) (v : JnTenant) : (s.setJt t v).mem = s.mem := rfl
@[simp] theorem State.setJt_cores (s : State) (t : Nat) (v : JnTenant) : (s.setJt t v).cores = s.cores := rfl
@[simp] theorem State.setJt_tc (s : State) (t : Nat) (v : JnTenant) : (s.setJt t v).tc = s.tc := rfl
@[simp] theorem State.setJt_cc (s : State) (t : Nat) (v : JnTenant) : (s.setJt t v).cc = s.cc := rfl
@[simp] theorem State.setJt_dy (s : State) (t : Nat) (v : JnTenant) : (s.setJt t v).dy = s.dy := rfl
@[simp] theorem State.setJt_sp (s : State) (t : Nat) (v : JnTenant) : (s.setJt t v).sp = s.sp := rfl
@[simp] theorem State.setJt_ch (s : State) (t : Nat) (v : JnTenant) : (s.setJt t v).ch = s.ch := rfl
@[simp] theorem State.setJt_cx (s : State) (t : Nat) (v : JnTenant) : (s.setJt t v).cx = s.cx := rfl
@[simp] theorem State.setJt_ci (s : State) (t : Nat) (v : JnTenant) : (s.setJt t v).ci = s.ci := rfl
@[simp] theorem State.setJt_tn (s : State) (t : Nat) (v : JnTenant) : (s.setJt t v).tn = s.tn := rfl
@[simp] theorem State.setJt_ir (s : State) (t : Nat) (v : JnTenant) : (s.setJt t v).ir = s.ir := rfl
@[simp] theorem State.setJt_fc (s : State) (t : Nat) (v : JnTenant) : (s.setJt t v).fc = s.fc := rfl
@[simp] theorem State.setJt_tw (s : State) (t : Nat) (v : JnTenant) : (s.setJt t v).tw = s.tw := rfl
@[simp] theorem State.setJt_sv (s : State) (t : Nat) (v : JnTenant) : (s.setJt t v).sv = s.sv := rfl

@[simp] theorem State.setTenant_pending (s : State) (t : Nat) (v : Tenant) : (s.setTenant t v).pending = s.pending := rfl
@[simp] theorem State.setTenant_fresh (s : State) (t : Nat) (v : Tenant) : (s.setTenant t v).fresh = s.fresh := rfl
@[simp] theorem State.setTenant_out (s : State) (t : Nat) (v : Tenant) : (s.setTenant t v).out = s.out := rfl
@[simp] theorem State.setTenant_md (s : State) (t : Nat) (v : Tenant) : (s.setTenant t v).md = s.md := rfl
@[simp] theorem State.setTenant_es (s : State) (t : Nat) (v : Tenant) : (s.setTenant t v).es = s.es := rfl
@[simp] theorem State.setTenant_tm (s : State) (t : Nat) (v : Tenant) : (s.setTenant t v).tm = s.tm := rfl
@[simp] theorem State.setTenant_mem (s : State) (t : Nat) (v : Tenant) : (s.setTenant t v).mem = s.mem := rfl
@[simp] theorem State.setTenant_cores (s : State) (t : Nat) (v : Tenant) : (s.setTenant t v).cores = s.cores := rfl
@[simp] theorem State.setTenant_tc (s : State) (t : Nat) (v : Tenant) : (s.setTenant t v).tc = s.tc := rfl
@[simp] theorem State.setTenant_cc (s : State) (t : Nat) (v : Tenant) : (s.setTenant t v).cc = s.cc := rfl
@[simp] theorem State.setTenant_dy (s : State) (t : Nat) (v : Tenant) : (s.setTenant t v).dy = s.dy := rfl
@[simp] theorem State.setTenant_sp (s : State) (t : Nat) (v : Tenant) : (s.setTenant t v).sp = s.sp := rfl
@[simp] theorem State.setTenant_ch (s : State) (t : Nat) (v : Tenant) : (s.setTenant t v).ch = s.ch := rfl
@[simp] theorem State.setTenant_jn (s : State) (t : Nat) (v : Tenant) : (s.setTenant t v).jn = s.jn := rfl
@[simp] theorem State.setTenant_cx (s : State) (t : Nat) (v : Tenant) : (s.setTenant t v).cx = s.cx := rfl
@[simp] theorem State.setTenant_ci (s : State) (t : Nat) (v : Tenant) : (s.setTenant t v).ci = s.ci := rfl
@[simp] theorem State.setTenant_ir (s : State) (t : Nat) (v : Tenant) : (s.setTenant t v).ir = s.ir := rfl
@[simp] theorem State.setTenant_fc (s : State) (t : Nat) (v : Tenant) : (s.setTenant t v).fc = s.fc := rfl
@[simp] theorem State.setTenant_tw (s : State) (t : Nat) (v : Tenant) : (s.setTenant t v).tw = s.tw := rfl
@[simp] theorem State.setTenant_sv (s : State) (t : Nat) (v : Tenant) : (s.setTenant t v).sv = s.sv := rfl

@[simp] theorem State.setBlock_pending (s : State) (b : Nat) (v : Block) : (s.setBlock b v).pending = s.pending := rfl
@[simp] theorem State.setBlock_fresh (s : State) (b : Nat) (v : Block) : (s.setBlock b v).fresh = s.fresh := rfl
@[simp] theorem State.setBlock_out (s : State) (b : Nat) (v : Block) : (s.setBlock b v).out = s.out := rfl
@[simp] theorem State.setBlock_md (s : State) (b : Nat) (v : Block) : (s.setBlock b v).md = s.md := rfl
@[simp] theorem State.setBlock_es (s : State) (b : Nat) (v : Block) : (s.setBlock b v).es = s.es := rfl
@[simp] theorem State.setBlock_tm (s : State) (b : Nat) (v : Block) : (s.setBlock b v).tm = s.tm := rfl
@[simp] theorem State.setBlock_mem (s : State) (b : Nat) (v : Block) : (s.setBlock b v).mem = s.mem := rfl
@[simp] theorem State.setBlock_cores (s : State) (b : Nat) (v : Block) : (s.setBlock b v).cores = s.cores := rfl
@[simp] theorem State.setBlock_tc (s : State) (b : Nat) (v : Block) : (s.setBlock b v).tc = s.tc := rfl
@[simp] theorem State.setBlock_cc (s : State) (b : Nat) (v : Block) : (s.setBlock b v).cc = s.cc := rfl
@[simp] theorem State.setBlock_dy (s : State) (b : Nat) (v : Block) : (s.setBlock b v).dy = s.dy := rfl
@[simp] theorem State.setBlock_sp (s : State) (b : Nat) (v : Block) : (s.setBlock b v).sp = s.sp := rfl
@[simp] theorem State.setBlock_ch (s : State) (b : Nat) (v : Block) : (s.setBlock b v).ch = s.ch := rfl
@[simp] theorem State.setBlock_jn (s : State) (b : Nat) (v : Block) : (s.setBlock b v).jn = s.jn := rfl
@[simp] theorem State.setBlock_cx (s : State) (b : Nat) (v : Block) : (s.setBlock b v).cx = s.cx := rfl
@[simp] theorem State.setBlock_ci (s : State) (b : Nat) (v : Block) : (s.setBlock b v).ci = s.ci := rfl
@[simp] theorem State.setBlock_ir (s : State) (b : Nat) (v : Block) : (s.setBlock b v).ir = s.ir := rfl
@[simp] theorem State.setBlock_fc (s : State) (b : Nat) (v : Block) : (s.setBlock b v).fc = s.fc := rfl
@[simp] theorem State.setBlock_tw (s : State) (b : Nat) (v : Block) : (s.setBlock b v).tw = s.tw := rfl
@[simp] theorem State.setBlock_sv (s : State) (b : Nat) (v : Block) : (s.setBlock b v).sv = s.sv := rfl

@[simp] theorem State.setPage_pending (s : State) (o : Nat) (p : SrcPage) : (s.setPage o p).pending = s.pending := rfl
@[simp] theorem State.setPage_fresh (s : State) (o : Nat) (p : SrcPage) : (s.setPage o p).fresh = s.fresh := rfl
@[simp] theorem State.setPage_out (s : State) (o : Nat) (p : SrcPage) : (s.setPage o p).out = s.out := rfl
@[simp] theorem State.setPage_md (s : State) (o : Nat) (p : SrcPage) : (s.setPage o p).md = s.md := rfl
@[simp] theorem State.setPage_es (s : State) (o : Nat) (p : SrcPage) : (s.setPage o p).es = s.es := rfl
@[simp] theorem State.setPage_tm (s : State) (o : Nat) (p : SrcPage) : (s.setPage o p).tm = s.tm := rfl
@[simp] theorem State.setPage_mem (s : State) (o : Nat) (p : SrcPage) : (s.setPage o p).mem = s.mem := rfl
@[simp] theorem State.setPage_cores (s : State) (o : Nat) (p : SrcPage) : (s.setPage o p).cores = s.cores := rfl
@[simp] theorem State.setPage_tc (s : State) (o : Nat) (p : SrcPage) : (s.setPage o p).tc = s.tc := rfl
@[simp] theorem State.setPage_cc (s : State) (o : Nat) (p : SrcPage) : (s.setPage o p).cc = s.cc := rfl
@[simp] theorem State.setPage_dy (s : State) (o : Nat) (p : SrcPage) : (s.setPage o p).dy = s.dy := rfl
@[simp] theorem State.setPage_sp (s : State) (o : Nat) (p : SrcPage) : (s.setPage o p).sp = s.sp := rfl
@[simp] theorem State.setPage_ch (s : State) (o : Nat) (p : SrcPage) : (s.setPage o p).ch = s.ch := rfl
@[simp] theorem State.setPage_jn (s : State) (o : Nat) (p : SrcPage) : (s.setPage o p).jn = s.jn := rfl
@[simp] theorem State.setPage_cx (s : State) (o : Nat) (p : SrcPage) : (s.setPage o p).cx = s.cx := rfl
@[simp] theorem State.setPage_ci (s : State) (o : Nat) (p : SrcPage) : (s.setPage o p).ci = s.ci := rfl
@[simp] theorem State.setPage_tn (s : State) (o : Nat) (p : SrcPage) : (s.setPage o p).tn = s.tn := rfl
@[simp] theorem State.setPage_fc (s : State) (o : Nat) (p : SrcPage) : (s.setPage o p).fc = s.fc := rfl
@[simp] theorem State.setPage_tw (s : State) (o : Nat) (p : SrcPage) : (s.setPage o p).tw = s.tw := rfl
@[simp] theorem State.setPage_sv (s : State) (o : Nat) (p : SrcPage) : (s.setPage o p).sv = s.sv := rfl

@[simp] theorem State.setSrc_pending (s : State) (o n : Nat) (v : Src) : (s.setSrc o n v).pending = s.pending := rfl
@[simp] theorem State.setSrc_fresh (s : State) (o n : Nat) (v : Src) : (s.setSrc o n v).fresh = s.fresh := rfl
@[simp] theorem State.setSrc_out (s : State) (o n : Nat) (v : Src) : (s.setSrc o n v).out = s.out := rfl
@[simp] theorem State.setSrc_md (s : State) (o n : Nat) (v : Src) : (s.setSrc o n v).md = s.md := rfl
@[simp] theorem State.setSrc_es (s : State) (o n : Nat) (v : Src) : (s.setSrc o n v).es = s.es := rfl
@[simp] theorem State.setSrc_tm (s : State) (o n : Nat) (v : Src) : (s.setSrc o n v).tm = s.tm := rfl
@[simp] theorem State.setSrc_mem (s : State) (o n : Nat) (v : Src) : (s.setSrc o n v).mem = s.mem := rfl
@[simp] theorem State.setSrc_cores (s : State) (o n : Nat) (v : Src) : (s.setSrc o n v).cores = s.cores := rfl
@[simp] theorem State.setSrc_tc (s : State) (o n : Nat) (v : Src) : (s.setSrc o n v).tc = s.tc := rfl
@[simp] theorem State.setSrc_cc (s : State) (o n : Nat) (v : Src) : (s.setSrc o n v).cc = s.cc := rfl
@[simp] theorem State.setSrc_dy (s : State) (o n : Nat) (v : Src) : (s.setSrc o n v).dy = s.dy := rfl
@[simp] theorem State.setSrc_sp (s : State) (o n : Nat) (v : Src) : (s.setSrc o n v).sp = s.sp := rfl
@[simp] theorem State.setSrc_ch (s : State) (o n : Nat) (v : Src) : (s.setSrc o n v).ch = s.ch := rfl
@[simp] theorem State.setSrc_jn (s : State) (o n : Nat) (v : Src) : (s.setSrc o n v).jn = s.jn := rfl
@[simp] theorem State.setSrc_cx (s : State) (o n : Nat) (v : Src) : (s.setSrc o n v).cx = s.cx := rfl
@[simp] theorem State.setSrc_ci (s : State) (o n : Nat) (v : Src) : (s.setSrc o n v).ci = s.ci := rfl
@[simp] theorem State.setSrc_tn (s : State) (o n : Nat) (v : Src) : (s.setSrc o n v).tn = s.tn := rfl
@[simp] theorem State.setSrc_fc (s : State) (o n : Nat) (v : Src) : (s.setSrc o n v).fc = s.fc := rfl
@[simp] theorem State.setSrc_tw (s : State) (o n : Nat) (v : Src) : (s.setSrc o n v).tw = s.tw := rfl
@[simp] theorem State.setSrc_sv (s : State) (o n : Nat) (v : Src) : (s.setSrc o n v).sv = s.sv := rfl

@[simp] theorem State.setFsrc_pending (s : State) (n : Nat) (v : FSrc) : (s.setFsrc n v).pending = s.pending := rfl
@[simp] theorem State.setFsrc_fresh (s : State) (n : Nat) (v : FSrc) : (s.setFsrc n v).fresh = s.fresh := rfl
@[simp] theorem State.setFsrc_out (s : State) (n : Nat) (v : FSrc) : (s.setFsrc n v).out = s.out := rfl
@[simp] theorem State.setFsrc_md (s : State) (n : Nat) (v : FSrc) : (s.setFsrc n v).md = s.md := rfl
@[simp] theorem State.setFsrc_es (s : State) (n : Nat) (v : FSrc) : (s.setFsrc n v).es = s.es := rfl
@[simp] theorem State.setFsrc_tm (s : State) (n : Nat) (v : FSrc) : (s.setFsrc n v).tm = s.tm := rfl
@[simp] theorem State.setFsrc_mem (s : State) (n : Nat) (v : FSrc) : (s.setFsrc n v).mem = s.mem := rfl
@[simp] theorem State.setFsrc_cores (s : State) (n : Nat) (v : FSrc) : (s.setFsrc n v).cores = s.cores := rfl
@[simp] theorem State.setFsrc_tc (s : State) (n : Nat) (v : FSrc) : (s.setFsrc n v).tc = s.tc := rfl
@[simp] theorem State.setFsrc_cc (s : State) (n : Nat) (v : FSrc) : (s.setFsrc n v).cc = s.cc := rfl
@[simp] theorem State.setFsrc_dy (s : State) (n : Nat) (v : FSrc) : (s.setFsrc n v).dy = s.dy := rfl
@[simp] theorem State.setFsrc_sp (s : State) (n : Nat) (v : FSrc) : (s.setFsrc n v).sp = s.sp := rfl
@[simp] theorem State.setFsrc_ch (s : State) (n : Nat) (v : FSrc) : (s.setFsrc n v).ch = s.ch := rfl
@[simp] theorem State.setFsrc_jn (s : State) (n : Nat) (v : FSrc) : (s.setFsrc n v).jn = s.jn := rfl
@[simp] theorem State.setFsrc_cx (s : State) (n : Nat) (v : FSrc) : (s.setFsrc n v).cx = s.cx := rfl
@[simp] theorem State.setFsrc_ci (s : State) (n : Nat) (v : FSrc) : (s.setFsrc n v).ci = s.ci := rfl
@[simp] theorem State.setFsrc_tn (s : State) (n : Nat) (v : FSrc) : (s.setFsrc n v).tn = s.tn := rfl
@[simp] theorem State.setFsrc_ir (s : State) (n : Nat) (v : FSrc) : (s.setFsrc n v).ir = s.ir := rfl
@[simp] theorem State.setFsrc_tw (s : State) (n : Nat) (v : FSrc) : (s.setFsrc n v).tw = s.tw := rfl
@[simp] theorem State.setFsrc_sv (s : State) (n : Nat) (v : FSrc) : (s.setFsrc n v).sv = s.sv := rfl

@[simp] theorem State.setLink_pending (s : State) (k : Nat) (l : Link) : (s.setLink k l).pending = s.pending := rfl
@[simp] theorem State.setLink_fresh (s : State) (k : Nat) (l : Link) : (s.setLink k l).fresh = s.fresh := rfl
@[simp] theorem State.setLink_out (s : State) (k : Nat) (l : Link) : (s.setLink k l).out = s.out := rfl
@[simp] theorem State.setLink_md (s : State) (k : Nat) (l : Link) : (s.setLink k l).md = s.md := rfl
@[simp] theorem State.setLink_es (s : State) (k : Nat) (l : Link) : (s.setLink k l).es = s.es := rfl
@[simp] theorem State.setLink_tm (s : State) (k : Nat) (l : Link) : (s.setLink k l).tm = s.tm := rfl
@[simp] theorem State.setLink_mem (s : State) (k : Nat) (l : Link) : (s.setLink k l).mem = s.mem := rfl
@[simp] theorem State.setLink_cores (s : State) (k : Nat) (l : Link) : (s.setLink k l).cores = s.cores := rfl
@[simp] theorem State.setLink_tc (s : State) (k : Nat) (l : Link) : (s.setLink k l).tc = s.tc := rfl
@[simp] theorem State.setLink_cc (s : State) (k : Nat) (l : Link) : (s.setLink k l).cc = s.cc := rfl
@[simp] theorem State.setLink_sp (s : State) (k : Nat) (l : Link) : (s.setLink k l).sp = s.sp := rfl
@[simp] theorem State.setLink_ch (s : State) (k : Nat) (l : Link) : (s.setLink k l).ch = s.ch := rfl
@[simp] theorem State.setLink_jn (s : State) (k : Nat) (l : Link) : (s.setLink k l).jn = s.jn := rfl
@[simp] theorem State.setLink_cx (s : State) (k : Nat) (l : Link) : (s.setLink k l).cx = s.cx := rfl
@[simp] theorem State.setLink_ci (s : State) (k : Nat) (l : Link) : (s.setLink k l).ci = s.ci := rfl
@[simp] theorem State.setLink_tn (s : State) (k : Nat) (l : Link) : (s.setLink k l).tn = s.tn := rfl
@[simp] theorem State.setLink_ir (s : State) (k : Nat) (l : Link) : (s.setLink k l).ir = s.ir := rfl
@[simp] theorem State.setLink_fc (s : State) (k : Nat) (l : Link) : (s.setLink k l).fc = s.fc := rfl
@[simp] theorem State.setLink_tw (s : State) (k : Nat) (l : Link) : (s.setLink k l).tw = s.tw := rfl
@[simp] theorem State.setLink_sv (s : State) (k : Nat) (l : Link) : (s.setLink k l).sv = s.sv := rfl

@[simp] theorem State.setDir_pending (s : State) (line : Nat) (e : DirEntry) : (s.setDir line e).pending = s.pending := rfl
@[simp] theorem State.setDir_fresh (s : State) (line : Nat) (e : DirEntry) : (s.setDir line e).fresh = s.fresh := rfl
@[simp] theorem State.setDir_out (s : State) (line : Nat) (e : DirEntry) : (s.setDir line e).out = s.out := rfl
@[simp] theorem State.setDir_md (s : State) (line : Nat) (e : DirEntry) : (s.setDir line e).md = s.md := rfl
@[simp] theorem State.setDir_es (s : State) (line : Nat) (e : DirEntry) : (s.setDir line e).es = s.es := rfl
@[simp] theorem State.setDir_tm (s : State) (line : Nat) (e : DirEntry) : (s.setDir line e).tm = s.tm := rfl
@[simp] theorem State.setDir_mem (s : State) (line : Nat) (e : DirEntry) : (s.setDir line e).mem = s.mem := rfl
@[simp] theorem State.setDir_cores (s : State) (line : Nat) (e : DirEntry) : (s.setDir line e).cores = s.cores := rfl
@[simp] theorem State.setDir_tc (s : State) (line : Nat) (e : DirEntry) : (s.setDir line e).tc = s.tc := rfl
@[simp] theorem State.setDir_cc (s : State) (line : Nat) (e : DirEntry) : (s.setDir line e).cc = s.cc := rfl
@[simp] theorem State.setDir_sp (s : State) (line : Nat) (e : DirEntry) : (s.setDir line e).sp = s.sp := rfl
@[simp] theorem State.setDir_ch (s : State) (line : Nat) (e : DirEntry) : (s.setDir line e).ch = s.ch := rfl
@[simp] theorem State.setDir_jn (s : State) (line : Nat) (e : DirEntry) : (s.setDir line e).jn = s.jn := rfl
@[simp] theorem State.setDir_cx (s : State) (line : Nat) (e : DirEntry) : (s.setDir line e).cx = s.cx := rfl
@[simp] theorem State.setDir_ci (s : State) (line : Nat) (e : DirEntry) : (s.setDir line e).ci = s.ci := rfl
@[simp] theorem State.setDir_tn (s : State) (line : Nat) (e : DirEntry) : (s.setDir line e).tn = s.tn := rfl
@[simp] theorem State.setDir_ir (s : State) (line : Nat) (e : DirEntry) : (s.setDir line e).ir = s.ir := rfl
@[simp] theorem State.setDir_fc (s : State) (line : Nat) (e : DirEntry) : (s.setDir line e).fc = s.fc := rfl
@[simp] theorem State.setDir_tw (s : State) (line : Nat) (e : DirEntry) : (s.setDir line e).tw = s.tw := rfl
@[simp] theorem State.setDir_sv (s : State) (line : Nat) (e : DirEntry) : (s.setDir line e).sv = s.sv := rfl

@[simp] theorem State.setTile_pending (s : State) (t line : Nat) (v : Option TileState) : (s.setTile t line v).pending = s.pending := rfl
@[simp] theorem State.setTile_fresh (s : State) (t line : Nat) (v : Option TileState) : (s.setTile t line v).fresh = s.fresh := rfl
@[simp] theorem State.setTile_out (s : State) (t line : Nat) (v : Option TileState) : (s.setTile t line v).out = s.out := rfl
@[simp] theorem State.setTile_md (s : State) (t line : Nat) (v : Option TileState) : (s.setTile t line v).md = s.md := rfl
@[simp] theorem State.setTile_es (s : State) (t line : Nat) (v : Option TileState) : (s.setTile t line v).es = s.es := rfl
@[simp] theorem State.setTile_tm (s : State) (t line : Nat) (v : Option TileState) : (s.setTile t line v).tm = s.tm := rfl
@[simp] theorem State.setTile_mem (s : State) (t line : Nat) (v : Option TileState) : (s.setTile t line v).mem = s.mem := rfl
@[simp] theorem State.setTile_cores (s : State) (t line : Nat) (v : Option TileState) : (s.setTile t line v).cores = s.cores := rfl
@[simp] theorem State.setTile_tc (s : State) (t line : Nat) (v : Option TileState) : (s.setTile t line v).tc = s.tc := rfl
@[simp] theorem State.setTile_cc (s : State) (t line : Nat) (v : Option TileState) : (s.setTile t line v).cc = s.cc := rfl
@[simp] theorem State.setTile_sp (s : State) (t line : Nat) (v : Option TileState) : (s.setTile t line v).sp = s.sp := rfl
@[simp] theorem State.setTile_ch (s : State) (t line : Nat) (v : Option TileState) : (s.setTile t line v).ch = s.ch := rfl
@[simp] theorem State.setTile_jn (s : State) (t line : Nat) (v : Option TileState) : (s.setTile t line v).jn = s.jn := rfl
@[simp] theorem State.setTile_cx (s : State) (t line : Nat) (v : Option TileState) : (s.setTile t line v).cx = s.cx := rfl
@[simp] theorem State.setTile_ci (s : State) (t line : Nat) (v : Option TileState) : (s.setTile t line v).ci = s.ci := rfl
@[simp] theorem State.setTile_tn (s : State) (t line : Nat) (v : Option TileState) : (s.setTile t line v).tn = s.tn := rfl
@[simp] theorem State.setTile_ir (s : State) (t line : Nat) (v : Option TileState) : (s.setTile t line v).ir = s.ir := rfl
@[simp] theorem State.setTile_fc (s : State) (t line : Nat) (v : Option TileState) : (s.setTile t line v).fc = s.fc := rfl
@[simp] theorem State.setTile_tw (s : State) (t line : Nat) (v : Option TileState) : (s.setTile t line v).tw = s.tw := rfl
@[simp] theorem State.setTile_sv (s : State) (t line : Nat) (v : Option TileState) : (s.setTile t line v).sv = s.sv := rfl

@[simp] theorem State.setCxT_pending (s : State) (t : Nat) (v : CxTenant) : (s.setCxT t v).pending = s.pending := rfl
@[simp] theorem State.setCxT_fresh (s : State) (t : Nat) (v : CxTenant) : (s.setCxT t v).fresh = s.fresh := rfl
@[simp] theorem State.setCxT_out (s : State) (t : Nat) (v : CxTenant) : (s.setCxT t v).out = s.out := rfl
@[simp] theorem State.setCxT_md (s : State) (t : Nat) (v : CxTenant) : (s.setCxT t v).md = s.md := rfl
@[simp] theorem State.setCxT_es (s : State) (t : Nat) (v : CxTenant) : (s.setCxT t v).es = s.es := rfl
@[simp] theorem State.setCxT_tm (s : State) (t : Nat) (v : CxTenant) : (s.setCxT t v).tm = s.tm := rfl
@[simp] theorem State.setCxT_mem (s : State) (t : Nat) (v : CxTenant) : (s.setCxT t v).mem = s.mem := rfl
@[simp] theorem State.setCxT_cores (s : State) (t : Nat) (v : CxTenant) : (s.setCxT t v).cores = s.cores := rfl
@[simp] theorem State.setCxT_tc (s : State) (t : Nat) (v : CxTenant) : (s.setCxT t v).tc = s.tc := rfl
@[simp] theorem State.setCxT_cc (s : State) (t : Nat) (v : CxTenant) : (s.setCxT t v).cc = s.cc := rfl
@[simp] theorem State.setCxT_dy (s : State) (t : Nat) (v : CxTenant) : (s.setCxT t v).dy = s.dy := rfl
@[simp] theorem State.setCxT_sp (s : State) (t : Nat) (v : CxTenant) : (s.setCxT t v).sp = s.sp := rfl
@[simp] theorem State.setCxT_ch (s : State) (t : Nat) (v : CxTenant) : (s.setCxT t v).ch = s.ch := rfl
@[simp] theorem State.setCxT_jn (s : State) (t : Nat) (v : CxTenant) : (s.setCxT t v).jn = s.jn := rfl
@[simp] theorem State.setCxT_ci (s : State) (t : Nat) (v : CxTenant) : (s.setCxT t v).ci = s.ci := rfl
@[simp] theorem State.setCxT_tn (s : State) (t : Nat) (v : CxTenant) : (s.setCxT t v).tn = s.tn := rfl
@[simp] theorem State.setCxT_ir (s : State) (t : Nat) (v : CxTenant) : (s.setCxT t v).ir = s.ir := rfl
@[simp] theorem State.setCxT_fc (s : State) (t : Nat) (v : CxTenant) : (s.setCxT t v).fc = s.fc := rfl
@[simp] theorem State.setCxT_tw (s : State) (t : Nat) (v : CxTenant) : (s.setCxT t v).tw = s.tw := rfl
@[simp] theorem State.setCxT_sv (s : State) (t : Nat) (v : CxTenant) : (s.setCxT t v).sv = s.sv := rfl

@[simp] theorem State.setCiT_pending (s : State) (t : Nat) (v : CiTenant) : (s.setCiT t v).pending = s.pending := rfl
@[simp] theorem State.setCiT_fresh (s : State) (t : Nat) (v : CiTenant) : (s.setCiT t v).fresh = s.fresh := rfl
@[simp] theorem State.setCiT_out (s : State) (t : Nat) (v : CiTenant) : (s.setCiT t v).out = s.out := rfl
@[simp] theorem State.setCiT_md (s : State) (t : Nat) (v : CiTenant) : (s.setCiT t v).md = s.md := rfl
@[simp] theorem State.setCiT_es (s : State) (t : Nat) (v : CiTenant) : (s.setCiT t v).es = s.es := rfl
@[simp] theorem State.setCiT_tm (s : State) (t : Nat) (v : CiTenant) : (s.setCiT t v).tm = s.tm := rfl
@[simp] theorem State.setCiT_mem (s : State) (t : Nat) (v : CiTenant) : (s.setCiT t v).mem = s.mem := rfl
@[simp] theorem State.setCiT_cores (s : State) (t : Nat) (v : CiTenant) : (s.setCiT t v).cores = s.cores := rfl
@[simp] theorem State.setCiT_tc (s : State) (t : Nat) (v : CiTenant) : (s.setCiT t v).tc = s.tc := rfl
@[simp] theorem State.setCiT_cc (s : State) (t : Nat) (v : CiTenant) : (s.setCiT t v).cc = s.cc := rfl
@[simp] theorem State.setCiT_dy (s : State) (t : Nat) (v : CiTenant) : (s.setCiT t v).dy = s.dy := rfl
@[simp] theorem State.setCiT_sp (s : State) (t : Nat) (v : CiTenant) : (s.setCiT t v).sp = s.sp := rfl
@[simp] theorem State.setCiT_ch (s : State) (t : Nat) (v : CiTenant) : (s.setCiT t v).ch = s.ch := rfl
@[simp] theorem State.setCiT_jn (s : State) (t : Nat) (v : CiTenant) : (s.setCiT t v).jn = s.jn := rfl
@[simp] theorem State.setCiT_cx (s : State) (t : Nat) (v : CiTenant) : (s.setCiT t v).cx = s.cx := rfl
@[simp] theorem State.setCiT_tn (s : State) (t : Nat) (v : CiTenant) : (s.setCiT t v).tn = s.tn := rfl
@[simp] theorem State.setCiT_ir (s : State) (t : Nat) (v : CiTenant) : (s.setCiT t v).ir = s.ir := rfl
@[simp] theorem State.setCiT_fc (s : State) (t : Nat) (v : CiTenant) : (s.setCiT t v).fc = s.fc := rfl
@[simp] theorem State.setCiT_tw (s : State) (t : Nat) (v : CiTenant) : (s.setCiT t v).tw = s.tw := rfl
@[simp] theorem State.setCiT_sv (s : State) (t : Nat) (v : CiTenant) : (s.setCiT t v).sv = s.sv := rfl

@[simp] theorem State.odAnswer_pending (s : State) (code : Nat) (l : List Octet) : (s.odAnswer code l).pending = s.pending := rfl
@[simp] theorem State.odAnswer_fresh (s : State) (code : Nat) (l : List Octet) : (s.odAnswer code l).fresh = s.fresh := rfl
@[simp] theorem State.odAnswer_out (s : State) (code : Nat) (l : List Octet) : (s.odAnswer code l).out = s.out := rfl
@[simp] theorem State.odAnswer_md (s : State) (code : Nat) (l : List Octet) : (s.odAnswer code l).md = s.md := rfl
@[simp] theorem State.odAnswer_es (s : State) (code : Nat) (l : List Octet) : (s.odAnswer code l).es = s.es := rfl
@[simp] theorem State.odAnswer_tm (s : State) (code : Nat) (l : List Octet) : (s.odAnswer code l).tm = s.tm := rfl
@[simp] theorem State.odAnswer_mem (s : State) (code : Nat) (l : List Octet) : (s.odAnswer code l).mem = s.mem := rfl
@[simp] theorem State.odAnswer_cores (s : State) (code : Nat) (l : List Octet) : (s.odAnswer code l).cores = s.cores := rfl
@[simp] theorem State.odAnswer_tc (s : State) (code : Nat) (l : List Octet) : (s.odAnswer code l).tc = s.tc := rfl
@[simp] theorem State.odAnswer_cc (s : State) (code : Nat) (l : List Octet) : (s.odAnswer code l).cc = s.cc := rfl
@[simp] theorem State.odAnswer_dy (s : State) (code : Nat) (l : List Octet) : (s.odAnswer code l).dy = s.dy := rfl
@[simp] theorem State.odAnswer_sp (s : State) (code : Nat) (l : List Octet) : (s.odAnswer code l).sp = s.sp := rfl
@[simp] theorem State.odAnswer_ch (s : State) (code : Nat) (l : List Octet) : (s.odAnswer code l).ch = s.ch := rfl
@[simp] theorem State.odAnswer_jn (s : State) (code : Nat) (l : List Octet) : (s.odAnswer code l).jn = s.jn := rfl
@[simp] theorem State.odAnswer_cx (s : State) (code : Nat) (l : List Octet) : (s.odAnswer code l).cx = s.cx := rfl
@[simp] theorem State.odAnswer_ci (s : State) (code : Nat) (l : List Octet) : (s.odAnswer code l).ci = s.ci := rfl
@[simp] theorem State.odAnswer_tn (s : State) (code : Nat) (l : List Octet) : (s.odAnswer code l).tn = s.tn := rfl
@[simp] theorem State.odAnswer_ir (s : State) (code : Nat) (l : List Octet) : (s.odAnswer code l).ir = s.ir := rfl
@[simp] theorem State.odAnswer_fc (s : State) (code : Nat) (l : List Octet) : (s.odAnswer code l).fc = s.fc := rfl
@[simp] theorem State.odAnswer_tw (s : State) (code : Nat) (l : List Octet) : (s.odAnswer code l).tw = s.tw := rfl

@[simp] theorem State.wr_pending (s : State) (a : Nat) (w : Word) : (s.wr a w).pending = s.pending := rfl
@[simp] theorem State.wr_fresh (s : State) (a : Nat) (w : Word) : (s.wr a w).fresh = s.fresh := rfl
@[simp] theorem State.wr_out (s : State) (a : Nat) (w : Word) : (s.wr a w).out = s.out := rfl
@[simp] theorem State.wr_md (s : State) (a : Nat) (w : Word) : (s.wr a w).md = s.md := rfl
@[simp] theorem State.wr_es (s : State) (a : Nat) (w : Word) : (s.wr a w).es = s.es := rfl
@[simp] theorem State.wr_tm (s : State) (a : Nat) (w : Word) : (s.wr a w).tm = s.tm := rfl
@[simp] theorem State.wr_cores (s : State) (a : Nat) (w : Word) : (s.wr a w).cores = s.cores := rfl
@[simp] theorem State.wr_tc (s : State) (a : Nat) (w : Word) : (s.wr a w).tc = s.tc := rfl
@[simp] theorem State.wr_cc (s : State) (a : Nat) (w : Word) : (s.wr a w).cc = s.cc := rfl
@[simp] theorem State.wr_dy (s : State) (a : Nat) (w : Word) : (s.wr a w).dy = s.dy := rfl
@[simp] theorem State.wr_sp (s : State) (a : Nat) (w : Word) : (s.wr a w).sp = s.sp := rfl
@[simp] theorem State.wr_ch (s : State) (a : Nat) (w : Word) : (s.wr a w).ch = s.ch := rfl
@[simp] theorem State.wr_jn (s : State) (a : Nat) (w : Word) : (s.wr a w).jn = s.jn := rfl
@[simp] theorem State.wr_cx (s : State) (a : Nat) (w : Word) : (s.wr a w).cx = s.cx := rfl
@[simp] theorem State.wr_ci (s : State) (a : Nat) (w : Word) : (s.wr a w).ci = s.ci := rfl
@[simp] theorem State.wr_tn (s : State) (a : Nat) (w : Word) : (s.wr a w).tn = s.tn := rfl
@[simp] theorem State.wr_ir (s : State) (a : Nat) (w : Word) : (s.wr a w).ir = s.ir := rfl
@[simp] theorem State.wr_fc (s : State) (a : Nat) (w : Word) : (s.wr a w).fc = s.fc := rfl
@[simp] theorem State.wr_tw (s : State) (a : Nat) (w : Word) : (s.wr a w).tw = s.tw := rfl
@[simp] theorem State.wr_sv (s : State) (a : Nat) (w : Word) : (s.wr a w).sv = s.sv := rfl

@[simp] theorem State.setTag_pending (s : State) (page : Nat) (t : BitVec 16) : (s.setTag page t).pending = s.pending := rfl
@[simp] theorem State.setTag_fresh (s : State) (page : Nat) (t : BitVec 16) : (s.setTag page t).fresh = s.fresh := rfl
@[simp] theorem State.setTag_out (s : State) (page : Nat) (t : BitVec 16) : (s.setTag page t).out = s.out := rfl
@[simp] theorem State.setTag_md (s : State) (page : Nat) (t : BitVec 16) : (s.setTag page t).md = s.md := rfl
@[simp] theorem State.setTag_es (s : State) (page : Nat) (t : BitVec 16) : (s.setTag page t).es = s.es := rfl
@[simp] theorem State.setTag_tm (s : State) (page : Nat) (t : BitVec 16) : (s.setTag page t).tm = s.tm := rfl
@[simp] theorem State.setTag_cores (s : State) (page : Nat) (t : BitVec 16) : (s.setTag page t).cores = s.cores := rfl
@[simp] theorem State.setTag_tc (s : State) (page : Nat) (t : BitVec 16) : (s.setTag page t).tc = s.tc := rfl
@[simp] theorem State.setTag_cc (s : State) (page : Nat) (t : BitVec 16) : (s.setTag page t).cc = s.cc := rfl
@[simp] theorem State.setTag_dy (s : State) (page : Nat) (t : BitVec 16) : (s.setTag page t).dy = s.dy := rfl
@[simp] theorem State.setTag_sp (s : State) (page : Nat) (t : BitVec 16) : (s.setTag page t).sp = s.sp := rfl
@[simp] theorem State.setTag_ch (s : State) (page : Nat) (t : BitVec 16) : (s.setTag page t).ch = s.ch := rfl
@[simp] theorem State.setTag_jn (s : State) (page : Nat) (t : BitVec 16) : (s.setTag page t).jn = s.jn := rfl
@[simp] theorem State.setTag_cx (s : State) (page : Nat) (t : BitVec 16) : (s.setTag page t).cx = s.cx := rfl
@[simp] theorem State.setTag_ci (s : State) (page : Nat) (t : BitVec 16) : (s.setTag page t).ci = s.ci := rfl
@[simp] theorem State.setTag_tn (s : State) (page : Nat) (t : BitVec 16) : (s.setTag page t).tn = s.tn := rfl
@[simp] theorem State.setTag_ir (s : State) (page : Nat) (t : BitVec 16) : (s.setTag page t).ir = s.ir := rfl
@[simp] theorem State.setTag_fc (s : State) (page : Nat) (t : BitVec 16) : (s.setTag page t).fc = s.fc := rfl
@[simp] theorem State.setTag_tw (s : State) (page : Nat) (t : BitVec 16) : (s.setTag page t).tw = s.tw := rfl
@[simp] theorem State.setTag_sv (s : State) (page : Nat) (t : BitVec 16) : (s.setTag page t).sv = s.sv := rfl

@[simp] theorem State.setPoison_pending (s : State) (l : Nat) (b : Bool) : (s.setPoison l b).pending = s.pending := rfl
@[simp] theorem State.setPoison_fresh (s : State) (l : Nat) (b : Bool) : (s.setPoison l b).fresh = s.fresh := rfl
@[simp] theorem State.setPoison_out (s : State) (l : Nat) (b : Bool) : (s.setPoison l b).out = s.out := rfl
@[simp] theorem State.setPoison_md (s : State) (l : Nat) (b : Bool) : (s.setPoison l b).md = s.md := rfl
@[simp] theorem State.setPoison_es (s : State) (l : Nat) (b : Bool) : (s.setPoison l b).es = s.es := rfl
@[simp] theorem State.setPoison_tm (s : State) (l : Nat) (b : Bool) : (s.setPoison l b).tm = s.tm := rfl
@[simp] theorem State.setPoison_cores (s : State) (l : Nat) (b : Bool) : (s.setPoison l b).cores = s.cores := rfl
@[simp] theorem State.setPoison_tc (s : State) (l : Nat) (b : Bool) : (s.setPoison l b).tc = s.tc := rfl
@[simp] theorem State.setPoison_cc (s : State) (l : Nat) (b : Bool) : (s.setPoison l b).cc = s.cc := rfl
@[simp] theorem State.setPoison_dy (s : State) (l : Nat) (b : Bool) : (s.setPoison l b).dy = s.dy := rfl
@[simp] theorem State.setPoison_sp (s : State) (l : Nat) (b : Bool) : (s.setPoison l b).sp = s.sp := rfl
@[simp] theorem State.setPoison_ch (s : State) (l : Nat) (b : Bool) : (s.setPoison l b).ch = s.ch := rfl
@[simp] theorem State.setPoison_jn (s : State) (l : Nat) (b : Bool) : (s.setPoison l b).jn = s.jn := rfl
@[simp] theorem State.setPoison_cx (s : State) (l : Nat) (b : Bool) : (s.setPoison l b).cx = s.cx := rfl
@[simp] theorem State.setPoison_ci (s : State) (l : Nat) (b : Bool) : (s.setPoison l b).ci = s.ci := rfl
@[simp] theorem State.setPoison_tn (s : State) (l : Nat) (b : Bool) : (s.setPoison l b).tn = s.tn := rfl
@[simp] theorem State.setPoison_ir (s : State) (l : Nat) (b : Bool) : (s.setPoison l b).ir = s.ir := rfl
@[simp] theorem State.setPoison_fc (s : State) (l : Nat) (b : Bool) : (s.setPoison l b).fc = s.fc := rfl
@[simp] theorem State.setPoison_tw (s : State) (l : Nat) (b : Bool) : (s.setPoison l b).tw = s.tw := rfl
@[simp] theorem State.setPoison_sv (s : State) (l : Nat) (b : Bool) : (s.setPoison l b).sv = s.sv := rfl

@[simp] theorem State.withQueue_own (s t : State) : (s.withQueue t).pending = t.pending := rfl

@[simp] theorem State.withQueue_self (s : State) : s.withQueue s = s := rfl

@[simp] theorem State.withQueue_twice (s t u : State) : (s.withQueue t).withQueue u = s.withQueue u := rfl

@[simp] theorem State.emit_own (s : State) (o : Output) : (s.emit o).out = s.out ++ [o] := rfl

theorem State.core_setCore (s : State) (c d : Nat) (v : Core) : (s.setCore c v).core d = if d = c then v else s.core d :=
  tget_tput ..

@[simp] theorem State.core_setCore_same (s : State) (c : Nat) (v : Core) : (s.setCore c v).core c = v := tget_tput_same ..

theorem State.chan_setChan (s : State) (m n : Nat) (c : Chan) : (s.setChan m c).chan n = if n = m then c else s.chan n :=
  tget_tput ..

@[simp] theorem State.chan_setChan_same (s : State) (m : Nat) (c : Chan) : (s.setChan m c).chan m = c := tget_tput_same ..

@[simp] theorem State.peer_setPeer_same (s : State) (p : Nat) (v : Peer) : (s.setPeer p v).peer p = v := tget_tput_same ..

@[simp] theorem State.jt_setJt_same (s : State) (t : Nat) (v : JnTenant) : (s.setJt t v).jt t = v := tget_tput_same ..

@[simp] theorem State.tenant_setTenant_same (s : State) (t : Nat) (v : Tenant) : (s.setTenant t v).tenant t = v := tget_tput_same ..

@[simp] theorem State.block_setBlock_same (s : State) (b : Nat) (v : Block) : (s.setBlock b v).block b = v := tget_tput_same ..

@[simp] theorem State.page_setPage_same (s : State) (o : Nat) (p : SrcPage) : (s.setPage o p).page o = p := tget_tput_same ..

@[simp] theorem State.src_setSrc_same (s : State) (o n : Nat) (v : Src) : (s.setSrc o n v).src o n = v := by
  simp [State.src, State.setSrc]

@[simp] theorem State.fsrc_setFsrc_same (s : State) (n : Nat) (v : FSrc) : (s.setFsrc n v).fsrc n = v := tget_tput_same ..

@[simp] theorem State.link_setLink_same (s : State) (k : Nat) (l : Link) : (s.setLink k l).link k = l := tget_tput_same ..

@[simp] theorem State.cxT_setCxT_same (s : State) (t : Nat) (v : CxTenant) : (s.setCxT t v).cxT t = v := tget_tput_same ..

@[simp] theorem State.ciT_setCiT_same (s : State) (t : Nat) (v : CiTenant) : (s.setCiT t v).ciT t = v := tget_tput_same ..

@[simp] theorem State.cxRing_setCxRing_same (s : State) (t r : Nat) (g : Ring) : (s.setCxRing t r g).cxRing t r = g := by
  simp [State.cxRing, State.setCxRing]

@[simp] theorem State.ciRing_setCiRing_same (s : State) (t r : Nat) (g : Ring) : (s.setCiRing t r g).ciRing t r = g := by
  simp [State.ciRing, State.setCiRing]

@[simp] theorem State.keySlot_setKeySlot_same (s : State) (t h : Nat) (k : KeySlot) : (s.setKeySlot t h k).keySlot t h = k := by
  simp [State.keySlot, State.setKeySlot]

end Sys2Proof.Machine
end

