-- ==== Sys2Proof/Laws/Insn.lean ====
section
/-! SUPPORT. What executing an instruction comes to once it begins. -/

namespace Sys2Proof.Safety

open Sys2Proof.Machine

/-- An instruction that begins and completes is its meaning on what was prepared. -/
theorem instr_of_begins {s u : State} {core : Nat} {ins : Insn} {o : OpCode} {r : Run} {f : Run → Except Stop State}
    (h : Begins s core ins o r) (hf : f r = .ok u) (hr : Room core u) : s.instr core ins o f = u.deliverChecks core := by
  obtain ⟨h1, h2, r0, h3, h4⟩ := h
  simp only [before] at h3
  simp only [Room] at hr
  have ht : (s.beforeInstr core).1.tick.2.tryInstr core ins o f = .ok u := by simp [State.tryInstr, h3, h4, hf, hr]
  simp [State.instr, h1, h2, State.tryMany, ht]

/-- What nothing can remove: an exception, a set without an eligible way, an I/O-space load. -/
def final : Stop → Bool
  | .exc _ => true
  | .noWay _ => true
  | .ioLoad _ _ _ => true
  | _ => false

theorem resolve_final {s : State} {core : Nat} {st : Stop} (h : final st = true) : s.resolve core st = (s, false) := by
  cases st <;> simp_all [final, State.resolve]

/-- An instruction that begins and stops for what nothing can remove is stopped. -/
theorem stops_of_begins {s : State} {core : Nat} {ins : Insn} {o : OpCode} {r : Run} {f : Run → Except Stop State} {st : Stop}
    (h : Begins s core ins o r) (hf : f r = .error st) (hs : final st = true) :
    s.instr core ins o f = ((before s core).stopped core ins o.words st).deliverChecks core := by
  obtain ⟨h1, h2, r0, h3, h4⟩ := h
  simp only [before] at h3
  have ht : (s.beforeInstr core).1.tick.2.tryInstr core ins o f = .error (st, o.words) := by
    simp [State.tryInstr, h3, h4, hf]
  simp [State.instr, h1, h2, State.tryMany, ht, resolve_final hs, before]

/-- Putting the caches in order changes the machine alone. -/
theorem useCaches_fields {r r0 : Run} (h : r0.useCaches = .ok r) : r.len = r0.len ∧ r.hdr = r0.hdr := by
  simp only [Run.useCaches] at h
  split at h <;> try cases h
  split at h <;> cases h
  exact ⟨rfl, rfl⟩

/-- What is prepared keeps the instruction's header and length. -/
theorem Begins.fields {s : State} {core : Nat} {ins : Insn} {o : OpCode} {r : Run} (h : Begins s core ins o r) :
    r.len = o.words ∧ r.hdr = ins.hdr := by
  obtain ⟨_, _, r0, h, hc⟩ := h
  rw [(useCaches_fields hc).1, (useCaches_fields hc).2]
  simp only [State.prepare] at h
  split at h <;> try cases h
  split at h <;> try cases h
  split at h <;> try cases h
  simp

/-- A plain instruction whose meaning gives results ends with them. -/
theorem ends_of_simple {s : State} {core : Nat} {ins : Insn} {o : OpCode} {r : Run} {i : Instr} {f : Run → Except Stop Eff}
    {e : Eff} (h : Begins s core ins o r) (hx : exec i s = s.runIf true (s.simple core ins o f)) (hf : f r = .ok e)
    (hr : Room core (r.finish e)) : Ends i s core (r.finish e) := by
  unfold Ends Answers
  rw [hx, State.simple, instr_of_begins h (u := r.finish e) (by simp [hf, Except.map]) hr]
  simp [State.runIf]

/-- A plain instruction whose meaning raises an exception is stopped for it. -/
theorem stops_of_simple {s : State} {core : Nat} {ins : Insn} {o : OpCode} {r : Run} {i : Instr} {f : Run → Except Stop Eff}
    {st : Stop} (h : Begins s core ins o r) (hx : exec i s = s.runIf true (s.simple core ins o f)) (hf : f r = .error st)
    (hs : final st = true) : Stops i s core ins r.len st := by
  unfold Stops Ends Answers
  rw [hx, State.simple, stops_of_begins h (by simp [hf, Except.map]) hs, h.fields.1]
  simp [State.runIf]

/-- The rule of integer results (R78). -/
theorem integer_ends {s : State} {core : Nat} {ins : Insn} {o : OpCode} {r : Run} {i : Instr} {f : Run → Except Stop Eff}
    (h : Begins s core ins o r) (hx : exec i s = s.runIf true (s.simple core ins o f)) (opn w : Nat) (x : IntRes) (v : Int)
    (fits : Bool) (cy : Option Bool) (cc : Nat) (hf : f r = r.integer opn w x) (h1 : x.val = (v % 2 ^ w).toNat)
    (h2 : x.ov = !fits) (h3 : x.cy = cy) (h4 : x.cc = cc) : IntegerEnds i s core ins r opn w v fits cy cc := by
  subst h3 h4
  constructor
  · intro hh hr
    refine ends_of_simple h hx ?_ hr
    rw [hf]
    simp only [Run.integer, IntRes.flags, h2, h1]
    cases fits <;> cases hc : x.cy <;> simp_all [Except.map, Run.eff, intSW, setCCIf]
  · intro h5 h6
    refine stops_of_simple h hx ?_ rfl
    rw [hf]
    subst h5
    simp_all [Run.integer, IntRes.flags, Except.map, resultInfo]

/-- Forgetting the poison of other homes' lines keeps memory's form, and its words. -/
theorem forgetPoison_wf {s : State} (h : s.mem.wf = true) : s.forgetPoison.mem.wf = true := by
  rw [Mem.wf_iff] at *
  exact ⟨h.1, h.2.1, twf_filter h.2.2 _⟩

@[simp] theorem rd_forgetPoison (s : State) (a : Nat) : s.forgetPoison.rd a = s.rd a := rfl

/-- What one try at an instruction gives: its meaning on the prepared operands, with room for what it leaves. -/
theorem tryInstr_ok {s t : State} {core : Nat} {ins : Insn} {o : OpCode} {f : Run → Except Stop State}
    (h : s.tryInstr core ins o f = .ok t) :
    ∃ r0 r, s.prepare core ins o = .ok r0 ∧ r0.useCaches = .ok r ∧ f r = .ok t ∧ Room core t := by
  simp only [State.tryInstr] at h
  split at h <;> try cases h
  split at h <;> try cases h
  split at h <;> try cases h
  split at h <;> cases h
  exact ⟨_, _, ‹_›, ‹_›, ‹_›, ‹_›⟩

end Sys2Proof.Safety
end

