-- ==== Sys2Proof/Laws/Objects.lean ====
section
/-! SUPPORT. What the object-write rows and the outcome of a command come to. -/

namespace Sys2Proof.Safety

open Sys2Proof.Machine

/-- A well-formed command answers the state that its meaning gives. -/
theorem answers_of_runIf {i : Instr} {s t u : State} {ok : Bool} (h : exec i s = s.runIf ok u) (hok : ok = true)
    (hu : u.withQueue s = t.withQueue s) : Answers i s t := by
  unfold Answers
  rw [h, State.runIf, if_pos hok, hu]

/-- A number's write has its effect, or the abort of the object's rule. -/
theorem odWriteNum_of_mayWrite {s : State} {route : Route} {index sub v : Nat} (h : MayWrite s route index sub v) (more : Nat)
    (f : State → State) :
    s.odWriteNum route index sub v more f = if more = 0 then (f s).odAnswer 0 [] else s.odAnswer more [] := by
  obtain ⟨r, hr, hv, hg⟩ := h
  rcases ho : objRights r index sub with ⟨ty, n⟩
  simp only [State.odWriteNum, hr, ho] at hv ⊢
  cases ty with
  | none => simp [hg]
  | some t =>
    have h1 : decide (v < 256 ^ t.lengths.2) = true := by simpa using hv.1
    have h2 : (t != .w36 || decide (v < 2 ^ 36)) = true := by
      by_cases ht : t = .w36
      · rw [decide_eq_true (hv.2 ht), Bool.or_true]
      · simp [ht]
    simp only [h1, h2, hg, Bool.and_self, beq_self_eq_true, if_true, beq_iff_eq]

/-- Octets' write has its effect, or the abort of the object's rule. -/
theorem odWriteOct_of_mayWrite {s : State} {route : Route} {index sub : Nat} {l : List Octet}
    (h : MayWriteOctets s route index sub l) (more : Nat) (f : State → State) :
    s.odWriteOct route index sub l more f = if more = 0 then (f s).odAnswer 0 [] else s.odAnswer more [] := by
  obtain ⟨r, hr, hv, hg⟩ := h
  rcases ho : objRights r index sub with ⟨ty, n⟩
  simp only [State.odWriteOct, hr, ho] at hv ⊢
  cases ty with
  | none => simp [hg]
  | some t => simp [hv, hg]

end Sys2Proof.Safety
end

