-- ==== Sys2Proof/Laws/PerInstr.lean ====
section
/-! SUPPORT. The per-command family `Cores`: the logical core that a well-formed command names is one of the module. -/

namespace Sys2Proof.Laws

/-- The core operand of a command, where it has one. -/
def coreOf : Instr → Option Nat
  | .mvw core _ => some core
  | .mvn core _ _ => some core
  | .fln core _ _ => some core
  | .xch core _ => some core
  | .ldr core _ => some core
  | .stc core _ => some core
  | .add core _ => some core
  | .sub core _ => some core
  | .adc core _ => some core
  | .sbb core _ => some core
  | .neg core _ => some core
  | .abs core _ => some core
  | .mul core _ => some core
  | .mlf core _ => some core
  | .div core _ => some core
  | .rem core _ => some core
  | .dvr core _ => some core
  | .cmp core _ => some core
  | .tst core _ => some core
  | .and core _ => some core
  | .orr core _ => some core
  | .xor core _ => some core
  | .not core _ => some core
  | .sll core _ => some core
  | .srl core _ => some core
  | .sla core _ => some core
  | .sra core _ => some core
  | .rol core _ => some core
  | .ror core _ => some core
  | .clz core _ => some core
  | .pct core _ => some core
  | .xbt core _ => some core
  | .ibt core _ => some core
  | .dad core _ => some core
  | .dsb core _ => some core
  | .dmu core _ => some core
  | .ddv core _ => some core
  | .dcp core _ => some core
  | .dmv core _ => some core
  | .dsr core _ => some core
  | .cdb core _ => some core
  | .cbd core _ => some core
  | .dts core _ => some core
  | .fad core _ => some core
  | .fsb core _ => some core
  | .fmu core _ => some core
  | .fdv core _ => some core
  | .fsq core _ => some core
  | .fma core _ => some core
  | .fcp core _ => some core
  | .fcv core _ => some core
  | .fci core _ => some core
  | .ffi core _ => some core
  | .ftd core _ => some core
  | .ffd core _ => some core
  | .ftx core _ => some core
  | .ffx core _ => some core
  | .fri core _ => some core
  | .br core _ => some core
  | .bal core _ => some core
  | .bct core _ => some core
  | .csv core _ => some core
  | .chs core _ => some core
  | .czn core _ => some core
  | .attest core _ => some core
  | .assignPages core _ => some core
  | .deleteNotice core _ => some core
  | .rti core _ => some core
  | .wait core _ => some core
  | .mvc core _ _ => some core
  | .cpc core _ _ => some core
  | .trc core _ _ => some core
  | .scn core _ _ => some core
  | .flc core _ _ => some core
  | .nto core _ _ => some core
  | .otn core _ _ => some core
  | .mvb core _ _ => some core
  | .bar core _ => some core
  | .enable core _ => some core
  | .disable core _ => some core
  | .cleanAll core _ => some core
  | .cleanAndInvalidateAll core _ => some core
  | .cleanLine core _ => some core
  | .invalidateLine core _ => some core
  | .zeroLine core _ => some core
  | .preloadShared core _ => some core
  | .preloadOwned core _ => some core
  | .preloadAndLock core _ => some core
  | .unlockLine core _ => some core
  | .unlockAll core _ => some core
  | .com core _ => some core
  | .odaRead core _ => some core
  | .odaWrite core _ => some core
  | .esbCompression core _ => some core
  | .esbCipher core _ => some core
  | .eplCompression core _ => some core
  | .eplCipher core _ => some core
  | .sch core _ => some core
  | .lsw core _ => some core
  | .ssw core _ => some core
  | .spm core _ => some core
  | .rcc core _ => some core
  | .rtd core _ => some core
  | .stage1Page core _ => some core
  | .stage1All core _ => some core
  | .stage2Page core _ => some core
  | .stage2Tenant core _ => some core
  | .module core _ => some core
  | .customerOpcode core _ => some core
  | .externalInterruption core => some core
  | .containedMachineCheck core _ _ => some core
  | .uncontainedMachineCheck _ _ core => some core
  | .replay core _ => some core
  | .storeBufferEntryPerformed core => some core
  | .reservationDeferralExpiry core => some core
  | .instructionRetry core _ _ => some core
  | .microcodeWatchdogExpiry core => some core
  | .haloTakeover _ _ _ _ => none
  | .spareSelfTest _ _ => none
  | .loadStagedImage _ => none
  | .unload _ => none
  | .selectedProfile _ _ => none
  | .deferredProfileChange => none
  | .customClockAdjust _ _ _ => none
  | .inletTemperatureChange _ => none
  | .capRaise => none
  | .coolantCauseClear => none
  | .dieOvertemperature _ => none
  | .orderlyStop _ _ => none
  | .startPermit _ _ => none
  | .vauxAccepted _ _ _ => none
  | .vauxLost => none
  | .vin48Accepted _ => none
  | .vin48Fail _ => none
  | .dawnStart _ => none
  | .porstNLow => none
  | .sysclkLoss => none
  | .referenceClockLoss _ => none
  | .reverseCurrent _ => none
  | .leverLifted => none
  | .leverLowered => none
  | .leverOpened => none
  | .storeBleedComplete => none
  | .fuelGaugeSample _ => none
  | .selfTest _ _ _ => none
  | .startSelfTest _ _ => none
  | .commitAdmission _ => none
  | .waitLimit _ => none
  | .entryWrite _ _ => none
  | .mirroredItem _ => none
  | .jnRd _ _ _ => none
  | .jnRelease _ _ _ => none
  | .reProvisionSealing _ _ => none
  | .sealing _ _ => none
  | .nop _ => none
  | .read _ => none
  | .write _ => none
  | .flush _ => none
  | .writeZeroes _ => none
  | .deallocate _ => none
  | .control _ => none
  | .query _ => none
  | .send _ => none
  | .receive _ => none
  | .retire _ => none
  | .close _ => none
  | .ledgerAllocation _ => none
  | .issue _ => none
  | .completionBlock _ _ _ _ _ _ => none
  | .nvmExpressCompletion _ _ _ _ _ _ => none
  | .completionRecord _ => none
  | .orderTimeout _ _ => none
  | .linkDownDetected _ _ => none
  | .pcieLinkUp _ _ _ _ => none
  | .adapterReset _ _ => none
  | .ioLoadCompletion core _ _ => some core
  | .ioLoadTimeout core => some core
  | .deviceWrite _ _ _ _ => none
  | .deviceRead _ _ _ _ => none
  | .configureChannel _ _ => none
  | .constellationData _ _ => none
  | .ack _ => none
  | .completion _ _ _ _ => none
  | .notReady _ => none
  | .hello _ _ => none
  | .helloSend _ => none
  | .fack _ => none
  | .retransmit _ => none
  | .peerDown _ => none
  | .timeFloor => none
  | .ptpMessage _ _ => none
  | .timeOfDay _ _ => none
  | .readShared _ _ => none
  | .readOwn _ _ => none
  | .upgrade _ _ => none
  | .readNoAllocate _ _ => none
  | .writeBack _ _ _ => none
  | .maskedWriteBack _ _ _ _ => none
  | .invalidate _ _ => none
  | .snoopShare _ _ => none
  | .snoopOwn _ _ => none
  | .snoopRead _ _ => none
  | .acknowledge _ _ _ _ => none
  | .negativeAcknowledge _ _ => none
  | .nakRetry _ _ => none
  | .grant _ _ => none
  | .data _ _ _ _ _ _ => none
  | .heldSnoopRelease _ _ => none
  | .replayRequest _ _ => none
  | .badCrcOrSequenceGap _ => none
  | .linkFailure _ => none
  | .retraining _ _ _ => none
  | .training _ _ _ => none
  | .identify _ _ => none
  | .trainingRetry _ => none
  | .laneGroupFence _ _ => none
  | .linkState _ _ => none
  | .linkStateFlood => none
  | .delivered _ _ => none
  | .drainMarker _ _ => none
  | .partitionRule _ => none
  | .admin _ _ _ => none
  | .dyProbe _ _ => none
  | .compress _ _ _ => none
  | .decompress _ _ _ => none
  | .compressionCompletion _ _ => none
  | .cxClose _ _ _ => none
  | .encrypt _ _ _ => none
  | .decrypt _ _ _ => none
  | .cipherCompletion _ _ => none
  | .ciClose _ _ _ => none
  | .erase _ _ _ => none
  | .loadPlain _ _ _ => none
  | .loadWrapped _ _ _ => none
  | .generate _ _ _ => none
  | .exportWrapped _ _ _ => none
  | .effectPoint _ => none
  | .create _ => none
  | .reset _ => none
  | .delete _ => none
  | .drainTimeout _ => none
  | .claim _ _ => none
  | .release _ _ => none
  | .moveSource _ _ => none
  | .handOverComplete _ => none
  | .gatingRequest _ => none
  | .gatingTimeout _ => none
  | .kick _ _ => none
  | .zenithWatchdogExpiry => none
  | .restartZenith _ _ _ _ => none
  | .doorbell _ _ => none
  | .irtSend _ _ _ => none
  | .irtClaim _ _ => none
  | .irtComplete _ _ _ => none
  | .irtSrc _ _ _ _ => none
  | .irtPrio _ _ _ _ => none
  | .irtTgt _ _ _ _ => none
  | .faultReport _ _ _ => none
  | .reportingPathFault _ => none
  | .squallExit _ => none
  | .force _ _ => none
  | .forcedReport _ => none
  | .spareRebuildComplete _ => none
  | .moduleReset _ _ => none
  | .returnUnit _ _ => none
  | .returnFailedSites _ _ => none
  | .heartbeat _ _ => none
  | .heartbeatSend _ => none
  | .witness _ => none
  | .pairing _ _ _ => none
  | .pairingEnabled _ _ => none
  | .bulkCopyComplete => none
  | .twinLinkSilence => none
  | .selfFence => none
  | .takeover => none
  | .relinquish _ => none
  | .plannedFailover _ _ => none
  | .sendRelinquish => none
  | .publicRead _ _ _ _ => none
  | .sspOpen _ _ _ => none
  | .requestRead _ => none
  | .requestWrite _ => none
  | .sspClose _ _ _ _ => none
  | .sessionIdle _ => none
  | .objectWrite _ _ _ _ => none
  | .credential _ _ _ => none
  | .keySwitch _ => none
  | .requestPress _ _ => none
  | .mediumAction _ => none
  | .identifyPress => none
  | .mediumChange _ => none
  | .stage _ _ => none
  | .activateAtDawn _ _ => none
  | .activateLive _ _ _ => none
  | .commitSecurityVersion _ => none
  | .abandonStaging _ => none
  | .registerWrite _ _ _ => none
  | .sysclkReturn => none
  | .porstNHigh => none
  | .constellationPortFailure _ => none
  | .mirrorReceipt _ _ => none
  | .linkProtocolFault _ => none
  | .aerErrorMessage _ _ => none

/-- A well-formed command names an existing core (R383). -/
def Cores.Statement (i : Instr) : Prop := i.wf = true → ∀ c, coreOf i = some c → wfCore c = true

theorem Cores.of_none {i : Instr} (h : coreOf i = none) : Cores.Statement i := by
  intro _ c hc
  rw [h] at hc
  cases hc

theorem Cores.of_some {i : Instr} {n : Nat} (h : coreOf i = some n) (hw : i.wf = true → wfCore n = true) :
    Cores.Statement i := by
  intro hi c hc
  rw [h] at hc
  cases hc
  exact hw hi

theorem wfCore_of_wfIns {core opc : Nat} {i : Insn} (h : wfIns core i opc = true) : wfCore core = true := by
  unfold wfIns at h
  exact (Bool.and_eq_true _ _ ▸ h).1

theorem Cores.mvw (core : Nat) (ins : Insn) : Cores.Statement (.mvw core ins) := Cores.of_some rfl (wfCore_of_wfIns)
theorem Cores.mvn (core : Nat) (ins : Insn) (stop : Option Nat) : Cores.Statement (.mvn core ins stop) := Cores.of_some rfl (wfCore_of_wfIns)
theorem Cores.fln (core : Nat) (ins : Insn) (stop : Option Nat) : Cores.Statement (.fln core ins stop) := Cores.of_some rfl (wfCore_of_wfIns)
theorem Cores.xch (core : Nat) (ins : Insn) : Cores.Statement (.xch core ins) := Cores.of_some rfl (wfCore_of_wfIns)
theorem Cores.ldr (core : Nat) (ins : Insn) : Cores.Statement (.ldr core ins) := Cores.of_some rfl (wfCore_of_wfIns)
theorem Cores.stc (core : Nat) (ins : Insn) : Cores.Statement (.stc core ins) := Cores.of_some rfl (wfCore_of_wfIns)
theorem Cores.add (core : Nat) (ins : Insn) : Cores.Statement (.add core ins) := Cores.of_some rfl (wfCore_of_wfIns)
theorem Cores.sub (core : Nat) (ins : Insn) : Cores.Statement (.sub core ins) := Cores.of_some rfl (wfCore_of_wfIns)
theorem Cores.adc (core : Nat) (ins : Insn) : Cores.Statement (.adc core ins) := Cores.of_some rfl (wfCore_of_wfIns)
theorem Cores.sbb (core : Nat) (ins : Insn) : Cores.Statement (.sbb core ins) := Cores.of_some rfl (wfCore_of_wfIns)
theorem Cores.neg (core : Nat) (ins : Insn) : Cores.Statement (.neg core ins) := Cores.of_some rfl (wfCore_of_wfIns)
theorem Cores.abs (core : Nat) (ins : Insn) : Cores.Statement (.abs core ins) := Cores.of_some rfl (wfCore_of_wfIns)
theorem Cores.mul (core : Nat) (ins : Insn) : Cores.Statement (.mul core ins) := Cores.of_some rfl (wfCore_of_wfIns)
theorem Cores.mlf (core : Nat) (ins : Insn) : Cores.Statement (.mlf core ins) := Cores.of_some rfl (wfCore_of_wfIns)
theorem Cores.div (core : Nat) (ins : Insn) : Cores.Statement (.div core ins) := Cores.of_some rfl (wfCore_of_wfIns)
theorem Cores.rem (core : Nat) (ins : Insn) : Cores.Statement (.rem core ins) := Cores.of_some rfl (wfCore_of_wfIns)
theorem Cores.dvr (core : Nat) (ins : Insn) : Cores.Statement (.dvr core ins) := Cores.of_some rfl (wfCore_of_wfIns)
theorem Cores.cmp (core : Nat) (ins : Insn) : Cores.Statement (.cmp core ins) := Cores.of_some rfl (wfCore_of_wfIns)
theorem Cores.tst (core : Nat) (ins : Insn) : Cores.Statement (.tst core ins) := Cores.of_some rfl (wfCore_of_wfIns)
theorem Cores.and (core : Nat) (ins : Insn) : Cores.Statement (.and core ins) := Cores.of_some rfl (wfCore_of_wfIns)
theorem Cores.orr (core : Nat) (ins : Insn) : Cores.Statement (.orr core ins) := Cores.of_some rfl (wfCore_of_wfIns)
theorem Cores.xor (core : Nat) (ins : Insn) : Cores.Statement (.xor core ins) := Cores.of_some rfl (wfCore_of_wfIns)
theorem Cores.not (core : Nat) (ins : Insn) : Cores.Statement (.not core ins) := Cores.of_some rfl (wfCore_of_wfIns)
theorem Cores.sll (core : Nat) (ins : Insn) : Cores.Statement (.sll core ins) := Cores.of_some rfl (wfCore_of_wfIns)
theorem Cores.srl (core : Nat) (ins : Insn) : Cores.Statement (.srl core ins) := Cores.of_some rfl (wfCore_of_wfIns)
theorem Cores.sla (core : Nat) (ins : Insn) : Cores.Statement (.sla core ins) := Cores.of_some rfl (wfCore_of_wfIns)
theorem Cores.sra (core : Nat) (ins : Insn) : Cores.Statement (.sra core ins) := Cores.of_some rfl (wfCore_of_wfIns)
theorem Cores.rol (core : Nat) (ins : Insn) : Cores.Statement (.rol core ins) := Cores.of_some rfl (wfCore_of_wfIns)
theorem Cores.ror (core : Nat) (ins : Insn) : Cores.Statement (.ror core ins) := Cores.of_some rfl (wfCore_of_wfIns)
theorem Cores.clz (core : Nat) (ins : Insn) : Cores.Statement (.clz core ins) := Cores.of_some rfl (wfCore_of_wfIns)
theorem Cores.pct (core : Nat) (ins : Insn) : Cores.Statement (.pct core ins) := Cores.of_some rfl (wfCore_of_wfIns)
theorem Cores.xbt (core : Nat) (ins : Insn) : Cores.Statement (.xbt core ins) := Cores.of_some rfl (wfCore_of_wfIns)
theorem Cores.ibt (core : Nat) (ins : Insn) : Cores.Statement (.ibt core ins) := Cores.of_some rfl (wfCore_of_wfIns)
theorem Cores.dad (core : Nat) (ins : Insn) : Cores.Statement (.dad core ins) := Cores.of_some rfl (wfCore_of_wfIns)
theorem Cores.dsb (core : Nat) (ins : Insn) : Cores.Statement (.dsb core ins) := Cores.of_some rfl (wfCore_of_wfIns)
theorem Cores.dmu (core : Nat) (ins : Insn) : Cores.Statement (.dmu core ins) := Cores.of_some rfl (wfCore_of_wfIns)
theorem Cores.ddv (core : Nat) (ins : Insn) : Cores.Statement (.ddv core ins) := Cores.of_some rfl (wfCore_of_wfIns)
theorem Cores.dcp (core : Nat) (ins : Insn) : Cores.Statement (.dcp core ins) := Cores.of_some rfl (wfCore_of_wfIns)
theorem Cores.dmv (core : Nat) (ins : Insn) : Cores.Statement (.dmv core ins) := Cores.of_some rfl (wfCore_of_wfIns)
theorem Cores.dsr (core : Nat) (ins : Insn) : Cores.Statement (.dsr core ins) := Cores.of_some rfl (wfCore_of_wfIns)
theorem Cores.cdb (core : Nat) (ins : Insn) : Cores.Statement (.cdb core ins) := Cores.of_some rfl (wfCore_of_wfIns)
theorem Cores.cbd (core : Nat) (ins : Insn) : Cores.Statement (.cbd core ins) := Cores.of_some rfl (wfCore_of_wfIns)
theorem Cores.dts (core : Nat) (ins : Insn) : Cores.Statement (.dts core ins) := Cores.of_some rfl (wfCore_of_wfIns)
theorem Cores.fad (core : Nat) (ins : Insn) : Cores.Statement (.fad core ins) := Cores.of_some rfl (wfCore_of_wfIns)
theorem Cores.fsb (core : Nat) (ins : Insn) : Cores.Statement (.fsb core ins) := Cores.of_some rfl (wfCore_of_wfIns)
theorem Cores.fmu (core : Nat) (ins : Insn) : Cores.Statement (.fmu core ins) := Cores.of_some rfl (wfCore_of_wfIns)
theorem Cores.fdv (core : Nat) (ins : Insn) : Cores.Statement (.fdv core ins) := Cores.of_some rfl (wfCore_of_wfIns)
theorem Cores.fsq (core : Nat) (ins : Insn) : Cores.Statement (.fsq core ins) := Cores.of_some rfl (wfCore_of_wfIns)
theorem Cores.fma (core : Nat) (ins : Insn) : Cores.Statement (.fma core ins) := Cores.of_some rfl (wfCore_of_wfIns)
theorem Cores.fcp (core : Nat) (ins : Insn) : Cores.Statement (.fcp core ins) := Cores.of_some rfl (wfCore_of_wfIns)
theorem Cores.fcv (core : Nat) (ins : Insn) : Cores.Statement (.fcv core ins) := Cores.of_some rfl (wfCore_of_wfIns)
theorem Cores.fci (core : Nat) (ins : Insn) : Cores.Statement (.fci core ins) := Cores.of_some rfl (wfCore_of_wfIns)
theorem Cores.ffi (core : Nat) (ins : Insn) : Cores.Statement (.ffi core ins) := Cores.of_some rfl (wfCore_of_wfIns)
theorem Cores.ftd (core : Nat) (ins : Insn) : Cores.Statement (.ftd core ins) := Cores.of_some rfl (wfCore_of_wfIns)
theorem Cores.ffd (core : Nat) (ins : Insn) : Cores.Statement (.ffd core ins) := Cores.of_some rfl (wfCore_of_wfIns)
theorem Cores.ftx (core : Nat) (ins : Insn) : Cores.Statement (.ftx core ins) := Cores.of_some rfl (wfCore_of_wfIns)
theorem Cores.ffx (core : Nat) (ins : Insn) : Cores.Statement (.ffx core ins) := Cores.of_some rfl (wfCore_of_wfIns)
theorem Cores.fri (core : Nat) (ins : Insn) : Cores.Statement (.fri core ins) := Cores.of_some rfl (wfCore_of_wfIns)
theorem Cores.br (core : Nat) (ins : Insn) : Cores.Statement (.br core ins) := Cores.of_some rfl (wfCore_of_wfIns)
theorem Cores.bal (core : Nat) (ins : Insn) : Cores.Statement (.bal core ins) := Cores.of_some rfl (wfCore_of_wfIns)
theorem Cores.bct (core : Nat) (ins : Insn) : Cores.Statement (.bct core ins) := Cores.of_some rfl (wfCore_of_wfIns)
theorem Cores.csv (core : Nat) (ins : Insn) : Cores.Statement (.csv core ins) := Cores.of_some rfl (wfCore_of_wfIns)
theorem Cores.chs (core : Nat) (ins : Insn) : Cores.Statement (.chs core ins) := Cores.of_some rfl (wfCore_of_wfIns)
theorem Cores.czn (core : Nat) (ins : Insn) : Cores.Statement (.czn core ins) := Cores.of_some rfl (wfCore_of_wfIns)
theorem Cores.attest (core : Nat) (ins : Insn) : Cores.Statement (.attest core ins) := Cores.of_some rfl (wfCore_of_wfIns)
theorem Cores.assignPages (core : Nat) (ins : Insn) : Cores.Statement (.assignPages core ins) := Cores.of_some rfl (wfCore_of_wfIns)
theorem Cores.deleteNotice (core : Nat) (ins : Insn) : Cores.Statement (.deleteNotice core ins) := Cores.of_some rfl (wfCore_of_wfIns)
theorem Cores.rti (core : Nat) (ins : Insn) : Cores.Statement (.rti core ins) := Cores.of_some rfl (wfCore_of_wfIns)
theorem Cores.wait (core : Nat) (ins : Insn) : Cores.Statement (.wait core ins) := Cores.of_some rfl (wfCore_of_wfIns)
theorem Cores.mvc (core : Nat) (ins : Insn) (stop : Option Nat) : Cores.Statement (.mvc core ins stop) := Cores.of_some rfl (wfCore_of_wfIns)
theorem Cores.cpc (core : Nat) (ins : Insn) (stop : Option Nat) : Cores.Statement (.cpc core ins stop) := Cores.of_some rfl (wfCore_of_wfIns)
theorem Cores.trc (core : Nat) (ins : Insn) (stop : Option Nat) : Cores.Statement (.trc core ins stop) := Cores.of_some rfl (wfCore_of_wfIns)
theorem Cores.scn (core : Nat) (ins : Insn) (stop : Option Nat) : Cores.Statement (.scn core ins stop) := Cores.of_some rfl (wfCore_of_wfIns)
theorem Cores.flc (core : Nat) (ins : Insn) (stop : Option Nat) : Cores.Statement (.flc core ins stop) := Cores.of_some rfl (wfCore_of_wfIns)
theorem Cores.nto (core : Nat) (ins : Insn) (stop : Option Nat) : Cores.Statement (.nto core ins stop) := Cores.of_some rfl (wfCore_of_wfIns)
theorem Cores.otn (core : Nat) (ins : Insn) (stop : Option Nat) : Cores.Statement (.otn core ins stop) := Cores.of_some rfl (wfCore_of_wfIns)
theorem Cores.mvb (core : Nat) (ins : Insn) (stop : Option Nat) : Cores.Statement (.mvb core ins stop) := Cores.of_some rfl (wfCore_of_wfIns)
theorem Cores.bar (core : Nat) (ins : Insn) : Cores.Statement (.bar core ins) := Cores.of_some rfl (wfCore_of_wfIns)
theorem Cores.enable (core : Nat) (ins : Insn) : Cores.Statement (.enable core ins) := Cores.of_some rfl (fun h => wfCore_of_wfIns (Bool.and_eq_true _ _ ▸ h : _ ∧ _).1)
theorem Cores.disable (core : Nat) (ins : Insn) : Cores.Statement (.disable core ins) := Cores.of_some rfl (fun h => wfCore_of_wfIns (Bool.and_eq_true _ _ ▸ h : _ ∧ _).1)
theorem Cores.cleanAll (core : Nat) (ins : Insn) : Cores.Statement (.cleanAll core ins) := Cores.of_some rfl (fun h => wfCore_of_wfIns (Bool.and_eq_true _ _ ▸ h : _ ∧ _).1)
theorem Cores.cleanAndInvalidateAll (core : Nat) (ins : Insn) : Cores.Statement (.cleanAndInvalidateAll core ins) := Cores.of_some rfl (fun h => wfCore_of_wfIns (Bool.and_eq_true _ _ ▸ h : _ ∧ _).1)
theorem Cores.cleanLine (core : Nat) (ins : Insn) : Cores.Statement (.cleanLine core ins) := Cores.of_some rfl (fun h => wfCore_of_wfIns (Bool.and_eq_true _ _ ▸ h : _ ∧ _).1)
theorem Cores.invalidateLine (core : Nat) (ins : Insn) : Cores.Statement (.invalidateLine core ins) := Cores.of_some rfl (fun h => wfCore_of_wfIns (Bool.and_eq_true _ _ ▸ h : _ ∧ _).1)
theorem Cores.zeroLine (core : Nat) (ins : Insn) : Cores.Statement (.zeroLine core ins) := Cores.of_some rfl (fun h => wfCore_of_wfIns (Bool.and_eq_true _ _ ▸ h : _ ∧ _).1)
theorem Cores.preloadShared (core : Nat) (ins : Insn) : Cores.Statement (.preloadShared core ins) := Cores.of_some rfl (fun h => wfCore_of_wfIns (Bool.and_eq_true _ _ ▸ h : _ ∧ _).1)
theorem Cores.preloadOwned (core : Nat) (ins : Insn) : Cores.Statement (.preloadOwned core ins) := Cores.of_some rfl (fun h => wfCore_of_wfIns (Bool.and_eq_true _ _ ▸ h : _ ∧ _).1)
theorem Cores.preloadAndLock (core : Nat) (ins : Insn) : Cores.Statement (.preloadAndLock core ins) := Cores.of_some rfl (fun h => wfCore_of_wfIns (Bool.and_eq_true _ _ ▸ h : _ ∧ _).1)
theorem Cores.unlockLine (core : Nat) (ins : Insn) : Cores.Statement (.unlockLine core ins) := Cores.of_some rfl (fun h => wfCore_of_wfIns (Bool.and_eq_true _ _ ▸ h : _ ∧ _).1)
theorem Cores.unlockAll (core : Nat) (ins : Insn) : Cores.Statement (.unlockAll core ins) := Cores.of_some rfl (fun h => wfCore_of_wfIns (Bool.and_eq_true _ _ ▸ h : _ ∧ _).1)
theorem Cores.com (core : Nat) (ins : Insn) : Cores.Statement (.com core ins) := Cores.of_some rfl (wfCore_of_wfIns)
theorem Cores.odaRead (core : Nat) (ins : Insn) : Cores.Statement (.odaRead core ins) := Cores.of_some rfl (wfCore_of_wfIns)
theorem Cores.odaWrite (core : Nat) (ins : Insn) : Cores.Statement (.odaWrite core ins) := Cores.of_some rfl (wfCore_of_wfIns)
theorem Cores.esbCompression (core : Nat) (ins : Insn) : Cores.Statement (.esbCompression core ins) := Cores.of_some rfl (fun h => wfCore_of_wfIns (Bool.and_eq_true _ _ ▸ h : _ ∧ _).1)
theorem Cores.esbCipher (core : Nat) (ins : Insn) : Cores.Statement (.esbCipher core ins) := Cores.of_some rfl (fun h => wfCore_of_wfIns (Bool.and_eq_true _ _ ▸ h : _ ∧ _).1)
theorem Cores.eplCompression (core : Nat) (ins : Insn) : Cores.Statement (.eplCompression core ins) := Cores.of_some rfl (fun h => wfCore_of_wfIns (Bool.and_eq_true _ _ ▸ h : _ ∧ _).1)
theorem Cores.eplCipher (core : Nat) (ins : Insn) : Cores.Statement (.eplCipher core ins) := Cores.of_some rfl (fun h => wfCore_of_wfIns (Bool.and_eq_true _ _ ▸ h : _ ∧ _).1)
theorem Cores.sch (core : Nat) (ins : Insn) : Cores.Statement (.sch core ins) := Cores.of_some rfl (wfCore_of_wfIns)
theorem Cores.lsw (core : Nat) (ins : Insn) : Cores.Statement (.lsw core ins) := Cores.of_some rfl (wfCore_of_wfIns)
theorem Cores.ssw (core : Nat) (ins : Insn) : Cores.Statement (.ssw core ins) := Cores.of_some rfl (wfCore_of_wfIns)
theorem Cores.spm (core : Nat) (ins : Insn) : Cores.Statement (.spm core ins) := Cores.of_some rfl (wfCore_of_wfIns)
theorem Cores.rcc (core : Nat) (ins : Insn) : Cores.Statement (.rcc core ins) := Cores.of_some rfl (wfCore_of_wfIns)
theorem Cores.rtd (core : Nat) (ins : Insn) : Cores.Statement (.rtd core ins) := Cores.of_some rfl (wfCore_of_wfIns)
theorem Cores.stage1Page (core : Nat) (ins : Insn) : Cores.Statement (.stage1Page core ins) := Cores.of_some rfl (fun h => wfCore_of_wfIns (Bool.and_eq_true _ _ ▸ h : _ ∧ _).1)
theorem Cores.stage1All (core : Nat) (ins : Insn) : Cores.Statement (.stage1All core ins) := Cores.of_some rfl (fun h => wfCore_of_wfIns (Bool.and_eq_true _ _ ▸ h : _ ∧ _).1)
theorem Cores.stage2Page (core : Nat) (ins : Insn) : Cores.Statement (.stage2Page core ins) := Cores.of_some rfl (fun h => wfCore_of_wfIns (Bool.and_eq_true _ _ ▸ h : _ ∧ _).1)
theorem Cores.stage2Tenant (core : Nat) (ins : Insn) : Cores.Statement (.stage2Tenant core ins) := Cores.of_some rfl (fun h => wfCore_of_wfIns (Bool.and_eq_true _ _ ▸ h : _ ∧ _).1)
theorem Cores.module (core : Nat) (ins : Insn) : Cores.Statement (.module core ins) := Cores.of_some rfl (fun h => wfCore_of_wfIns (Bool.and_eq_true _ _ ▸ h : _ ∧ _).1)
theorem Cores.customerOpcode (core : Nat) (ins : Insn) : Cores.Statement (.customerOpcode core ins) := Cores.of_some rfl (fun h => by simp only [Instr.wf, Bool.and_eq_true] at h; simp [h])
theorem Cores.externalInterruption (core : Nat) : Cores.Statement (.externalInterruption core) := Cores.of_some rfl (id)
theorem Cores.containedMachineCheck (core sub : Nat) (info : DWord) : Cores.Statement (.containedMachineCheck core sub info) := Cores.of_some rfl (fun h => by simp only [Instr.wf, Bool.and_eq_true] at h; simp [h])
theorem Cores.uncontainedMachineCheck (line sub core : Nat) : Cores.Statement (.uncontainedMachineCheck line sub core) := Cores.of_some rfl (fun h => by simp only [Instr.wf, Bool.and_eq_true] at h; simp [h])
theorem Cores.replay (core line : Nat) : Cores.Statement (.replay core line) := Cores.of_some rfl (fun h => by simp only [Instr.wf, Bool.and_eq_true] at h; simp [h])
theorem Cores.storeBufferEntryPerformed (core : Nat) : Cores.Statement (.storeBufferEntryPerformed core) := Cores.of_some rfl (id)
theorem Cores.reservationDeferralExpiry (core : Nat) : Cores.Statement (.reservationDeferralExpiry core) := Cores.of_some rfl (id)
theorem Cores.instructionRetry (core : Nat) (coreCopyIntact recoveryIntact : Bool) : Cores.Statement (.instructionRetry core coreCopyIntact recoveryIntact) := Cores.of_some rfl (id)
theorem Cores.microcodeWatchdogExpiry (core : Nat) : Cores.Statement (.microcodeWatchdogExpiry core) := Cores.of_some rfl (id)
theorem Cores.haloTakeover (site : Nat) (checkpointIntact linesIntact entriesIntact : Bool) : Cores.Statement (.haloTakeover site checkpointIntact linesIntact entriesIntact) := Cores.of_none rfl
theorem Cores.spareSelfTest (site : Nat) (passed : Bool) : Cores.Statement (.spareSelfTest site passed) := Cores.of_none rfl
theorem Cores.loadStagedImage (route : Route) : Cores.Statement (.loadStagedImage route) := Cores.of_none rfl
theorem Cores.unload (route : Route) : Cores.Statement (.unload route) := Cores.of_none rfl
theorem Cores.selectedProfile (route : Route) (value : Nat) : Cores.Statement (.selectedProfile route value) := Cores.of_none rfl
theorem Cores.deferredProfileChange : Cores.Statement .deferredProfileChange := Cores.of_none rfl
theorem Cores.customClockAdjust (mean1ms mean10ms : Nat) (below100ms : Bool) : Cores.Statement (.customClockAdjust mean1ms mean10ms below100ms) := Cores.of_none rfl
theorem Cores.inletTemperatureChange (inlet : Int) : Cores.Statement (.inletTemperatureChange inlet) := Cores.of_none rfl
theorem Cores.capRaise : Cores.Statement .capRaise := Cores.of_none rfl
theorem Cores.coolantCauseClear : Cores.Statement .coolantCauseClear := Cores.of_none rfl
theorem Cores.dieOvertemperature (hottest : Int) : Cores.Statement (.dieOvertemperature hottest) := Cores.of_none rfl
theorem Cores.orderlyStop (route : Route) (value : Nat) : Cores.Statement (.orderlyStop route value) := Cores.of_none rfl
theorem Cores.startPermit (route : Route) (value : Nat) : Cores.Statement (.startPermit route value) := Cores.of_none rfl
theorem Cores.vauxAccepted (slot : Nat) (twinId : Bool) (millivolts : Nat) : Cores.Statement (.vauxAccepted slot twinId millivolts) := Cores.of_none rfl
theorem Cores.vauxLost : Cores.Statement .vauxLost := Cores.of_none rfl
theorem Cores.vin48Accepted (millivolts : Nat) : Cores.Statement (.vin48Accepted millivolts) := Cores.of_none rfl
theorem Cores.vin48Fail (millivolts : Nat) : Cores.Statement (.vin48Fail millivolts) := Cores.of_none rfl
theorem Cores.dawnStart (found : DawnInput) : Cores.Statement (.dawnStart found) := Cores.of_none rfl
theorem Cores.porstNLow : Cores.Statement .porstNLow := Cores.of_none rfl
theorem Cores.sysclkLoss : Cores.Statement .sysclkLoss := Cores.of_none rfl
theorem Cores.referenceClockLoss (which : Nat) : Cores.Statement (.referenceClockLoss which) := Cores.of_none rfl
theorem Cores.reverseCurrent (input : Nat) : Cores.Statement (.reverseCurrent input) := Cores.of_none rfl
theorem Cores.leverLifted : Cores.Statement .leverLifted := Cores.of_none rfl
theorem Cores.leverLowered : Cores.Statement .leverLowered := Cores.of_none rfl
theorem Cores.leverOpened : Cores.Statement .leverOpened := Cores.of_none rfl
theorem Cores.storeBleedComplete : Cores.Statement .storeBleedComplete := Cores.of_none rfl
theorem Cores.fuelGaugeSample (millivolts : Nat) : Cores.Statement (.fuelGaugeSample millivolts) := Cores.of_none rfl
theorem Cores.selfTest (microfarads microohms millivolts : Nat) : Cores.Statement (.selfTest microfarads microohms millivolts) := Cores.of_none rfl
theorem Cores.startSelfTest (route : Route) (value : Nat) : Cores.Statement (.startSelfTest route value) := Cores.of_none rfl
theorem Cores.commitAdmission (tenant : Nat) : Cores.Statement (.commitAdmission tenant) := Cores.of_none rfl
theorem Cores.waitLimit (tenant : Nat) : Cores.Statement (.waitLimit tenant) := Cores.of_none rfl
theorem Cores.entryWrite (stream : Nat) (verified : Bool) : Cores.Statement (.entryWrite stream verified) := Cores.of_none rfl
theorem Cores.mirroredItem (item : MirrorItem) : Cores.Statement (.mirroredItem item) := Cores.of_none rfl
theorem Cores.jnRd (acc : Accessor) (tenant value : Nat) : Cores.Statement (.jnRd acc tenant value) := Cores.of_none rfl
theorem Cores.jnRelease (acc : Accessor) (tenant value : Nat) : Cores.Statement (.jnRelease acc tenant value) := Cores.of_none rfl
theorem Cores.reProvisionSealing (route : Route) (value : Nat) : Cores.Statement (.reProvisionSealing route value) := Cores.of_none rfl
theorem Cores.sealing (route : Route) (value : Nat) : Cores.Statement (.sealing route value) := Cores.of_none rfl
theorem Cores.nop (chan : Nat) : Cores.Statement (.nop chan) := Cores.of_none rfl
theorem Cores.read (chan : Nat) : Cores.Statement (.read chan) := Cores.of_none rfl
theorem Cores.write (chan : Nat) : Cores.Statement (.write chan) := Cores.of_none rfl
theorem Cores.flush (chan : Nat) : Cores.Statement (.flush chan) := Cores.of_none rfl
theorem Cores.writeZeroes (chan : Nat) : Cores.Statement (.writeZeroes chan) := Cores.of_none rfl
theorem Cores.deallocate (chan : Nat) : Cores.Statement (.deallocate chan) := Cores.of_none rfl
theorem Cores.control (chan : Nat) : Cores.Statement (.control chan) := Cores.of_none rfl
theorem Cores.query (chan : Nat) : Cores.Statement (.query chan) := Cores.of_none rfl
theorem Cores.send (chan : Nat) : Cores.Statement (.send chan) := Cores.of_none rfl
theorem Cores.receive (chan : Nat) : Cores.Statement (.receive chan) := Cores.of_none rfl
theorem Cores.retire (chan : Nat) : Cores.Statement (.retire chan) := Cores.of_none rfl
theorem Cores.close (chan : Nat) : Cores.Statement (.close chan) := Cores.of_none rfl
theorem Cores.ledgerAllocation (chan : Nat) : Cores.Statement (.ledgerAllocation chan) := Cores.of_none rfl
theorem Cores.issue (chan : Nat) : Cores.Statement (.issue chan) := Cores.of_none rfl
theorem Cores.completionBlock (opid : DWord) (result : Nat) (duplicate : Bool) (attempt count : Nat) (detail : BitVec 64) : Cores.Statement (.completionBlock opid result duplicate attempt count detail) := Cores.of_none rfl
theorem Cores.nvmExpressCompletion (port rid : Nat) (cid : Nat) (status dword0 dword3 : Nat) : Cores.Statement (.nvmExpressCompletion port rid cid status dword0 dword3) := Cores.of_none rfl
theorem Cores.completionRecord (chan : Nat) : Cores.Statement (.completionRecord chan) := Cores.of_none rfl
theorem Cores.orderTimeout (chan slot : Nat) : Cores.Statement (.orderTimeout chan slot) := Cores.of_none rfl
theorem Cores.linkDownDetected (port link : Nat) : Cores.Statement (.linkDownDetected port link) := Cores.of_none rfl
theorem Cores.pcieLinkUp (port link rate width : Nat) : Cores.Statement (.pcieLinkUp port link rate width) := Cores.of_none rfl
theorem Cores.adapterReset (port rid : Nat) : Cores.Statement (.adapterReset port rid) := Cores.of_none rfl
theorem Cores.ioLoadCompletion (core status : Nat) (data : DWord) : Cores.Statement (.ioLoadCompletion core status data) := Cores.of_some rfl (id)
theorem Cores.ioLoadTimeout (core : Nat) : Cores.Statement (.ioLoadTimeout core) := Cores.of_some rfl (id)
theorem Cores.deviceWrite (port rid addr : Nat) (octets : List Octet) : Cores.Statement (.deviceWrite port rid addr octets) := Cores.of_none rfl
theorem Cores.deviceRead (port rid addr len : Nat) : Cores.Statement (.deviceRead port rid addr len) := Cores.of_none rfl
theorem Cores.configureChannel (route : Route) (record : List Octet) : Cores.Statement (.configureChannel route record) := Cores.of_none rfl
theorem Cores.constellationData (hdr : CHeader) (payload : List Octet) : Cores.Statement (.constellationData hdr payload) := Cores.of_none rfl
theorem Cores.ack (hdr : CHeader) : Cores.Statement (.ack hdr) := Cores.of_none rfl
theorem Cores.completion (hdr : CHeader) (status count : Nat) (time : BitVec 64) : Cores.Statement (.completion hdr status count time) := Cores.of_none rfl
theorem Cores.notReady (hdr : CHeader) : Cores.Statement (.notReady hdr) := Cores.of_none rfl
theorem Cores.hello (port : Nat) (hdr : CHeader) : Cores.Statement (.hello port hdr) := Cores.of_none rfl
theorem Cores.helloSend (peer : Nat) : Cores.Statement (.helloSend peer) := Cores.of_none rfl
theorem Cores.fack (peer : Nat) : Cores.Statement (.fack peer) := Cores.of_none rfl
theorem Cores.retransmit (peer : Nat) : Cores.Statement (.retransmit peer) := Cores.of_none rfl
theorem Cores.peerDown (peer : Nat) : Cores.Statement (.peerDown peer) := Cores.of_none rfl
theorem Cores.timeFloor : Cores.Statement .timeFloor := Cores.of_none rfl
theorem Cores.ptpMessage (offset : Int) (atLock : Bool) : Cores.Statement (.ptpMessage offset atLock) := Cores.of_none rfl
theorem Cores.timeOfDay (route : Route) (value : BitVec 64) : Cores.Statement (.timeOfDay route value) := Cores.of_none rfl
theorem Cores.readShared (src : MsgEnd) (line : Nat) : Cores.Statement (.readShared src line) := Cores.of_none rfl
theorem Cores.readOwn (src : MsgEnd) (line : Nat) : Cores.Statement (.readOwn src line) := Cores.of_none rfl
theorem Cores.upgrade (src : MsgEnd) (line : Nat) : Cores.Statement (.upgrade src line) := Cores.of_none rfl
theorem Cores.readNoAllocate (src : MsgEnd) (line : Nat) : Cores.Statement (.readNoAllocate src line) := Cores.of_none rfl
theorem Cores.writeBack (src : MsgEnd) (line : Nat) (words : Option (List Word)) : Cores.Statement (.writeBack src line words) := Cores.of_none rfl
theorem Cores.maskedWriteBack (src : MsgEnd) (line : Nat) (words mask : List Word) : Cores.Statement (.maskedWriteBack src line words mask) := Cores.of_none rfl
theorem Cores.invalidate (dst : MsgEnd) (line : Nat) : Cores.Statement (.invalidate dst line) := Cores.of_none rfl
theorem Cores.snoopShare (dst : MsgEnd) (line : Nat) : Cores.Statement (.snoopShare dst line) := Cores.of_none rfl
theorem Cores.snoopOwn (dst : MsgEnd) (line : Nat) : Cores.Statement (.snoopOwn dst line) := Cores.of_none rfl
theorem Cores.snoopRead (dst : MsgEnd) (line : Nat) : Cores.Statement (.snoopRead dst line) := Cores.of_none rfl
theorem Cores.acknowledge (dst : Nat) (src : MsgEnd) (line : Nat) (wbf : Bool) : Cores.Statement (.acknowledge dst src line wbf) := Cores.of_none rfl
theorem Cores.negativeAcknowledge (dst : MsgEnd) (line : Nat) : Cores.Statement (.negativeAcknowledge dst line) := Cores.of_none rfl
theorem Cores.nakRetry (agent line : Nat) : Cores.Statement (.nakRetry agent line) := Cores.of_none rfl
theorem Cores.grant (dst : MsgEnd) (line : Nat) : Cores.Statement (.grant dst line) := Cores.of_none rfl
theorem Cores.data (dst : Nat) (src : MsgEnd) (line : Nat) (words : List Word) (grant : Nat) (dirty : Bool) : Cores.Statement (.data dst src line words grant dirty) := Cores.of_none rfl
theorem Cores.heldSnoopRelease (tile line : Nat) : Cores.Statement (.heldSnoopRelease tile line) := Cores.of_none rfl
theorem Cores.replayRequest (link seq : Nat) : Cores.Statement (.replayRequest link seq) := Cores.of_none rfl
theorem Cores.badCrcOrSequenceGap (link : Nat) : Cores.Statement (.badCrcOrSequenceGap link) := Cores.of_none rfl
theorem Cores.linkFailure (link : Nat) : Cores.Statement (.linkFailure link) := Cores.of_none rfl
theorem Cores.retraining (link : Retrained) (g0 g1 : Bool) : Cores.Statement (.retraining link g0 g1) := Cores.of_none rfl
theorem Cores.training (link : Nat) (g0 g1 : Bool) : Cores.Statement (.training link g0 g1) := Cores.of_none rfl
theorem Cores.identify (link : Nat) (matched : Bool) : Cores.Statement (.identify link matched) := Cores.of_none rfl
theorem Cores.trainingRetry (link : Nat) : Cores.Statement (.trainingRetry link) := Cores.of_none rfl
theorem Cores.laneGroupFence (link group : Nat) : Cores.Statement (.laneGroupFence link group) := Cores.of_none rfl
theorem Cores.linkState (origin : LinkOrigin) (bits : Nat) : Cores.Statement (.linkState origin bits) := Cores.of_none rfl
theorem Cores.linkStateFlood : Cores.Statement .linkStateFlood := Cores.of_none rfl
theorem Cores.delivered (link seq : Nat) : Cores.Statement (.delivered link seq) := Cores.of_none rfl
theorem Cores.drainMarker (link : Nat) (confirmed : Bool) : Cores.Statement (.drainMarker link confirmed) := Cores.of_none rfl
theorem Cores.partitionRule (reachable : List Nat) : Cores.Statement (.partitionRule reachable) := Cores.of_none rfl
theorem Cores.admin (acc : Accessor) (link : Nat) (value : Word) : Cores.Statement (.admin acc link value) := Cores.of_none rfl
theorem Cores.dyProbe (acc : Accessor) (value : Word) : Cores.Statement (.dyProbe acc value) := Cores.of_none rfl
theorem Cores.compress (tenant ring lane : Nat) : Cores.Statement (.compress tenant ring lane) := Cores.of_none rfl
theorem Cores.decompress (tenant ring lane : Nat) : Cores.Statement (.decompress tenant ring lane) := Cores.of_none rfl
theorem Cores.compressionCompletion (tenant ring : Nat) : Cores.Statement (.compressionCompletion tenant ring) := Cores.of_none rfl
theorem Cores.cxClose (acc : Accessor) (tenant : Nat) (value : Word) : Cores.Statement (.cxClose acc tenant value) := Cores.of_none rfl
theorem Cores.encrypt (tenant ring aes : Nat) : Cores.Statement (.encrypt tenant ring aes) := Cores.of_none rfl
theorem Cores.decrypt (tenant ring aes : Nat) : Cores.Statement (.decrypt tenant ring aes) := Cores.of_none rfl
theorem Cores.cipherCompletion (tenant ring : Nat) : Cores.Statement (.cipherCompletion tenant ring) := Cores.of_none rfl
theorem Cores.ciClose (acc : Accessor) (tenant : Nat) (value : Word) : Cores.Statement (.ciClose acc tenant value) := Cores.of_none rfl
theorem Cores.erase (acc : Accessor) (tenant : Nat) (value : Word) : Cores.Statement (.erase acc tenant value) := Cores.of_none rfl
theorem Cores.loadPlain (acc : Accessor) (tenant : Nat) (value : Word) : Cores.Statement (.loadPlain acc tenant value) := Cores.of_none rfl
theorem Cores.loadWrapped (acc : Accessor) (tenant : Nat) (value : Word) : Cores.Statement (.loadWrapped acc tenant value) := Cores.of_none rfl
theorem Cores.generate (acc : Accessor) (tenant : Nat) (value : Word) : Cores.Statement (.generate acc tenant value) := Cores.of_none rfl
theorem Cores.exportWrapped (acc : Accessor) (tenant : Nat) (value : Word) : Cores.Statement (.exportWrapped acc tenant value) := Cores.of_none rfl
theorem Cores.effectPoint (tenant : Nat) : Cores.Statement (.effectPoint tenant) := Cores.of_none rfl
theorem Cores.create (route : Route) : Cores.Statement (.create route) := Cores.of_none rfl
theorem Cores.reset (route : Route) : Cores.Statement (.reset route) := Cores.of_none rfl
theorem Cores.delete (route : Route) : Cores.Statement (.delete route) := Cores.of_none rfl
theorem Cores.drainTimeout (tenant : Nat) : Cores.Statement (.drainTimeout tenant) := Cores.of_none rfl
theorem Cores.claim (acc : Accessor) (block : Nat) : Cores.Statement (.claim acc block) := Cores.of_none rfl
theorem Cores.release (acc : Accessor) (block : Nat) : Cores.Statement (.release acc block) := Cores.of_none rfl
theorem Cores.moveSource (acc : Accessor) (source : Nat) : Cores.Statement (.moveSource acc source) := Cores.of_none rfl
theorem Cores.handOverComplete (selfCheckPassed : Bool) : Cores.Statement (.handOverComplete selfCheckPassed) := Cores.of_none rfl
theorem Cores.gatingRequest (block : Nat) : Cores.Statement (.gatingRequest block) := Cores.of_none rfl
theorem Cores.gatingTimeout (block : Nat) : Cores.Statement (.gatingTimeout block) := Cores.of_none rfl
theorem Cores.kick (acc : Accessor) (value : Word) : Cores.Statement (.kick acc value) := Cores.of_none rfl
theorem Cores.zenithWatchdogExpiry : Cores.Statement .zenithWatchdogExpiry := Cores.of_none rfl
theorem Cores.restartZenith (route : Route) (value : Nat) (verified measured : Bool) : Cores.Statement (.restartZenith route value verified measured) := Cores.of_none rfl
theorem Cores.doorbell (owner : Owner) (source : Nat) : Cores.Statement (.doorbell owner source) := Cores.of_none rfl
theorem Cores.irtSend (acc : Accessor) (page : Owner) (value : Word) : Cores.Statement (.irtSend acc page value) := Cores.of_none rfl
theorem Cores.irtClaim (acc : Accessor) (page : Owner) : Cores.Statement (.irtClaim acc page) := Cores.of_none rfl
theorem Cores.irtComplete (acc : Accessor) (page : Owner) (value : Word) : Cores.Statement (.irtComplete acc page value) := Cores.of_none rfl
theorem Cores.irtSrc (acc : Accessor) (page : Owner) (source : Nat) (value : Word) : Cores.Statement (.irtSrc acc page source value) := Cores.of_none rfl
theorem Cores.irtPrio (acc : Accessor) (page : Owner) (source : Nat) (value : Word) : Cores.Statement (.irtPrio acc page source value) := Cores.of_none rfl
theorem Cores.irtTgt (acc : Accessor) (page : Owner) (source : Option Nat) (value : Word) : Cores.Statement (.irtTgt acc page source value) := Cores.of_none rfl
theorem Cores.faultReport (source : Nat) (cls : FaultClass) (detail : Nat) : Cores.Statement (.faultReport source cls detail) := Cores.of_none rfl
theorem Cores.reportingPathFault (source : Nat) : Cores.Statement (.reportingPathFault source) := Cores.of_none rfl
theorem Cores.squallExit (source : Nat) : Cores.Statement (.squallExit source) := Cores.of_none rfl
theorem Cores.force (route : Route) (value : Nat) : Cores.Statement (.force route value) := Cores.of_none rfl
theorem Cores.forcedReport (source : Nat) : Cores.Statement (.forcedReport source) := Cores.of_none rfl
theorem Cores.spareRebuildComplete (region : Nat) : Cores.Statement (.spareRebuildComplete region) := Cores.of_none rfl
theorem Cores.moduleReset (route : Route) (value : Nat) : Cores.Statement (.moduleReset route value) := Cores.of_none rfl
theorem Cores.returnUnit (route : Route) (value : Nat) : Cores.Statement (.returnUnit route value) := Cores.of_none rfl
theorem Cores.returnFailedSites (route : Route) (value : Nat) : Cores.Statement (.returnFailedSites route value) := Cores.of_none rfl
theorem Cores.heartbeat (hb : Heartbeat) (path : Nat) : Cores.Statement (.heartbeat hb path) := Cores.of_none rfl
theorem Cores.heartbeatSend (path : Nat) : Cores.Statement (.heartbeatSend path) := Cores.of_none rfl
theorem Cores.witness (segment : Nat) : Cores.Statement (.witness segment) := Cores.of_none rfl
theorem Cores.pairing (peerSerial : BitVec 64) (peerTwinId attested : Bool) : Cores.Statement (.pairing peerSerial peerTwinId attested) := Cores.of_none rfl
theorem Cores.pairingEnabled (route : Route) (value : Nat) : Cores.Statement (.pairingEnabled route value) := Cores.of_none rfl
theorem Cores.bulkCopyComplete : Cores.Statement .bulkCopyComplete := Cores.of_none rfl
theorem Cores.twinLinkSilence : Cores.Statement .twinLinkSilence := Cores.of_none rfl
theorem Cores.selfFence : Cores.Statement .selfFence := Cores.of_none rfl
theorem Cores.takeover : Cores.Statement .takeover := Cores.of_none rfl
theorem Cores.relinquish (hb : Heartbeat) : Cores.Statement (.relinquish hb) := Cores.of_none rfl
theorem Cores.plannedFailover (route : Route) (value : Nat) : Cores.Statement (.plannedFailover route value) := Cores.of_none rfl
theorem Cores.sendRelinquish : Cores.Statement .sendRelinquish := Cores.of_none rfl
theorem Cores.publicRead (to_ : SspTo) (index sub offset : Nat) : Cores.Statement (.publicRead to_ index sub offset) := Cores.of_none rfl
theorem Cores.sspOpen (to_ : SspTo) (role : Nat) (nonce : BitVec 256) : Cores.Statement (.sspOpen to_ role nonce) := Cores.of_none rfl
theorem Cores.requestRead (req : SspRequest) : Cores.Statement (.requestRead req) := Cores.of_none rfl
theorem Cores.requestWrite (req : SspRequest) : Cores.Statement (.requestWrite req) := Cores.of_none rfl
theorem Cores.sspClose (session reason : Nat) (authentic : Bool) (counter : Nat) : Cores.Statement (.sspClose session reason authentic counter) := Cores.of_none rfl
theorem Cores.sessionIdle (session : Nat) : Cores.Statement (.sessionIdle session) := Cores.of_none rfl
theorem Cores.objectWrite (route : Route) (index sub : Nat) (octets : List Octet) : Cores.Statement (.objectWrite route index sub octets) := Cores.of_none rfl
theorem Cores.credential (route : Route) (sub : Nat) (octets : List Octet) : Cores.Statement (.credential route sub octets) := Cores.of_none rfl
theorem Cores.keySwitch (contacts : KeyContacts) : Cores.Statement (.keySwitch contacts) := Cores.of_none rfl
theorem Cores.requestPress (milliseconds : Nat) (medium : MediumContents) : Cores.Statement (.requestPress milliseconds medium) := Cores.of_none rfl
theorem Cores.mediumAction (medium : MediumContents) : Cores.Statement (.mediumAction medium) := Cores.of_none rfl
theorem Cores.identifyPress : Cores.Statement .identifyPress := Cores.of_none rfl
theorem Cores.mediumChange (state : Nat) : Cores.Statement (.mediumChange state) := Cores.of_none rfl
theorem Cores.stage (route : Route) (medium : MediumContents) : Cores.Statement (.stage route medium) := Cores.of_none rfl
theorem Cores.activateAtDawn (route : Route) (verified : Bool) : Cores.Statement (.activateAtDawn route verified) := Cores.of_none rfl
theorem Cores.activateLive (route : Route) (verified sameOthers : Bool) : Cores.Statement (.activateLive route verified sameOthers) := Cores.of_none rfl
theorem Cores.commitSecurityVersion (route : Route) : Cores.Statement (.commitSecurityVersion route) := Cores.of_none rfl
theorem Cores.abandonStaging (route : Route) : Cores.Statement (.abandonStaging route) := Cores.of_none rfl
theorem Cores.registerWrite (acc : Accessor) (addr : Nat) (value : Word) : Cores.Statement (.registerWrite acc addr value) := Cores.of_none rfl
theorem Cores.sysclkReturn : Cores.Statement .sysclkReturn := Cores.of_none rfl
theorem Cores.porstNHigh : Cores.Statement .porstNHigh := Cores.of_none rfl
theorem Cores.constellationPortFailure (port : Nat) : Cores.Statement (.constellationPortFailure port) := Cores.of_none rfl
theorem Cores.mirrorReceipt (item : Nat) (received : Bool) : Cores.Statement (.mirrorReceipt item received) := Cores.of_none rfl
theorem Cores.linkProtocolFault (link : Nat) : Cores.Statement (.linkProtocolFault link) := Cores.of_none rfl
theorem Cores.aerErrorMessage (port link : Nat) : Cores.Statement (.aerErrorMessage port link) := Cores.of_none rfl

end Sys2Proof.Laws
end

