-- ==== Sys2Proof/Laws/Updates.lean ====
section
/-! SUPPORT. The updates of tiles, agents, rings, ledgers, the pair and sessions: what each leaves alone, field by field. -/

namespace Sys2Proof.Machine

@[simp] theorem State.modCore_pending (s : State) (c : Nat) (f : Core → Core) : (s.modCore c f).pending = s.pending := rfl
@[simp] theorem State.modCore_fresh (s : State) (c : Nat) (f : Core → Core) : (s.modCore c f).fresh = s.fresh := rfl
@[simp] theorem State.modCore_out (s : State) (c : Nat) (f : Core → Core) : (s.modCore c f).out = s.out := rfl
@[simp] theorem State.modCore_md (s : State) (c : Nat) (f : Core → Core) : (s.modCore c f).md = s.md := rfl
@[simp] theorem State.modCore_es (s : State) (c : Nat) (f : Core → Core) : (s.modCore c f).es = s.es := rfl
@[simp] theorem State.modCore_tm (s : State) (c : Nat) (f : Core → Core) : (s.modCore c f).tm = s.tm := rfl
@[simp] theorem State.modCore_mem (s : State) (c : Nat) (f : Core → Core) : (s.modCore c f).mem = s.mem := rfl
@[simp] theorem State.modCore_tc (s : State) (c : Nat) (f : Core → Core) : (s.modCore c f).tc = s.tc := rfl
@[simp] theorem State.modCore_cc (s : State) (c : Nat) (f : Core → Core) : (s.modCore c f).cc = s.cc := rfl
@[simp] theorem State.modCore_dy (s : State) (c : Nat) (f : Core → Core) : (s.modCore c f).dy = s.dy := rfl
@[simp] theorem State.modCore_sp (s : State) (c : Nat) (f : Core → Core) : (s.modCore c f).sp = s.sp := rfl
@[simp] theorem State.modCore_ch (s : State) (c : Nat) (f : Core → Core) : (s.modCore c f).ch = s.ch := rfl
@[simp] theorem State.modCore_jn (s : State) (c : Nat) (f : Core → Core) : (s.modCore c f).jn = s.jn := rfl
@[simp] theorem State.modCore_cx (s : State) (c : Nat) (f : Core → Core) : (s.modCore c f).cx = s.cx := rfl
@[simp] theorem State.modCore_ci (s : State) (c : Nat) (f : Core → Core) : (s.modCore c f).ci = s.ci := rfl
@[simp] theorem State.modCore_tn (s : State) (c : Nat) (f : Core → Core) : (s.modCore c f).tn = s.tn := rfl
@[simp] theorem State.modCore_ir (s : State) (c : Nat) (f : Core → Core) : (s.modCore c f).ir = s.ir := rfl
@[simp] theorem State.modCore_fc (s : State) (c : Nat) (f : Core → Core) : (s.modCore c f).fc = s.fc := rfl
@[simp] theorem State.modCore_tw (s : State) (c : Nat) (f : Core → Core) : (s.modCore c f).tw = s.tw := rfl
@[simp] theorem State.modCore_sv (s : State) (c : Nat) (f : Core → Core) : (s.modCore c f).sv = s.sv := rfl

@[simp] theorem State.tick_pending (s : State) : s.tick.2.pending = s.pending := rfl
@[simp] theorem State.tick_out (s : State) : s.tick.2.out = s.out := rfl
@[simp] theorem State.tick_md (s : State) : s.tick.2.md = s.md := rfl
@[simp] theorem State.tick_es (s : State) : s.tick.2.es = s.es := rfl
@[simp] theorem State.tick_tm (s : State) : s.tick.2.tm = s.tm := rfl
@[simp] theorem State.tick_mem (s : State) : s.tick.2.mem = s.mem := rfl
@[simp] theorem State.tick_cores (s : State) : s.tick.2.cores = s.cores := rfl
@[simp] theorem State.tick_tc (s : State) : s.tick.2.tc = s.tc := rfl
@[simp] theorem State.tick_cc (s : State) : s.tick.2.cc = s.cc := rfl
@[simp] theorem State.tick_dy (s : State) : s.tick.2.dy = s.dy := rfl
@[simp] theorem State.tick_sp (s : State) : s.tick.2.sp = s.sp := rfl
@[simp] theorem State.tick_ch (s : State) : s.tick.2.ch = s.ch := rfl
@[simp] theorem State.tick_jn (s : State) : s.tick.2.jn = s.jn := rfl
@[simp] theorem State.tick_cx (s : State) : s.tick.2.cx = s.cx := rfl
@[simp] theorem State.tick_ci (s : State) : s.tick.2.ci = s.ci := rfl
@[simp] theorem State.tick_tn (s : State) : s.tick.2.tn = s.tn := rfl
@[simp] theorem State.tick_ir (s : State) : s.tick.2.ir = s.ir := rfl
@[simp] theorem State.tick_fc (s : State) : s.tick.2.fc = s.fc := rfl
@[simp] theorem State.tick_tw (s : State) : s.tick.2.tw = s.tw := rfl
@[simp] theorem State.tick_sv (s : State) : s.tick.2.sv = s.sv := rfl

@[simp] theorem State.putTile_pending (s : State) (t l : Nat) (v : Option TileLine) : (s.putTile t l v).pending = s.pending := rfl
@[simp] theorem State.putTile_fresh (s : State) (t l : Nat) (v : Option TileLine) : (s.putTile t l v).fresh = s.fresh := rfl
@[simp] theorem State.putTile_out (s : State) (t l : Nat) (v : Option TileLine) : (s.putTile t l v).out = s.out := rfl
@[simp] theorem State.putTile_md (s : State) (t l : Nat) (v : Option TileLine) : (s.putTile t l v).md = s.md := rfl
@[simp] theorem State.putTile_es (s : State) (t l : Nat) (v : Option TileLine) : (s.putTile t l v).es = s.es := rfl
@[simp] theorem State.putTile_tm (s : State) (t l : Nat) (v : Option TileLine) : (s.putTile t l v).tm = s.tm := rfl
@[simp] theorem State.putTile_mem (s : State) (t l : Nat) (v : Option TileLine) : (s.putTile t l v).mem = s.mem := rfl
@[simp] theorem State.putTile_cores (s : State) (t l : Nat) (v : Option TileLine) : (s.putTile t l v).cores = s.cores := rfl
@[simp] theorem State.putTile_tc (s : State) (t l : Nat) (v : Option TileLine) : (s.putTile t l v).tc = s.tc := rfl
@[simp] theorem State.putTile_cc (s : State) (t l : Nat) (v : Option TileLine) : (s.putTile t l v).cc = s.cc := rfl
@[simp] theorem State.putTile_sp (s : State) (t l : Nat) (v : Option TileLine) : (s.putTile t l v).sp = s.sp := rfl
@[simp] theorem State.putTile_ch (s : State) (t l : Nat) (v : Option TileLine) : (s.putTile t l v).ch = s.ch := rfl
@[simp] theorem State.putTile_jn (s : State) (t l : Nat) (v : Option TileLine) : (s.putTile t l v).jn = s.jn := rfl
@[simp] theorem State.putTile_cx (s : State) (t l : Nat) (v : Option TileLine) : (s.putTile t l v).cx = s.cx := rfl
@[simp] theorem State.putTile_ci (s : State) (t l : Nat) (v : Option TileLine) : (s.putTile t l v).ci = s.ci := rfl
@[simp] theorem State.putTile_tn (s : State) (t l : Nat) (v : Option TileLine) : (s.putTile t l v).tn = s.tn := rfl
@[simp] theorem State.putTile_ir (s : State) (t l : Nat) (v : Option TileLine) : (s.putTile t l v).ir = s.ir := rfl
@[simp] theorem State.putTile_fc (s : State) (t l : Nat) (v : Option TileLine) : (s.putTile t l v).fc = s.fc := rfl
@[simp] theorem State.putTile_tw (s : State) (t l : Nat) (v : Option TileLine) : (s.putTile t l v).tw = s.tw := rfl
@[simp] theorem State.putTile_sv (s : State) (t l : Nat) (v : Option TileLine) : (s.putTile t l v).sv = s.sv := rfl

@[simp] theorem State.putAgent_pending (s : State) (a l : Nat) (v : Option AgentLine) : (s.putAgent a l v).pending = s.pending := rfl
@[simp] theorem State.putAgent_fresh (s : State) (a l : Nat) (v : Option AgentLine) : (s.putAgent a l v).fresh = s.fresh := rfl
@[simp] theorem State.putAgent_out (s : State) (a l : Nat) (v : Option AgentLine) : (s.putAgent a l v).out = s.out := rfl
@[simp] theorem State.putAgent_md (s : State) (a l : Nat) (v : Option AgentLine) : (s.putAgent a l v).md = s.md := rfl
@[simp] theorem State.putAgent_es (s : State) (a l : Nat) (v : Option AgentLine) : (s.putAgent a l v).es = s.es := rfl
@[simp] theorem State.putAgent_tm (s : State) (a l : Nat) (v : Option AgentLine) : (s.putAgent a l v).tm = s.tm := rfl
@[simp] theorem State.putAgent_mem (s : State) (a l : Nat) (v : Option AgentLine) : (s.putAgent a l v).mem = s.mem := rfl
@[simp] theorem State.putAgent_cores (s : State) (a l : Nat) (v : Option AgentLine) : (s.putAgent a l v).cores = s.cores := rfl
@[simp] theorem State.putAgent_tc (s : State) (a l : Nat) (v : Option AgentLine) : (s.putAgent a l v).tc = s.tc := rfl
@[simp] theorem State.putAgent_cc (s : State) (a l : Nat) (v : Option AgentLine) : (s.putAgent a l v).cc = s.cc := rfl
@[simp] theorem State.putAgent_sp (s : State) (a l : Nat) (v : Option AgentLine) : (s.putAgent a l v).sp = s.sp := rfl
@[simp] theorem State.putAgent_ch (s : State) (a l : Nat) (v : Option AgentLine) : (s.putAgent a l v).ch = s.ch := rfl
@[simp] theorem State.putAgent_jn (s : State) (a l : Nat) (v : Option AgentLine) : (s.putAgent a l v).jn = s.jn := rfl
@[simp] theorem State.putAgent_cx (s : State) (a l : Nat) (v : Option AgentLine) : (s.putAgent a l v).cx = s.cx := rfl
@[simp] theorem State.putAgent_ci (s : State) (a l : Nat) (v : Option AgentLine) : (s.putAgent a l v).ci = s.ci := rfl
@[simp] theorem State.putAgent_tn (s : State) (a l : Nat) (v : Option AgentLine) : (s.putAgent a l v).tn = s.tn := rfl
@[simp] theorem State.putAgent_ir (s : State) (a l : Nat) (v : Option AgentLine) : (s.putAgent a l v).ir = s.ir := rfl
@[simp] theorem State.putAgent_fc (s : State) (a l : Nat) (v : Option AgentLine) : (s.putAgent a l v).fc = s.fc := rfl
@[simp] theorem State.putAgent_tw (s : State) (a l : Nat) (v : Option AgentLine) : (s.putAgent a l v).tw = s.tw := rfl
@[simp] theorem State.putAgent_sv (s : State) (a l : Nat) (v : Option AgentLine) : (s.putAgent a l v).sv = s.sv := rfl

@[simp] theorem State.dropDir_pending (s : State) (l : Nat) : (s.dropDir l).pending = s.pending := rfl
@[simp] theorem State.dropDir_fresh (s : State) (l : Nat) : (s.dropDir l).fresh = s.fresh := rfl
@[simp] theorem State.dropDir_out (s : State) (l : Nat) : (s.dropDir l).out = s.out := rfl
@[simp] theorem State.dropDir_md (s : State) (l : Nat) : (s.dropDir l).md = s.md := rfl
@[simp] theorem State.dropDir_es (s : State) (l : Nat) : (s.dropDir l).es = s.es := rfl
@[simp] theorem State.dropDir_tm (s : State) (l : Nat) : (s.dropDir l).tm = s.tm := rfl
@[simp] theorem State.dropDir_mem (s : State) (l : Nat) : (s.dropDir l).mem = s.mem := rfl
@[simp] theorem State.dropDir_cores (s : State) (l : Nat) : (s.dropDir l).cores = s.cores := rfl
@[simp] theorem State.dropDir_tc (s : State) (l : Nat) : (s.dropDir l).tc = s.tc := rfl
@[simp] theorem State.dropDir_cc (s : State) (l : Nat) : (s.dropDir l).cc = s.cc := rfl
@[simp] theorem State.dropDir_sp (s : State) (l : Nat) : (s.dropDir l).sp = s.sp := rfl
@[simp] theorem State.dropDir_ch (s : State) (l : Nat) : (s.dropDir l).ch = s.ch := rfl
@[simp] theorem State.dropDir_jn (s : State) (l : Nat) : (s.dropDir l).jn = s.jn := rfl
@[simp] theorem State.dropDir_cx (s : State) (l : Nat) : (s.dropDir l).cx = s.cx := rfl
@[simp] theorem State.dropDir_ci (s : State) (l : Nat) : (s.dropDir l).ci = s.ci := rfl
@[simp] theorem State.dropDir_tn (s : State) (l : Nat) : (s.dropDir l).tn = s.tn := rfl
@[simp] theorem State.dropDir_ir (s : State) (l : Nat) : (s.dropDir l).ir = s.ir := rfl
@[simp] theorem State.dropDir_fc (s : State) (l : Nat) : (s.dropDir l).fc = s.fc := rfl
@[simp] theorem State.dropDir_tw (s : State) (l : Nat) : (s.dropDir l).tw = s.tw := rfl
@[simp] theorem State.dropDir_sv (s : State) (l : Nat) : (s.dropDir l).sv = s.sv := rfl

@[simp] theorem State.dropTc_pending (s : State) (p : TcEntry → Bool) : (s.dropTc p).pending = s.pending := rfl
@[simp] theorem State.dropTc_fresh (s : State) (p : TcEntry → Bool) : (s.dropTc p).fresh = s.fresh := rfl
@[simp] theorem State.dropTc_out (s : State) (p : TcEntry → Bool) : (s.dropTc p).out = s.out := rfl
@[simp] theorem State.dropTc_md (s : State) (p : TcEntry → Bool) : (s.dropTc p).md = s.md := rfl
@[simp] theorem State.dropTc_es (s : State) (p : TcEntry → Bool) : (s.dropTc p).es = s.es := rfl
@[simp] theorem State.dropTc_tm (s : State) (p : TcEntry → Bool) : (s.dropTc p).tm = s.tm := rfl
@[simp] theorem State.dropTc_mem (s : State) (p : TcEntry → Bool) : (s.dropTc p).mem = s.mem := rfl
@[simp] theorem State.dropTc_cores (s : State) (p : TcEntry → Bool) : (s.dropTc p).cores = s.cores := rfl
@[simp] theorem State.dropTc_cc (s : State) (p : TcEntry → Bool) : (s.dropTc p).cc = s.cc := rfl
@[simp] theorem State.dropTc_dy (s : State) (p : TcEntry → Bool) : (s.dropTc p).dy = s.dy := rfl
@[simp] theorem State.dropTc_sp (s : State) (p : TcEntry → Bool) : (s.dropTc p).sp = s.sp := rfl
@[simp] theorem State.dropTc_ch (s : State) (p : TcEntry → Bool) : (s.dropTc p).ch = s.ch := rfl
@[simp] theorem State.dropTc_jn (s : State) (p : TcEntry → Bool) : (s.dropTc p).jn = s.jn := rfl
@[simp] theorem State.dropTc_cx (s : State) (p : TcEntry → Bool) : (s.dropTc p).cx = s.cx := rfl
@[simp] theorem State.dropTc_ci (s : State) (p : TcEntry → Bool) : (s.dropTc p).ci = s.ci := rfl
@[simp] theorem State.dropTc_tn (s : State) (p : TcEntry → Bool) : (s.dropTc p).tn = s.tn := rfl
@[simp] theorem State.dropTc_ir (s : State) (p : TcEntry → Bool) : (s.dropTc p).ir = s.ir := rfl
@[simp] theorem State.dropTc_fc (s : State) (p : TcEntry → Bool) : (s.dropTc p).fc = s.fc := rfl
@[simp] theorem State.dropTc_tw (s : State) (p : TcEntry → Bool) : (s.dropTc p).tw = s.tw := rfl
@[simp] theorem State.dropTc_sv (s : State) (p : TcEntry → Bool) : (s.dropTc p).sv = s.sv := rfl

@[simp] theorem State.setChT_pending (s : State) (t : Nat) (v : ChTenant) : (s.setChT t v).pending = s.pending := rfl
@[simp] theorem State.setChT_fresh (s : State) (t : Nat) (v : ChTenant) : (s.setChT t v).fresh = s.fresh := rfl
@[simp] theorem State.setChT_out (s : State) (t : Nat) (v : ChTenant) : (s.setChT t v).out = s.out := rfl
@[simp] theorem State.setChT_md (s : State) (t : Nat) (v : ChTenant) : (s.setChT t v).md = s.md := rfl
@[simp] theorem State.setChT_es (s : State) (t : Nat) (v : ChTenant) : (s.setChT t v).es = s.es := rfl
@[simp] theorem State.setChT_tm (s : State) (t : Nat) (v : ChTenant) : (s.setChT t v).tm = s.tm := rfl
@[simp] theorem State.setChT_mem (s : State) (t : Nat) (v : ChTenant) : (s.setChT t v).mem = s.mem := rfl
@[simp] theorem State.setChT_cores (s : State) (t : Nat) (v : ChTenant) : (s.setChT t v).cores = s.cores := rfl
@[simp] theorem State.setChT_tc (s : State) (t : Nat) (v : ChTenant) : (s.setChT t v).tc = s.tc := rfl
@[simp] theorem State.setChT_cc (s : State) (t : Nat) (v : ChTenant) : (s.setChT t v).cc = s.cc := rfl
@[simp] theorem State.setChT_dy (s : State) (t : Nat) (v : ChTenant) : (s.setChT t v).dy = s.dy := rfl
@[simp] theorem State.setChT_sp (s : State) (t : Nat) (v : ChTenant) : (s.setChT t v).sp = s.sp := rfl
@[simp] theorem State.setChT_jn (s : State) (t : Nat) (v : ChTenant) : (s.setChT t v).jn = s.jn := rfl
@[simp] theorem State.setChT_cx (s : State) (t : Nat) (v : ChTenant) : (s.setChT t v).cx = s.cx := rfl
@[simp] theorem State.setChT_ci (s : State) (t : Nat) (v : ChTenant) : (s.setChT t v).ci = s.ci := rfl
@[simp] theorem State.setChT_tn (s : State) (t : Nat) (v : ChTenant) : (s.setChT t v).tn = s.tn := rfl
@[simp] theorem State.setChT_ir (s : State) (t : Nat) (v : ChTenant) : (s.setChT t v).ir = s.ir := rfl
@[simp] theorem State.setChT_fc (s : State) (t : Nat) (v : ChTenant) : (s.setChT t v).fc = s.fc := rfl
@[simp] theorem State.setChT_tw (s : State) (t : Nat) (v : ChTenant) : (s.setChT t v).tw = s.tw := rfl
@[simp] theorem State.setChT_sv (s : State) (t : Nat) (v : ChTenant) : (s.setChT t v).sv = s.sv := rfl

@[simp] theorem State.modEntry_pending (s : State) (o : Nat) (d : DWord) (f : LedgerEntry → LedgerEntry) : (s.modEntry o d f).pending = s.pending := rfl
@[simp] theorem State.modEntry_fresh (s : State) (o : Nat) (d : DWord) (f : LedgerEntry → LedgerEntry) : (s.modEntry o d f).fresh = s.fresh := rfl
@[simp] theorem State.modEntry_out (s : State) (o : Nat) (d : DWord) (f : LedgerEntry → LedgerEntry) : (s.modEntry o d f).out = s.out := rfl
@[simp] theorem State.modEntry_md (s : State) (o : Nat) (d : DWord) (f : LedgerEntry → LedgerEntry) : (s.modEntry o d f).md = s.md := rfl
@[simp] theorem State.modEntry_es (s : State) (o : Nat) (d : DWord) (f : LedgerEntry → LedgerEntry) : (s.modEntry o d f).es = s.es := rfl
@[simp] theorem State.modEntry_tm (s : State) (o : Nat) (d : DWord) (f : LedgerEntry → LedgerEntry) : (s.modEntry o d f).tm = s.tm := rfl
@[simp] theorem State.modEntry_mem (s : State) (o : Nat) (d : DWord) (f : LedgerEntry → LedgerEntry) : (s.modEntry o d f).mem = s.mem := rfl
@[simp] theorem State.modEntry_cores (s : State) (o : Nat) (d : DWord) (f : LedgerEntry → LedgerEntry) : (s.modEntry o d f).cores = s.cores := rfl
@[simp] theorem State.modEntry_tc (s : State) (o : Nat) (d : DWord) (f : LedgerEntry → LedgerEntry) : (s.modEntry o d f).tc = s.tc := rfl
@[simp] theorem State.modEntry_cc (s : State) (o : Nat) (d : DWord) (f : LedgerEntry → LedgerEntry) : (s.modEntry o d f).cc = s.cc := rfl
@[simp] theorem State.modEntry_dy (s : State) (o : Nat) (d : DWord) (f : LedgerEntry → LedgerEntry) : (s.modEntry o d f).dy = s.dy := rfl
@[simp] theorem State.modEntry_sp (s : State) (o : Nat) (d : DWord) (f : LedgerEntry → LedgerEntry) : (s.modEntry o d f).sp = s.sp := rfl
@[simp] theorem State.modEntry_jn (s : State) (o : Nat) (d : DWord) (f : LedgerEntry → LedgerEntry) : (s.modEntry o d f).jn = s.jn := rfl
@[simp] theorem State.modEntry_cx (s : State) (o : Nat) (d : DWord) (f : LedgerEntry → LedgerEntry) : (s.modEntry o d f).cx = s.cx := rfl
@[simp] theorem State.modEntry_ci (s : State) (o : Nat) (d : DWord) (f : LedgerEntry → LedgerEntry) : (s.modEntry o d f).ci = s.ci := rfl
@[simp] theorem State.modEntry_tn (s : State) (o : Nat) (d : DWord) (f : LedgerEntry → LedgerEntry) : (s.modEntry o d f).tn = s.tn := rfl
@[simp] theorem State.modEntry_ir (s : State) (o : Nat) (d : DWord) (f : LedgerEntry → LedgerEntry) : (s.modEntry o d f).ir = s.ir := rfl
@[simp] theorem State.modEntry_fc (s : State) (o : Nat) (d : DWord) (f : LedgerEntry → LedgerEntry) : (s.modEntry o d f).fc = s.fc := rfl
@[simp] theorem State.modEntry_tw (s : State) (o : Nat) (d : DWord) (f : LedgerEntry → LedgerEntry) : (s.modEntry o d f).tw = s.tw := rfl
@[simp] theorem State.modEntry_sv (s : State) (o : Nat) (d : DWord) (f : LedgerEntry → LedgerEntry) : (s.modEntry o d f).sv = s.sv := rfl

@[simp] theorem State.dropEntry_pending (s : State) (o : Nat) (d : DWord) : (s.dropEntry o d).pending = s.pending := rfl
@[simp] theorem State.dropEntry_fresh (s : State) (o : Nat) (d : DWord) : (s.dropEntry o d).fresh = s.fresh := rfl
@[simp] theorem State.dropEntry_out (s : State) (o : Nat) (d : DWord) : (s.dropEntry o d).out = s.out := rfl
@[simp] theorem State.dropEntry_md (s : State) (o : Nat) (d : DWord) : (s.dropEntry o d).md = s.md := rfl
@[simp] theorem State.dropEntry_es (s : State) (o : Nat) (d : DWord) : (s.dropEntry o d).es = s.es := rfl
@[simp] theorem State.dropEntry_tm (s : State) (o : Nat) (d : DWord) : (s.dropEntry o d).tm = s.tm := rfl
@[simp] theorem State.dropEntry_mem (s : State) (o : Nat) (d : DWord) : (s.dropEntry o d).mem = s.mem := rfl
@[simp] theorem State.dropEntry_cores (s : State) (o : Nat) (d : DWord) : (s.dropEntry o d).cores = s.cores := rfl
@[simp] theorem State.dropEntry_tc (s : State) (o : Nat) (d : DWord) : (s.dropEntry o d).tc = s.tc := rfl
@[simp] theorem State.dropEntry_cc (s : State) (o : Nat) (d : DWord) : (s.dropEntry o d).cc = s.cc := rfl
@[simp] theorem State.dropEntry_dy (s : State) (o : Nat) (d : DWord) : (s.dropEntry o d).dy = s.dy := rfl
@[simp] theorem State.dropEntry_sp (s : State) (o : Nat) (d : DWord) : (s.dropEntry o d).sp = s.sp := rfl
@[simp] theorem State.dropEntry_jn (s : State) (o : Nat) (d : DWord) : (s.dropEntry o d).jn = s.jn := rfl
@[simp] theorem State.dropEntry_cx (s : State) (o : Nat) (d : DWord) : (s.dropEntry o d).cx = s.cx := rfl
@[simp] theorem State.dropEntry_ci (s : State) (o : Nat) (d : DWord) : (s.dropEntry o d).ci = s.ci := rfl
@[simp] theorem State.dropEntry_tn (s : State) (o : Nat) (d : DWord) : (s.dropEntry o d).tn = s.tn := rfl
@[simp] theorem State.dropEntry_ir (s : State) (o : Nat) (d : DWord) : (s.dropEntry o d).ir = s.ir := rfl
@[simp] theorem State.dropEntry_fc (s : State) (o : Nat) (d : DWord) : (s.dropEntry o d).fc = s.fc := rfl
@[simp] theorem State.dropEntry_tw (s : State) (o : Nat) (d : DWord) : (s.dropEntry o d).tw = s.tw := rfl
@[simp] theorem State.dropEntry_sv (s : State) (o : Nat) (d : DWord) : (s.dropEntry o d).sv = s.sv := rfl

@[simp] theorem State.modOrder_pending (s : State) (m n : Nat) (f : Order → Order) : (s.modOrder m n f).pending = s.pending := rfl
@[simp] theorem State.modOrder_fresh (s : State) (m n : Nat) (f : Order → Order) : (s.modOrder m n f).fresh = s.fresh := rfl
@[simp] theorem State.modOrder_out (s : State) (m n : Nat) (f : Order → Order) : (s.modOrder m n f).out = s.out := rfl
@[simp] theorem State.modOrder_md (s : State) (m n : Nat) (f : Order → Order) : (s.modOrder m n f).md = s.md := rfl
@[simp] theorem State.modOrder_es (s : State) (m n : Nat) (f : Order → Order) : (s.modOrder m n f).es = s.es := rfl
@[simp] theorem State.modOrder_tm (s : State) (m n : Nat) (f : Order → Order) : (s.modOrder m n f).tm = s.tm := rfl
@[simp] theorem State.modOrder_mem (s : State) (m n : Nat) (f : Order → Order) : (s.modOrder m n f).mem = s.mem := rfl
@[simp] theorem State.modOrder_cores (s : State) (m n : Nat) (f : Order → Order) : (s.modOrder m n f).cores = s.cores := rfl
@[simp] theorem State.modOrder_tc (s : State) (m n : Nat) (f : Order → Order) : (s.modOrder m n f).tc = s.tc := rfl
@[simp] theorem State.modOrder_cc (s : State) (m n : Nat) (f : Order → Order) : (s.modOrder m n f).cc = s.cc := rfl
@[simp] theorem State.modOrder_dy (s : State) (m n : Nat) (f : Order → Order) : (s.modOrder m n f).dy = s.dy := rfl
@[simp] theorem State.modOrder_sp (s : State) (m n : Nat) (f : Order → Order) : (s.modOrder m n f).sp = s.sp := rfl
@[simp] theorem State.modOrder_jn (s : State) (m n : Nat) (f : Order → Order) : (s.modOrder m n f).jn = s.jn := rfl
@[simp] theorem State.modOrder_cx (s : State) (m n : Nat) (f : Order → Order) : (s.modOrder m n f).cx = s.cx := rfl
@[simp] theorem State.modOrder_ci (s : State) (m n : Nat) (f : Order → Order) : (s.modOrder m n f).ci = s.ci := rfl
@[simp] theorem State.modOrder_tn (s : State) (m n : Nat) (f : Order → Order) : (s.modOrder m n f).tn = s.tn := rfl
@[simp] theorem State.modOrder_ir (s : State) (m n : Nat) (f : Order → Order) : (s.modOrder m n f).ir = s.ir := rfl
@[simp] theorem State.modOrder_fc (s : State) (m n : Nat) (f : Order → Order) : (s.modOrder m n f).fc = s.fc := rfl
@[simp] theorem State.modOrder_tw (s : State) (m n : Nat) (f : Order → Order) : (s.modOrder m n f).tw = s.tw := rfl
@[simp] theorem State.modOrder_sv (s : State) (m n : Nat) (f : Order → Order) : (s.modOrder m n f).sv = s.sv := rfl

@[simp] theorem State.putPriv_pending (s : State) (a : Nat) (l : List Octet) : (s.putPriv a l).pending = s.pending := rfl
@[simp] theorem State.putPriv_fresh (s : State) (a : Nat) (l : List Octet) : (s.putPriv a l).fresh = s.fresh := rfl
@[simp] theorem State.putPriv_out (s : State) (a : Nat) (l : List Octet) : (s.putPriv a l).out = s.out := rfl
@[simp] theorem State.putPriv_md (s : State) (a : Nat) (l : List Octet) : (s.putPriv a l).md = s.md := rfl
@[simp] theorem State.putPriv_es (s : State) (a : Nat) (l : List Octet) : (s.putPriv a l).es = s.es := rfl
@[simp] theorem State.putPriv_tm (s : State) (a : Nat) (l : List Octet) : (s.putPriv a l).tm = s.tm := rfl
@[simp] theorem State.putPriv_mem (s : State) (a : Nat) (l : List Octet) : (s.putPriv a l).mem = s.mem := rfl
@[simp] theorem State.putPriv_cores (s : State) (a : Nat) (l : List Octet) : (s.putPriv a l).cores = s.cores := rfl
@[simp] theorem State.putPriv_tc (s : State) (a : Nat) (l : List Octet) : (s.putPriv a l).tc = s.tc := rfl
@[simp] theorem State.putPriv_cc (s : State) (a : Nat) (l : List Octet) : (s.putPriv a l).cc = s.cc := rfl
@[simp] theorem State.putPriv_dy (s : State) (a : Nat) (l : List Octet) : (s.putPriv a l).dy = s.dy := rfl
@[simp] theorem State.putPriv_sp (s : State) (a : Nat) (l : List Octet) : (s.putPriv a l).sp = s.sp := rfl
@[simp] theorem State.putPriv_jn (s : State) (a : Nat) (l : List Octet) : (s.putPriv a l).jn = s.jn := rfl
@[simp] theorem State.putPriv_cx (s : State) (a : Nat) (l : List Octet) : (s.putPriv a l).cx = s.cx := rfl
@[simp] theorem State.putPriv_ci (s : State) (a : Nat) (l : List Octet) : (s.putPriv a l).ci = s.ci := rfl
@[simp] theorem State.putPriv_tn (s : State) (a : Nat) (l : List Octet) : (s.putPriv a l).tn = s.tn := rfl
@[simp] theorem State.putPriv_ir (s : State) (a : Nat) (l : List Octet) : (s.putPriv a l).ir = s.ir := rfl
@[simp] theorem State.putPriv_fc (s : State) (a : Nat) (l : List Octet) : (s.putPriv a l).fc = s.fc := rfl
@[simp] theorem State.putPriv_tw (s : State) (a : Nat) (l : List Octet) : (s.putPriv a l).tw = s.tw := rfl
@[simp] theorem State.putPriv_sv (s : State) (a : Nat) (l : List Octet) : (s.putPriv a l).sv = s.sv := rfl

@[simp] theorem State.countLate_pending (s : State) : (s.countLate).pending = s.pending := rfl
@[simp] theorem State.countLate_fresh (s : State) : (s.countLate).fresh = s.fresh := rfl
@[simp] theorem State.countLate_out (s : State) : (s.countLate).out = s.out := rfl
@[simp] theorem State.countLate_md (s : State) : (s.countLate).md = s.md := rfl
@[simp] theorem State.countLate_es (s : State) : (s.countLate).es = s.es := rfl
@[simp] theorem State.countLate_tm (s : State) : (s.countLate).tm = s.tm := rfl
@[simp] theorem State.countLate_mem (s : State) : (s.countLate).mem = s.mem := rfl
@[simp] theorem State.countLate_cores (s : State) : (s.countLate).cores = s.cores := rfl
@[simp] theorem State.countLate_tc (s : State) : (s.countLate).tc = s.tc := rfl
@[simp] theorem State.countLate_cc (s : State) : (s.countLate).cc = s.cc := rfl
@[simp] theorem State.countLate_dy (s : State) : (s.countLate).dy = s.dy := rfl
@[simp] theorem State.countLate_sp (s : State) : (s.countLate).sp = s.sp := rfl
@[simp] theorem State.countLate_jn (s : State) : (s.countLate).jn = s.jn := rfl
@[simp] theorem State.countLate_cx (s : State) : (s.countLate).cx = s.cx := rfl
@[simp] theorem State.countLate_ci (s : State) : (s.countLate).ci = s.ci := rfl
@[simp] theorem State.countLate_tn (s : State) : (s.countLate).tn = s.tn := rfl
@[simp] theorem State.countLate_ir (s : State) : (s.countLate).ir = s.ir := rfl
@[simp] theorem State.countLate_fc (s : State) : (s.countLate).fc = s.fc := rfl
@[simp] theorem State.countLate_tw (s : State) : (s.countLate).tw = s.tw := rfl
@[simp] theorem State.countLate_sv (s : State) : (s.countLate).sv = s.sv := rfl

@[simp] theorem State.countDup_pending (s : State) : (s.countDup).pending = s.pending := rfl
@[simp] theorem State.countDup_fresh (s : State) : (s.countDup).fresh = s.fresh := rfl
@[simp] theorem State.countDup_out (s : State) : (s.countDup).out = s.out := rfl
@[simp] theorem State.countDup_md (s : State) : (s.countDup).md = s.md := rfl
@[simp] theorem State.countDup_es (s : State) : (s.countDup).es = s.es := rfl
@[simp] theorem State.countDup_tm (s : State) : (s.countDup).tm = s.tm := rfl
@[simp] theorem State.countDup_mem (s : State) : (s.countDup).mem = s.mem := rfl
@[simp] theorem State.countDup_cores (s : State) : (s.countDup).cores = s.cores := rfl
@[simp] theorem State.countDup_tc (s : State) : (s.countDup).tc = s.tc := rfl
@[simp] theorem State.countDup_cc (s : State) : (s.countDup).cc = s.cc := rfl
@[simp] theorem State.countDup_dy (s : State) : (s.countDup).dy = s.dy := rfl
@[simp] theorem State.countDup_sp (s : State) : (s.countDup).sp = s.sp := rfl
@[simp] theorem State.countDup_jn (s : State) : (s.countDup).jn = s.jn := rfl
@[simp] theorem State.countDup_cx (s : State) : (s.countDup).cx = s.cx := rfl
@[simp] theorem State.countDup_ci (s : State) : (s.countDup).ci = s.ci := rfl
@[simp] theorem State.countDup_tn (s : State) : (s.countDup).tn = s.tn := rfl
@[simp] theorem State.countDup_ir (s : State) : (s.countDup).ir = s.ir := rfl
@[simp] theorem State.countDup_fc (s : State) : (s.countDup).fc = s.fc := rfl
@[simp] theorem State.countDup_tw (s : State) : (s.countDup).tw = s.tw := rfl
@[simp] theorem State.countDup_sv (s : State) : (s.countDup).sv = s.sv := rfl

@[simp] theorem State.setCxRing_pending (s : State) (t r : Nat) (g : Ring) : (s.setCxRing t r g).pending = s.pending := rfl
@[simp] theorem State.setCxRing_fresh (s : State) (t r : Nat) (g : Ring) : (s.setCxRing t r g).fresh = s.fresh := rfl
@[simp] theorem State.setCxRing_out (s : State) (t r : Nat) (g : Ring) : (s.setCxRing t r g).out = s.out := rfl
@[simp] theorem State.setCxRing_md (s : State) (t r : Nat) (g : Ring) : (s.setCxRing t r g).md = s.md := rfl
@[simp] theorem State.setCxRing_es (s : State) (t r : Nat) (g : Ring) : (s.setCxRing t r g).es = s.es := rfl
@[simp] theorem State.setCxRing_tm (s : State) (t r : Nat) (g : Ring) : (s.setCxRing t r g).tm = s.tm := rfl
@[simp] theorem State.setCxRing_mem (s : State) (t r : Nat) (g : Ring) : (s.setCxRing t r g).mem = s.mem := rfl
@[simp] theorem State.setCxRing_cores (s : State) (t r : Nat) (g : Ring) : (s.setCxRing t r g).cores = s.cores := rfl
@[simp] theorem State.setCxRing_tc (s : State) (t r : Nat) (g : Ring) : (s.setCxRing t r g).tc = s.tc := rfl
@[simp] theorem State.setCxRing_cc (s : State) (t r : Nat) (g : Ring) : (s.setCxRing t r g).cc = s.cc := rfl
@[simp] theorem State.setCxRing_dy (s : State) (t r : Nat) (g : Ring) : (s.setCxRing t r g).dy = s.dy := rfl
@[simp] theorem State.setCxRing_sp (s : State) (t r : Nat) (g : Ring) : (s.setCxRing t r g).sp = s.sp := rfl
@[simp] theorem State.setCxRing_ch (s : State) (t r : Nat) (g : Ring) : (s.setCxRing t r g).ch = s.ch := rfl
@[simp] theorem State.setCxRing_jn (s : State) (t r : Nat) (g : Ring) : (s.setCxRing t r g).jn = s.jn := rfl
@[simp] theorem State.setCxRing_ci (s : State) (t r : Nat) (g : Ring) : (s.setCxRing t r g).ci = s.ci := rfl
@[simp] theorem State.setCxRing_tn (s : State) (t r : Nat) (g : Ring) : (s.setCxRing t r g).tn = s.tn := rfl
@[simp] theorem State.setCxRing_ir (s : State) (t r : Nat) (g : Ring) : (s.setCxRing t r g).ir = s.ir := rfl
@[simp] theorem State.setCxRing_fc (s : State) (t r : Nat) (g : Ring) : (s.setCxRing t r g).fc = s.fc := rfl
@[simp] theorem State.setCxRing_tw (s : State) (t r : Nat) (g : Ring) : (s.setCxRing t r g).tw = s.tw := rfl
@[simp] theorem State.setCxRing_sv (s : State) (t r : Nat) (g : Ring) : (s.setCxRing t r g).sv = s.sv := rfl

@[simp] theorem State.setCiRing_pending (s : State) (t r : Nat) (g : Ring) : (s.setCiRing t r g).pending = s.pending := rfl
@[simp] theorem State.setCiRing_fresh (s : State) (t r : Nat) (g : Ring) : (s.setCiRing t r g).fresh = s.fresh := rfl
@[simp] theorem State.setCiRing_out (s : State) (t r : Nat) (g : Ring) : (s.setCiRing t r g).out = s.out := rfl
@[simp] theorem State.setCiRing_md (s : State) (t r : Nat) (g : Ring) : (s.setCiRing t r g).md = s.md := rfl
@[simp] theorem State.setCiRing_es (s : State) (t r : Nat) (g : Ring) : (s.setCiRing t r g).es = s.es := rfl
@[simp] theorem State.setCiRing_tm (s : State) (t r : Nat) (g : Ring) : (s.setCiRing t r g).tm = s.tm := rfl
@[simp] theorem State.setCiRing_mem (s : State) (t r : Nat) (g : Ring) : (s.setCiRing t r g).mem = s.mem := rfl
@[simp] theorem State.setCiRing_cores (s : State) (t r : Nat) (g : Ring) : (s.setCiRing t r g).cores = s.cores := rfl
@[simp] theorem State.setCiRing_tc (s : State) (t r : Nat) (g : Ring) : (s.setCiRing t r g).tc = s.tc := rfl
@[simp] theorem State.setCiRing_cc (s : State) (t r : Nat) (g : Ring) : (s.setCiRing t r g).cc = s.cc := rfl
@[simp] theorem State.setCiRing_dy (s : State) (t r : Nat) (g : Ring) : (s.setCiRing t r g).dy = s.dy := rfl
@[simp] theorem State.setCiRing_sp (s : State) (t r : Nat) (g : Ring) : (s.setCiRing t r g).sp = s.sp := rfl
@[simp] theorem State.setCiRing_ch (s : State) (t r : Nat) (g : Ring) : (s.setCiRing t r g).ch = s.ch := rfl
@[simp] theorem State.setCiRing_jn (s : State) (t r : Nat) (g : Ring) : (s.setCiRing t r g).jn = s.jn := rfl
@[simp] theorem State.setCiRing_cx (s : State) (t r : Nat) (g : Ring) : (s.setCiRing t r g).cx = s.cx := rfl
@[simp] theorem State.setCiRing_tn (s : State) (t r : Nat) (g : Ring) : (s.setCiRing t r g).tn = s.tn := rfl
@[simp] theorem State.setCiRing_ir (s : State) (t r : Nat) (g : Ring) : (s.setCiRing t r g).ir = s.ir := rfl
@[simp] theorem State.setCiRing_fc (s : State) (t r : Nat) (g : Ring) : (s.setCiRing t r g).fc = s.fc := rfl
@[simp] theorem State.setCiRing_tw (s : State) (t r : Nat) (g : Ring) : (s.setCiRing t r g).tw = s.tw := rfl
@[simp] theorem State.setCiRing_sv (s : State) (t r : Nat) (g : Ring) : (s.setCiRing t r g).sv = s.sv := rfl

@[simp] theorem State.setKeySlot_pending (s : State) (t h : Nat) (k : KeySlot) : (s.setKeySlot t h k).pending = s.pending := rfl
@[simp] theorem State.setKeySlot_fresh (s : State) (t h : Nat) (k : KeySlot) : (s.setKeySlot t h k).fresh = s.fresh := rfl
@[simp] theorem State.setKeySlot_out (s : State) (t h : Nat) (k : KeySlot) : (s.setKeySlot t h k).out = s.out := rfl
@[simp] theorem State.setKeySlot_md (s : State) (t h : Nat) (k : KeySlot) : (s.setKeySlot t h k).md = s.md := rfl
@[simp] theorem State.setKeySlot_es (s : State) (t h : Nat) (k : KeySlot) : (s.setKeySlot t h k).es = s.es := rfl
@[simp] theorem State.setKeySlot_tm (s : State) (t h : Nat) (k : KeySlot) : (s.setKeySlot t h k).tm = s.tm := rfl
@[simp] theorem State.setKeySlot_mem (s : State) (t h : Nat) (k : KeySlot) : (s.setKeySlot t h k).mem = s.mem := rfl
@[simp] theorem State.setKeySlot_cores (s : State) (t h : Nat) (k : KeySlot) : (s.setKeySlot t h k).cores = s.cores := rfl
@[simp] theorem State.setKeySlot_tc (s : State) (t h : Nat) (k : KeySlot) : (s.setKeySlot t h k).tc = s.tc := rfl
@[simp] theorem State.setKeySlot_cc (s : State) (t h : Nat) (k : KeySlot) : (s.setKeySlot t h k).cc = s.cc := rfl
@[simp] theorem State.setKeySlot_dy (s : State) (t h : Nat) (k : KeySlot) : (s.setKeySlot t h k).dy = s.dy := rfl
@[simp] theorem State.setKeySlot_sp (s : State) (t h : Nat) (k : KeySlot) : (s.setKeySlot t h k).sp = s.sp := rfl
@[simp] theorem State.setKeySlot_ch (s : State) (t h : Nat) (k : KeySlot) : (s.setKeySlot t h k).ch = s.ch := rfl
@[simp] theorem State.setKeySlot_jn (s : State) (t h : Nat) (k : KeySlot) : (s.setKeySlot t h k).jn = s.jn := rfl
@[simp] theorem State.setKeySlot_cx (s : State) (t h : Nat) (k : KeySlot) : (s.setKeySlot t h k).cx = s.cx := rfl
@[simp] theorem State.setKeySlot_tn (s : State) (t h : Nat) (k : KeySlot) : (s.setKeySlot t h k).tn = s.tn := rfl
@[simp] theorem State.setKeySlot_ir (s : State) (t h : Nat) (k : KeySlot) : (s.setKeySlot t h k).ir = s.ir := rfl
@[simp] theorem State.setKeySlot_fc (s : State) (t h : Nat) (k : KeySlot) : (s.setKeySlot t h k).fc = s.fc := rfl
@[simp] theorem State.setKeySlot_tw (s : State) (t h : Nat) (k : KeySlot) : (s.setKeySlot t h k).tw = s.tw := rfl
@[simp] theorem State.setKeySlot_sv (s : State) (t h : Nat) (k : KeySlot) : (s.setKeySlot t h k).sv = s.sv := rfl

@[simp] theorem State.addPending_pending (s : State) (p : Pend) : (s.addPending p).pending = s.pending := rfl
@[simp] theorem State.addPending_fresh (s : State) (p : Pend) : (s.addPending p).fresh = s.fresh := rfl
@[simp] theorem State.addPending_out (s : State) (p : Pend) : (s.addPending p).out = s.out := rfl
@[simp] theorem State.addPending_md (s : State) (p : Pend) : (s.addPending p).md = s.md := rfl
@[simp] theorem State.addPending_es (s : State) (p : Pend) : (s.addPending p).es = s.es := rfl
@[simp] theorem State.addPending_tm (s : State) (p : Pend) : (s.addPending p).tm = s.tm := rfl
@[simp] theorem State.addPending_mem (s : State) (p : Pend) : (s.addPending p).mem = s.mem := rfl
@[simp] theorem State.addPending_cores (s : State) (p : Pend) : (s.addPending p).cores = s.cores := rfl
@[simp] theorem State.addPending_tc (s : State) (p : Pend) : (s.addPending p).tc = s.tc := rfl
@[simp] theorem State.addPending_cc (s : State) (p : Pend) : (s.addPending p).cc = s.cc := rfl
@[simp] theorem State.addPending_dy (s : State) (p : Pend) : (s.addPending p).dy = s.dy := rfl
@[simp] theorem State.addPending_sp (s : State) (p : Pend) : (s.addPending p).sp = s.sp := rfl
@[simp] theorem State.addPending_ch (s : State) (p : Pend) : (s.addPending p).ch = s.ch := rfl
@[simp] theorem State.addPending_cx (s : State) (p : Pend) : (s.addPending p).cx = s.cx := rfl
@[simp] theorem State.addPending_ci (s : State) (p : Pend) : (s.addPending p).ci = s.ci := rfl
@[simp] theorem State.addPending_tn (s : State) (p : Pend) : (s.addPending p).tn = s.tn := rfl
@[simp] theorem State.addPending_ir (s : State) (p : Pend) : (s.addPending p).ir = s.ir := rfl
@[simp] theorem State.addPending_fc (s : State) (p : Pend) : (s.addPending p).fc = s.fc := rfl
@[simp] theorem State.addPending_tw (s : State) (p : Pend) : (s.addPending p).tw = s.tw := rfl
@[simp] theorem State.addPending_sv (s : State) (p : Pend) : (s.addPending p).sv = s.sv := rfl

@[simp] theorem State.setPair_pending (s : State) (p : PairSt) : (s.setPair p).pending = s.pending := rfl
@[simp] theorem State.setPair_fresh (s : State) (p : PairSt) : (s.setPair p).fresh = s.fresh := rfl
@[simp] theorem State.setPair_out (s : State) (p : PairSt) : (s.setPair p).out = s.out := rfl
@[simp] theorem State.setPair_md (s : State) (p : PairSt) : (s.setPair p).md = s.md := rfl
@[simp] theorem State.setPair_es (s : State) (p : PairSt) : (s.setPair p).es = s.es := rfl
@[simp] theorem State.setPair_tm (s : State) (p : PairSt) : (s.setPair p).tm = s.tm := rfl
@[simp] theorem State.setPair_mem (s : State) (p : PairSt) : (s.setPair p).mem = s.mem := rfl
@[simp] theorem State.setPair_cores (s : State) (p : PairSt) : (s.setPair p).cores = s.cores := rfl
@[simp] theorem State.setPair_tc (s : State) (p : PairSt) : (s.setPair p).tc = s.tc := rfl
@[simp] theorem State.setPair_cc (s : State) (p : PairSt) : (s.setPair p).cc = s.cc := rfl
@[simp] theorem State.setPair_dy (s : State) (p : PairSt) : (s.setPair p).dy = s.dy := rfl
@[simp] theorem State.setPair_sp (s : State) (p : PairSt) : (s.setPair p).sp = s.sp := rfl
@[simp] theorem State.setPair_ch (s : State) (p : PairSt) : (s.setPair p).ch = s.ch := rfl
@[simp] theorem State.setPair_jn (s : State) (p : PairSt) : (s.setPair p).jn = s.jn := rfl
@[simp] theorem State.setPair_cx (s : State) (p : PairSt) : (s.setPair p).cx = s.cx := rfl
@[simp] theorem State.setPair_ci (s : State) (p : PairSt) : (s.setPair p).ci = s.ci := rfl
@[simp] theorem State.setPair_tn (s : State) (p : PairSt) : (s.setPair p).tn = s.tn := rfl
@[simp] theorem State.setPair_ir (s : State) (p : PairSt) : (s.setPair p).ir = s.ir := rfl
@[simp] theorem State.setPair_fc (s : State) (p : PairSt) : (s.setPair p).fc = s.fc := rfl
@[simp] theorem State.setPair_sv (s : State) (p : PairSt) : (s.setPair p).sv = s.sv := rfl

@[simp] theorem State.setSession_pending (s : State) (x : Session) : (s.setSession x).pending = s.pending := rfl
@[simp] theorem State.setSession_fresh (s : State) (x : Session) : (s.setSession x).fresh = s.fresh := rfl
@[simp] theorem State.setSession_out (s : State) (x : Session) : (s.setSession x).out = s.out := rfl
@[simp] theorem State.setSession_md (s : State) (x : Session) : (s.setSession x).md = s.md := rfl
@[simp] theorem State.setSession_es (s : State) (x : Session) : (s.setSession x).es = s.es := rfl
@[simp] theorem State.setSession_tm (s : State) (x : Session) : (s.setSession x).tm = s.tm := rfl
@[simp] theorem State.setSession_mem (s : State) (x : Session) : (s.setSession x).mem = s.mem := rfl
@[simp] theorem State.setSession_cores (s : State) (x : Session) : (s.setSession x).cores = s.cores := rfl
@[simp] theorem State.setSession_tc (s : State) (x : Session) : (s.setSession x).tc = s.tc := rfl
@[simp] theorem State.setSession_cc (s : State) (x : Session) : (s.setSession x).cc = s.cc := rfl
@[simp] theorem State.setSession_dy (s : State) (x : Session) : (s.setSession x).dy = s.dy := rfl
@[simp] theorem State.setSession_sp (s : State) (x : Session) : (s.setSession x).sp = s.sp := rfl
@[simp] theorem State.setSession_ch (s : State) (x : Session) : (s.setSession x).ch = s.ch := rfl
@[simp] theorem State.setSession_jn (s : State) (x : Session) : (s.setSession x).jn = s.jn := rfl
@[simp] theorem State.setSession_cx (s : State) (x : Session) : (s.setSession x).cx = s.cx := rfl
@[simp] theorem State.setSession_ci (s : State) (x : Session) : (s.setSession x).ci = s.ci := rfl
@[simp] theorem State.setSession_tn (s : State) (x : Session) : (s.setSession x).tn = s.tn := rfl
@[simp] theorem State.setSession_ir (s : State) (x : Session) : (s.setSession x).ir = s.ir := rfl
@[simp] theorem State.setSession_fc (s : State) (x : Session) : (s.setSession x).fc = s.fc := rfl
@[simp] theorem State.setSession_tw (s : State) (x : Session) : (s.setSession x).tw = s.tw := rfl

@[simp] theorem State.countDiscarded_pending (s : State) : (s.countDiscarded).pending = s.pending := rfl
@[simp] theorem State.countDiscarded_fresh (s : State) : (s.countDiscarded).fresh = s.fresh := rfl
@[simp] theorem State.countDiscarded_out (s : State) : (s.countDiscarded).out = s.out := rfl
@[simp] theorem State.countDiscarded_md (s : State) : (s.countDiscarded).md = s.md := rfl
@[simp] theorem State.countDiscarded_es (s : State) : (s.countDiscarded).es = s.es := rfl
@[simp] theorem State.countDiscarded_tm (s : State) : (s.countDiscarded).tm = s.tm := rfl
@[simp] theorem State.countDiscarded_mem (s : State) : (s.countDiscarded).mem = s.mem := rfl
@[simp] theorem State.countDiscarded_cores (s : State) : (s.countDiscarded).cores = s.cores := rfl
@[simp] theorem State.countDiscarded_tc (s : State) : (s.countDiscarded).tc = s.tc := rfl
@[simp] theorem State.countDiscarded_cc (s : State) : (s.countDiscarded).cc = s.cc := rfl
@[simp] theorem State.countDiscarded_dy (s : State) : (s.countDiscarded).dy = s.dy := rfl
@[simp] theorem State.countDiscarded_sp (s : State) : (s.countDiscarded).sp = s.sp := rfl
@[simp] theorem State.countDiscarded_ch (s : State) : (s.countDiscarded).ch = s.ch := rfl
@[simp] theorem State.countDiscarded_jn (s : State) : (s.countDiscarded).jn = s.jn := rfl
@[simp] theorem State.countDiscarded_cx (s : State) : (s.countDiscarded).cx = s.cx := rfl
@[simp] theorem State.countDiscarded_ci (s : State) : (s.countDiscarded).ci = s.ci := rfl
@[simp] theorem State.countDiscarded_tn (s : State) : (s.countDiscarded).tn = s.tn := rfl
@[simp] theorem State.countDiscarded_ir (s : State) : (s.countDiscarded).ir = s.ir := rfl
@[simp] theorem State.countDiscarded_fc (s : State) : (s.countDiscarded).fc = s.fc := rfl
@[simp] theorem State.countDiscarded_tw (s : State) : (s.countDiscarded).tw = s.tw := rfl

@[simp] theorem State.tick_own (s : State) : s.tick.1 = s.fresh ∧ s.tick.2.fresh = s.fresh + 1 := ⟨rfl, rfl⟩

@[simp] theorem State.setPair_own (s : State) (p : PairSt) : (s.setPair p).tw.st = p := rfl

@[simp] theorem State.core_modCore_same (s : State) (c : Nat) (f : Core → Core) : (s.modCore c f).core c = f (s.core c) :=
  tget_tput_same ..

@[simp] theorem State.chT_setChT_same (s : State) (t : Nat) (v : ChTenant) : (s.setChT t v).chT t = v := tget_tput_same ..

end Sys2Proof.Machine
end

