-- ==== Sys2Proof/Laws/Shared.lean ====
section
/-! SUPPORT. One lemma for each shared operation of the agents, the Twin link, the journal and the firmware that says all it
can do. -/

namespace Sys2Proof.Machine

/-- Nothing waits inside the module: pumping changes nothing. -/
@[simp] theorem State.pump_empty {s : State} (h : s.dy.inbox = []) : s.pump = s := by
  unfold State.pump State.pumpN
  rw [h]

/-- A read of the time writes the time of day and takes one free value. -/
theorem State.now_own (s : State) : s.now.2 = { s with fresh := s.fresh + 1, tm := { s.tm with tod := s.now.1 } } := rfl

/-- The time of day does not go back while the count fits its 64 bits. -/
theorem State.tod_le_now {s : State} (h : max s.tm.tod s.tm.floor < 2 ^ 64) : s.tm.tod ≤ s.now.1 := by
  have e : s.now.1 = max s.tm.tod (min (s.tm.tod + Config.elapsedNs s.fresh) (s.tm.floor - 1)) % 2 ^ 64 := rfl
  rw [e, Nat.mod_eq_of_lt (by omega)]
  omega

/-- A Twin frame takes the next sequence number and count, is kept for a replay, and leaves on an active link. -/
theorem State.emitTwin_cases (s : State) (m : TwinMsg) :
    ∃ f : TwinFrame, f.seq = s.tw.seq ∧ f.epoch = s.tw.keyEpoch ∧ f.count = s.tw.sent ∧ f.msg = m ∧
      (let w := { s.tw with seq := (s.tw.seq + 1) % 1024, sent := (s.tw.sent + 1) % 2 ^ 64,
                            replayBuf := (s.tw.replayBuf ++ [f]).drop ((s.tw.replayBuf ++ [f]).length - 256) }
       (s.tw.linkSt = .active → s.emitTwin m = { s with tw := w, out := s.out ++ [.twin f] }) ∧
       (s.tw.linkSt ≠ .active → s.emitTwin m = { s with tw := w })) := by
  refine ⟨{ seq := s.tw.seq, epoch := s.tw.keyEpoch, count := s.tw.sent, msg := m }, rfl, rfl, rfl, rfl, ?_, ?_⟩
  · intro h
    simp [State.emitTwin, h]
  · intro h
    simp [State.emitTwin, h]

/-- The replay buffer of the Twin link keeps at most 256 frames. -/
theorem State.emitTwin_kept (s : State) (m : TwinMsg) : (s.emitTwin m).tw.replayBuf.length ≤ 256 := by
  unfold State.emitTwin
  dsimp only
  split <;> simp only [List.length_drop] <;> omega

/-- An item leaves for the twin, under the next number, exactly for a tenant that the twin covers. -/
theorem State.mirrorOut_cases (s : State) (t : Nat) (m : MirrorItem) :
    (s.twinCovers t = false ∧ s.mirrorOut t m = (none, s)) ∨
    (s.twinCovers t = true ∧ s.mirrorOut t m = (some s.tw.nextItem,
      ({ s with tw := { s.tw with nextItem := s.tw.nextItem + 1,
                                  unacked := s.tw.unacked ++ [s.tw.nextItem] } }).emitTwin (.item s.tw.nextItem m))) := by
  unfold State.mirrorOut
  cases h : s.twinCovers t <;> simp

/-- A block of a staging: no staging runs; a bad block ends it INVALID; another block waits; the last one stages the bank. -/
theorem State.stageBlock_cases (s : State) :
    (s.sv.staging = none ∧ s.stageBlock = s) ∨
    ∃ f, s.sv.staging = some f ∧
      ((f.badBlock = some s.sv.blocksStaged ∧ s.sv.blocksStaged < f.nblocks ∧
        s.stageBlock = ({ s with sv := { s.sv with staging := none } }).stageFails 7 (imageBank f .invalid)) ∨
       (s.sv.blocksStaged + 1 < f.nblocks ∧ s.stageBlock = { s with sv := { s.sv with blocksStaged := s.sv.blocksStaged + 1 } }) ∨
       (f.nblocks ≤ s.sv.blocksStaged + 1 ∧
        s.stageBlock = (({ s with sv := { s.sv with staging := none, blocksStaged := f.nblocks } }).setInactive
          (imageBank f .staged)).updateStatus 0x0A)) := by
  cases h : s.sv.staging with
  | none => exact .inl ⟨rfl, by simp [State.stageBlock, h]⟩
  | some f =>
    refine .inr ⟨f, rfl, ?_⟩
    by_cases hb : f.badBlock = some s.sv.blocksStaged ∧ s.sv.blocksStaged < f.nblocks
    · exact .inl ⟨hb.1, hb.2, by simp [State.stageBlock, h, hb.1, hb.2]⟩
    · by_cases hn : s.sv.blocksStaged + 1 < f.nblocks
      · refine .inr (.inl ⟨hn, ?_⟩)
        have hm : min (s.sv.blocksStaged + 1) f.nblocks = s.sv.blocksStaged + 1 := by omega
        simp [State.stageBlock, h, hb, hn, hm]
      · refine .inr (.inr ⟨by omega, ?_⟩)
        have hm : min (s.sv.blocksStaged + 1) f.nblocks = f.nblocks := by omega
        simp [State.stageBlock, h, hb, hn, hm]

/-- A record of the region of its own stream takes the next number; it waits, is written at once, or finds no segment. -/
theorem State.ownRecord_cases (s : State) (type : Nat) (ws : List Word) :
    ∃ p : Pend, p.stream = 1024 ∧ p.type = type ∧ p.words = ws ∧ p.seq = s.jn.ownSeq ∧
      (let u := { s with jn := { s.jn with ownSeq := s.jn.ownSeq + 1 } }
       let v := { s with jn := { s.jn with ownSeq := s.jn.ownSeq + 1, pending := s.jn.pending ++ [p] } }
       s.ownRecord type ws = v ∨ s.ownRecord type ws = u ∨ ∃ g, s.ownRecord type ws = v.writeRecord p false g) := by
  refine ⟨{ stream := 1024, seq := s.jn.ownSeq, type := type, user := 0, words := ws, toSeal := false, toCompress := false,
            charge := regionCharge ws.length, time := s.tm.tod }, rfl, rfl, rfl, rfl, ?_⟩
  unfold State.ownRecord
  dsimp only
  split
  · exact .inl rfl
  · split
    · exact .inr (.inr ⟨_, rfl⟩)
    · exact .inr (.inl rfl)

end Sys2Proof.Machine
end

