-- ==== Sys2Proof/Tests/Slice0.lean ====
section
/-! SUPPORT. Tests: ill-formed commands, one step on a small machine with results from the spec's tables, and for every
statement with hypotheses a state and operands that meet them. -/

namespace Sys2Proof.Tests

set_option Elab.async false

open Sys2Proof.Machine Sys2Proof.Safety

/-! ## A small machine -/

/-- A header word: OPC, LEN, VAR and the low flags RI 8, SG 4, DW 2, CS 1 (Table 2.3). -/
def head (opc len var flags : Nat) : Word := BitVec.ofNat 36 (opc * 2 ^ 24 + len * 2 ^ 16 + var * 2 ^ 8 + flags)

/-- A descriptor: mode, index, base, displacement (Table 2.4). -/
def desc (mode ix bs disp : Nat) : Word := BitVec.ofNat 36 (mode * 2 ^ 31 + ix * 2 ^ 27 + bs * 2 ^ 23 + disp)

/-- A register, a literal and an absolute memory operand. -/
def rg (n : Nat) : Word := desc 1 0 n 0
def im (v : Nat) : Word := desc 2 0 0 v
def at_ (a : Nat) : Word := desc 4 0 0 a

def dword (a : Nat) (d : Nat) : List (Nat × Word) :=
  [(a, hiWord (BitVec.ofNat 72 d)), (a + 1, loWord (BitVec.ofNat 72 d))].filter (fun p => p.2 != 0)

/-- A walk of three tables that ends in a large page over addresses 0 to 2^21 - 1, mapped to themselves. -/
def walkTables (a : Nat) (u : Nat) : List (Nat × Word) :=
  dword a (2 ^ 71 + (a + 4096)) ++ dword (a + 4096) (2 ^ 71 + (a + 8192)) ++
    dword (a + 8192) (2 ^ 71 + 2 * 2 ^ 69 + 2 ^ 68 + 2 ^ 67 + 2 ^ 66 + u * 2 ^ 65)

/-- The block of an interruption: the SW and IC it loads, in words 8 to 11 (Table 2.15). -/
def vecBlock (a level ic : Nat) : List (Nat × Word) := dword (a + 8) (level * 2 ^ 70) ++ dword (a + 10) ic

/-- The blocks of each core at levels 0 and 1: 16 words for each core (R70). -/
def farBlocks : List (Nat × Word) :=
  (List.range 4).flatMap (fun c => vecBlock (40960 + 16 * c) 0 777) ++
    (List.range 4).flatMap (fun c => vecBlock (45056 + 16 * c) 1 777)

/-- With the level-2 block of the tenant's cores. -/
def blocks : List (Nat × Word) := vecBlock 28672 2 777 ++ farBlocks

/-- Pages 1 to 3 serve levels 0 and 1 and as stage 2 of tenant 5; pages 4 to 6 are its stage 1; pages 7, 10 and 11 hold
the interruption blocks; data from page 8. -/
def words : List (Nat × Word) :=
  walkTables 4096 0 ++ walkTables 16384 1 ++ blocks

def hostTag : BitVec 16 := BitVec.ofNat 16 (2 * 2 ^ 14)
def tenTag : BitVec 16 := BitVec.ofNat 16 (2 ^ 14 + 2 ^ 13 + 5)
def tags : List (Nat × BitVec 16) :=
  [(0, tenTag), (1, hostTag), (2, hostTag), (3, hostTag), (4, tenTag), (5, tenTag), (6, tenTag), (7, tenTag), (8, tenTag),
    (9, tenTag), (11, hostTag)]

/-- SW of a level, with further bits. -/
def swOf (level more : Nat) : DWord := BitVec.ofNat 72 (level * 2 ^ 70 + more)

def coreOf (level : Nat) : Core :=
  { Core.init with sw := swOf level 0, ic := 100, ctxValid := true, tenant := 5, s1root := 16384, vec2 := 28672 }

/-- A module in RUN: core 0 at level 0, core 1 at level 1, cores 2 and 3 at levels 2 and 3 of tenant 5. -/
def demo : State :=
  { State.reset with
    md := { ModuleCtl.init with st := .run }
    cores := [(0, coreOf 0), (1, coreOf 1), (2, coreOf 2), (3, coreOf 3)]
    sp := { Sparing.init with siteOf := [(0, 0), (1, 1), (2, 2), (3, 3)], configured := 4, built := true }
    tn := { Tenancy.init with z1root := 4096, h1root := 4096, vec0 := 40960, vec1 := 45056,
                              tenants := [(5, { Tenant.init with st := .active, s2root := 4096 })] }
    mem := { words := words, tags := tags, poison := [] } }

/-- The machine with X1 to X3 of a core, and bits added to its SW. -/
def withX (c more a b d : Nat) : State :=
  demo.modCore c (fun k => { k with sw := k.sw ||| BitVec.ofNat 72 more, x := setReg (setReg (setReg k.x 1 a) 2 b) 3 d })

/-- A command answers a next state in which a check holds. -/
def runs (i : Instr) (s : State) (f : State → Bool) : Bool :=
  match exec i s with
  | .next t => f t
  | _ => false

/-- A command answers a refusal. -/
def refuses (i : Instr) (s : State) : Bool :=
  match exec i s with
  | .refused .illFormed => true
  | _ => false

/-- The demo machine is canonical. -/
theorem test_demo_canonical : demo.mem.wf = true := by decide +kernel

/-- A flit on link 1, and the end of a message that it carries. -/
def flit : FlitHead := { link := 1, ack := 0, cvc := 0, ccnt := 0 }
def from_ (agent : Nat) : MsgEnd := { agent := agent, head := { tag := 3, orig := agent, flit := flit, poisoned := false } }

/-! ## Ill-formed commands: one for each check -/

/-- A term that each check of WellFormed refuses. -/
theorem test_ill_formed_refused :
    let i : Insn := { hdr := head 0o1000 0 0 1, a := rg 1, b := rg 2, c := rg 3 }
    let z : Accessor := { role := .z, core := 0 }
    let bad : Accessor := { role := .h, core := 100 }
    ([.add 100 i, .sub 0 i, .customerOpcode 0 i, .esbCipher 0 i, .enable 0 i, .containedMachineCheck 0 6 0,
   .uncontainedMachineCheck (2 ^ 36) 1 0, .uncontainedMachineCheck 0 0 0, .uncontainedMachineCheck 0 6 0, .replay 0 (2 ^ 36),
   .externalInterruption 127, .spareSelfTest 104 true, .unload (.inBand 100), .referenceClockLoss 2, .commitAdmission 512,
   .jnRd z 0 (2 ^ 36), .jnRd bad 0 0, .jnRelease z 0 (2 ^ 48), .nop 32768, .linkDownDetected 8 0, .linkDownDetected 0 4,
   .adapterReset 8 0, .helloSend 2048, .constellationPortFailure 2, .readShared (from_ 42) 0, .readShared (from_ 1024) 0,
   .writeBack (from_ 0) 0 (some []), .maskedWriteBack (from_ 0) 0 [] [], .invalidate (from_ 42) 0, .data 0 (from_ 0) 0 [] 0 false,
   .linkFailure 16, .linkState ⟨16, flit⟩ 0, .partitionRule [16], .laneGroupFence 0 2, .compress 0 16 0, .compress 0 0 48, .encrypt 0 0 24,
   .cxClose bad 0 0, .claim z 107, .moveSource z 8192, .doorbell (.tenant 512) 0, .faultReport 1236 .contained 0,
   .spareRebuildComplete 128, .heartbeatSend 3, .witness 2, .credential (.session 1) 7 [], .mediumChange 3,
   .registerWrite z (2 ^ 48) 0] : List Instr).all
      (fun i => !i.wf && refuses i demo) = true := by
  decide +kernel

/-! ## The queue -/

theorem test_idle : (match step State.reset with | .next t => t == State.reset | _ => false) = true := by decide +kernel

theorem test_queue_in_order :
    (match step { State.reset with pending := [.porstNHigh, .capRaise] } with
     | .next t => t.pending == [.capRaise] && t.md.porstHigh
     | _ => false) = true := by decide +kernel

/-! ## Header words of the worked examples -/

/-- The worked example of R89: a DSR header with L1 = 2, L2 = 1, s = -3 and CS. -/
theorem test_header_dsr :
    let h : Word := 0o200604176401
    opcOf { hdr := h, a := 0, b := 0, c := 0 } = 0o2006 ∧ len1 h = 2 ∧ len2 h = 1 ∧ shiftOf h = -3 ∧ hdrCS h = true := by
  decide +kernel

/-! ## Arithmetic: the edge cases of Tables 3.2 and 3.3 -/

/-- A and B in X1 and X2 (of core 0), the result in X3; CS set. The register result and CC are as given. -/
def three (i : Nat → Insn → Instr) (opc fl more a b r cc : Nat) : Bool :=
  runs (i 0 { hdr := head opc 0 0 (fl + 1), a := rg 1, b := rg 2, c := rg 3 }) (withX 0 more a b 0)
    (fun t => regOf (t.core 0).x 3 == r && (t.core 0).cc == cc && (t.core 0).ic == 104)

/-- A in X1, the result in X3. -/
def two (i : Nat → Insn → Instr) (opc len var fl more a d r cc : Nat) : Bool :=
  runs (i 0 { hdr := head opc len var (fl + 1), a := rg 1, b := rg 3, c := 0 }) (withX 0 more a 0 d)
    (fun t => regOf (t.core 0).x 3 == r && (t.core 0).cc == cc && (t.core 0).ic == 103)

/-- Nothing is written, CC is as given. -/
def onlyCC (i : Nat → Insn → Instr) (opc len fl a b cc : Nat) : Bool :=
  runs (i 0 { hdr := head opc len 0 fl, a := rg 1, b := rg 2, c := 0 }) (withX 0 0 a b 9)
    (fun t => (t.core 0).x == ((withX 0 0 a b 9).core 0).x && (t.core 0).cc == cc)

def least : Nat := 2 ^ 35
def most : Nat := 2 ^ 35 - 1
def minus (n : Nat) : Nat := 2 ^ 36 - n
/-- CY, OE and DE of SW (Table 2.2). -/
def cyBit : Nat := 2 ^ 60
def oeBit : Nat := 2 ^ 48
def deBit : Nat := 2 ^ 47

theorem test_add : three .add 0o1000 0 0 most 1 least 3 = true := by decide +kernel
theorem test_add_carry : three .add 0o1000 0 0 (minus 1) 1 0 0 = true := by decide +kernel
theorem test_sub : three .sub 0o1001 0 0 0 1 (minus 1) 1 = true := by decide +kernel
theorem test_adc : three .adc 0o1002 0 cyBit 5 7 13 2 = true := by decide +kernel
theorem test_sbb : three .sbb 0o1003 0 0 0 0 (minus 1) 1 = true := by decide +kernel
theorem test_neg : two .neg 0o1010 0 0 0 0 least 0 least 3 = true := by decide +kernel
theorem test_abs : two .abs 0o1011 0 0 0 0 (minus 5) 0 5 2 = true := by decide +kernel
theorem test_mul : three .mul 0o1020 4 0 least (minus 1) least 3 = true := by decide +kernel
theorem test_mul_unsigned : three .mul 0o1020 0 0 0o001000000000 0o001000000000 0 3 = true := by decide +kernel
theorem test_mlf : three .mlf 0o1021 0 0 (minus 1) (minus 1) 0o777777777776000000000001 2 = true := by decide +kernel
theorem test_div : three .div 0o1030 4 0 (minus 7) 2 (minus 3) 1 = true := by decide +kernel
theorem test_div_unsigned : three .div 0o1030 0 0 least (minus 1) 0 0 = true := by decide +kernel
theorem test_rem : three .rem 0o1031 4 0 7 (minus 2) 1 2 = true := by decide +kernel
theorem test_dvr : three .dvr 0o1032 4 0 (minus 7) 2 (minus 3 * 2 ^ 36 + minus 1) 1 = true := by decide +kernel
theorem test_cmp : onlyCC .cmp 0o1040 0 4 (minus 1) 1 1 = true := by decide +kernel
theorem test_cmp_unsigned : onlyCC .cmp 0o1040 0 0 (minus 1) 1 2 = true := by decide +kernel
theorem test_tst : onlyCC .tst 0o1041 0 0 6 4 2 = true := by decide +kernel
theorem test_and : three .and 0o1050 0 0 0o14 0o12 0o10 2 = true := by decide +kernel
theorem test_orr : three .orr 0o1051 0 0 0o14 0o12 0o16 2 = true := by decide +kernel
theorem test_xor : three .xor 0o1052 0 0 0o14 0o14 0 0 = true := by decide +kernel
theorem test_not : two .not 0o1053 0 0 0 0 0 0 (minus 1) 2 = true := by decide +kernel
theorem test_sll : three .sll 0o1060 0 0 (minus 1) 36 0 0 = true := by decide +kernel
theorem test_srl : three .srl 0o1061 0 0 (minus 1) 35 1 2 = true := by decide +kernel
theorem test_sla : three .sla 0o1062 0 0 0o200000000000 1 0o400000000000 3 = true := by decide +kernel
theorem test_sra : three .sra 0o1063 0 0 least 36 (minus 1) 1 = true := by decide +kernel
theorem test_rol : three .rol 0o1064 0 0 1 40 16 2 = true := by decide +kernel
theorem test_ror : three .ror 0o1065 0 0 1 1 least 2 = true := by decide +kernel
theorem test_clz : two .clz 0o1070 0 0 0 0 0 7 36 2 = true := by decide +kernel
theorem test_pct : two .pct 0o1071 0 0 0 0 0o707 0 6 2 = true := by decide +kernel
theorem test_xbt : two .xbt 0o1100 3 4 4 0 0o160 0 (minus 1) 1 = true := by decide +kernel
theorem test_ibt : two .ibt 0o1101 3 4 0 0 0o72 0o777 0o657 2 = true := by decide +kernel

/-- With OE the Fixed-point overflow exception is taken: no result, IC from the block of level 0, the code word's class. -/
theorem test_overflow_exception :
    runs (.add 0 { hdr := head 0o1000 0 0 1, a := rg 1, b := rg 2, c := rg 3 }) (withX 0 oeBit most 1 9) (fun t =>
      regOf (t.core 0).x 3 == 9 && (t.core 0).ic == 777 &&
        fld ((t.core 0).forward 40964 (t.rd 40964)) 35 30 == 0o10) = true := by decide +kernel

/-- A divisor of zero takes the Divide exception, SUB 1, also with OE clear; words 2 and 3 hold the IC. -/
theorem test_divide_exception :
    runs (.div 0 { hdr := head 0o1030 0 0 1, a := rg 1, b := rg 2, c := rg 3 }) (withX 0 0 5 0 9) (fun t =>
      regOf (t.core 0).x 3 == 9 && fld ((t.core 0).forward 40964 (t.rd 40964)) 35 18 == 0o110001 &&
        (t.core 0).forward 40963 (t.rd 40963) == 100) = true := by decide +kernel

/-! ## Decimal: the worked example of R89 -/

def balance : Nat := 0o011010001574
def rate : Nat := 0o1134

/-- DMU of the rate and the balance leaves +120,500,925. -/
theorem test_dmu : two .dmu 0o2002 1 0 0 0 rate balance 0x120500925C 2 = true := by decide +kernel
theorem test_dsr : two .dsr 0o2006 0o20 0o375 0 0 0x120500925D 0 0x00120501D 1 = true := by decide +kernel
theorem test_dsr_tie : two .dsr 0o2006 0o20 0o375 0 0 0x120500500C 0 0x00120501C 2 = true := by decide +kernel
theorem test_dad : two .dad 0o2000 0 0 0 0 0x00000012C 0x00000030D 0x00000018D 1 = true := by decide +kernel
/-- Overflow without DE keeps the low-order digits and the sign, and sets CC to 3 (R87). -/
theorem test_dad_overflow : two .dad 0o2000 0 0 0 0 0x99999999C 0x00000002C 0x00000001C 3 = true := by decide +kernel
theorem test_dsb : two .dsb 0o2001 0 0 0 0 0x00000030C 0x00000030C 0x00000000C 0 = true := by decide +kernel
theorem test_ddv :
    runs (.ddv 0 { hdr := head 0o2003 0 0 1, a := rg 1, b := rg 2, c := rg 3 }) (withX 0 0 0x00000002C 0x00000007D 0)
      (fun t => regOf (t.core 0).x 2 == 0x00000003D && regOf (t.core 0).x 3 == 0x00000001D && (t.core 0).cc == 1) = true := by
  decide +kernel
theorem test_dcp : onlyCC .dcp 0o2004 0 0 0x00000000D 0x00000000C 0 = true := by decide +kernel
theorem test_dmv : two .dmv 0o2005 0 0 0 0 0x00000001F 0 0x00000001C 2 = true := by decide +kernel
theorem test_cdb : two .cdb 0o2010 0 0 0 0 0x00000012D 0 (2 ^ 72 - 12) 1 = true := by decide +kernel
theorem test_cbd : two .cbd 0o2011 0 0 0 0 (2 ^ 72 - 12) 0 0x00000012D 1 = true := by decide +kernel
theorem test_dts :
    runs (.dts 0 { hdr := head 0o2020 0 0 0, a := rg 1, b := 0, c := 0 }) (withX 0 0 0x0000000AC 0 0)
      (fun t => (t.core 0).cc == 3 && (t.core 0).ic == 102) = true := by decide +kernel

/-! ## Floating: the encodings of Table 3.6 -/

def one : Nat := 0o177000000000
def twice : Nat := 0o200000000000
def huge : Nat := 0o376777777777
def infin : Nat := 0o377000000000
def nan : Nat := 0o377400000000

theorem test_fad : three .fad 0o3000 0 0 one one twice 2 = true := by decide +kernel
theorem test_fad_overflow : three .fad 0o3000 0 0 huge huge infin 2 = true := by decide +kernel
theorem test_fsb : three .fsb 0o3001 0 0 infin infin nan 3 = true := by decide +kernel
theorem test_fmu : three .fmu 0o3002 0 0 1 twice 2 2 = true := by decide +kernel
theorem test_fdv : three .fdv 0o3003 0 0 (one + least) 0 (infin + least) 1 = true := by decide +kernel
theorem test_fsq : two .fsq 0o3004 0 0 0 0 0o201000000000 0 twice 2 = true := by decide +kernel
theorem test_fma :
    runs (.fma 0 { hdr := head 0o3005 0 0 1, a := rg 1, b := rg 2, c := rg 3 }) (withX 0 0 one one one)
      (fun t => regOf (t.core 0).x 3 == twice) = true := by decide +kernel
theorem test_fcp : onlyCC .fcp 0o3010 0 0 0 least 0 = true := by decide +kernel
theorem test_fcp_unordered : onlyCC .fcp 0o3010 0 0 nan one 3 = true := by decide +kernel
theorem test_fcv : two .fcv 0o3020 0 0 0 0 one 0 0o177700000000000000000000 2 = true := by decide +kernel
theorem test_fci : two .fci 0o3021 0 0 4 0 (twice + least) 0 (minus 2) 1 = true := by decide +kernel
theorem test_ffi : two .ffi 0o3022 0 0 4 0 (minus 1) 0 (one + least) 1 = true := by decide +kernel
theorem test_ftd : two .ftd 0o3023 0 0 0 0 (twice + least) 0 0x00000002D 1 = true := by decide +kernel
theorem test_ffd : two .ffd 0o3024 0 0 0 0 0x00000002D 0 (twice + least) 1 = true := by decide +kernel
theorem test_fri : two .fri 0o3040 0 0 0 0 (one - 2 ^ 27) 0 0 0 = true := by decide +kernel
/-- Binary32 of 1.0 by Table 3.7's first code, right-aligned. -/
theorem test_ffx : two .ffx 0o3031 0 0 0 0 0x3F800000 0 one 2 = true := by decide +kernel
theorem test_ftx : two .ftx 0o3030 0 0 0 0 one 0 0x3F800000 2 = true := by decide +kernel

/-! ## Moves, pairs and flow -/

def insn (opc len var fl : Nat) (a b c : Word) : Insn := { hdr := head opc len var fl, a := a, b := b, c := c }

/-- The demo machine with further words of memory, in ascending order above the tables and blocks. -/
def withMem (s : State) (l : List (Nat × Word)) : State := { s with mem := { s.mem with words := s.mem.words ++ l } }

/-- A word as core `c` reads it. -/
def seen (t : State) (c a : Nat) : Word := (t.core c).forward a (t.rd a)

/-- A load by translation through both stages at level 2, and a store that waits in the buffer. -/
theorem test_mvw :
    runs (.mvw 2 (insn 0o10 0 0 1 (at_ 32768) (rg 3) 0)) (withMem demo [(49152, 5)]) (fun t =>
      regOf (t.core 2).x 3 == 0 && (t.core 2).cc == 0) = true := by decide +kernel
theorem test_mvw_store :
    runs (.mvw 2 (insn 0o10 0 0 3 (rg 1) (at_ 32768) 0)) (withX 2 0 (2 ^ 71 + 3) 0 0) (fun t =>
      seen t 2 32768 == 2 ^ 35 && seen t 2 32769 == 3 && t.rd 32769 == 0 && (t.core 2).cc == 1) = true := by decide +kernel
theorem test_xch :
    runs (.xch 3 (insn 0o30 0 0 0 (rg 1) (at_ 32768) 0)) (withX 3 0 6 0 0) (fun t =>
      regOf (t.core 3).x 1 == 0 && seen t 3 32768 == 6) = true := by decide +kernel
theorem test_ldr :
    runs (.ldr 0 (insn 0o40 0 0 0 (at_ 50000) (rg 3) 0)) (withMem demo [(50000, 9)]) (fun t =>
      regOf (t.core 0).x 3 == 9 && (t.core 0).res.map (·.line) == some 3125) = true := by decide +kernel
theorem test_stc :
    runs (.stc 0 (insn 0o41 0 0 0 (rg 1) (at_ 50000) 0))
      ((withX 0 0 7 0 0).modCore 0 (fun k => { k with res := some { line := 3125, deferring := false, snooped := false } }))
      (fun t => t.rd 50000 == 7 && (t.core 0).cc == 0 && (t.core 0).res == none) = true := by decide +kernel
theorem test_stc_without :
    runs (.stc 0 (insn 0o41 0 0 0 (rg 1) (at_ 50000) 0)) (withX 0 0 7 0 0)
      (fun t => t.rd 50000 == 0 && (t.core 0).cc == 1) = true := by decide +kernel

/-- A mask bit for CC 0 is bit 0 of VAR: taken, and not taken. -/
theorem test_br : runs (.br 0 (insn 0o4000 0 1 0 (at_ 4000) 0 0)) demo (fun t => (t.core 0).ic == 4000) = true := by
  decide +kernel
theorem test_br_not : runs (.br 0 (insn 0o4000 0 0o16 0 (at_ 4000) 0 0)) demo (fun t => (t.core 0).ic == 102) = true := by
  decide +kernel
theorem test_bal :
    runs (.bal 0 (insn 0o4001 0 0 0 (at_ 4000) (rg 3) 0)) demo (fun t => (t.core 0).ic == 4000 && regOf (t.core 0).x 3 == 103) =
      true := by decide +kernel
theorem test_bct :
    runs (.bct 0 (insn 0o4002 0 0 0 (rg 3) (at_ 4000) 0)) (withX 0 0 0 0 1) (fun t =>
      (t.core 0).ic == 103 && regOf (t.core 0).x 3 == 0) = true := by decide +kernel

/-- A call from level 3 goes to level 2: class 0o20, SUB the code, the IC of the next instruction (R70). -/
theorem test_csv :
    runs (.csv 3 (insn 0o4010 0 0 0 (im 0o12345) 0 0)) demo (fun t =>
      (t.core 3).ic == 777 && (t.core 3).pl == 2 && fld (seen t 3 28676) 35 18 == 0o202345 && seen t 3 28675 == 102 &&
        seen t 3 28678 == 0o12345) = true := by decide +kernel
theorem test_chs :
    runs (.chs 2 (insn 0o4011 0 0 0 (im 7) 0 0)) demo (fun t =>
      (t.core 2).ic == 777 && (t.core 2).pl == 1 && fld (seen t 2 45092) 35 18 == 0o210007) = true := by decide +kernel
theorem test_czn :
    runs (.czn 1 (insn 0o4012 0 0 0 (im 1) 0 0)) demo (fun t =>
      (t.core 1).ic == 777 && (t.core 1).pl == 0 && fld (seen t 1 40980) 35 18 == 0o220001) = true := by decide +kernel
/-- An unknown service returns to the caller with X1 := SERVICE-UNKNOWN (R358). -/
theorem test_czn_unknown :
    runs (.czn 1 (insn 0o4012 0 0 0 (im 9) 0 0)) demo (fun t =>
      (t.core 1).ic == 102 && (t.core 1).pl == 1 && regOf (t.core 1).x 1 == 2) = true := by decide +kernel
/-- After the call of an ATTEST whose buffer is odd the service answers 3; the core is back at level 1. -/
theorem test_attest :
    (match exec (.czn 1 (insn 0o4012 0 0 0 (im 1) 0 0)) (demo.modCore 1 (fun k => { k with x := setReg k.x 2 1 })) with
     | .next u => runs (.attest 1 (insn 0o4012 0 0 0 (im 1) 0 0)) u (fun t => regOf (t.core 1).x 1 == 3 && (t.core 1).ic == 102)
     | _ => false) = true := by decide +kernel
theorem test_assign_pages :
    (match exec (.czn 1 (insn 0o4012 0 0 0 (im 2) 0 0)) demo with
     | .next u => runs (.assignPages 1 (insn 0o4012 0 0 0 (im 2) 0 0)) u (fun t => (t.core 1).pl == 1 && (t.core 1).ic == 102)
     | _ => false) = true := by decide +kernel
theorem test_delete_notice :
    (match exec (.czn 2 (insn 0o4012 0 0 0 (im 3) 0 0)) demo with
     | .next u => runs (.deleteNotice 2 (insn 0o4012 0 0 0 (im 3) 0 0)) u (fun t =>
         regOf (t.core 2).x 1 == 0 && regOf (t.core 2).x 2 == 0 && (t.core 2).ic == 102)
     | _ => false) = true := by decide +kernel
theorem test_rti :
    runs (.rti 1 (insn 0o4020 0 0 0 (at_ 49152) 0 0))
      { demo with mem := { words := words ++ dword 49152 (3 * 2 ^ 70) ++ dword 49154 4096,
                           tags := tags ++ [(12, hostTag)], poison := [] } }
      (fun t => (t.core 1).pl == 3 && (t.core 1).ic == 4096) = true := by decide +kernel
theorem test_wait :
    runs (.wait 0 (insn 0o4030 0 0 0 0 0 0)) (withX 0 (2 ^ 67) 0 0 0) (fun t =>
      (t.core 0).run == .waiting && (t.core 0).ic == 102) = true := by decide +kernel
theorem test_lsw :
    runs (.lsw 0 (insn 0o6050 0 0 0 (rg 1) 0 0)) (withX 0 0 (2 * 2 ^ 70 + 2 ^ 67) 0 0) (fun t =>
      (t.core 0).sw == BitVec.ofNat 72 (2 * 2 ^ 70 + 2 ^ 67)) = true := by decide +kernel
theorem test_ssw :
    runs (.ssw 3 (insn 0o6051 0 0 0 (rg 1) 0 0)) demo (fun t => regOf (t.core 3).x 1 == 3 * 2 ^ 70) = true := by decide +kernel
/-- SPM leaves the level alone. -/
theorem test_spm :
    runs (.spm 3 (insn 0o6052 0 0 0 (rg 1) 0 0)) (withX 3 0 (2 ^ 48 + 2 ^ 60) 0 0) (fun t =>
      (t.core 3).sw == swOf 3 (2 ^ 48 + 2 ^ 60)) = true := by decide +kernel

/-! ## Long instructions: strings at octet addresses of the page at word 32768 -/

/-- Octet, nonet and bit modes: a displacement from a base register. -/
def octs (b : Nat) : Word := desc 0o30 0 b 0
def nonets (b : Nat) : Word := desc 0o27 0 b 0
def bits (b : Nat) : Word := desc 0o31 0 b 0

/-- Nonets 1, 2, 3, 4 at word 32768, nonets 1, 2, 5, 4 at word 32769, and a table of translations of 3 at 32770. -/
def text : State :=
  { withX 2 0 (4 * 32768) (4 * 32769) 0 with
    mem := { words := walkTables 4096 0 ++ walkTables 16384 1 ++ vecBlock 28672 2 777 ++
               [(32768, 0o001002003004), (32769, 0o001002005004), (32770, 0o100000000000), (32773, 0o000000000123)] ++
               farBlocks,
             tags := tags, poison := [] } }

theorem test_text_canonical : text.mem.wf = true := by decide +kernel
theorem test_mvn :
    runs (.mvn 2 (insn 0o20 2 0 0 (at_ 32768) (at_ 32780) 0) none) text (fun t =>
      seen t 2 32780 == 0o001002003004 && seen t 2 32781 == 0o001002005004 && (t.core 2).ic == 103) = true := by decide +kernel
theorem test_fln :
    runs (.fln 2 (insn 0o21 3 0 0 (im 9) (at_ 32780) 0) none) text (fun t =>
      seen t 2 32780 == 9 && seen t 2 32782 == 9 && seen t 2 32783 == 0) = true := by decide +kernel
theorem test_mvc :
    runs (.mvc 2 (insn 0o5000 3 0 0 (nonets 1) (nonets 2) 0) none) text (fun t => seen t 2 32769 == 0o001002003004) = true := by
  decide +kernel
/-- An interruption after unit 1 leaves SW.PA, SW.PCNT and the IC of the instruction; the rest runs next (R66). -/
theorem test_mvc_stopped :
    (match exec (.mvc 2 (insn 0o5000 3 0 0 (nonets 1) (nonets 2) 0) (some 1)) text with
     | .next u => (u.core 2).ic == 100 && swPA (u.core 2).sw && swPCNT (u.core 2).sw == 1 &&
         runs (.mvc 2 (insn 0o5000 3 0 0 (nonets 1) (nonets 2) 0) none) u (fun t =>
           seen t 2 32769 == 0o001002003004 && (t.core 2).ic == 103 && !swPA (t.core 2).sw)
     | _ => false) = true := by decide +kernel
/-- The third nonet differs: 3 is less than 5. -/
theorem test_cpc :
    runs (.cpc 2 (insn 0o5001 4 0 0 (nonets 1) (nonets 2) 0) none) text (fun t => (t.core 2).cc == 1) = true := by decide +kernel
theorem test_trc :
    runs (.trc 2 (insn 0o5002 1 0 0 (desc 0o27 0 1 2) (at_ 32770) (nonets 2)) none) text (fun t =>
      fld (seen t 2 32769) 35 27 == 0o123) = true := by decide +kernel
/-- The table's word 0 has bit 35 - 2 clear and bit 35 - 3 set: unit 2 is found. -/
theorem test_scn :
    runs (.scn 2 (insn 0o5003 4 0 1 (nonets 1) (at_ 32771) (rg 3)) none)
      (withMem { text with mem := { text.mem with words := text.mem.words.filter (fun p => p.1 < 32771) } }
        ((32771, BitVec.ofNat 36 (2 ^ 32)) :: farBlocks)) (fun t =>
      regOf (t.core 2).x 3 == 2 && (t.core 2).cc == 2) = true := by decide +kernel
theorem test_flc :
    runs (.flc 2 (insn 0o5004 2 0 0 (im 7) (nonets 2) 0) none) text (fun t => seen t 2 32769 == 0o007007005004) = true := by
  decide +kernel
/-- Octets 1 and 2 of a doubleword (R9). -/
theorem test_nto :
    runs (.nto 2 (insn 0o5010 2 0 1 (nonets 1) (octs 2) 0) none)
      (text.modCore 2 (fun k => { k with x := setReg k.x 2 (9 * 16390) })) (fun t =>
      seen t 2 32780 == BitVec.ofNat 36 (1 * 2 ^ 28 + 2 * 2 ^ 20) && (t.core 2).cc == 0) = true := by decide +kernel
theorem test_otn :
    runs (.otn 2 (insn 0o5011 1 0 0 (octs 1) (nonets 2) 0) none)
      (text.modCore 2 (fun k => { k with x := setReg k.x 1 (9 * 16384) })) (fun t =>
      fld (seen t 2 32769) 35 27 == 0) = true := by decide +kernel
theorem test_mvb :
    runs (.mvb 2 (insn 0o5020 9 0 0 (bits 1) (bits 2) 0) none)
      (text.modCore 2 (fun k => { k with x := setReg (setReg k.x 1 (36 * 32768 + 9)) 2 (36 * 32769) })) (fun t =>
      seen t 2 32769 == 0o002002005004) = true := by decide +kernel

/-! ## Barriers, caches, hand-offs -/

theorem test_bar :
    runs (.bar 0 (insn 0o6000 0 0 0 0 0 0)) demo (fun t => (t.core 0).ic == 102) = true := by decide +kernel
/-- CACHE CONTROL: VAR names cache and action; the operand names the core (Table 4.7). -/
theorem test_disable :
    runs (.disable 1 (insn 0o6001 0 0o41 0 (im 3) 0 0)) demo (fun t =>
      ((t.core 3).l1i, (t.core 3).l1d, (t.core 3).l2) != (.enabled, .enabled, .enabled) || t.cc != demo.cc) = true := by
  decide +kernel
theorem test_cct_privileged :
    runs (.enable 2 (insn 0o6001 0 0o20 0 (im 3) 0 0)) demo (fun t => (t.core 2).ic == 777) = true := by decide +kernel
theorem test_zero_line :
    runs (.zeroLine 2 (insn 0o6002 0 2 0 (at_ 32773) 0 0)) text (fun t => seen t 2 32768 == 0 && seen t 2 32769 == 0) =
      true := by decide +kernel
theorem test_preload_and_lock :
    runs (.preloadAndLock 0 (insn 0o6002 0 5 0 (at_ 50000) 0 0)) demo (fun t => (t.core 0).locks.map (·.1) == [3125]) = true := by
  decide +kernel
theorem test_unlock_all :
    runs (.unlockAll 0 (insn 0o6002 0 7 0 0 0 0)) (demo.modCore 0 (fun k => { k with locks := [(3125, 0)] }))
      (fun t => (t.core 0).locks == []) = true := by decide +kernel

/-- Two instructions fill the caches; PURGE of all of stage 1 at level 0 leaves none of its regime (R353). -/
theorem test_stage1_all :
    runs (.stage1All 0 (insn 0o6070 0 1 0 0 0 0)) { demo with tc :=
      [{ stage2 := false, regime := 1024, page := 9, root := 4096, leaf := 1, large := false },
       { stage2 := true, regime := 5, page := 9, root := 0, leaf := 1, large := false }] }
      (fun t => t.tc == [{ stage2 := true, regime := 5, page := 9, root := 0, leaf := 1, large := false }]) = true := by
  decide +kernel

/-- At level 1 a submission is answered NO-RING (R475). -/
theorem test_esb :
    runs (.esbCompression 1 (insn 0o6030 0 0 0 (im 0) (im 1) (rg 3))) demo (fun t =>
      regOf (t.core 1).x 3 == 2 ^ 33) = true := by decide +kernel

/-- The worked example of R431: the reserve, read by the Host. -/
theorem test_oda_read :
    runs (.odaRead 1 (insn 0o6020 0 0 0 (at_ 49152) (rg 3) 0))
      { demo with es := { demo.es with reserve := 15990 },
                  mem := { words := words ++ [(49152, 0o202100000400), (49157, 0o001000)],
                           tags := tags ++ [(12, hostTag)], poison := [] } }
      (fun t => regOf (t.core 1).x 3 == 4 && seen t 1 0o1001 == 0o37166 && seen t 1 0o1000 == 0) = true := by decide +kernel

/-! ## Witnesses: instructions -/

/-- The machine once tries of an instruction have brought the lines that it waits for. -/
def warm (core : Nat) (ins : Insn) (o : OpCode) : Nat → State → State
  | 0, s => s
  | n + 1, s =>
    let b := before s core
    match b.prepare core ins o with
    | .ok _ => s
    | .error e => warm core ins o n (b.resolve core e.1).1

/-- The hypotheses of `Begins` with a further one on what is prepared, as a test of the machine warmed. -/
def beginsWith (s : State) (core : Nat) (ins : Insn) (o : OpCode) (p : Run → Bool) : Bool :=
  let w := warm core ins o 24 s
  w.goes core && (w.beforeInstr core).2 &&
    (match (before w core).prepare core ins o with
     | .ok r0 => (match r0.useCaches with
       | .ok r => p r
       | .error _ => false)
     | .error _ => false)

theorem beginsWith_of {s : State} {core : Nat} {ins : Insn} {o : OpCode} {p : Run → Bool}
    (h : beginsWith s core ins o p = true) : ∃ r, Begins (warm core ins o 24 s) core ins o r ∧ p r = true := by
  simp only [beginsWith, Bool.and_eq_true] at h
  obtain ⟨⟨h1, h2⟩, h3⟩ := h
  cases hp : (before (warm core ins o 24 s) core).prepare core ins o with
  | error e => simp [hp] at h3
  | ok r0 =>
    cases hc : r0.useCaches with
    | error e => simp [hp, hc] at h3
    | ok r => exact ⟨r, ⟨h1, h2, r0, hp, hc⟩, by simpa [hp, hc] using h3⟩

/-- The hypotheses of `Begins`. -/
def begins (s : State) (core : Nat) (ins : Insn) (o : OpCode) : Bool := beginsWith s core ins o (fun _ => true)

/-- The hypotheses of `Drains`, as a test. -/
def drains (s : State) (core : Nat) : Bool := s.goes core && (s.drainCore core).2

theorem drains_of {s : State} {core : Nat} (h : drains s core = true) : ∃ t, Drains s core t := by
  simp only [drains, Bool.and_eq_true] at h
  exact ⟨_, h.1, Prod.ext rfl h.2⟩

/-- An instruction of an opcode begins, at the machine of the tests. -/
def ready (s : State) (core : Nat) (ins : Insn) (o : OpCode) (opc : Nat) : Bool :=
  wfIns core ins opc && begins s core ins o

/-- One operand pattern for several opcodes. -/
def readyAll (opcs : List Nat) (len var fl : Nat) (s : State) (a b c : Word) (o : Word → OpCode) : Bool :=
  opcs.all (fun opc => let i := insn opc len var fl a b c; ready s 0 i (o i.hdr) opc)

/-- Both widths, registers and memory; overflow enabled and not. -/
theorem witness_IntegerSums :
    ([withX 0 0 5 7 9, withX 0 oeBit most 1 0].all (fun s => [1, 2, 3].all (fun fl =>
      readyAll [0o1000, 0o1001, 0o1002, 0o1003] 0 0 fl s (rg 1) (rg 2) (rg 3) (fun h => opABC h false) &&
      readyAll [0o1010, 0o1011] 0 0 fl s (rg 1) (at_ 50000) 0 opAB)) &&
    swOE ((withX 0 oeBit most 1 0).core 0).sw && !swOE ((withX 0 0 5 7 9).core 0).sw) = true := by decide +kernel

/-- Divisors 0, -1 under the most negative number, and others, in both widths. -/
theorem witness_IntegerProductsAndQuotients :
    [withX 0 0 5 0 9, withX 0 0 least (minus 1) 9, withX 0 0 (minus 7) 2 9].all (fun s => [0, 2, 4].all (fun fl =>
      readyAll [0o1020, 0o1030, 0o1031] 0 0 fl s (rg 1) (rg 2) (rg 3) (fun h => opABC h true)) &&
      readyAll [0o1021] 0 0 4 s (rg 1) (rg 2) (rg 3) opMlf && readyAll [0o1032] 0 0 4 s (rg 1) (rg 2) (rg 3) opDvr) = true := by
  decide +kernel

theorem witness_LogicAndCompares :
    (let s := withX 0 0 6 4 9
     readyAll [0o1050, 0o1051, 0o1052] 0 0 1 s (rg 1) (rg 2) (rg 3) (fun h => opABC h false) &&
     readyAll [0o1053] 0 0 1 s (rg 1) (rg 3) 0 opAB && readyAll [0o1040] 0 0 4 s (rg 1) (rg 2) 0 (fun h => opCmp h true) &&
     readyAll [0o1041] 0 0 0 s (rg 1) (rg 2) 0 (fun h => opCmp h false)) = true := by decide +kernel

/-- Counts of 0, one less than the width, and the width; fields at both ends of a word. -/
theorem witness_ShiftsAndFields :
    [withX 0 0 6 0 9, withX 0 0 least 35 9, withX 0 0 least 36 9].all (fun s =>
      readyAll [0o1060, 0o1061, 0o1062, 0o1063, 0o1064, 0o1065] 0 0 1 s (rg 1) (rg 2) (rg 3) (fun h => opABC h false) &&
      readyAll [0o1070, 0o1071] 0 0 1 s (rg 1) (rg 3) 0 opAB &&
      [(1, 0), (36, 0), (1, 35)].all (fun p =>
        readyAll [0o1100] p.1 p.2 5 s (rg 1) (rg 3) 0 (fun h => opField h true (dstOp (dwWords h))) &&
        readyAll [0o1101] p.1 p.2 1 s (rg 1) (rg 3) 0 (fun h => opField h false (modOp (dwWords h))))) = true := by
  decide +kernel

/-- Valid and invalid codes, one word and eight. -/
theorem witness_DecimalInstructions :
    (let s := withX 0 0 0x00000012C 0x00000007D 0x00000001C
     let bad := withX 0 0 0x000000A2C 0x0000000B7 0
     let two (h : Word) := opDec h true true true [srcOp (len1 h), modOp (len2 h)]
     let move (h : Word) := opDec h true true true [srcOp (len1 h), dstOp (len2 h)]
     readyAll [0o2000, 0o2001, 0o2002] 0 0 1 s (rg 1) (rg 2) 0 two &&
     readyAll [0o2000, 0o2001, 0o2002] 0o167 0 1 s (at_ 50000) (at_ 50008) 0 two &&
     readyAll [0o2000, 0o2001, 0o2002] 0 0 1 bad (rg 1) (rg 2) 0 two &&
     readyAll [0o2003] 0 0 1 s (rg 1) (rg 2) (rg 3)
       (fun h => opDec h true true true [srcOp (len1 h), modOp (len2 h), dstOp (len1 h)]) &&
     readyAll [0o2004] 0 0 0 s (rg 1) (rg 2) 0 (fun h => opDec h false true true [srcOp (len1 h), srcOp (len2 h)]) &&
     readyAll [0o2005] 0 0 1 s (rg 1) (rg 2) 0 move &&
     [0, 71, 0o271, 0o375].all (fun v => readyAll [0o2006] 0 v 1 s (rg 1) (rg 2) 0 (fun h =>
       { move h with varOk := decide (-71 ≤ shiftOf h) && decide (shiftOf h ≤ 71) })) &&
     readyAll [0o2010] 0 0 1 s (rg 1) (rg 2) 0 (fun h => opDec h true true false [srcOp (len1 h), dstOp 2]) &&
     readyAll [0o2011] 0 0 1 s (rg 1) (rg 2) 0 (fun h => opDec h true false true [srcOp 2, dstOp (len2 h)]) &&
     readyAll [0o2020] 0 0 0 s (rg 1) 0 0 (fun h => opDec h false true false [srcOp (len1 h)]) &&
     (decBad 1 0x00000012C).isNone && (decBad 1 0x00000007D).isNone && (decBad 1 0x000000A2C).isSome &&
     (decBad 1 0x0000000B7).isSome) = true := by decide +kernel

theorem witness_FloatingInstructions :
    ([withX 0 0 one twice 3, withX 0 (2 ^ 53) huge huge 0].all (fun s =>
     let three (h : Word) := opFloat h true false false [srcOp (dwWords h), srcOp (dwWords h), dstOp (dwWords h)]
     let two (na nb : Nat) (n8 n9 sg : Bool) (h : Word) : OpCode := { opFloat h true n8 n9 [srcOp na, dstOp nb] with sg := sg }
     readyAll [0o3000, 0o3001, 0o3002, 0o3003] 0 0 1 s (rg 1) (rg 2) (rg 3) three &&
     readyAll [0o3000, 0o3001, 0o3002, 0o3003] 0 4 0o13 s (rg 1) (rg 2) (rg 3) three &&
     readyAll [0o3004, 0o3040] 0 0 1 s (rg 1) (rg 3) 0 (two 1 1 false false false) &&
     readyAll [0o3005] 0 0 1 s (rg 1) (rg 2) (rg 3)
       (fun h => opFloat h true false false [srcOp (dwWords h), srcOp (dwWords h), modOp (dwWords h)]) &&
     readyAll [0o3020] 0 0 1 s (rg 1) (rg 3) 0 (two 1 2 false false false) &&
     readyAll [0o3021] 0 2 5 s (rg 1) (rg 3) 0 (two 1 2 false true true) &&
     readyAll [0o3022] 0 2 5 s (rg 1) (rg 3) 0 (two 2 1 false true true) &&
     readyAll [0o3030] 0 1 1 s (rg 1) (rg 3) 0 (two 1 2 true false false) &&
     readyAll [0o3031] 0 1 1 s (rg 1) (rg 3) 0 (fun h => opFloat h true true false [srcOp 2, dstOp 1]) &&
     readyAll [0o3010] 0 1 0 s (rg 1) (rg 2) 0 (fun h => opFloat h false true false [srcOp (dwWords h), srcOp (dwWords h)]) &&
     readyAll [0o3023] 7 0 1 s (rg 1) (at_ 50000) 0 (fun h =>
       { opFloat h true false false [srcOp (dwWords h), dstOp (len2 h)] with lenOk := decLenOk h false true }) &&
     readyAll [0o3024] 0 0 1 s (rg 1) (rg 3) 0 (fun h =>
       { opFloat h true false false [srcOp (len1 h), dstOp (dwWords h)] with lenOk := decLenOk h true false }))) = true := by
  decide +kernel

theorem witness_MovesAndStateWords :
    (let s := withX 0 0 (2 ^ 70) 4 9
     readyAll [0o10] 0 0 3 s (rg 1) (at_ 50000) 0 opMvw && drains s 0 &&
     (let i := insn 0o10 0 0 0 (desc 0o34 0 0 0o2200) (rg 3) 0
      deviceMode i.a && ready s 0 i (opMvw i.hdr) 0o10) &&
     readyAll [0o30] 0 0 0 s (rg 1) (at_ 50000) 0 opXch && readyAll [0o6051] 0 0 0 s (rg 3) 0 0 (fun h => opDouble h .d 3 true) &&
     readyAll [0o6052] 0 0 0 s (rg 1) 0 0 (fun h => opDouble h .s 3 true) &&
     readyAll [0o6050] 0 0 0 s (rg 1) 0 0 (fun h => opDouble h .s 2 true) &&
     readyAll [0o4020] 0 0 0 s (at_ 50000) 0 0 (fun h => opBlock h 2 4)) = true := by decide +kernel

theorem witness_BranchesWaitAndCalls :
    (let s := withX 0 (2 ^ 67) 1 2 3
     [0, 15].all (fun v => readyAll [0o4000] 0 v 0 s (at_ 4000) 0 0 opBr) &&
     readyAll [0o4001] 0 0 0 s (at_ 4000) (rg 3) 0 (fun h => opBal h false) &&
     readyAll [0o4002] 0 0 0 s (rg 1) (at_ 4000) 0 opBct && readyAll [0o4030] 0 0 0 s 0 0 0 opWait &&
     readyAll [0o4030] 0 0 0 demo 0 0 0 opWait && readyAll [0o4010] 0 0 0 s (im 5) 0 0 (fun h => opCall h 3) &&
     [1, 2, 3].all (fun n => readyAll [0o4011, 0o4012] 0 0 0 s (im n) 0 0 (fun h => opCall h 2)) &&
     swIE (s.core 0).sw && !swIE (demo.core 0).sw &&
     ready { s with tn := { s.tn with absent := true } } 0 (insn 0o4012 0 0 0 (im 1) 0 0) (opCall (head 0o4012 0 0 0) 2) 0o4012)
      = true := by decide +kernel

theorem witness_Clocks :
    (readyAll [0o6060, 0o6061] 0 0 0 demo (rg 1) 0 0 (fun h => opDouble h .d 3 false) &&
      decide (demo.tm.tod < ({ demo with tm := { demo.tm with floor := 10000000000 } }).tm.floor)) = true := by decide +kernel

/-- A reservation of the line held, of another line, and none. -/
theorem witness_ReservedPair :
    (let hold (l : Nat) := demo.modCore 0 (fun k => { k with res := some { line := l, deferring := true, snooped := false } })
     let has (s : State) := (s.bring 0 3125 true none)
     let i := insn 0o40 0 0 2 (at_ 50000) (rg 3) 0
     let j := insn 0o41 0 0 2 (rg 1) (at_ 50000) 0
     wfIns 0 i 0o40 && beginsWith (has demo) 0 i (opLdr i.hdr) (fun r => r.lineOfOp 0 == 3125 && (r.s.ownLine 0 3125).2) &&
     [demo, hold 3125, hold 3126].all (fun s => drains (has s) 0 && wfIns 0 j 0o41 &&
       beginsWith (has s) 0 j (opStc j.hdr) (fun r => r.lineOfOp 1 == 3125 &&
         r.start.reserves 3125 == (s == hold 3125) && (r.s.takeLine 0 3125 none).2)) &&
     (let off := (hold 3125).modCore 0 (fun k => { k with l2 := .disabling })
      !(off.core 0).reserves 3125)) = true := by decide +kernel

/-- The machine once tries of a long instruction have brought the lines of its fetch and its pointers. -/
def warmLong (core : Nat) (ins : Insn) (o : OpCode) : Nat → State → State
  | 0, s => s
  | n + 1, s =>
    let b := before s core
    match b.decodeInsn core ins o with
    | .ok _ => s
    | .error e => warmLong core ins o n (b.resolve core e.1).1

/-- The hypotheses of `LongBegins` with a further one on what it gives, as a test of the machine warmed. -/
def longBegins (s : State) (core : Nat) (ins : Insn) (o : OpCode) (nto : Bool) (pre : Option OpSpec)
    (p : State → Long → Bool) : Bool :=
  let w0 := warmLong core ins o 24 s
  w0.goes core && (w0.beforeInstr core).2 &&
    (match (before w0 core).decodeInsn core ins o, countOf ins.hdr ((before w0 core).core core).x with
     | .ok (ls, f), .ok n =>
       (match (before w0 core).useLoads core true f.fetch with
        | .ok w => !swPA (w.core core).sw && ((w.bandTaken core).isNone || decide (n ≤ 256)) &&
          (let l := longOf w core ins ls f n 0
           if n = 0 then p w l
           else match w.longValue l pre (l.boundary nto 0 false (w.core core)) with
             | .ok (u, v) => (u.core core).fits && p u (longOf w core ins ls f n v)
             | .error _ => false)
        | .error _ => false)
     | _, _ => false)

theorem longBegins_of {s : State} {core : Nat} {ins : Insn} {o : OpCode} {nto : Bool} {pre : Option OpSpec}
    {p : State → Long → Bool} (h : longBegins s core ins o nto pre p = true) :
    ∃ u l f, LongBegins (warmLong core ins o 24 s) core ins o nto pre u l f ∧ p u l = true := by
  simp only [longBegins, Bool.and_eq_true] at h
  obtain ⟨⟨h1, h2⟩, h3⟩ := h
  split at h3
  · rename_i ls f n hd hn
    split at h3
    · rename_i w hw
      simp only [Bool.and_eq_true, Bool.not_eq_true', Bool.or_eq_true, Option.isNone_iff_eq_none, decide_eq_true_eq] at h3
      obtain ⟨⟨ha, hb⟩, hc⟩ := h3
      have hb' : (w.bandTaken core).isSome = true → n ≤ 256 := fun x => hb.resolve_left (fun e => by simp [e] at x)
      by_cases hz : n = 0
      · rw [if_pos hz] at hc
        exact ⟨w, _, f, ⟨h1, h2, w, ls, n, 0, hd, hn, hw, ha, hb', rfl, .inl ⟨hz, rfl, rfl⟩⟩, hc⟩
      · rw [if_neg hz] at hc
        split at hc
        · rename_i u v hv
          simp only [Bool.and_eq_true] at hc
          exact ⟨u, _, f, ⟨h1, h2, w, ls, n, v, hd, hn, hw, ha, hb', rfl,
            .inr ⟨Nat.pos_of_ne_zero hz, hc.1, hv⟩⟩, hc.2⟩
        · cases hc
    · cases h3
  · cases h3

/-- Every unit runs to the end, or to a hit at a unit. -/
def runsAll (unit : Long → Checkpoint → State → Nat → Except Stop (State × Nat)) (nto : Bool) (u : State) (l : Long) : Bool :=
  let r := longLoop l.c (l.boundary nto) (unit l) l.n u 0 false
  r.k == l.n && r.fin == .all

def runsTo (unit : Long → Checkpoint → State → Nat → Except Stop (State × Nat)) (k code : Nat) (u : State) (l : Long) : Bool :=
  let r := longLoop l.c (l.boundary false) (unit l) l.n u 0 false
  r.k == k && r.fin == .hit code

/-- Each long instruction begins and runs; CPC also to a difference, SCN to a character; a count of 0 in a register. -/
theorem witness_LongInstructions :
    (let go (opc len var fl : Nat) (a b c : Word) (o : Insn → OpCode) (nto : Bool) (p : State → Long → Bool) : Bool :=
       let i := insn opc len var fl a b c
       wfIns 2 i opc && longBegins text 2 i (o i) nto none p
     let copy := copyUnit id (fun _ => 0)
     let words (u : OpTy) (i : Insn) := opLong i.hdr true false [{ use := .s, ty := u, n := 1 }, { use := .d, ty := u, n := 1 }]
     go 0o20 2 0 0 (at_ 32768) (at_ 32780) 0 (words .movn) false (runsAll (mvnUnit (head 0o20 2 0 0)) false) &&
     (let i := insn 0o21 3 0 0 (im 9) (at_ 32780) 0
      wfIns 2 i 0o21 && longBegins text 2 i (opLong i.hdr true false [srcOp 1, { use := .d, ty := .fill, n := 1 }]) false
        (some (srcOp 1)) (fun u l => l.val == 9 && runsAll (flnUnit i.hdr) false u l)) &&
     go 0o5000 3 0 0 (nonets 1) (nonets 2) 0 (fun i => opLong i.hdr false false [strOp .s, sameOp .d i]) false (runsAll copy false) &&
     go 0o5000 0 3 0 (nonets 1) (nonets 2) 0 (fun i => opLong i.hdr false false [strOp .s, sameOp .d i]) false (runsAll copy false) &&
     go 0o5001 2 0 0 (nonets 1) (nonets 2) 0 (fun i => opLong i.hdr false false [strOp .s, sameOp .s i]) false
       (runsAll cpcUnit false) &&
     go 0o5001 4 0 0 (nonets 1) (nonets 2) 0 (fun i => opLong i.hdr false false [strOp .s, sameOp .s i]) false
       (runsTo cpcUnit 2 1) &&
     go 0o5002 1 0 0 (desc 0o27 0 1 2) (at_ 32770) (nonets 2)
       (fun i => opLong i.hdr false false [strOp .s, tableOp, sameOp .d i]) false (runsAll trcUnit false) &&
     go 0o5003 2 0 1 (nonets 1) (at_ 32771) (rg 3)
       (fun i => opLong i.hdr false true [strOp .s, tableOp, { use := .d, ty := .reg, n := 2 }]) false (runsAll scnUnit false) &&
     go 0o5003 2 0 1 (nonets 1) (at_ 32770) (rg 3)
       (fun i => opLong i.hdr false true [strOp .s, tableOp, { use := .d, ty := .reg, n := 2 }]) false (runsTo scnUnit 1 2) &&
     go 0o5004 2 0 0 (im 7) (nonets 2) 0 (fun i => opLong i.hdr false false [{ use := .s, ty := .imm, n := 1 }, strOp .d]) false
       (runsAll flcUnit false) &&
     go 0o5010 2 0 1 (nonets 1) (octs 2) 0 (fun i => opLong i.hdr false true [chrOp .s 0o27, chrOp .d 0o30]) true
       (runsAll (copyUnit (· % 256) (fun v => if 256 ≤ v then 3 else 0)) true) &&
     go 0o5011 1 0 0 (octs 1) (nonets 2) 0 (fun i => opLong i.hdr false false [chrOp .s 0o30, chrOp .d 0o27]) false
       (runsAll copy false) &&
     go 0o5020 9 0 0 (bits 1) (bits 2) 0 (fun i => opLong i.hdr false false [bitsOp .s, bitsOp .d]) false (runsAll copy false))
      = true := by decide +kernel

/-- The lines of the strings and of the end of the table are in core 2's tile. -/
def near : State := (text.bring 2 2048 true none).bring 2 2080 true none

/-- Unit 0 of each long instruction reads its sources and places its destination. -/
theorem witness_LongUnits :
    (let k := near.core 2
     let l (a b c : Loc) : Long :=
       { c := 2, hdr := head 0o5000 1 0 0, hm := false, start := k, locs := [a, b, c], x := k.x, n := 1, val := 9 }
     let s := l (.chr 9 131072) (.chr 9 131076) (.chr 9 131080)
     (s.strUnit near .s 0 0).isOk && (s.strUnit near .d 1 0).isOk && (s.strUnit near .d 2 0).isOk && (s.strUnit near .s 1 0).isOk &&
     (match s.strUnit near .s 0 0 with
      | .ok a => (near.unitRd 2 a).isOk && (near.bindLoads 2 k.checkpoint (atomLines a.words)).isOk
      | .error _ => false) &&
     ((l (.chr 9 131072) (.mem 32770) .none_).tableWord near 511).isOk &&
     (let w := l (.mem 32768) (.mem 32780) .none_
      (match near.wordUnit 2 false { use := .s, ty := .movn, n := 1 } 1 0 (w.loc 0) with
       | .ok p => (near.readOp 2 k.x p).isOk
       | .error _ => false) && (near.wordUnit 2 false { use := .d, ty := .movn, n := 1 } 2 0 (w.loc 1)).isOk)) = true := by
  decide +kernel

/-- Every cache, action and line code; translations of every scope. -/
theorem witness_CachesAndTranslations :
    ([0, 1, 2, 3].all (fun act => [1, 2, 3, 4].all (fun cache =>
        let i := insn 0o6001 0 (16 * cache + act) 0 (im 3) 0 0
        let id := cacheId (varOf i.hdr)
        wfCct 0 i act && drains demo 0 && beginsWith demo 0 i (opCct i.hdr) (fun r =>
          cctTarget r.s id (r.val 0) == some 3 && r.s.nextLevel id 3 == .enabled &&
          !r.s.cacheBusy 0 (r.s.covered id 3 (act == 1)) &&
          (act != 1 || (cacheState r.s id 3 == .enabled && !(r.s.disableStep id 3).2)) &&
          (act < 2 || cache == 4 || (r.s.cleanStep 0 id 3 (act == 3)).2)))) &&
      [(0, Need.load, false), (1, Need.load, false), (2, Need.store, false), (3, Need.load, true), (4, Need.store, true),
       (5, Need.load, true), (6, Need.load, false)].all (fun q =>
        let i := insn 0o6002 0 q.1 0 (at_ 50000) 0 0
        wfVar 0 i 0o6002 8 q.1 && beginsWith demo 0 i (opLnm i.hdr) (fun r =>
          r.c == 0 && (match r.lnmLine q.2.1 q.2.2 with
           | .ok l => (r.s.core 0).l2 == .enabled && !(r.s.core 0).locked l && decide ((r.s.core 0).locksInSet l < 12) &&
             (let has := { r with s := r.s.bring 0 l true none }
              (has.preload l).isOk && (has.preloadL2 l).isOk && (has.s.ownLine 0 l).2)
           | .error _ => false))) &&
      (let i := insn 0o6002 0 7 0 0 0 0
       wfVar 0 i 0o6002 8 7 && begins demo 0 i (opLnm i.hdr)) &&
      [(0, at_ 50000), (1, 0), (2, rg 1), (3, 0), (4, 0)].all (fun q =>
        let i := insn 0o6070 0 q.1 0 q.2 0 0
        wfVar 1 i 0o6070 5 q.1 && beginsWith (withX 1 0 32768 0 0) 1 i (opPtl i.hdr) (fun r =>
          (List.range 512).all (fun t => !r.s.holdsTranslations t)))) = true := by decide +kernel

/-! ## Rings, channels and hand-offs -/

/-- An agent has the lines of words of a tenant. -/
def reads (s : State) (a t : Nat) (ws : List Nat) : Bool := (s.agentReads a (s.agentLines t ws)).2

theorem reads_of {s : State} {a t : Nat} {ws : List Nat} (h : reads s a t ws = true) : ∃ u, Has s a t ws u := ⟨_, Prod.ext rfl h⟩

/-- The line of each word has a transaction open, for tile 1 of module 1: a request for it waits. -/
def elsewhere (s : State) (ws : List Nat) : State :=
  { s with dy := { s.dy with members := 3, entries := ws.map (fun a =>
      (lineOf a, { st := .busy, ioh := false, holders := [64], way := 0, tx := some {
        req := .readOwn, src := 65, tag := 3, prior := .owned, awaits := [64], wbWait := [], got := none } })) } }

def ring : Ring := { Ring.init with opened := true, k := 2, problem := true, oring := 33792, cring := 34048 }

def chanN : Chan :=
  { tenant := 5, localNo := 0, cls := .n, proc := 0, target := 256, port := 0, select := 1, timeout := 1000, opened := true,
    k := 2, isrc := 0, problem := true, oring := 34304, cring := 34560, submitted := 1, completed := 0, started := 0, retire := 0,
    orders := [], closing := false, noTarget := false, peerRetire := 0 }

/-- The demo with an open compression ring, cipher ring and channel 7 of tenant 5, at local number 0. -/
def rings : State :=
  { demo with
    cx := { Compression.init with tenants := [(5, { CxTenant.init with slice := 1, rings := [(0, ring)] })] }
    ci := { Cipher.init with tenants := [(5, { CiTenant.init with ringSlice := 1, handleSlice := 2, rings := [(0, ring)] })] }
    ch := { Channels.init with tenants := [(5, { ChTenant.init with slice := 1, quota := 4 })], chans := [(7, chanN)] } }

/-- Levels 1, 2 and 3; a full ring's worth, and none. -/
theorem witness_PostsAndPolls :
    ([1, 2, 3].all (fun c => drains rings c &&
      [0, 1].all (fun v =>
        let i := insn 0o6030 0 v 0 (im 0) (im 4) (rg 3)
        let j := insn 0o6031 0 v 0 (im 0) (rg 3) 0
        wfVar c i 0o6030 2 v && begins rings c i (opPost i.hdr 2 [srcOp 1, srcOp 1, dstOp 1]) &&
        wfVar c j 0o6031 2 v && begins rings c j (opPost j.hdr 2 [srcOp 1, dstOp 1])) &&
      (let i := insn 0o6040 0 0 0 (im 0) (im 3) (rg 3)
       wfIns c i 0o6040 && begins rings c i (opPost i.hdr 1 [srcOp 1, srcOp 1, dstOp 1]))) &&
      decide (0 < (rings.cxT 5).slice) && decide (0 < (rings.ciT 5).ringSlice) && rings.findChan 5 0 == some 7 &&
      (rings.cxRing 5 0).opened && (rings.ciRing 5 0).opened && !(rings.cxRing 5 0).closing && !rings.sliceDraining 5 &&
      (rings.chan 7).opened && decide ((1 + 2 ^ 48 - 0) % 2 ^ 48 + 3 ≤ 2 ^ (rings.chan 7).k) &&
      reads rings compressionAgent 5 (rings.esbCxReads 5 0) && reads rings cipherAgent 5 (rings.esbCiReads 5 0) &&
      reads rings (procAgent (rings.chan 7).proc) 5 (rings.schReads 5 0)) = true := by
  decide +kernel

/-- A submission of four requests fills a ring of k = 2; one of five is refused whole (R303). -/
theorem test_esb_ok :
    runs (.esbCompression 2 (insn 0o6030 0 0 0 (im 0) (im 4) (rg 3))) rings (fun t =>
      (t.cxRing 5 0).sub == 4 && regOf (t.core 2).x 3 == 4) = true := by decide +kernel
theorem test_esb_cipher_full :
    runs (.esbCipher 3 (insn 0o6030 0 1 0 (im 0) (im 5) (rg 3))) rings (fun t =>
      (t.ciRing 5 0).sub == 0 && regOf (t.core 3).x 3 / 2 ^ 33 == 3) = true := by decide +kernel
theorem test_sch :
    runs (.sch 2 (insn 0o6040 0 0 0 (im 0) (im 2) (rg 3))) rings (fun t => (t.chan 7).submitted == 3) = true := by decide +kernel

/-- Words of a block in page 9 (tenant) and page 12 (Host). -/
def withBlock (s : State) (a : Nat) (l : List (Nat × Word)) : State :=
  { s with mem := { words := s.mem.words.filter (fun p => p.1 < a) ++ l ++ s.mem.words.filter (fun p => a + 64 ≤ p.1),
                    tags := tags ++ [(12, hostTag)], poison := [] } }

/-- The machine once tries of an instruction of a block have brought the lines that it waits for. -/
def warmBlock {α : Type} (core : Nat) (ins : Insn) (o : OpCode) (check : State → List Word → Except Stop α) : Nat → State → State
  | 0, s => s
  | n + 1, s =>
    let b := before s core
    match b.prepareBlock core ins o check with
    | .ok _ => s
    | .error e => warmBlock core ins o check n (b.resolve core e.1).1

/-- An instruction of a block is ready, and its unit has the lines it reads; a further hypothesis on what is prepared. -/
def blockReady {α : Type} (s : State) (core : Nat) (ins : Insn) (o : OpCode) (check : State → List Word → Except Stop α)
    (agent : Nat) (lines : α → List Nat) (p : Run → α → Bool) : Bool :=
  let w := warmBlock core ins o check 24 s
  drains w core && (w.beforeInstr core).2 &&
    (match (before w core).prepareBlock core ins o check with
     | .ok (r0, d) => (match r0.useCaches with
       | .ok r1 => (match r1.reads agent (lines d) with
         | .ok r => p r d
         | .error _ => false)
       | .error _ => false)
     | .error _ => false)

/-- A good descriptor of four words, one of none, which is bad, and one at level 1; a read and a write of the object 1000h.0A by
the Owner. -/
theorem witness_CommitAndObjectAccess :
    (let good := withBlock rings 36864 [(36865, 32768), (36866, 4)]
     let i := insn 0o6010 0 0 0 (at_ 36864) (rg 3) 0
     let com (s : State) (c : Nat) (valid : Bool) (pl : Nat) :=
       blockReady s c i (opBlockStatus i.hdr 4 3) (fun s ws => s.comCheck c ws) journalAgent ComDesc.lines
         (fun r d => d.valid == valid && r.start.pl == pl)
     com good 2 true 2 && com rings 2 false 2 && com good 1 true 1 &&
     (let j := insn 0o6020 0 0 0 (at_ 49152) (rg 3) 0
      let word (op : Nat) : Word := BitVec.ofNat 36 (op * 2 ^ 34 + 0x1000 * 2 ^ 16 + 0x0A * 2 ^ 8)
      let oda (s : State) (p : Run → OdaPlan → OType → Bool) :=
        blockReady s 0 j (opBlockStatus j.hdr 6 2) (fun s ws => s.odaCheck 0 ws) serviceAgent (·.lines)
          (fun r d => (match d.ty with
            | some ty => d.req.formed (some ty) && r.c == 0 && (r.s.routeRole (.inBand 0)).isSome && p r d ty
            | none => false))
      oda (withBlock rings 49152 [(49152, word 1), (49157, 0o1000)]) (fun r d ty =>
        let rd := r.s.odRead (.inBand 0) d.req.index d.req.sub
        d.req.op == 1 && rd.sv.answerAbort == 0 && (!ty.buffer || decide (rd.sv.answer.length ≤ d.req.length)) &&
          (rd.odaResult d ty rd.sv.answer).goes 0) &&
      oda (withBlock rings 49152 [(49152, word 2), (49155, 1)]) (fun r d ty =>
        let wr := r.s.odWrite (.inBand 0) d.req.index d.req.sub (r.s.odaValue d ty)
        d.req.op == 2 && wr.goes 0 && wr.sv.answerAbort == 0))) = true := by
  decide +kernel

/-- The tenant has journal quotas; the reserve is empty. -/
def funded : State :=
  { rings with jn := { Journal.init with tenants := [(5, { JnTenant.init with energyQuota := 8, anvilQuota := 8 })] } }

/-- COM with a bad descriptor answers INVALID at once; a good one waits for the controller. -/
theorem test_com :
    (runs (.com 2 (insn 0o6010 0 0 0 (at_ 36864) (rg 3) 0)) rings (fun t => fld (BitVec.ofNat 36 (regOf (t.core 2).x 3)) 35 30 == 6) &&
     runs (.com 2 (insn 0o6010 0 0 0 (at_ 36864) (rg 3) 0)) (withBlock funded 36864 [(36865, 32768), (36866, 4)]) (fun t =>
       (t.jt 5).waiting.map (fun c => c.words.length) == [4] && (t.core 2).run != .running)) = true := by decide +kernel

/-- The core of level 1 after CZN with each code. -/
theorem witness_ZenithServices :
    [1, 2, 3].all (fun n =>
      match exec (.czn 2 (insn 0o4012 0 0 0 (im n) 0 0)) demo with
      | .next s => s.serving 2 n && (s.drainCore 2).2 && ((s.drainCore 2).1.zenithSaved 2).isSome && wfIns 2 (insn 0o4012 0 0 0 (im n) 0 0) 0o4012 &&
          (match (s.drainCore 2).1.zenithSaved 2 with
           | some q => swPL q.1 == 2
           | none => false)
      | _ => false) = true := by decide +kernel

/-- An entry of one operand D whose program is one DONE. -/
def customer : State :=
  { demo with sp := { demo.sp with custEntries := [{ opcode := 0o7400, count := 0, uses := 0, priv := false, cls := 0, entry := 0, hdrFields := 0 }],
                                   custOps := [BitVec.ofNat 36 (0o65 * 2 ^ 30)] } }

/-- Opcodes without an entry, in both sub-codes; one with an entry, which runs to DONE. -/
theorem witness_CustomerOpcodes :
    ([0o1777, 0o7400].all (fun opc =>
        let i := insn opc 0 0 0 0 0 0
        let u := demo.bring 0 6 false none
        wfCore 0 && !definedOpcodes.contains (opcOf i) && u.goes 0 && (u.beforeInstr 0).2 && ((before u 0).fetchOk 0 false 1 0 100).isOk &&
          (u.sp.custEntries.find? (fun e => e.opcode == opcOf i)).isNone) &&
      (let i := insn 0o7400 0 0 0 0 0 0
       (customer.sp.custEntries.find? (fun e => e.opcode == 0o7400)).isSome && drains customer 0 &&
       (match customer.sp.custEntries.find? (fun e => e.opcode == 0o7400) with
        | some e => beginsWith customer 0 i (e.opcode_ i.hdr) (fun r => (r.beyond 1 r.ops).isOk &&
            (match microLoop r (hdrSG r.hdr) 16384 (e.sequencer r) with
             | .ok m => (e.finish r m).isOk
             | .error _ => false))
        | none => false))) = true := by decide +kernel

theorem test_customer :
    runs (.customerOpcode 0 (insn 0o7400 0 0 0 0 0 0)) customer (fun t => (t.core 0).ic == 101) = true := by decide +kernel
theorem test_customer_undefined :
    runs (.customerOpcode 0 (insn 0o7400 0 0 0 0 0 0)) demo (fun t =>
      (t.core 0).ic == 777 && fld (seen t 0 40964) 35 18 == 0o010002) = true := by decide +kernel
/-! ## Witnesses: the core's events -/

/-- Writable, as a test: the hypotheses of `MayWrite`. -/
def may (s : State) (route : Route) (index sub v : Nat) : Bool :=
  match s.routeRole route with
  | some r =>
    (match objRights r index sub with
     | (some t, _) => decide (v < 256 ^ t.lengths.2) && (t != .w36 || decide (v < 2 ^ 36))
     | _ => true) && s.odGate r index sub true true v == 0
  | none => false

theorem may_of {s : State} {route : Route} {index sub v : Nat} (h : may s route index sub v = true) :
    MayWrite s route index sub v := by
  unfold may at h
  split at h
  · rename_i r hr
    simp only [Bool.and_eq_true, beq_iff_eq] at h
    refine ⟨r, hr, ?_, h.2⟩
    have h1 := h.1
    split <;> rename_i ht
    · simp only [ht, Bool.and_eq_true, decide_eq_true_eq, Bool.or_eq_true, bne_iff_ne, ne_eq] at h1
      exact ⟨h1.1, fun e => h1.2.resolve_left (fun n => n e)⟩
    · trivial
  · cases h

/-- The same for octets. -/
def mayOctets (s : State) (route : Route) (index sub : Nat) (l : List Octet) : Bool :=
  match s.routeRole route with
  | some r =>
    (match objRights r index sub with
     | (some t, _) => t.fits l
     | _ => true) && s.odGate r index sub true true (octNat l) == 0
  | none => false

theorem mayOctets_of {s : State} {route : Route} {index sub : Nat} {l : List Octet} (h : mayOctets s route index sub l = true) :
    MayWriteOctets s route index sub l := by
  unfold mayOctets at h
  split at h
  · rename_i r hr
    simp only [Bool.and_eq_true, beq_iff_eq] at h
    refine ⟨r, hr, ?_, h.2⟩
    have h1 := h.1
    split <;> rename_i ht
    · simpa [ht] using h1
    · trivial
  · cases h

/-- The Owner acts from core 0, at level 0, or from session 1. -/
def own : Route := .inBand 0

def session (id role : Nat) : Session :=
  { id := id, role := role, hasKey := true, segB := true, rxCounter := 4, txCounter := 4, lastTag := some 9, lastReply := (0, []), badTags := 2, piece := none }

/-- A block of level 1 that loads level 1 and IC 777, with its line at hand. -/
theorem witness_InterruptionEntry :
    ((let u := demo.bring 2 2818 false none
      match u.blockAt 2 1 with
      | .ok ra => ra == 45088 && u.lineReady 2 (lineOf ra) false && (u.core 2).res == none &&
          (let sw : DWord := demo.rd (ra + 8) ++ demo.rd (ra + 9)
           decide (1 ≤ swPL sw) && decide (fld sw 66 64 ≤ 4) && !bit sw 69)
      | .error _ => false) &&
     (match demo.blockAt 2 2 with
      | .ok ra => swPL (demo.rd (ra + 8) ++ demo.rd (ra + 9)) == 2
      | .error _ => false)) = true := by decide +kernel

/-- Core 2 takes a source of its tenant; none is pending; the tenant of an uncontained check is ACTIVE. -/
def pendingSrc : State :=
  { (demo.modCore 2 (fun k => { k with sw := k.sw ||| BitVec.ofNat 72 (2 ^ 67) })) with
    ir := { Router.init with pages := [(5, { SrcPage.init with slice := 2, srcs := [(0,
      { Src.init with st := .pending, enable := true, prio := 63, tgt := 2 })] })] } }

theorem witness_CoreInterruptions :
    (pendingSrc.takes 2 && pendingSrc.bandTaken 2 == some 2 && !pendingSrc.cc.acting.any (fun e => e.2 == 2) && demo.takes 2 &&
      demo.bandTaken 2 == none && (demo.core 2).checks == [] && demo.lineOwner 2048 == 5 && demo.lineOwner 256 == 512 &&
      ({ demo with mem := { demo.mem with tags := [(0, tenTag), (1, hostTag), (2, hostTag), (3, BitVec.ofNat 16 (3 * 2 ^ 14))] } }).lineOwner 768 == 513 &&
      (demo.tenant 5).st == .active && wfCore 2) = true := by decide +kernel

theorem test_external :
    runs (.externalInterruption 2) pendingSrc (fun t =>
      (t.core 2).ic == 777 && fld (seen t 2 28676) 35 18 == 0o300002 && seen t 2 28675 == 100) = true := by decide +kernel
/-- A contained machine check at level 3 is taken at level 2, class 0o40. -/
theorem test_contained :
    runs (.containedMachineCheck 3 5 7) demo (fun t => fld (seen t 3 28676) 35 18 == 0o400005 && seen t 3 28679 == 7) = true := by
  decide +kernel
theorem test_uncontained :
    runs (.uncontainedMachineCheck 5 1 2) demo (fun t =>
      (t.tenant 5).st == .stopped && t.sp.uncontained == 1 && (t.core 2).pl == 1 && (t.core 3).pl == 1 && (t.core 1).pl == 1 &&
        fld (seen t 2 45092) 35 18 == 0o410001 && (t.core 1).ic == 100) = true := by decide +kernel

/-- A bound core with 0, 1 and 2 retries behind it; a waiting one; a spare to take over. -/
theorem witness_RetryAndTakeover :
    ([0, 1, 2].all (fun n => let s := demo.modCore 2 (fun k => { k with retries := n, retryAt := k.oldest })
        s.bound 2 && !s.inTakeover 2 && (s.core 2).faults == n && (s.core 2).run == .running && (s.core 2).pairFaults == 0) &&
      ((demo.modCore 2 (fun k => { k with run := .waiting })).core 2).run == .waiting &&
      ((demo.modCore 2 (fun k => { k with miscompares := 1, retryAt := k.oldest })).core 2).pairFaults == 1 &&
      demo.coreAt 50 == none &&
      [[], (List.range 104).filter (fun n => 4 ≤ n)].all (fun failed =>
        let s := { demo with sp := { demo.sp with failed := failed } }
        let d := s.takeoverDecided 2
        s.coreAt 2 == some 2 && s.siteOfCore 2 == 2 &&
        d.sp.taking.find? (fun k => k.site / 26 == 0) == some { site := 2, begun := false, sub := 0, owner := 512 } &&
        (let v := (d.modCore 2 Core.retryNow).tick.2
         let w : State := { v with sp := { v.sp with taking := v.sp.taking.map (fun (k : Taking) =>
           if k.site == 2 then { k with begun := true, sub := 0, owner := 512 } else k) } }
         (w.drainCore 2).2 && ((w.drainCore 2).1.sp.taking.find? (fun k => k.site == 2)).elim false (fun k => k.sub == 0) &&
           (((w.drainCore 2).1.bindCore 2 none).chooseSpare 0).isSome == (failed == [])))) = true := by decide +kernel

/-- A retry keeps SW and IC and ends the reservation (R199). -/
theorem test_retry :
    runs (.microcodeWatchdogExpiry 2) demo (fun t => (t.core 2).ic == 100 && (t.core 2).retries == 1 && t.sp.retries == 1) = true := by
  decide +kernel

/-- Core 0 with a store to line 3125 in its buffer, an exposed load and a reservation. -/
def buffered : State :=
  (demo.bring 0 3125 true none).modCore 0 (fun k => { k with
    seq := 1
    sb := [{ kind := .cached, addr := 3125, wide := false, level := 0, vaddr := 50000,
             words := [{ off := 1, val := 7, mask := BitVec.allOnes 36, seq := 0 }] }]
    res := some { line := 9, deferring := true, snooped := true } })

theorem witness_StoreBufferEvents :
    ((buffered.core 0).res == some { line := 9, deferring := true, snooped := true } && (demo.core 0).res == none &&
      ((demo.modCore 0 (fun k => { k with res := some { line := 9, deferring := true, snooped := false } })).core 0).res ==
        some { line := 9, deferring := true, snooped := false } &&
      !(demo.core 0).exposed.any (fun e => e.line == 9) && decide (9 < 2 ^ 36) && wfCore 0 &&
      (((demo.modCore 0 (fun k => { k with exposed := [{ line := 9, seq := 0, ck := k.checkpoint }] })).core 0).exposed.find?
        (fun e => e.line == 9)).isSome) = true := by decide +kernel

theorem witness_PerformedStoreFrame :
    (buffered.mem.wf && (buffered.core 0).sb.map (·.kind) == [.cached] &&
      (buffered.core 0).sb.all (fun e => e.words.all (fun w => !(buffered.core 0).gated w.seq) && e.words != []) &&
      (buffered.core 0).sb.all (fun e => e.sent == none) &&
      !buffered.storeBypass 0 3125 && buffered.lineReady 0 3125 true && buffered.deferring 0 3125 == []) = true := by
  decide +kernel

theorem test_performed :
    runs (.storeBufferEntryPerformed 0) buffered (fun t => t.rd 50001 == 7 && t.rd 50000 == 0 && (t.core 0).sb == []) = true := by
  decide +kernel
theorem test_deferral_expiry :
    runs (.reservationDeferralExpiry 0) buffered (fun t => (t.core 0).res == none) = true := by decide +kernel

/-- A register result, one and two words, and a memory result. -/
theorem witness_ResultPlaces :
    (let p : Placed := { spec := dstOp 2, loc := .reg 15, opn := 1, words := [] }
     let q : Placed := { spec := dstOp 2, loc := .mem 50000, opn := 1, words := [(50000, 50000), (50001, 50001)] }
     p.loc == .reg 15 && p.spec.n == 2 && q.words.length == q.spec.n && decide (q.words.map (·.1)).Nodup) = true := by
  decide +kernel

/-- A core that waits for an I/O-space load. -/
def ioWait : State :=
  demo.modCore 2 (fun k => { k with run := .ioLoad { resume := 0, addr := 64, wide := false, vaddr := 64, ins := insn 0o10 0 0 0 (desc 0o35 0 0 64) (rg 3) 0 } })

theorem witness_IoLoads :
    ((match (ioWait.core 2).run with
      | .ioLoad l => l.addr == 64
      | _ => false) && (demo.core 2).run == .running && wfCore 2 && (ioWait.core 2).checks == [] && !ioWait.inTakeover 2 &&
      ({ ioWait with sp := { ioWait.sp with taking := [{ site := 2, begun := true, sub := 0, owner := 512 }] } }).inTakeover 2 &&
      (ioWait.modCore 2 (fun k => { k with run := .running, ioHeld := [] })).takes 2) = true := by decide +kernel
theorem test_io_failed :
    runs (.ioLoadCompletion 2 1 0) ioWait (fun t =>
      (t.core 2).run == .running && fld (seen t 2 28676) 35 18 == 0o400002 && seen t 2 28679 == 64) = true := by decide +kernel
theorem test_io_timeout :
    runs (.ioLoadTimeout 2) ioWait (fun t => fld (seen t 2 28676) 35 18 == 0o400002) = true := by decide +kernel

/-! ## Witnesses: profiles, power, stops, faults -/

def partE' : State := { demo with md := { demo.md with coolant := true } }

theorem witness_ProfileChanges :
    ([0, 4].all (may demo own 0x1000 1) && [5, 255].all (may demo own 0x1000 1) && wfRoute own &&
      demo.causes == 0 && partE'.causes != 0 && may partE' own 0x1000 1 2 && may { demo with md := { demo.md with change := some true } } own 0x1000 1 2 &&
      (({ demo with md := { demo.md with deferred := some 3 } }).md.deferred == some 3) && demo.md.change == none &&
      (let s := { demo with md := { demo.md with change := some false, lanes := 40 }, cx := { demo.cx with busy := [45] } }
       s.laneDraining && s.md.change == some false) &&
      !({ demo with md := { demo.md with change := some false } }).laneDraining && demo.md.deferred == none &&
      decide ((demo.profile 3).power < demo.md.power) && !demo.cx.busy.any (fun l => decide ((demo.profile 3).lanes ≤ l))) = true := by
  decide +kernel

theorem test_profile :
    runs (.selectedProfile own 2) demo (fun t => t.md.selected == 2 && t.md.active == 2 && t.sv.answerAbort == 0) = true := by
  decide +kernel
theorem test_profile_range :
    runs (.selectedProfile own 5) demo (fun t => t.md.selected == 0 && t.sv.answerAbort == 8) = true := by decide +kernel

/-- Part E with a lowered cap, a held coolant cause, the Custom profile above and below its power. -/
def partE : State :=
  { demo with sv := { demo.sv with partE := true }
              md := { demo.md with cap := 4400, inlet := 200, coolant := true, active := 4, power := 1300 } }

theorem witness_Temperatures :
    (partE.sv.partE && decide (partE.md.cap < 5600) && decide (partE.md.inlet + 5 ≤ capBound partE.md.cap) && partE.md.coolant &&
      decide (160 ≤ partE.md.inlet) && decide (partE.md.inlet + 10 ≤ partE.inletMax) && partE.tilesRun && partE.md.active == 4 &&
      decide (partE.md.power * 97 < 1300 * 100) && decide (1261 * 100 ≤ partE.md.power * 97) &&
      decide (1169 * 100 < partE.md.power * 90) && demo.md.st != .off) = true := by decide +kernel
theorem test_die_fatal :
    (runs (.dieOvertemperature 1100) demo (fun t => t.md.st == .halted && t.fc.lastFatal == 1221) &&
     runs (.dieOvertemperature 1099) demo (fun t => t.md.st == .run && (t.fsrc 1221).held == 2) &&
     runs (.dieOvertemperature 1050) demo (fun t => (t.fsrc 1221).held == 0)) = true := by decide +kernel

def standby : State := { State.reset with md := { ModuleCtl.init with st := .standby, vin48 := true, vaux := true, porstHigh := true } }

theorem witness_PowerInputsAndStore :
    (demo.md.st != .off && standby.md.vin48 && standby.md.st == .standby && standby.md.lever == .closed &&
      may demo own 0x1100 9 1 && State.reset.md.st == .off && demo.md.st == .run) = true := by decide +kernel
/-- R270 at its bounds: 50 and 200 percent of nominal are taken, less is discarded. -/
theorem test_self_test :
    (runs (.selfTest 77500 12500 16000) standby (fun t => t.es.held && t.es.uf == 77500) &&
     runs (.selfTest 310000 50000 16000) standby (fun t => t.es.held && t.es.uf == 310000) &&
     runs (.selfTest 77499 12500 16000) standby (fun t => !t.es.held && (t.fsrc 1218).held == 2)) = true := by decide +kernel
theorem test_vaux :
    runs (.vauxAccepted 9 true 12000) State.reset (fun t => t.md.st == .standby && t.md.slot == 9 && t.md.twinId && t.tm.tod == 0) =
      true := by decide +kernel

def dawnReady : State := { standby with es := { standby.es with held := true, uf := 155000, uohm := 25000, mv := 16000, reserve := 15000 } }

def dawnInput : DawnInput :=
  { railsOk := true, bankAOk := true, bankBOk := true, m0 := 0, customerOk := true, configOk := true, failedSites := [],
    badRecords := [], links := [], mismatched := [], reachable := [0] }

/-- STANDBY with every condition, DAWN, and another state; each early end and the whole sequence. -/
theorem witness_Dawn :
    (let b := dawnReady.dawnBegin
     dawnReady.md.porstHigh && dawnReady.md.startPermit && dawnReady.md.lever == .closed && dawnReady.es.held && dawnReady.md.sysclk &&
      b.identityOk && (b.bootBank true true).1.isSome && (b.bootBank false false).1.isNone && demo.md.st == .run &&
      !demo.fc.haltRecorded && ({ demo with fc := { demo.fc with haltRecorded := true } }).fc.haltRecorded && demo.fc.srcs == [] &&
      ({ demo with fc := { demo.fc with srcs := [(1222, { FSrc.init with squall := true })] } }).fc.srcs.any
        (fun e => e.2.squall && fatalSource e.1) &&
      !({ dawnReady with sv := { dawnReady.sv with serial := 0 } }).dawnBegin.identityOk &&
      ({ dawnReady with md := { dawnReady.md with st := .dawn, resetDawn := true } }).md.porstHigh &&
      (let p := ((b.bootBank true true).2.measured 0).usePatch (b.bootBank true true).2.sv.active
       let q := ((((p.returnUnits.refence).dawnSites []).dawnAnvil []).dawnLedger.dawnConfig).dawnLinks dawnInput
       p.sp.custEntries == [] && q.majority [0] &&
       !({ q with dy := { q.dy with members := 7 } }).majority [])) = true := by decide +kernel

/-- Dawn reaches RUN, ends as a failed start, or in SAFE. -/
theorem test_dawn :
    (runs (.dawnStart dawnInput) dawnReady (fun t => t.md.st == .run) &&
     runs (.dawnStart { dawnInput with bankAOk := false, bankBOk := false }) dawnReady (fun t => t.md.st == .safe) &&
     runs (.dawnStart dawnInput) demo (fun t => t.md.st == .run)) = true := by decide +kernel

def safe : State := { demo with md := { demo.md with st := .safe } }

theorem witness_StopsAndResets :
    ((let go (st : OrderStage) : State := { demo with
        md := { demo.md with stopping := some [] }
        ch := { demo.ch with chans := [(7, { chanN with orders := [{ Order.ofWords 0 [] with stage := st }] })] } }
      (go .opened).stopWaits [] && !(go .opened).stopWaits [5] && !(go .waitAlloc).stopWaits [] && (go .opened).md.stopping == some []) &&
     may demo own 0x1000 0x0C 1 && !demo.twinServes && [0, 1].all (may demo own 0x1000 0x0A) && may safe own 0x1600 6 1 &&
      safe.md.st == .safe && standby.md.st == .standby) = true := by decide +kernel
theorem test_orderly_stop : runs (.orderlyStop own 1) demo (fun t => t.md.st == .safe) = true := by decide +kernel
theorem test_porst :
    runs .porstNLow demo (fun t => t.md.st == .dawn && t.md.resetDawn && t.cores == [] && t.mem.words == []) = true := by
  decide +kernel

def lifted : State := { demo with md := { demo.md with st := .extracting, lever := .lifted, latchReleased := true, extractStep := 5 } }

theorem witness_Extraction :
    (!(({ demo with md := { demo.md with lever := .lifted } }).abandonStaging).twinServes && lifted.md.latchReleased &&
      lifted.md.st == .extracting && lifted.md.extractStep == 5 && !demo.md.latchReleased && demo.tw.st != .inService &&
      [ModState.run, .safe, .halted, .standby, .off, .dawn, .dusk, .extracting].all (fun x =>
        ({ demo with md := { demo.md with st := x, latchReleased := true } }).md.st == x) &&
      (({ standby with es := { standby.es with bleeding := true } }).es.bleeding)) = true := by decide +kernel
theorem test_lever :
    (runs .leverLifted demo (fun t => t.md.st == .extracting && t.md.extractStep == 2) &&
     runs .leverOpened lifted (fun t => t.md.st == .off && !t.md.vin48 && t.md.lever == .opened) &&
     runs .leverLowered lifted (fun t => t.md.st == .dawn && !t.md.resetDawn)) = true := by decide +kernel

/-- A report-only source in Squall, a source with injections left, and the objects of the recovery commands. -/
def squalled : State :=
  { demo with fc := { demo.fc with injection := 1, srcs := [(1217, { FSrc.init with squall := true }), (1233, { FSrc.init with forceLeft := 2 })] } }

theorem witness_FaultReportsAndRecovery :
    (wfFaultSource 1235 && (squalled.fsrc 1217).squall && reportOnly 1217 && !(squalled.fsrc 1217).rail &&
      (let w := 2 ^ 16 * 3 + 2 ^ 12 + 1216
       may { demo with fc := { demo.fc with injection := 1 }, sv := { demo.sv with key := .service, sessions := [session 3 3] } }
         (.session 3) 0x1620 2 w && ({ demo with fc := { demo.fc with injection := 1 } }).forceAbort w == 0) &&
      (squalled.fsrc 1233).forceLeft != 0 &&
      !(demo.fsrc 1233).squall && (demo.fsrc 1233).forceLeft == 0 && may demo own 0x1610 5 1 && may demo own 0x1900 0x0C 1) = true := by
  decide +kernel

/-- A fatal, a contained and a corrected sample; a failed reporting path; the threshold of 8 in 60 s (R396). -/
theorem witness_CollectorAndHalt :
    ((demo.fsrc 1233).n != 0 && !(demo.fsrc 1233).squall && !(demo.fsrc 1233).rail && demo.md.st != .off &&
      (({ demo with fc := { demo.fc with srcs := [(1233, { FSrc.init with rail := true })] } }).fsrc 1233).rail &&
      (({ demo with md := { demo.md with st := .dawn } }).md.st == .dawn)) = true := by decide +kernel
theorem test_fault_report :
    (runs (.faultReport 1233 .contained 3) demo (fun t => t.fc.contained == 1 && t.md.st == .run && t.fc.log.length == 1) &&
     runs (.faultReport 1221 .fatal 3) demo (fun t => t.md.st == .halted && t.fc.lastFatal == 1221 && t.md.faultPins)) = true := by
  decide +kernel
/-! ## Witnesses: the twin, commits, the journal -/

def heartbeat : Heartbeat :=
  { authentic := true, serial := 77, twinId := true, state := 3, selfFenced := false, takenOver := false, localAck := false,
    count := 6, time := 0, reserve := 15000 }

/-- A pair in a state, with the twin's number known, keys agreed, and one item awaited. -/
def pair (st : PairSt) : State :=
  { demo with tw := { Twin.init with st := st, expected := 77, peer := 77, keysAgreed := true, rxCount := [(0, 5)], unacked := [4],
                                     witness := true, selfFence := st == .selfFenced } }

theorem witness_TwinRows :
    ((pair .resync).tw.st == .resync && (pair .inService).tw.st == .inService && (pair .selfFenced).tw.witness &&
      may (pair .inService) own 0x1700 9 1 && may demo own 0x1700 1 1 && (pair .detached).tw.st == .detached &&
      (pair .pairing).tw.enabled && (pair .pairing).tw.expected == 77 && !(pair .pairing).tw.takenOver &&
      !(pair .pairing).tw.unacked.contains 5 && (pair .pairing).tw.unacked.contains 4 && (pair .solo).tw.st == .solo &&
      (pair .solo).tw.serial == 77 && decide (tget (pair .solo).tw.rxCount 0 0 < heartbeat.count) &&
      decide (¬ tget (pair .solo).tw.rxCount 0 0 < 5) && !demo.tw.keysAgreed && (pair .unpaired).md.st == .run &&
      (pair .inService).tw.serial == heartbeat.serial && (pair .pairing).tw.peer != 0 && heartbeat.twinId != (pair .pairing).md.twinId &&
      (let p := { pair .inService with tw := { (pair .inService).tw with plannedFence := true } }
       p.tw.plannedFence && !p.tw.relinquishSent) && (pair .solo).tw.keysAgreed && (pair .selfFenced).tw.lastHb == none &&
      ({ pair .selfFenced with tw := { (pair .selfFenced).tw with lastHb := some heartbeat } }).tw.lastHb.isSome &&
      [LinkSt.active, .down].all (fun x => ({ pair .solo with tw := { (pair .solo).tw with linkSt := x, lanes := 15 } }).tw.linkSt == x) &&
      ((let w := { pair .inService with jn := { Journal.init with tenants := [(5, { JnTenant.init with
         waiting := [{ core := 2, user := 0, words := [1], poisoned := false, toSeal := false, toCompress := false, mirrored := some (1, 4) }] })] } }
       w.itemCommit 4 == some 5))) = true := by
  decide +kernel
/-- A time of day that its floor holds: 5 ns, and so 0 ms after the last witness heartbeat. -/
def stopped : State := { pair .selfFenced with tm := { (pair .selfFenced).tm with tod := 5, floor := 6 } }

theorem witness_TwinRows_time : stopped.now.1 = 5 ∧ stopped.tw.witnessAt = 0 := by
  refine ⟨?_, by decide +kernel⟩
  have h : stopped.tm.tod = 5 ∧ stopped.tm.floor = 6 := by decide +kernel
  simp only [State.now, h.1, h.2]
  omega
theorem test_pairing :
    (runs (.pairing 77 true true) (pair .pairing) (fun t => t.tw.st == .resync && t.tw.peer == 77 && t.tw.resyncs == 1) &&
     runs (.pairing 77 true false) (pair .pairing) (fun t => t.tw.st == .unpaired && t.tw.mismatch && (t.fsrc 1001).held == 2)) =
      true := by decide +kernel
theorem test_heartbeat :
    (runs (.heartbeat heartbeat 0) (pair .solo) (fun t => t.tw.st == .pairing && tget t.tw.rxCount 0 0 == 6) &&
     runs (.heartbeat { heartbeat with count := 5 } 0) (pair .solo) (fun t => t.tw.st == .solo) &&
     runs (.heartbeat heartbeat 1) (pair .selfFenced) (fun t => t.tw.st == .resync && !t.tw.selfFence)) = true := by decide +kernel
theorem test_self_fence : runs .selfFence (pair .detached) (fun t => t.tw.st == .selfFenced && t.tw.selfFence) = true := by
  decide +kernel
theorem test_bulk_copy :
    (runs .bulkCopyComplete (pair .resync) (fun t => t.tw.st == .inService) &&
     runs .twinLinkSilence (pair .inService) (fun t => t.tw.st == .detached)) = true := by decide +kernel

/-- A commit of tenant 5 that waits, under WAIT or FAIL, with reserve or without. -/
def commit (poisoned : Bool) : Commit :=
  { core := 2, user := 0, words := [1, 2], poisoned := poisoned, toSeal := false, toCompress := false, mirrored := none }

def journal (reserve : Nat) (fail poisoned : Bool) : State :=
  { demo with es := { demo.es with reserve := reserve }
              jn := { Journal.init with tenants := [(5, { JnTenant.init with
                energyQuota := 8, anvilQuota := 8, failPolicy := fail, waiting := [commit poisoned] })] } }

theorem witness_CommitDecisions :
    ((demo.jt 5).waiting == [] && [journal 15000 false false, journal 15000 true true, journal 0 true false, journal 0 false false].all
      (fun s => (s.jt 5).waiting.length == 1 && !s.drainingT 5 && (s.tenant 5).st != .stopped && s.md.st == .run &&
        (s.jt 5).energyQuota != 0 && (s.jt 5).anvilQuota != 0 && !s.ackTwin 5 && s.md.stopping == none && !s.sealSpent 5 2) &&
      (journal 15000 false false).admission 5 2 == .yes && (journal 0 false false).admission 5 2 != .yes) = true := by
  decide +kernel
theorem test_commit :
    (runs (.commitAdmission 5) (journal 15000 false false) (fun t => t.jn.pending.map (·.seq) == [1] && (t.jt 5).waiting == [] &&
        (t.jt 5).committed == 1 && t.jn.pending.map (·.charge) == [128]) &&
     runs (.commitAdmission 5) (journal 0 false false) (fun t => (t.jt 5).waiting.length == 1) &&
     runs (.waitLimit 5) (journal 0 false false) (fun t => (t.jt 5).waiting == [] && t.jn.pending == [])) = true := by decide +kernel

/-- The worked example of R263: a reserve of 15,800 mJ and 2,000 MiB pending let in an entry of 1,000 words. -/
theorem test_region_charge : regionCharge 1000 = 4608 := by decide +kernel

def pend (n : Nat) : Pend :=
  { stream := 5, seq := n, type := 1, user := 0, words := [1, 2], toSeal := false, toCompress := false, charge := 128, time := 0 }

/-- Entries 1 to 3 of tenant 5 pending, a read range of one page in its space. -/
def written : State :=
  { demo with jn := { Journal.init with
      tenants := [(5, { JnTenant.init with energyQuota := 8, anvilQuota := 8, committed := 3, rdBase := 32768, rdSize := 4096, rdFrom := 1 })]
      pending := [pend 1, pend 2, pend 3] } }

def sup : Accessor := { role := .g, core := 2 }
def host : Accessor := { role := .h, core := 1 }
def zen : Accessor := { role := .z, core := 0 }

/-- A read of the tenant whose last line the home has not acknowledged. -/
def busyRead : State :=
  { written with
    jn := { written.jn with tenants := [(5, { written.jt 5 with rdLines := [2048] })] }
    dy := { written.dy with agents := [(journalAgent * 2 ^ 36 + 2048, { tag := 3, st := .writing })] } }

/-- Every segment retired. -/
def spent : State := { written with jn := { written.jn with retired := List.range 4096 } }

theorem witness_JournalRows_full (n : Nat) : spent.place 5 n = none := by
  have hr : (spent.jn.records.filter (fun r => r.stream == 5)).getLast? = none := by decide +kernel
  have hs : spent.nextSeg = none := by
    have hl : spent.jn.retired = List.range 4096 := by simp only [spent]
    unfold State.nextSeg
    rw [List.find?_eq_none]
    intro g hg
    simp only [List.mem_map, List.mem_range] at hg
    obtain ⟨i, -, rfl⟩ := hg
    have hlt : 32 + (spent.jn.lastSeg - 31 + i) % 4064 < 4096 := by omega
    simp [State.segUsed, hl, hlt]
  simp only [State.place, hr, hs]

theorem witness_JournalRows :
    (written.jn.pending.find? (fun p => p.stream == 6) == none && (written.jn.pending.find? (fun p => p.stream == 5)).isSome &&
      (written.place 5 (recordSize 9)).isSome && ({ written with jn := { written.jn with spares := [] } }).jn.spares == [] &&
      ({ written with jn := { written.jn with spares := [40] } }).jn.spares.head? == some 40 && !written.jnBusy 5 && busyRead.jnBusy 5 &&
      !({ written with jn := { written.jn with tenants := [(5, { written.jt 5 with rdBase := 2 ^ 30 })] } }).agentOk 5 Need.store
        (rangePages (2 ^ 30) 4096) &&
      (State.jnCopy 5 32768 4 32767 (written.readFailures 5) 1 0 0 false).2.2.1 == 0 &&
      (State.jnCopy 5 32768 4096 32767 (written.readFailures 5) 1 0 0 false).2.2.1 == 3 &&
      ({ written with jn := { written.jn with retired := [0], lastSeg := 0 } }).nextSeg.isSome &&
      [0, 1].all (may demo own 0x1210 8) && may demo own 0x1210 0x0B 1 && !demo.sealedHeld 0 && !demo.tn.absent &&
      wfAccessor sup && roleZHG sup.role && written.reach sup 5 && decide ((written.jt 5).released < (written.jt 5).rdFrom) &&
      decide ((written.jt 5).rdFrom ≤ (written.jt 5).committed) && (written.entry 5 1).isSome &&
      written.agentOk 5 Need.store (rangePages 32768 4096) && (2 ^ 35).testBit 35) = true := by decide +kernel
theorem test_entry_write :
    runs (.entryWrite 5 true) written (fun t => t.jn.records.map (·.seq) == [1] && t.jn.pending.map (·.seq) == [2, 3] &&
      (t.jt 5).written == 1) = true := by decide +kernel
theorem test_release :
    (runs (.jnRelease sup 5 2) written (fun t => t.jn.pending.map (·.seq) == [3] && (t.jt 5).released == 2) &&
     runs (.jnRelease sup 5 4) written (fun t => (t.jt 5).rejectG && (t.jt 5).released == 0)) = true := by decide +kernel
theorem test_jn_read :
    runs (.jnRd sup 5 (2 ^ 35)) written (fun t => (t.jt 5).rdResult == 1 && (t.jt 5).rdEntries == 3) = true := by decide +kernel

/-! ## Witnesses: orders -/

/-- Channel 7 of a class with one order of a code in slot 0: words 1, 2 and 7. -/
def ordered (cls : ChanClass) (seq w2 data : Nat) : State :=
  let s : State := { rings with ch := { rings.ch with chans := [(7, { chanN with cls := cls })] } }
  withBlock s 34304 ((if seq = 0 then [] else [(34305, BitVec.ofNat 36 seq)]) ++
    (if w2 = 0 then [] else [(34306, BitVec.ofNat 36 w2)]) ++ (if data = 0 then [] else [(34311, BitVec.ofNat 36 data)]))

def startable (s : State) (code : OCode) : Bool :=
  s.canStart 7 && (s.nextOrder 7).2 && (s.nextOrder 7).1.code == code &&
    !s.orderInvalid (s.chan 7) (s.nextOrder 7).1

/-- The next order of channel 7. -/
def nextOf (s : State) : Order := (s.nextOrder 7).1

/-- Its entry in a state, of its digest or another. -/
def ledgered (s : State) (st : LedgerState) (same : Bool) : State :=
  let o := nextOf s
  { s with ch := { s.ch with ledger := [{
      source := ownSource, opid := o.opid 5, digest := if same then o.digest else o.digest + 1, st := st, persistent := false,
      attempt := 1, series := 1, status := 0, count := 0, time := 0, detail := 0, item := none }] } }

/-- Channel 7 with one order of a code at a stage, in slot 0, and its entry in a state, which awaits an item. -/
def held (cls : ChanClass) (code : Nat) (stage : OrderStage) (st : LedgerState) (item : Option Nat) (sender : Option (Nat × DWord)) :
    State :=
  let o : Order := { Order.ofWords 0 [0, 1, BitVec.ofNat 36 (code * 2 ^ 30)] with stage := stage, sender := sender }
  { rings with ch := { rings.ch with
      ledger := [{ source := ownSource, opid := o.opid 5, digest := 0, st := st, persistent := false, attempt := 1, series := 1,
                   status := 0, count := 0, time := 0, detail := 0, item := item }],
      chans := [(7, { chanN with cls := cls, started := 1, orders := [o] })] } }

def mirrored (s : State) : State := { s with tw := { s.tw with st := .inService, nextItem := 4, linkSt := .active } }

/-- A started order: stale, in conflict, attached, a duplicate of a done one, in doubt with another before it and without,
without room for its entry and with; a RETIRE with a twin that covers the tenant and without. A channel program at hand and not. -/
theorem witness_Orders_started :
    (let s := ordered .send 1 0 0
     let u := { s with ch := { s.ch with chans := [(7, { s.chan 7 with retire := 1 })] } }
     let c := ordered .c 1 (2 ^ 30 + 2 ^ 27) 32768
     let r := ordered .c 0 (0o40 * 2 ^ 30) 0
     (nextOf u).seq == 1 && (nextOf u).code == .nop && s.findEntry ownSource ((nextOf s).opid 5) == none && decide (0 < (nextOf s).seq) &&
     [true, false].all (fun b => [LedgerState.opened, .issued, .done, .resetAbandoned, .inDoubt].all (fun x =>
       ((ledgered s x b).findEntry ownSource ((nextOf s).opid 5)).elim false (fun e => e.st == x && (e.digest == (nextOf s).digest) == b))) &&
     !s.canStart 0 && decide (s.ledgerUsed 5 < (s.chT 5).quota) &&
     ({ s with ch := { s.ch with tenants := [(5, { ChTenant.init with slice := 1, quota := 0 })] } }).chT 5 != s.chT 5 &&
     ((ledgered s .inDoubt true).chan 7).orders == [] &&
     (let o := nextOf s
      [{ o with slot := 3, stage := .opened }].any (fun (p : Order) => p.slot != o.slot && p.stage == .opened && !p.isControl && p.opid 5 == o.opid 5)) &&
     (nextOf c).chain && (c.canStart 7) && reads c (procAgent 0) 5 ((c.chan 7).slotWords 0) &&
     (State.bringProgram (procAgent 0) 5 256 (fld (nextOf c).w6 50 0) c).2 &&
     (let e := elsewhere c [32768]
      reads e (procAgent 0) 5 ((e.chan 7).slotWords 0) && !(State.bringProgram (procAgent 0) 5 256 (fld (nextOf e).w6 50 0) e).2) &&
     !reads (elsewhere c [34304]) (procAgent 0) 5 ((c.chan 7).slotWords 0) && (elsewhere c [34304]).canStart 7 &&
     (nextOf r).code == .retire && ((r.ownRecord 3 [7]).mirrorOut 5 (.config (r.configOf 5))).1 == none &&
     (((mirrored r).ownRecord 3 [7]).mirrorOut 5 (.config (r.configOf 5))).1 == some 4) = true := by decide +kernel

/-- A waiting order with room and without; an opened one whose entry is recorded, without a target, with one that is up or
down; a done one whose record waits, or can be written; none of these. -/
theorem witness_Orders_later :
    (let find (s : State) (st : OrderStage) := ((s.chan 7).orders.find? (fun o => o.stage == st)).isSome
     find (held .send 8 .waitAlloc .done none none) .waitAlloc && decide (demo.ledgerUsed 5 < (rings.chT 5).quota) && !find rings .waitAlloc &&
     (let s := held .send 8 .opened .opened none none
      find s .opened && s.md.st == .run && !s.fencedTenant 5 && s.targetUp (s.chan 7) && !(s.chan 7).noTarget &&
        s.deliverLines (s.chan 7) ((s.chan 7).orders.headD (nextOf s)) == [] && s.queueRoom (s.chan 7) &&
        !({ s with ch := { s.ch with peers := [(256, { s.peer 256 with down := true })] } }).targetUp (s.chan 7)) &&
     [LedgerState.inDoubt, .opened].all (fun x => (let s := held .n 1 .opened x none none
       find s .opened && ((s.findEntry ownSource (((s.chan 7).orders.headD (nextOf s)).opid 5)).any (fun e => e.st == .inDoubt) == (x == .inDoubt)))) &&
     ((held .n 0 .opened .opened none none).chan 7).orders.all (fun o => o.code == .nop) &&
     (let s := held .n 1 .done .done none none
      let o := (s.chan 7).orders.headD (nextOf s)
      o.stage == .done && s.agentQuiet (s.chan 7).dataAgent && !s.recordWaits 7 o && reads s (procAgent 0) 5 ((s.chan 7).restWords o) &&
      (let w := held .n 1 .done .done (some 4) none
       w.recordWaits 7 ((w.chan 7).orders.headD o)) && o.sender == none &&
      (let r := held .receive 9 .done .done none (some (3, 9))
       ((r.chan 7).orders.headD o).sender == some (3, 9) && !r.recordWaits 7 ((r.chan 7).orders.headD o)) &&
      !({ s with dy := { s.dy with agents := [(portAgentOf 0 * 2 ^ 36 + 9, { tag := 3, st := .writing })] } }).agentQuiet
        (s.chan 7).dataAgent && (rings.chan 7).orders == [])) = true := by decide +kernel

/-- Every code on a channel of its class, an unknown code, and a slot that cannot be read. DEALLOCATE is of class N, whose block
size is free: here it stands on a class C channel, where it is INVALID-ORDER. -/
theorem witness_Orders :
    ([(0o0, .nop), (0o1, .read), (0o2, .write), (0o3, .flush), (0o4, .writeZeroes), (0o6, .control), (0o7, .query)].all
        (fun p => startable (ordered .c 1 (p.1 * 2 ^ 30) 147456) p.2) &&
      (let s := ordered .c 1 (5 * 2 ^ 30) 0
       s.canStart 7 && (s.nextOrder 7).1.code == .deallocate && s.orderInvalid (s.chan 7) (s.nextOrder 7).1) &&
      startable (ordered .send 1 (0o10 * 2 ^ 30) 147456) .send && startable (ordered .receive 1 (0o11 * 2 ^ 30) 147456) .receive &&
      startable (ordered .c 0 (0o40 * 2 ^ 30) 0) .retire && startable (ordered .c 0 (0o41 * 2 ^ 30) 0) .close &&
      ((ordered .c 1 (0o77 * 2 ^ 30) 0).nextOrder 7).1.code == .reserved && !demo.canStart 7 &&
      !(({ (ordered .c 1 0 0) with tn := demo.tn, ch := { (ordered .c 1 0 0).ch with chans := [(7, { chanN with oring := 2 ^ 30 })] } }).nextOrder 7).2) =
      true := by decide +kernel

/-- A SEND from its slot to its entry and its issue. -/
def issued : State :=
  let go (i : Instr) (s : State) : State := match exec i s with | .next t => t | _ => s
  go (.issue 7) (go (.send 7) (ordered .send 1 (0o10 * 2 ^ 30) 147456))

theorem test_order_start :
    runs (.nop 7) (ordered .send 1 0 0) (fun t => t.ch.ledger.map (·.st) == [.opened] && (t.chan 7).started == 1) = true := by
  decide +kernel
theorem test_order_stale :
    runs (.nop 7) { (ordered .send 1 0 0) with ch := { (ordered .send 1 0 0).ch with chans := [(7, { chanN with cls := .send, retire := 1 })] } }
      (fun t => t.ch.stale == 1 && t.ch.ledger == [] && (t.chan 7).orders.map (·.status) == [1]) = true := by decide +kernel
theorem test_issue : (issued.ch.ledger.map (·.st) == [.issued] && (issued.chan 7).orders.map (·.stage) == [.issued]) = true := by
  decide +kernel
theorem test_retire :
    runs (.retire 7) (withBlock (ordered .c 0 (0o40 * 2 ^ 30) 0) 34304 [(34306, BitVec.ofNat 36 (0o40 * 2 ^ 30)), (34309, 9)])
      (fun t => (t.chan 7).retire == 9) = true := by decide +kernel
theorem test_close :
    runs (.close 7) (ordered .c 0 (0o41 * 2 ^ 30) 0) (fun t => (t.chan 7).orders.map (·.status) == [0] && (t.chan 7).closing) =
      true := by decide +kernel
/-- A class C order issued and awaited, by its identifier. -/
def awaited (cls : ChanClass) (code : Nat) : State :=
  { rings with ch := { rings.ch with
      ledger := [{ source := 0x7FF, opid := BitVec.ofNat 72 (5 * 2 ^ 63 + 1), digest := 0, st := .issued, persistent := false, attempt := 2,
                   series := 1, status := 0, count := 0, time := 0, detail := 0, item := none }],
      chans := [(7, { chanN with cls := cls, started := 1, orders := [{ (Order.ofWords 0 [0, 1, BitVec.ofNat 36 (code * 2 ^ 30)]) with stage := .issued }] })] } }

def orderId : DWord := BitVec.ofNat 72 (5 * 2 ^ 63 + 1)

theorem witness_OrderAnswers :
    ((demo.issuedOrder orderId).isNone && ((awaited .c 1).issuedOrder orderId).isSome && ((awaited .n 1).issuedOrder orderId).isSome &&
      ((awaited .c 1).findEntry ownSource orderId).elim 0 (·.attempt) == 2 && ((awaited .c 1).chan 7).cls == .c &&
      (demo.issuedCid 0 256 0).isNone && ((awaited .n 1).issuedCid 0 256 0).isSome && demo.heldFor 0 == [] &&
      ((awaited .n 2).chan 7).orders.all (fun o => !o.idem && o.slot == 0 && o.stage == .issued) && demo.ch.chans == [] &&
      ((awaited .c 7).issuedOrder orderId).elim false (fun q => q.2.code == .query)) = true := by decide +kernel
theorem test_completion_block :
    (runs (.completionBlock orderId 0 false 2 0 0) (awaited .c 0) (fun t =>
        t.ch.ledger.map (·.st) == [.done] && (t.chan 7).orders.map (·.stage) == [.done]) &&
     runs (.completionBlock orderId 0 false 3 0 0) (awaited .c 0) (fun t => t.ch.late == 1 && t.ch.ledger.map (·.st) == [.issued])) =
      true := by decide +kernel
theorem test_order_timeout :
    runs (.orderTimeout 7 0) (awaited .n 2) (fun t => (t.chan 7).orders.map (·.status) == [2] && t.ch.unknown == 1) = true := by
  decide +kernel

/-- Port 0 is up. -/
def linkUp : State :=
  { rings with ch := { rings.ch with links := [(0, { up := true, rate := 5, width := 16, ide := false })],
                                     grants := [(3, { tenant := 5, port := 0, rid := 256, chan := 7, segs := [(147456, 9)] })] } }

theorem link_up (rid : Nat) : linkUp.pcieUp 0 rid = true := by
  have h : linkUp.portLinks 0 = 1 := by decide +kernel
  have hl : tget linkUp.ch.links PcieLink.init 0 = { up := true, rate := 5, width := 16, ide := false } := by decide +kernel
  simp only [State.pcieUp, State.fnLink, h, Nat.mod_one, hl]

def record : List Octet := [0, 9, 0, 5, 0, 0, 1, 0, 1, 0, 0, 0, 0, 0, 0, 1, 0, 0, 0, 1].map (BitVec.ofNat 8)

/-- A link that is down, a grant that covers 9 octets and one octet more, class D's octets, and records of configuration. (Which
functions are of class D is free: the clauses take either.) -/
theorem witness_DeviceAccess :
    (!(tget demo.ch.links PcieLink.init 0).up && (linkUp.grantOctets 0 256 (0x8000000000000000 + 3 * 2 ^ 25) 9).isSome &&
      (linkUp.grantOctets 0 256 (0x8000000000000000 + 3 * 2 ^ 25) 10).isNone &&
      (linkUp.dmaCause 5 Need.store (octetWords 147456 9)).isNone && (linkUp.dmaCause 5 Need.load (octetWords 147456 9)).isNone &&
      linkUp.privateOf 0 256 (privArea 0 256 0 0) 64 && !linkUp.privateOf 0 256 0 64 && decide (privArea 0 256 0 0 < 0x8000000000000000) &&
      (linkUp.dmaCause 5 Need.store (octetWords (2 ^ 50) 9)).isSome && reads linkUp (portAgentOf 0) 5 (octetWords 147456 9) &&
      (match linkUp.grantOctets 0 256 (0x8000000000000000 + 3 * 2 ^ 25) 9 with
       | some l => (linkUp.agentReads (portAgentOf 0) ((l.flatMap (fun k => octetLines k 1)).eraseDups)).2
       | none => false) &&
      ((rings.persist 0x1310 1).configItem record).1 == none && (((mirrored rings).persist 0x1310 1).configItem record).1 == some 4 &&
      mayOctets (mirrored rings) own 0x1310 1 record &&
      !linkUp.drainingT 5 && mayOctets rings own 0x1310 1 record && rings.configAbort record == 0 &&
      rings.configAbort (record.set 0 128) != 0 && (rings.chan 7).opened) = true := by decide +kernel
theorem test_configure :
    runs (.configureChannel own record) rings (fun t => (t.chan 9).tenant == 5 && (t.chan 9).cls == .n && (t.chan 9).target == 256 &&
      (t.chan 9).timeout == 1) = true := by decide +kernel
/-! ## Witnesses: Constellation, time, coherence, links -/

/-- A frame for this module: number 0 of the Constellation, from module 3. -/
def frame (fseq total : Nat) (last : Bool) : CHeader :=
  { valid := true, reservedZero := true, last := last, retransmit := false, srcMod := 3, dstMod := 0, srcSerial := 0,
    fseq := BitVec.ofNat 32 fseq, fack := 0, opid := BitVec.ofNat 72 9, retire := 0, attempt := 0, offset := 0, total := total }

def cons : State := { rings with ch := { rings.ch with portUp0 := true } }

theorem witness_ConstellationFrames :
    (cons.frameOk (frame 1 2 true) && !cons.frameOk { (frame 1 2 true) with dstMod := 1 } && cons.ch.portUp0 &&
      (frame 1 2 true).fseq.toNat == ((cons.peer 3).rxFseq + 1) % 2 ^ 32 && (frame 2 2 true).fseq.toNat != 1 &&
      ((awaited .send 8).issuedOrder orderId).isSome && ((awaited .send 8).chan 7).cls == .send && !demo.ch.portUp0 && !demo.ch.portUp1 &&
      (cons.peer 3).queue == [] && decide ((cons.peer 3).retained.length < 256) &&
      ((awaited .send 8).chan 7).target != 3 &&
      ((awaited .send 8).findEntry ownSource orderId).any (fun e => 258 % 256 == e.attempt) &&
      ((cons.setPeer 3 { (cons.peer 3) with used := true }).peer 3).used) = true := by decide +kernel
/-- Two frames of a message taken in order; a gap is not taken. -/
theorem test_data_frame :
    (runs (.constellationData (frame 1 4 false) [1, 2]) cons (fun t => t.ch.rx.map (·.octets) == [[1, 2]] && (t.peer 3).rxFseq == 1) &&
     runs (.constellationData (frame 2 4 false) [1, 2]) cons (fun t => t.ch.rx == [] && (t.peer 3).rxFseq == 0)) = true := by
  decide +kernel
theorem test_peer_down : runs (.peerDown 3) cons (fun t => (t.peer 3).down) = true := by decide +kernel

def disciplined : State := { demo with tm := { demo.tm with discipline := true, tod := 5, floor := 20000000000 } }

theorem witness_TimeOfDay :
    (disciplined.tm.discipline && disciplined.md.st == .run && decide (disciplined.tm.tod + 1000000000 < disciplined.tm.floor) &&
      decide (demo.tm.floor ≤ demo.tm.tod + 1000000000) && may demo own 0x1320 8 77 && may disciplined own 0x1320 8 77) = true := by
  decide +kernel
/-- At lock a forward correction above 10 ms steps; one of 10 ms does not (R251). -/
theorem test_ptp :
    (runs (.ptpMessage 10000001 true) disciplined (fun t => t.tm.tod == 10000006 && t.tm.lock == 2) &&
     runs (.ptpMessage 10000000 true) disciplined (fun t => t.tm.tod == 5 && t.tm.slewBack == 0)) = true := by decide +kernel

/-- A directory entry for line 3125, of a domain of modules 0 and 1. -/
def dir (st : DirState) (holders : List Nat) (tx : Option DirTx) : State :=
  { demo with dy := { Domain.init with
      members := 3, entries := [(3125, { st := st, ioh := false, holders := holders, way := 0, tx := tx })] } }

def openTx : DirTx :=
  { req := .readOwn, src := 65, tag := 3, prior := .shared, awaits := [66], wbWait := [], got := none }

/-- The set of line 3125 with `n` ways taken by lines that agent 66 owns; with `held`, their transactions are open. -/
def fullSet (n : Nat) (held : Bool) : State :=
  { demo with dy := { Domain.init with
      members := 3, refused := [{ req := .readOwn, src := 65, tag := 3, line := 3125, behind := none }],
      entries := (List.range n).map (fun j => ((j + 1) * 2 ^ 18 + Nat.xor 3125 (j + 1),
        { st := if held then .busy else .owned, ioh := false, holders := [66], way := j, tx := if held then some openTx else none })) } }

def zeros : List Word := List.replicate 16 0

/-- Lines of no holder, with a way free, a victim, way 15 for the oldest waiter, and none; shared, owned and held lines, and
one that waits; a line of another home; agents of this module and of another, at both ends of the agents and of the lines.
(Which entries read uncorrectable is free: the clauses take either.) -/
theorem witness_DirectoryRows :
    ([0, 36, 41, 65, 64 * 15 + 41].all (fun a => wfMsg (from_ a)) && wfMsgEnd (from_ 127) && wfLine (2 ^ 36 - 1) && wfLineWords zeros &&
      wfLineData (some zeros) && wfLineData none && 65 / 64 != demo.dy.modnum && 36 / 64 == demo.dy.modnum && lineHome 3125 == 0 &&
      lineHome (2 ^ 32) != 0 && !demo.lineWaits 3125 && (dir .busy [66] (some openTx)).lineWaits 3125 &&
      (demo.dir 3125).isNone && !demo.poisoned 3125 && (demo.setPoison 3125 true).poisoned 3125 &&
      demo.allocateWay 65 3125 == .way 0 && ((fullSet 15 false).dir 3125).isNone &&
      (match (fullSet 15 false).allocateWay 65 3125 with
       | .victim v => ((fullSet 15 false).dir v).isSome
       | _ => false) &&
      (fullSet 15 true).allocateWay 65 3125 == .way 15 && (fullSet 16 true).allocateWay 65 3125 == .nak &&
      ((dir .shared [65, 66] none).dir 3125).elim false (fun e => e.st == .shared && !e.ioh && e.holders.filter (· != 65) != []) &&
      ((dir .shared [65] none).dir 3125).elim false (fun e => e.holders.filter (· != 65) == []) &&
      ((dir .owned [66] none).dir 3125).elim false (fun e => e.st == .owned && e.holders.filter (· != 65) != []) &&
      (({ demo with dy := { demo.dy with entries := [(3125, { st := .owned, ioh := true, holders := [70], way := 0, tx := none })] } }).dir
        3125).elim false (·.ioh) &&
      (dir .busy [66] (some openTx)).awaited 66 3125 && !demo.awaited 66 3125 && openTx.got == none && openTx.wbWait == [] &&
      ((dir .busy [66] (some { openTx with wbWait := [66] })).dir 3125).elim false (fun e => e.tx.elim false (·.wbWait.contains 66))) =
      true := by decide +kernel
theorem test_read_own :
    runs (.readOwn (from_ 65) 3125) { demo with dy := { Domain.init with members := 3 } } (fun t =>
      (t.dir 3125).elim false (fun e => e.st == .owned && e.holders == [65])) = true := by decide +kernel
theorem test_write_back :
    runs (.writeBack (from_ 66) 3125 (some (List.replicate 16 7))) (dir .owned [66] none) (fun t =>
      t.rd 50000 == 7 && (t.dir 3125).isNone) = true := by decide +kernel
theorem test_acknowledge :
    runs (.acknowledge 63 (from_ 66) 3125 false) (dir .busy [66] (some openTx)) (fun t => !t.lineWaits 3125) = true := by
  decide +kernel

/-- Line 2^32 is homed at module 1; tile 1 of this module holds it in a state, with a transaction's tag. -/
def tileFor (st : TileState) (waiter : Option (Nat × Nat × Bool)) : State :=
  let k := tileKey 1 (2 ^ 32)
  { demo with dy := { Domain.init with
      members := 3, tiles := [(k, { st := st, way := 0, age := 0, tag := 3, waiter := waiter, keep := false })],
      attempts := [(attemptKey 1 (2 ^ 32), 2)], heldSnoops := [(k, { kind := .share, tag := 3, orig := 65 })] } }

def tile (st : TileState) : State := tileFor st none

/-- A core of tile 1 that holds the line reserved, with an open window. -/
def deferringTile (st : TileState) : State :=
  ({ tile st with sp := { (tile st).sp with siteOf := [(0, 0), (1, 1), (2, 2), (3, 26)] } }).modCore 3
    (fun k => { k with res := some { line := 2 ^ 32, deferring := true, snooped := false } })

/-- The line waits for the store of core 0 with number 4, which its buffer holds. -/
def waitedTile : State :=
  let w : SbWord := { off := 1, val := 7, mask := BitVec.allOnes 36, seq := 4 }
  let e : SbEntry := { kind := .cached, addr := 2 ^ 32, wide := false, level := 0, vaddr := 0, words := [w] }
  (tileFor .m (some (0, 4, true))).modCore 0 (fun k => { k with sb := [e] })

/-- Every state of a tile and none, with the window of a reservation open and not; the tags of the grant and of the data, and
another; a NAK that has been counted; a held snoop whose access has been performed, and one whose access has not. -/
theorem witness_TileSnoops :
    ([TileState.s, .e, .m, .imS, .miS, .eiS, .siS, .smS, .isS].all (fun x => (tile x).tile 1 (2 ^ 32) == some x &&
        ((tile x).tileLine 1 (2 ^ 32)).elim false (fun y => y.tag == (from_ 65).head.tag && !y.keep) &&
        !(tile x).deferred 1 (2 ^ 32)) &&
      (demo.tile 1 (2 ^ 32)).isNone && lineHome (2 ^ 32) == 1 && wfMsg (from_ 1) && (from_ 1).agent == 64 * demo.dy.modnum + 1 &&
      [TileState.s, .e, .m].all (fun x => (deferringTile x).deferred 1 (2 ^ 32) && (deferringTile x).tile 1 (2 ^ 32) == some x) &&
      ((tile .smS).tileLine 1 (2 ^ 32)).elim false (fun y => y.tag != 4) && tget (tile .imS).dy.attempts 0 (attemptKey 1 (2 ^ 32)) == 2 &&
      tget demo.dy.attempts 0 (attemptKey 1 (2 ^ 32)) == 0 &&
      (tile .m).dy.heldSnoops.find? (fun e => e.1 == tileKey 1 (2 ^ 32)) ==
        some (tileKey 1 (2 ^ 32), { kind := .share, tag := 3, orig := 65 }) &&
      (demo.dy.heldSnoops.find? (fun e => e.1 == tileKey 1 (2 ^ 32))).isNone && (tile .m).served (2 ^ 32) none &&
      !waitedTile.served (2 ^ 32) (some (0, 4, true)) && (from_ 65).head.poisoned == false &&
      ({ from_ 65 with head := { (from_ 65).head with poisoned := true } }).head.poisoned && wfAccessor zen && host.role != .z &&
      decide (demo.dy.modnum < 16)) = true := by decide +kernel
/-- A snoop of another home's line: the tile goes to S and the answer waits on the link; an invalidate ends the copy. -/
theorem test_snoop_share :
    (runs (.snoopShare (from_ 1) (2 ^ 32)) (tile .m) (fun t => t.tile 1 (2 ^ 32) == some .s) &&
     runs (.invalidate (from_ 1) (2 ^ 32)) (tile .s) (fun t => t.tile 1 (2 ^ 32) == none)) = true := by decide +kernel

def link (v : Link) : State :=
  { demo with dy := { Domain.init with members := 3, membersNext := 3, links := [(0, v)] } }

def flitOf (n : Nat) : Flit := { seq := n, ackSeq := 0, cvc := 0, ccnt := 0, body := .data [] }
def active : Link := { Link.init with st := .active, g0 := true, g1 := true }

/-- A domain of modules 0 to 2 in which module 2 can be a relay to module 1. -/
def relayed : State :=
  { demo with dy := { Domain.init with members := 7, membersNext := 7, links := [(0, active), (1, active)], view := [(2, 2 ^ 15 - 1)] } }

theorem witness_LinkRows :
    ([LinkSt.training, .detoured, .down, .identify, .active, .retraining].all (fun x => ((link { active with st := x }).link 0).st == x) &&
      (link active).isMember ((link active).linkPeer 0) && ((link { active with st := .retraining }).link 0).admin == 0 &&
      ((link { active with st := .detoured, replayBuf := [flitOf 4, flitOf 5] }).link 0).replayBuf.findIdx? (fun f => f.seq == 4) == some 0 &&
      [true, false].all (fun b => ((link { active with st := .detoured, drainSent := b, resent := b }).link 0).drainSent == b) &&
      ((link { active with replayCount := 7, lastReplay := 4 }).link 0).replayCount + 1 == 8 && active.replayCount + 1 < 8 &&
      ((link { active with st := .detoured }).link 0).admin != 3 && wfFlit flit && tget demo.dy.view 0 3 != 5 % 2 ^ 15 &&
      (let f := (link { active with g1 := false }).fenceGroup 0 0
       !(f.link 0).g0 && !(f.link 0).g1) &&
      [LinkSt.active, .down, .identify, .retraining, .training].all (fun x =>
        ({ demo with tw := { demo.tw with linkSt := x } }).tw.linkSt == x) && !((link active).link 1).g0 &&
      (link active).reachSet [1] == [0, 1] && (link active).reachSet [] != (link active).memberList &&
      ((link active).relay 1).isNone && (relayed.relay (relayed.linkPeer 0)).isSome && relayed.isMember (relayed.linkPeer 0) &&
      (link active).memberList == [0, 1] && (link active).majority [] && !({ (link active) with dy := { (link active).dy with members := 7 } }).majority [] &&
      wfAccessor host && [0, 15].all wfModule) = true := by decide +kernel
theorem test_link_life :
    (runs (.training 0 true false) (link { active with st := .training }) (fun t => (t.link 0).st == .identify && !(t.link 0).g1) &&
     runs (.identify 0 true) (link { active with st := .identify }) (fun t => (t.link 0).st == .active) &&
     runs (.identify 0 false) (link { active with st := .identify }) (fun t => (t.link 0).st == .mismatch && (t.fsrc 982).held == 2) &&
     runs (.linkFailure 0) (link active) (fun t => (t.link 0).st == .retraining) &&
     runs (.trainingRetry 0) (link { active with st := .down }) (fun t => (t.link 0).st == .training)) = true := by decide +kernel
theorem test_partition_minority :
    runs (.partitionRule []) { (link active) with dy := { (link active).dy with members := 7 } } (fun t => t.md.st == .halted) = true := by
  decide +kernel

/-! ## Witnesses: engines and keys -/

/-- One request in slot 0 of ring 0 of tenant 5: words 0-1, SRC at word 34816, DST at word 35328. -/
def request (d0 : Nat) : State :=
  let s := withBlock rings 33792 (dword 33792 d0 ++ dword 33794 156672 ++ dword 33796 158976)
  { s with
    cx := { rings.cx with tenants := [(5, { CxTenant.init with slice := 1, rings := [(0, { ring with sub := 1 })] })] }
    ci := { rings.ci with tenants := [(5, { CiTenant.init with
      ringSlice := 1, handleSlice := 2, rings := [(0, { ring with sub := 1 })],
      keys := [(1, { KeySlot.init with loaded := true, enc := true, dec := true, key := List.replicate 16 0 })] })] } }

/-- NEW, MAXBITS 12, 12 symbols in at most 64 octets. -/
def cxWord (op : Nat) : Nat := op * 2 ^ 70 + 2 ^ 68 + 12 * 2 ^ 60 + (if op = 0 then 12 else 40) * 2 ^ 23 + 64

theorem witness_CompressionRows :
    ([0, 1].all (fun op =>
      let s := request (cxWord op)
      let q := s.cxNext 5 0
      let g := s.cxRing 5 0
      g.opened && !g.squash && g.waiting != 0 && reads s compressionAgent 5 (g.slotWords 0) && reads s compressionAgent 5 (s.cxReads 5 q) &&
        !reads (elsewhere s [33792]) compressionAgent 5 (g.slotWords 0) &&
        (let e := elsewhere s [34816]
         reads e compressionAgent 5 (g.slotWords 0) && !reads e compressionAgent 5 (e.cxReads 5 q)) && s.laneEnabled 47 && s.blockOpen 47 && !s.cx.busy.contains 47 &&
        decide ((s.cxT 5).lanesHeld < (s.cxT 5).laneLimit) && s.worksNow && q.fresh && q.op == op && !q.invalid && s.cxTranslates 5 q) &&
      ((request 0).cxNext 5 0).invalid && !(request (cxWord 0)).cxTranslates 5 { ((request (cxWord 0)).cxNext 5 0) with d2 := BitVec.ofNat 72 (2 ^ 45) } &&
      ((request (cxWord 0)).restore 5 ((request (cxWord 0)).cxNext 5 0)).isNone && !(demo.cxRing 5 0).opened &&
      (let q := (request (cxWord 0 - 2 ^ 68)).cxNext 5 0
       !q.fresh && [({ slot := 0, words := [], irq := false, unit := 3, handle := q.ctx + 1 } : Ran)].all (fun y => y.handle == q.ctx + 1)) &&
      (let s := request (cxWord 0)
       let g := { s.cxRing 5 0 with squash := true }
       g.ran == [] && g.waiting != 0 && g.comp == g.started && s.agentQuiet compressionAgent &&
         !({ s with dy := { s.dy with agents := [(compressionAgent * 2 ^ 36 + 9, { tag := 3, st := .writing })] } }).agentQuiet compressionAgent) &&
      (let x : Ran := { slot := 0, words := [], irq := false, unit := 3, handle := 0 }
       rings.cxHasLane x && !({ rings with md := { rings.md with lanes := 0 } }).cxHasLane { x with unit := 48 }) &&
      (rings.cxRing 5 0).ran == [] && wfAccessor sup && rings.reach sup 5 && decide (fld (1 : Word) 15 0 < 2 ^ (rings.cxT 5).slice) &&
      decide (2 ^ (rings.cxT 5).slice ≤ fld (2 : Word) 15 0)) = true := by decide +kernel
/-- The code stream of the worked example of Table 9.8. -/
theorem test_compress :
    (lzwStream false ⟨9, 18, []⟩ (List.replicate 45 32)).1 =
      [0x08, 0x20, 0x28, 0x0E, 0x04, 0x81, 0x60, 0x68, 0x1E, 0x08, 0x82, 0x60, 0x10] := by decide +kernel
theorem test_cx_close :
    runs (.cxClose sup 5 1) rings (fun t => !(t.cxRing 5 0).opened || (t.cxRing 5 0).closing) = true := by decide +kernel

/-- One block with the key of handle 1. -/
def ciWord (op handle blocks : Nat) : Nat := op * 2 ^ 70 + handle * 2 ^ 48 + blocks

theorem witness_CipherRows :
    ([0, 1].all (fun op =>
      let s := request (ciWord op 1 1)
      let q := s.ciNext 5 0
      let g := s.ciRing 5 0
      g.opened && !g.squash && g.waiting != 0 && reads s cipherAgent 5 (g.slotWords 0) &&
        !reads (elsewhere s [33792]) cipherAgent 5 (g.slotWords 0) && s.aesEnabled 23 && s.blockOpen 71 && !s.ci.busy.contains 23 &&
        decide ((s.ciT 5).coresHeld < (s.ciT 5).coreLimit) && s.worksNow && q.op == op && s.ciCheck 5 0 q == 0) &&
      (let s := request (ciWord 0 0 1)
       s.ciCheck 5 0 (s.ciNext 5 0) == 1) &&
      (let s := request (ciWord 0 2 1)
       s.ciCheck 5 0 (s.ciNext 5 0) == 7) && !(demo.ciRing 5 0).opened &&
      (let s := request (ciWord 1 1 1)
       s.ciCheck 5 0 { s.ciNext 5 0 with d2 := BitVec.ofNat 72 (2 ^ 45) } == 6) &&
      (let k : KeySlot := { KeySlot.init with loaded := true, enc := true, dec := false, used := 2 ^ 40 }
       k.loaded && k.enc && !k.dec && !decide (k.used + 1 ≤ 2 ^ 40)) &&
      (let s := request (ciWord 0 1 1)
       let x : Ran := { slot := 0, words := [], irq := false, unit := 23, handle := 1, left := 1, total := 1, src := 156672, dst := 158976 }
       s.ciHasCore x && reads s cipherAgent 5 (x.blockWords 1) && !({ s with ci := { s.ci with busy := List.range 24 } }).ciHasCore { x with unit := 24 } && s.agentQuiet cipherAgent) && (rings.ciRing 5 0).ran == [] && rings.reach sup 5) = true := by
  decide +kernel
/-- The AES-128 example of FIPS 197. -/
theorem test_encrypt :
    aesEncrypt [0, 1, 2, 3, 4, 5, 6, 7, 8, 9, 10, 11, 12, 13, 14, 15]
      [0x00, 0x11, 0x22, 0x33, 0x44, 0x55, 0x66, 0x77, 0x88, 0x99, 0xaa, 0xbb, 0xcc, 0xdd, 0xee, 0xff] =
      [0x69, 0xc4, 0xe0, 0xd8, 0x6a, 0x7b, 0x04, 0x30, 0xd8, 0xcd, 0xb7, 0x80, 0x70, 0xb4, 0xc5, 0x5a] := by decide +kernel
theorem test_encrypt_row :
    runs (.encrypt 5 0 0) (request (ciWord 0 1 1)) (fun t => (t.keySlot 5 1).used == 1 && t.ci.busy == [0] &&
      (t.ciRing 5 0).started == 1) = true := by decide +kernel

def keyed : State :=
  { rings with ci := { rings.ci with tenants := [(5, { CiTenant.init with
      ringSlice := 1, handleSlice := 2, addrLo := 147456,
      kek := some (List.replicate 32 0), keys := [(1, { KeySlot.init with loaded := true, exportOk := true, key := List.replicate 16 0 })] })] } }

/-- GO with an operation, a size and a handle (Table 10.9); each command and both checks of EXPORT. -/
theorem witness_KeyCommands :
    (wfAccessor sup && keyed.reach sup 5 && keyed.reach host 5 && !(keyed.ciT 5).busy && !keyed.drainingT 5 && (keyed.ciT 5).handleSlice == 2 &&
      [0, 1, 2, 3, 4].all (fun op => let v : Word := BitVec.ofNat 36 (2 ^ 35 + op * 2 ^ 30 + 1)
        fld v 33 30 == op && fld v 29 28 == 0 && fld v 9 0 == 1 && bit v 35) &&
      reads keyed cipherAgent 5 (keyed.keyReads 5 1 0) && reads keyed cipherAgent 5 (keyed.keyReads 5 2 0) &&
      keyed.octetsOk 5 Need.load 147456 48 && keyed.octetsOk 5 Need.store 147456 48 && !keyed.octetsOk 5 Need.load (2 ^ 50) 16 &&
      (keyed.keySlot 5 1).loaded && (keyed.keySlot 5 1).exportOk && !(keyed.keySlot 5 0).loaded && (keyed.ciT 5).kek.isSome &&
      (keyed.ciT 5).change.isNone && !keyed.twinServes &&
      (keyed.setCiT 5 { (keyed.ciT 5) with change := some { handle := 1, slot := KeySlot.init, item := none } }).ciT 5 != keyed.ciT 5) =
      true := by decide +kernel
theorem test_key_commands :
    (runs (.loadPlain sup 5 (BitVec.ofNat 36 (2 ^ 35 + 2 ^ 30 + 2 ^ 27))) keyed (fun t => (t.ciT 5).busy && (t.ciT 5).change.isSome &&
        !(t.keySlot 5 0).loaded) &&
     runs (.loadPlain host 5 (BitVec.ofNat 36 (2 ^ 35 + 2 ^ 30))) keyed (fun t => (t.ciT 5).rejectH && (t.ciT 5).change.isNone) &&
     runs (.exportWrapped sup 5 (BitVec.ofNat 36 (2 ^ 35 + 4 * 2 ^ 30))) keyed (fun t => (t.ciT 5).resStatus == 1)) = true := by
  decide +kernel
theorem test_effect_point :
    runs (.effectPoint 5) (keyed.setCiT 5 { (keyed.ciT 5) with busy := true, change := some { handle := 1, slot := KeySlot.init, item := none } })
      (fun t => !(t.keySlot 5 1).loaded && !(t.ciT 5).busy && (t.ciT 5).resValid) = true := by decide +kernel
/-! ## Witnesses: tenants, worlds, the router -/

/-- Tenant 5 selected by the Owner; cores 2 and 3 not running for it. -/
def selected (st : TenSt) : State :=
  { demo with cores := [(0, coreOf 0), (1, coreOf 1)]
              tn := { demo.tn with tenants := [(5, { Tenant.init with st := st })] }
              tw := { demo.tw with enabled := false }
              sv := { demo.sv with selects := [(demo.selectKey own 0x1500 1, 5)] } }

theorem witness_TenantLife :
    ((selected .active).select own 0x1500 1 == 5 && may (selected .absent) own 0x1500 2 1 && may (selected .active) own 0x1500 2 2 &&
      may (selected .stopped) own 0x1500 2 3 && !(selected .active).coreRuns 5 && !(selected .active).tn.absent &&
      !(selected .active).tw.enabled && ((selected .draining).tenant 5).st == .draining && ((selected .active).tenant 5).st == .active) =
      true := by decide +kernel
theorem test_create :
    (runs (.create own) (selected .absent) (fun t => (t.tenant 5).st == .active && t.sv.answerAbort == 0) &&
     runs (.create own) (selected .active) (fun t => t.sv.answerAbort == 0x0B) &&
     runs (.delete own) (selected .active) (fun t => (t.tenant 5).st != .active) &&
     runs (.delete own) demo (fun t => t.sv.answerAbort != 0)) = true := by decide +kernel

def blockOf (st : BlockSt) (gate busy : Bool) : State :=
  { demo with tn := { demo.tn with blocks := [(0, { Block.init with st := st, gateHeld := gate })], hoBusy := busy, hoOp := 1, hoTarget := 0 } }

theorem witness_WorldsHandOver :
    (wfAccessor zen && !demo.tn.absent && !demo.tn.hoBusy && (demo.block 0).st == .opened && decide (demo.heldBlocks 0 < (demo.loanOf 0).2.2) &&
      decide ((demo.loanOf 103).2.2 ≤ demo.heldBlocks 103) && demo.ch.chans == [] &&
      [BlockSt.fenced, .sealed, .releasing, .claiming].all (fun x => ((blockOf x true true).block 0).st == x) &&
      !(blockOf .claiming false true).blockBusy 0 && !((blockOf .claiming false true).block 0).gateHeld && host.role != .z &&
      may { demo with tn := { demo.tn with absent := true } } own 0x1500 0x0A 1 && may demo own 0x1500 0x0A 1 && bit (2 ^ 35 : Word) 35) =
      true := by decide +kernel
theorem test_claim :
    (runs (.claim zen 0) demo (fun t => (t.block 0).st == .claiming && t.tn.hoBusy) &&
     runs (.handOverComplete true) (blockOf .claiming false true) (fun t => (t.block 0).st == .sealed && !t.tn.hoBusy && t.tn.hoValid) &&
     runs (.release zen 0) demo (fun t => (t.block 0).st == .opened && t.tn.hoStatus == 5) &&
     runs (.claim host 0) demo (fun t => (t.block 0).st == .opened)) = true := by decide +kernel
theorem test_zenith_watchdog :
    runs .zenithWatchdogExpiry demo (fun t => t.tn.absent && (t.fsrc 1234).held == 2) = true := by decide +kernel

/-- Source 0 of tenant 5, in a state and with a priority. -/
def source (st : SrcSt) (prio : Nat) (defer : Bool) : State :=
  { demo with ir := { Router.init with pages := [(5, { SrcPage.init with slice := 2, srcs := [(0,
      { Src.init with st := st, enable := true, prio := prio, tgt := 2, acore := 2, defer := defer })] })] } }

/-- Both ends of the slice, of the priorities and of the targets. -/
theorem witness_InterruptRouter :
    (let o : Owner := .tenant 5
     wfAccessor sup && wfOwner o && demo.reach sup 5 && decide (0 < ((source .pending 63 false).page 5).slice) &&
      decide (((source .pending 63 false).page 5).slice ≤ 2) && !((source .pending 63 false).src 5 0).away &&
      [SrcSt.inactive, .pending, .active, .activePending].all (fun x => ((source x 1 false).src 5 0).st == x) &&
      ((source .inactive 0 true).src 5 0).prio == 0 && ((source .inactive 0 true).src 5 0).defer && pageRight 5 .g true true true false &&
      !pageRight 5 .u true true true false && pageRight 5 .h true true false false && !pageRight 5 .g true true false false &&
      (source .pending 63 false).ownWindow sup 5 && !(source .pending 63 false).ownWindow host 5 &&
      ((source .pending 63 false).best 5 2).isSome && ((source .inactive 63 false).best 5 2).isNone && tgtOk 5 99 && !tgtOk 5 100 &&
      tgtOk 5 127 && !tgtOk 5 126 && demo.reach host 5 && (demo.page 5).srcs == []) = true := by decide +kernel
theorem test_claim_complete :
    (runs (.irtClaim sup (.tenant 5)) (source .pending 63 false) (fun t => t.sv.regAnswer == 0 && (t.src 5 0).st == .active &&
        (t.src 5 0).apri == 63) &&
     runs (.irtClaim sup (.tenant 5)) (source .inactive 63 false) (fun t => t.sv.regAnswer == 8191) &&
     runs (.irtComplete sup (.tenant 5) 0) (source .activePending 63 false) (fun t => (t.src 5 0).st == .pending) &&
     runs (.doorbell (.tenant 5) 0) (source .active 1 false) (fun t => (t.src 5 0).st == .activePending) &&
     runs (.doorbell (.tenant 5) 0) (source .inactive 0 false) (fun t => (t.src 5 0).defer && (t.src 5 0).st == .inactive)) = true := by
  decide +kernel
theorem test_irt_tgt :
    (runs (.irtTgt host (.tenant 5) (some 0) 99) (source .inactive 1 false) (fun t => (t.src 5 0).tgt == 99) &&
     runs (.irtTgt host (.tenant 5) (some 0) 100) (source .inactive 1 false) (fun t => (t.src 5 0).tgt == 2 && (t.page 5).rejectH)) = true := by
  decide +kernel

/-! ## Witnesses: service -/

/-- The key switch at SERVICE, with an Owner's and a Service session. -/
def serving : State := { demo with sv := { demo.sv with key := .service, sessions := [session 1 1, session 3 3] } }

def sspRequest (counter : Nat) (auth : Bool) : SspRequest :=
  { to_ := { segB := true, serial := 0x4E2A07C19B3D0056 }, session := 1, counter := counter, authentic := auth, reqTag := 10, last := true, index := 0x1000, sub := 0x0A, offset := 0, value := [1] }

theorem witness_ServiceProtocol :
    ((sspRequest 5 true).to_.serial == serving.sv.serial && serving.recentOpens true 0 == 0 && serving.md.st != .off && !serving.tn.absent && serving.sv.serial == 0x4E2A07C19B3D0056 && serving.odGate .anyone 0x0100 1 false true 0 == 0 &&
      serving.odGate .anyone 0x1000 1 false true 0 != 0 && decide (serving.sv.sessions.length < 8) && (serving.session 2).isNone &&
      (serving.session 1) == some (session 1 1) && decide (4 < (sspRequest 5 true).counter) && decide ((sspRequest 4 true).counter ≤ 4) &&
      (session 1 1).lastTag != some (sspRequest 5 true).reqTag && decide (2 ≤ (session 1 1).badTags) &&
      (({ serving with sv := { serving.sv with sessions := List.replicate 8 (session 1 1) } }).sv.sessions.length == 8) &&
      (let y := { session 1 1 with rxCounter := 5, badTags := 0 }
       let u := serving.setSession y
       (u.odRead (.session 1) 0x1000 0x0A).sv.answerAbort == 0 && u.odGate ((u.routeRole (.session 1)).getD .anyone) 0x1000 0x0A true true 1 == 0 &&
       ((u.setSession { y with piece := none }).odWrite (.session 1) 0x1000 0x0A [1]).sv.answerAbort == 0)) = true := by decide +kernel
/-- Ten OPENs of segment B were accepted at the count that the persisted floor holds still. -/
def opened : State :=
  { serving with tm := { serving.tm with tod := 5, floor := 6 }, sv := { serving.sv with opens := List.replicate 10 (true, 5) } }

theorem witness_ServiceProtocol_opens : 10 ≤ opened.now.2.recentOpens true opened.now.1 := by
  have h : opened.tm.tod = 5 ∧ opened.tm.floor = 6 := by decide +kernel
  have t : opened.now.1 = 5 := by simp only [State.now, h.1, h.2]; omega
  have o : opened.now.2.sv.opens = List.replicate 10 (true, 5) := rfl
  simp only [State.recentOpens, t, o]
  decide
theorem test_request_write :
    (runs (.requestWrite { (sspRequest 5 true) with value := [0] }) serving (fun t => !t.md.startPermit && t.out.length == 1 &&
        ((t.session 1).map (·.rxCounter)) == some 5) &&
     runs (.requestWrite (sspRequest 4 true)) serving (fun t => t.out == [] && t.sv.discarded == 1) &&
     runs (.requestRead (sspRequest 5 false)) serving (fun t => (t.session 1).isNone && t.sv.discarded == 1)) = true := by decide +kernel

theorem witness_ObjectsAndRegisters :
    (mayOctets serving (.session 1) 0x0300 4 (List.replicate 32 7) && (serving.routeRole (.session 2)).isNone &&
      mayOctets demo own 0x1A00 1 [1] && mayOctets demo own 0x1000 0x0A [0] && mayOctets demo own 0x1500 1 [1, 255] &&
      demo.ctlReach host 0o000040060002 && !demo.ctlReach sup 0o000040060020 && ctlPage 0o000040060002 == .modulePage 6 &&
      ctlPage 0 == .outside && demo.ctlReach host 0 && zhg.contains host.role) = true := by decide +kernel
theorem test_object_write :
    (runs (.objectWrite own 0x1A00 1 [1]) demo (fun t => t.sv.identify && t.sv.answerAbort == 0) &&
     runs (.objectWrite own 0x1A00 1 [2]) demo (fun t => !t.sv.identify && t.sv.answerAbort == 8) &&
     runs (.objectWrite (.inBand 2) 0x1000 0x0A [0]) demo (fun t => t.sv.answerAbort == 1)) = true := by decide +kernel
/-- SV_S1ROOT: HI is held until LO is written (Table 11.20). -/
theorem test_register_write :
    (match exec (.registerWrite sup 0o000040060001 1) demo with
     | .next u => (u.core 2).s1root == 16384 && runs (.registerWrite sup 0o000040060002 2048) u (fun t =>
         (t.core 2).s1root == 2 ^ 36 + 2048)
     | _ => false) = true := by decide +kernel
theorem test_credential :
    runs (.credential (.session 1) 4 (List.replicate 32 7)) serving (fun t => t.sv.credOwner == List.replicate 32 7) = true := by
  decide +kernel

def image : ImageFile :=
  { complete := true, formatOk := true, keysOk := true, signaturesOk := true, version := 2, secver := 0, nblocks := 4, badBlock := none,
    patchVersion := 1, patch := [], matches_ := [], fallBack := [] }
def card : MediumContents := { usable := true, enrollment := none, image := some image }

/-- A card is in, the energy suffices, and bank B holds a staged image. -/
def updating : State :=
  { demo with es := { demo.es with reserve := 8000 }
              sv := { demo.sv with key := .service, medium := 2, bankB := { Bank.init with st := .staged, secver := 1 } } }

def enrollment : List Octet := List.replicate 52 0

theorem witness_PanelAndMedium :
    (updating.sv.key == .service && !updating.ownerLocked && updating.sv.mediumEnable && updating.sv.medium == 2 && card.usable &&
      card.enrollment == none && updating.updateRefused == 0 && demo.updateRefused != 0 && demo.fc.srcs == [] && demo.sv.key != .service &&
      noCredential demo.sv.credOwner && !noCredential (List.replicate 32 7) && (updating.enrollment enrollment).isNone && State.reset.md.st == .off &&
      (let c : MediumContents := { card with enrollment := some enrollment }
       c.enrollment == some enrollment) &&
      (let l : List Octet := natOct 4 0x4E50454E ++ natOct 8 0x4E2A07C19B3D0056 ++ [1, 0, 0, 0] ++ List.replicate 32 7
       (updating.enrollment (l ++ natOct 4 (crc32c l).toNat)).isSome)) = true := by decide +kernel
theorem test_key_switch :
    (runs (.keySwitch (.at_ .run)) serving (fun t => t.sv.sessions.map (·.id) == [1] && t.sv.key == .run) &&
     runs (.mediumAction card) updating (fun t => t.sv.bankB.st == .staging && t.sv.updateStatus == 2) &&
     runs .identifyPress demo (fun t => t.sv.identify)) = true := by decide +kernel

theorem witness_Firmware :
    ([1, 2, 3, 5].all (may updating own 0x1800 0x0A) && may { updating with sv := { updating.sv with bankA := { Bank.init with st := .active, secver := 1 } } } own 0x1800 0x0A 4 &&
      updating.updateRefused == 0 && demo.updateRefused != 0 && updating.sv.inactive.st == .staged && demo.sv.inactive.st != .staged &&
      decide (updating.sv.fusedSecver ≤ image.secver) && !patchRefused [] [] && patchRefused [] [2 ^ 30] &&
      (let go (n : Nat) (bad : Option Nat) : State :=
         { updating with sv := { updating.sv with staging := some { image with badBlock := bad }, blocksStaged := n } }
       (go 0 (some 0)).sv.staging.isSome && (go 0 none).sv.blocksStaged + 1 < image.nblocks && image.nblocks ≤ (go 3 none).sv.blocksStaged + 1) &&
      updating.sv.staging == none && may updating own 0x1902 4 1 && may updating own 0x1902 4 2 &&
      may { demo with tn := { demo.tn with absent := true } } own 0x1902 4 1 && (parseImage []).isNone) = true := by decide +kernel
theorem test_firmware :
    (runs (.activateAtDawn own true) updating (fun t => t.sv.selectedB && !t.sv.activeB) &&
     runs (.activateLive own true true) updating (fun t => t.sv.activeB && t.sv.bankB.st == .active) &&
     runs (.stage own { card with image := some { image with badBlock := some 0 } }) updating (fun t => t.sv.bankB.st == .staging &&
       t.stageBlock.sv.bankB.st == .invalid && t.stageBlock.sv.updateStatus == 7) &&
     runs (.stage own card) updating (fun t => t.stageBlock.sv.bankB.st == .staging && t.stageBlock.sv.blocksStaged == 1 &&
       t.stageBlock.stageBlock.stageBlock.stageBlock.sv.bankB.st == .staged)) = true := by decide +kernel

/-! ## Witnesses: the queue and memory -/

theorem witness_WellFormedQueueRuns :
    QueueWf { demo with pending := [.porstNHigh, .capRaise] } ∧ ∃ t, exec .porstNHigh demo = .next t :=
  ⟨by unfold QueueWf; decide +kernel, _, rfl⟩

theorem witness_RefusedExactlyIllFormed : (Instr.mediumChange 3).wf = false ∧ (Instr.mediumChange 2).wf = true := by decide +kernel

theorem witness_MemoryStaysCanonical :
    MemoryWf demo ∧ ∃ t, step { demo with pending := [.porstNHigh] } = .next t := ⟨by unfold MemoryWf; decide +kernel, _, rfl⟩

theorem witness_MemoryReadAfterWrite : MemoryWf demo := by unfold MemoryWf; decide +kernel

/-- A masked write changes the masked bits of its word and no other word, and clears a word that becomes zero. -/
theorem test_masked_write :
    (let t := demo.wrMask 28680 0o7 0o777
     t.rd 28680 == 0o400000000007 && t.rd 28683 == demo.rd 28683 && t.mem.wf &&
      (demo.wrMask 28683 0 (BitVec.allOnes 36)).mem.words.length + 1 == demo.mem.words.length) = true := by decide +kernel
end Sys2Proof.Tests
end

section
/-! # Masked line writes

What a masked write of a line leaves in each word and in each line's poison (R164, R178), and obligation O6. -/

namespace Sys2Proof.Machine
open Sys2Proof.Safety

/-- The masked write of the first `n` words of a line (R164). -/
def State.wrMasks (s : State) (line : Nat) (ws mask : List Word) (n : Nat) : State :=
  (List.range n).foldl (fun s i => s.wrMask (line * 16 + i) (wordAt ws i) (wordAt mask i)) s

theorem State.wrMasks_succ (s : State) (line : Nat) (ws mask : List Word) (n : Nat) :
    s.wrMasks line ws mask (n + 1) =
      (s.wrMasks line ws mask n).wrMask (line * 16 + n) (wordAt ws n) (wordAt mask n) := by
  simp [State.wrMasks, List.range_succ]

theorem State.wrLineMask_eq (s : State) (line : Nat) (ws mask : List Word) :
    s.wrLineMask line ws mask =
      if (List.range 16).all (fun i => wordAt mask i == BitVec.allOnes 36) then
        (s.wrMasks line ws mask 16).setPoison line false
      else s.wrMasks line ws mask 16 := rfl

theorem State.rd_wrMasks (s : State) (line a : Nat) (ws mask : List Word) (n : Nat) :
    (s.wrMasks line ws mask n).rd a =
      if line * 16 ≤ a ∧ a < line * 16 + n then
        (s.rd a &&& ~~~(wordAt mask (a - line * 16))) ||| (wordAt ws (a - line * 16) &&& wordAt mask (a - line * 16))
      else s.rd a := by
  induction n with
  | zero => rw [if_neg (by omega)]; rfl
  | succ n ih =>
    rw [wrMasks_succ, rd_wrMask]
    by_cases ha : a = line * 16 + n
    · have unwritten : (s.wrMasks line ws mask n).rd a = s.rd a := by rw [ih, if_neg (by omega)]
      rw [if_pos ha, if_pos (by omega), ← ha, unwritten, ha, Nat.add_sub_cancel_left]
    · have same : (line * 16 ≤ a ∧ a < line * 16 + (n + 1)) ↔ (line * 16 ≤ a ∧ a < line * 16 + n) := by omega
      rw [if_neg ha, ih]
      simp only [same]

@[simp] theorem State.poisoned_wrMask (s : State) (a l : Nat) (w m : Word) :
    (s.wrMask a w m).poisoned l = s.poisoned l := rfl

theorem State.poisoned_wrMasks (s : State) (line l : Nat) (ws mask : List Word) (n : Nat) :
    (s.wrMasks line ws mask n).poisoned l = s.poisoned l := by
  induction n with
  | zero => rfl
  | succ n ih => rw [wrMasks_succ, poisoned_wrMask, ih]

theorem State.rd_wrLineMask (s : State) (line a : Nat) (ws mask : List Word) :
    (s.wrLineMask line ws mask).rd a =
      if a / 16 = line then
        (s.rd a &&& ~~~(wordAt mask (a % 16))) ||| (wordAt ws (a % 16) &&& wordAt mask (a % 16))
      else s.rd a := by
  have whole : (s.wrLineMask line ws mask).rd a = (s.wrMasks line ws mask 16).rd a := by
    rw [wrLineMask_eq]
    split
    · rw [rd_setPoison]
    · rfl
  rw [whole, rd_wrMasks]
  by_cases ha : a / 16 = line
  · have offset : a - line * 16 = a % 16 := by omega
    rw [if_pos ha, if_pos (by omega), offset]
  · rw [if_neg ha, if_neg (by omega)]

theorem State.poisoned_wrLineMask (s : State) (line l : Nat) (ws mask : List Word) :
    (s.wrLineMask line ws mask).poisoned l =
      if l = line ∧ (List.range 16).all (fun i => wordAt mask i == BitVec.allOnes 36) then false else s.poisoned l := by
  rw [wrLineMask_eq]
  split
  case isTrue full => simp only [poisoned_setPoison, poisoned_wrMasks, full, and_true]
  case isFalse partly => rw [poisoned_wrMasks, if_neg (fun h => partly h.2)]

/-- Settles O6: one word by the rules of `wrMask`, a line by induction on the words written so far. -/
theorem memoryReadAfterWrite : Obligations.MemoryReadAfterWrite := by
  unfold Obligations.MemoryReadAfterWrite
  refine ⟨fun s a b w m hs => ⟨State.wrMask_wf hs a w m, State.rd_wrMask s a b w m⟩, fun s line a ws mask _ => ?_⟩
  refine ⟨State.rd_wrLineMask s line a ws mask, ?_, fun l hl => ?_⟩
  · simp only [State.poisoned_wrLineMask, true_and]
  · rw [State.poisoned_wrLineMask, if_neg (fun h => hl h.1)]

end Sys2Proof.Machine
end

section
/-! # Every step keeps memory in its canonical form

Obligation O4, one lemma for each function of the model that a step reaches, in the model's own order. A lemma
`F_mem` says that `F` leaves memory alone; a lemma `F_wf` that `F`, which may write to memory, keeps it canonical, from
the rules of the memory operations (`State.wr_wf`, `State.wrLineMask_wf`, `State.setTag_wf` and their companions); a lemma
`execX_canonical` that the command `X` does. What runs a function given to it (an instruction's execution, a unit of a
long instruction, a fold) asks that function to keep memory canonical, and the retry loops go by induction on their
fuel. -/

namespace Sys2Proof.Machine
open Sys2Proof.Safety

/-! ## Conditionals, folds and outcomes -/

@[simp] theorem State.mem_ite (c : Prop) [Decidable c] (s t : State) :
    (if c then s else t).mem = if c then s.mem else t.mem := apply_ite ..

@[simp] theorem Mem.wf_ite (c : Prop) [Decidable c] (m n : Mem) :
    (if c then m else n).wf = if c then m.wf else n.wf := apply_ite ..

@[simp] theorem State.fst_mem_ite {α : Type} (c : Prop) [Decidable c] (p q : State × α) :
    (if c then p else q).1.mem = if c then p.1.mem else q.1.mem := by split <;> rfl

@[simp] theorem State.snd_mem_ite {α : Type} (c : Prop) [Decidable c] (p q : α × State) :
    (if c then p else q).2.mem = if c then p.2.mem else q.2.mem := by split <;> rfl

theorem foldl_unchanged {α β γ : Type} (g : β → γ) {f : β → α → β} (hf : ∀ b a, g (f b a) = g b) (l : List α) (b : β) :
    g (l.foldl f b) = g b :=
  List.foldlRecOn (motive := fun c => g c = g b) l f rfl (fun c hc a _ => (hf c a).trans hc)

@[simp] theorem foldl_mem {α : Type} {f : State → α → State} (hf : ∀ s a, (f s a).mem = s.mem) (l : List α)
    (s : State) : (l.foldl f s).mem = s.mem :=
  foldl_unchanged State.mem hf l s

theorem foldl_wf {α : Type} {f : State → α → State} (hf : ∀ s a, s.mem.wf = true → (f s a).mem.wf = true)
    (l : List α) {s : State} (hs : s.mem.wf = true) : (l.foldl f s).mem.wf = true :=
  List.foldlRecOn (motive := fun t => t.mem.wf = true) l f hs (fun t ht a _ => hf t a ht)

theorem foldl_fst_wf {α β : Type} {f : State × β → α → State × β}
    (hf : ∀ p a, p.1.mem.wf = true → (f p a).1.mem.wf = true) (l : List α) {p : State × β} (hp : p.1.mem.wf = true) :
    (l.foldl f p).1.mem.wf = true :=
  List.foldlRecOn (motive := fun q => q.1.mem.wf = true) l f hp (fun q hq a _ => hf q a hq)

theorem ok_of_map {ε α β : Type} {f : α → β} {x : Except ε α} {b : β} (h : x.map f = .ok b) :
    ∃ a, x = .ok a ∧ f a = b := by
  cases x with
  | error e => cases h
  | ok a => exact ⟨a, rfl, Except.ok.inj h⟩

/-- The state that an outcome answers, where it answers one, has its memory in canonical form. -/
def Canonical (o : Host.Outcome State Fault Refusal) : Prop := ∀ t, o = .next t → MemoryWf t

theorem runIf_canonical {s t : State} {ok : Bool} (ht : t.mem.wf = true) : Canonical (s.runIf ok t) := by
  intro u hu
  unfold State.runIf at hu
  split at hu
  · cases hu
    exact ht
  · cases hu

/-- The execution of an instruction that is not stopped keeps memory canonical. -/
def RunKeeps (f : Run → Except Stop State) : Prop := ∀ r t, r.s.mem.wf = true → f r = .ok t → t.mem.wf = true

/-- One unit of a long instruction that is not stopped keeps memory canonical. -/
def UnitKeeps (u : State → Except Stop (State × Nat)) : Prop :=
  ∀ s t n, s.mem.wf = true → u s = .ok (t, n) → t.mem.wf = true

/-- The state after a micro-operation, whether the sequence goes on or ends there. -/
def MicroNext.state : MicroNext → State
  | .go m => m.s
  | .done m => m.s

/-! ## Table -/

@[simp] theorem State.now_mem (s : State) : s.now.2.mem = s.mem := rfl

/-! ## Lines -/

@[simp] theorem State.invalidateAt_mem (s : State) (tile p : Nat → Bool) (except_ : Option Nat) :
    (s.invalidateAt tile p except_).mem = s.mem := rfl

@[simp] theorem State.loseLine_mem (s : State) (t line : Nat) (except_ : Option Nat) :
    (s.loseLine t line except_).mem = s.mem := rfl

@[simp] theorem State.touchL3_mem (s : State) (t line : Nat) : (s.touchL3 t line).mem = s.mem := by
  unfold State.touchL3
  split <;> simp

@[simp] theorem State.linesGone_mem (s : State) (p : Nat → Bool) : (s.linesGone p).mem = s.mem := rfl

theorem State.useLoad_mem {s t : State} {c line : Nat} {fetch : Bool} (h : s.useLoad c fetch line = some t) :
    t.mem = s.mem := by
  unfold State.useLoad at h
  dsimp only at h
  split at h
  · cases h
    rfl
  · obtain ⟨k, _, rfl⟩ := Option.map_eq_some_iff.1 h
    split <;> simp

theorem State.useLoads_mem {s t : State} {c : Nat} {fetch : Bool} {lines : List Nat}
    (h : s.useLoads c fetch lines = .ok t) : t.mem = s.mem := by
  induction lines generalizing s with
  | nil =>
    cases h
    rfl
  | cons l r ih =>
    simp only [State.useLoads] at h
    split at h
    · cases h
    next heq => rw [ih h, State.useLoad_mem heq]

/-! ## Router -/

@[simp] theorem State.ringRaw_mem (s : State) (o n : Nat) : (s.ringRaw o n).mem = s.mem := by simp [State.ringRaw]

@[simp] theorem State.gwaitRule_mem (s : State) (o n : Nat) : (s.gwaitRule o n).mem = s.mem := by
  unfold State.gwaitRule
  dsimp only
  repeat' split
  all_goals simp

@[simp] theorem State.gwaitAll_mem (s : State) : s.gwaitAll.mem = s.mem := by simp [State.gwaitAll]

@[simp] theorem State.doorbell_mem (s : State) (o n : Nat) : (s.doorbell o n).mem = s.mem := by simp [State.doorbell]

@[simp] theorem State.ringHost_mem (s : State) : s.ringHost.mem = s.mem := by simp [State.ringHost]

@[simp] theorem State.irtReject_mem (s : State) (o : Nat) (r : Role) : (s.irtReject o r).mem = s.mem := by
  unfold State.irtReject
  split <;> simp

@[simp] theorem State.irtClaim_mem (s : State) (a : Accessor) (o : Nat) : (s.irtClaim a o).2.mem = s.mem := by
  unfold State.irtClaim
  split
  · rfl
  · split <;> simp

@[simp] theorem State.irtComplete_mem (s : State) (a : Accessor) (o : Nat) (w : Word) :
    (s.irtComplete a o w).mem = s.mem := by
  simp [State.irtComplete]

@[simp] theorem State.irtSend_mem (s : State) (a : Accessor) (o : Nat) (w : Word) : (s.irtSend a o w).mem = s.mem := by
  simp [State.irtSend]

@[simp] theorem State.irtSrc_mem (s : State) (a : Accessor) (o n : Nat) (w : Word) :
    (s.irtSrc a o n w).mem = s.mem := by
  simp [State.irtSrc]

@[simp] theorem State.irtPrio_mem (s : State) (a : Accessor) (o n : Nat) (w : Word) :
    (s.irtPrio a o n w).mem = s.mem := by
  simp [State.irtPrio]

@[simp] theorem State.irtTgt_mem (s : State) (a : Accessor) (o : Nat) (n : Option Nat) (w : Word) :
    (s.irtTgt a o n w).mem = s.mem := by
  unfold State.irtTgt
  dsimp only
  repeat' split
  all_goals simp

@[simp] theorem State.irtWrite_mem (s : State) (a : Accessor) (o off : Nat) (w : Word) :
    (s.irtWrite a o off w).mem = s.mem := by
  simp [State.irtWrite]

@[simp] theorem State.irtRead_mem (s : State) (a : Accessor) (o off : Nat) : (s.irtRead a o off).2.mem = s.mem := by
  simp [State.irtRead]

@[simp] theorem State.irtModWrite_mem (s : State) (a : Accessor) (off : Nat) (w : Word) :
    (s.irtModWrite a off w).mem = s.mem := by
  simp [State.irtModWrite]

@[simp] theorem State.irtTenantReset_mem (s : State) (t : Nat) : (s.irtTenantReset t).mem = s.mem := rfl

@[simp] theorem execDoorbell_canonical (owner : Owner) (source : Nat) (s : State) (hs : s.mem.wf = true) :
    Canonical (execDoorbell owner source s) := runIf_canonical (by simp [hs])

@[simp] theorem execIrtSend_canonical (acc : Accessor) (page : Owner) (value : Word) (s : State)
    (hs : s.mem.wf = true) : Canonical (execIrtSend acc page value s) :=
  runIf_canonical (by simp [hs])

@[simp] theorem execIrtClaim_canonical (acc : Accessor) (page : Owner) (s : State) (hs : s.mem.wf = true) :
    Canonical (execIrtClaim acc page s) := runIf_canonical (by simp [hs])

@[simp] theorem execIrtComplete_canonical (acc : Accessor) (page : Owner) (value : Word) (s : State)
    (hs : s.mem.wf = true) : Canonical (execIrtComplete acc page value s) :=
  runIf_canonical (by simp [hs])

@[simp] theorem execIrtSrc_canonical (acc : Accessor) (page : Owner) (source : Nat) (value : Word) (s : State)
    (hs : s.mem.wf = true) : Canonical (execIrtSrc acc page source value s) :=
  runIf_canonical (by simp [hs])

@[simp] theorem execIrtPrio_canonical (acc : Accessor) (page : Owner) (source : Nat) (value : Word) (s : State)
    (hs : s.mem.wf = true) : Canonical (execIrtPrio acc page source value s) :=
  runIf_canonical (by simp [hs])

@[simp] theorem execIrtTgt_canonical (acc : Accessor) (page : Owner) (source : Option Nat) (value : Word) (s : State)
    (hs : s.mem.wf = true) : Canonical (execIrtTgt acc page source value s) :=
  runIf_canonical (by simp [hs])

/-! ## Rails -/

@[simp] theorem State.report_mem (s : State) (source cls : Nat) : (s.report source cls).mem = s.mem := rfl

@[simp] theorem State.logEntry_mem (s : State) (e : LogEntry) : (s.logEntry e).mem = s.mem := rfl

@[simp] theorem State.logEvent_mem (s : State) (source : Nat) : (s.logEvent source).mem = s.mem := rfl

@[simp] theorem State.emitTwin_mem (s : State) (m : TwinMsg) : (s.emitTwin m).mem = s.mem := by simp [State.emitTwin]

@[simp] theorem State.mirrorOut_mem (s : State) (t : Nat) (m : MirrorItem) : (s.mirrorOut t m).2.mem = s.mem := by
  simp [State.mirrorOut]

@[simp] theorem State.handOverResult_mem (s : State) (status : Nat) (notice : Bool) :
    (s.handOverResult status notice).mem = s.mem := rfl

@[simp] theorem State.fenceBlock_mem (s : State) (b : Nat) : (s.fenceBlock b).mem = s.mem := by simp [State.fenceBlock]

@[simp] theorem State.answerCore_mem (s : State) (c : Nat) (w : Word) : (s.answerCore c w).mem = s.mem := by
  unfold State.answerCore
  split <;> simp

@[simp] theorem State.answerKept_mem (s : State) (c : Nat) : (s.answerKept c).mem = s.mem := by
  unfold State.answerKept
  dsimp only
  repeat' split
  all_goals simp

/-! ## Jetstream -/

@[simp] theorem State.sendFlit_mem (s : State) (k : Nat) (b : FlitBody) : (s.sendFlit k b).mem = s.mem := rfl

@[simp] theorem State.sendOn_mem (s : State) (k pool : Nat) (m : Msg) : (s.sendOn k pool m).mem = s.mem :=
  foldl_mem (fun s b => State.sendFlit_mem s k b) _ _

@[simp] theorem State.transmitN_mem (n k : Nat) (s : State) : (s.transmitN n k).mem = s.mem := by
  induction n generalizing s with
  | zero => rfl
  | succ n ih =>
    unfold State.transmitN
    dsimp only
    repeat' split
    all_goals simp [ih]

@[simp] theorem State.transmit_mem (s : State) (k : Nat) : (s.transmit k).mem = s.mem := by simp [State.transmit]

@[simp] theorem State.idleN_mem (n k : Nat) (s : State) : (s.idleN n k).mem = s.mem := by
  induction n generalizing s with
  | zero => rfl
  | succ n ih => simp [State.idleN, ih]

@[simp] theorem State.serviceLink_mem (s : State) (k : Nat) : (s.serviceLink k).mem = s.mem := by
  simp [State.serviceLink]

@[simp] theorem State.flitsIn_mem (s : State) (f : FlitHead) (pool n : Nat) : (s.flitsIn f pool n).mem = s.mem := rfl

@[simp] theorem State.sendMsg_mem (s : State) (m : Msg) : (s.sendMsg m).mem = s.mem := by simp [State.sendMsg]

@[simp] theorem State.newTag_mem (s : State) : s.newTag.2.mem = s.mem := rfl

/-! ## Directory -/

@[simp] theorem State.touch_mem (s : State) (line : Nat) : (s.touch line).mem = s.mem := rfl

@[simp] theorem State.homeSays_mem (s : State) (w : DirWait) (dst type aux : Nat) (words : List Word)
    (poisoned : Bool) : (s.homeSays w dst type aux words poisoned).mem = s.mem := by
  simp [State.homeSays]

@[simp] theorem State.sayHome_mem (s : State) (a line type tag orig aux : Nat) (words mask : List Word)
    (poisoned : Bool) : (s.sayHome a line type tag orig aux words mask poisoned).mem = s.mem := by
  simp [State.sayHome]

@[simp] theorem State.ask_mem (s : State) (a line type : Nat) (words mask : List Word) :
    (s.ask a line type words mask).2.mem = s.mem := by
  simp [State.ask]

@[simp] theorem State.dataTo_mem (s : State) (w : DirWait) (grant : Nat) : (s.dataTo w grant).mem = s.mem := by
  simp [State.dataTo]

@[simp] theorem State.snoopAll_mem (s : State) (w : DirWait) (type : Nat) (l : List Nat) :
    (s.snoopAll w type l).mem = s.mem := by
  simp [State.snoopAll]

@[simp] theorem State.openTx_mem (s : State) (w : DirWait) (e : DirEntry) (st : DirState) (type : Nat)
    (snoops awaits wbWait : List Nat) : (s.openTx w e st type snoops awaits wbWait).mem = s.mem := by
  simp [State.openTx]

@[simp] theorem State.own_mem (s : State) (src line way : Nat) : (s.own src line way).mem = s.mem := rfl

@[simp] theorem State.enqueue_mem (s : State) (w : DirWait) : (s.enqueue w).mem = s.mem := rfl

@[simp] theorem State.requeue_mem (s : State) (w : DirWait) : (s.requeue w).mem = s.mem := rfl

@[simp] theorem State.unrefuse_mem (s : State) (src line : Nat) : (s.unrefuse src line).mem = s.mem := rfl

@[simp] theorem State.recall_mem (s : State) (line : Nat) (e : DirEntry) : (s.recall line e).mem = s.mem := by
  simp [State.recall]

@[simp] theorem State.newEntry_mem (s : State) (w : DirWait) : (s.newEntry w).mem = s.mem := by
  unfold State.newEntry
  dsimp only
  repeat' split
  all_goals simp

@[simp] theorem State.mergeMasked_wf (s : State) (w : DirWait) (ws mask : List Word) (hs : s.mem.wf = true) :
    (s.mergeMasked w ws mask).mem.wf = true := by
  simp [State.mergeMasked, State.wrLineMask_wf hs]

@[simp] theorem State.ownWithData_mem (s : State) (w : DirWait) (way : Nat) : (s.ownWithData w way).mem = s.mem := by
  simp [State.ownWithData]

@[simp] theorem State.serve_wf (s : State) (w : DirWait) (hs : s.mem.wf = true) : (s.serve w).mem.wf = true := by
  unfold State.serve
  dsimp only
  repeat' split
  all_goals simp [hs]

@[simp] theorem State.broadcastRecall_mem (s : State) (line : Nat) (e : DirEntry) :
    (s.broadcastRecall line e).mem = s.mem := by
  simp [State.broadcastRecall]

@[simp] theorem State.takeRequest_wf (s : State) (w : DirWait) (hs : s.mem.wf = true) :
    (s.takeRequest w).mem.wf = true := by
  unfold State.takeRequest
  dsimp only
  repeat' split
  all_goals simp [hs]

@[simp] theorem State.request_wf (s : State) (w : DirWait) (hs : s.mem.wf = true) : (s.request w).mem.wf = true := by
  simp [State.request, hs]

@[simp] theorem State.drainWaiting_wf (n : Nat) (s : State) (hs : s.mem.wf = true) :
    (s.drainWaiting n).mem.wf = true := by
  induction n generalizing s with
  | zero => exact hs
  | succ n ih =>
    simp only [State.drainWaiting]
    split <;> simp [ih, hs]

@[simp] theorem State.drainHome_wf (s : State) (hs : s.mem.wf = true) : s.drainHome.mem.wf = true := by
  simp [State.drainHome, hs]

@[simp] theorem State.closeLost_mem (s : State) (line : Nat) (e : DirEntry) (x : DirTx) :
    (s.closeLost line e x).mem = s.mem := by
  unfold State.closeLost
  split <;> simp

@[simp] theorem State.closeTx_wf (s : State) (line : Nat) (e : DirEntry) (x : DirTx) (hs : s.mem.wf = true) :
    (s.closeTx line e x).mem.wf = true := by
  unfold State.closeTx
  dsimp only
  apply State.drainHome_wf
  rcases x.got with _ | ⟨ws, d⟩
  · dsimp only
    repeat' split
    all_goals simp [hs]
  · have hw := State.wrWords_wf hs (line * 16) ((List.range 16).map (wordAt ws))
    dsimp only
    repeat' split
    all_goals simp [hw]

@[simp] theorem State.tryClose_wf (s : State) (line : Nat) (hs : s.mem.wf = true) :
    (s.tryClose line).mem.wf = true := by
  unfold State.tryClose
  split
  · split
    · split <;> simp [hs]
    · exact hs
  · exact hs

@[simp] theorem State.modTx_mem (s : State) (line : Nat) (f : DirTx → DirTx) : (s.modTx line f).mem = s.mem := by
  unfold State.modTx
  split <;> simp

@[simp] theorem State.writeBackAt_wf (s : State) (m : Msg) (hs : s.mem.wf = true) :
    (s.writeBackAt m).mem.wf = true := by
  unfold State.writeBackAt
  dsimp only
  repeat' split
  all_goals simp [hs, State.wrWords_wf]

@[simp] theorem State.ackHome_wf (s : State) (m : Msg) (hs : s.mem.wf = true) : (s.ackHome m).mem.wf = true := by
  simp [State.ackHome, hs]

@[simp] theorem State.dataHome_wf (s : State) (m : Msg) (hs : s.mem.wf = true) : (s.dataHome m).mem.wf = true := by
  simp [State.dataHome, hs]

@[simp] theorem State.tileAnswers_mem (s : State) (t line type aux : Nat) (h : Held) (words : List Word) :
    (s.tileAnswers t line type aux h words).mem = s.mem := by
  simp [State.tileAnswers]

@[simp] theorem State.holdSnoop_mem (s : State) (t line : Nat) (h : Held) : (s.holdSnoop t line h).mem = s.mem := rfl

@[simp] theorem State.markDeferred_mem (s : State) (t line : Nat) : (s.markDeferred t line).mem = s.mem := rfl

@[simp] theorem State.snoop_mem (s : State) (t line : Nat) (h : Held) : (s.snoop t line h).mem = s.mem := by
  unfold State.snoop
  dsimp only
  repeat' split
  all_goals simp

@[simp] theorem State.grantAt_mem (s : State) (t : Nat) (m : Msg) : (s.grantAt t m).mem = s.mem := by
  unfold State.grantAt
  split <;> simp

@[simp] theorem State.takeWords_wf (s : State) (line : Nat) (ws : List Word) (hs : s.mem.wf = true) :
    (s.takeWords line ws).mem.wf = true := by
  simp [State.takeWords, hs, State.wrWords_wf]

@[simp] theorem State.fillAt_wf (s : State) (t : Nat) (m : Msg) (hs : s.mem.wf = true) :
    (s.fillAt t m).mem.wf = true := by
  unfold State.fillAt
  dsimp only
  split <;> simp [hs, State.setPoison_wf]

@[simp] theorem State.usePasses_mem (s : State) (c : Nat) : (s.usePasses c).mem = s.mem := rfl

@[simp] theorem State.releaseHeld_mem (s : State) (t line : Nat) : (s.releaseHeld t line).mem = s.mem := by
  unfold State.releaseHeld
  dsimp only
  repeat' split
  all_goals simp

@[simp] theorem State.evict_mem (s : State) (t line : Nat) : (s.evict t line).mem = s.mem := by
  unfold State.evict
  dsimp only
  repeat' split
  all_goals simp

@[simp] theorem State.fillRequest_mem (s : State) (t cls line : Nat) (own : Bool) (waiter : Option (Nat × Nat × Bool)) :
    (s.fillRequest t cls line own waiter).mem = s.mem := by
  unfold State.fillRequest
  dsimp only
  repeat' split
  all_goals simp

@[simp] theorem State.tileRequest_mem (s : State) (t cls line : Nat) (own : Bool) (waiter : Option (Nat × Nat × Bool)) :
    (s.tileRequest t cls line own waiter).mem = s.mem := by
  unfold State.tileRequest
  split <;> simp

@[simp] theorem State.cleanAt_mem (s : State) (t line : Nat) : (s.cleanAt t line).mem = s.mem := by
  unfold State.cleanAt
  split <;> simp

@[simp] theorem State.dirtyLine_mem (s : State) (t line : Nat) : (s.dirtyLine t line).mem = s.mem := by
  unfold State.dirtyLine
  split <;> simp

@[simp] theorem State.agentAsks_mem (s : State) (a line : Nat) : (s.agentAsks a line).mem = s.mem := by
  simp [State.agentAsks]

@[simp] theorem State.agentReleases_wf (s : State) (a line : Nat) (words : List Word) (hs : s.mem.wf = true) :
    (s.agentReleases a line words).mem.wf = true := by
  unfold State.agentReleases
  split <;> simp [hs]

@[simp] theorem State.copyAsks_mem (s : State) (src key line : Nat) : (s.copyAsks src key line).mem = s.mem := by
  simp [State.copyAsks]

@[simp] theorem State.agentMerges_mem (s : State) (a line : Nat) (words mask : List Word) :
    (s.agentMerges a line words mask).mem = s.mem := by
  simp [State.agentMerges]

@[simp] theorem State.ringAfter_mem (s : State) (a owner source : Nat) : (s.ringAfter a owner source).mem = s.mem := by
  simp [State.ringAfter]

@[simp] theorem State.ringKept_mem (s : State) (a : Nat) : (s.ringKept a).mem = s.mem := by simp [State.ringKept]

@[simp] theorem State.agentGets_wf (s : State) (a : Nat) (m : Msg) (hs : s.mem.wf = true) :
    (s.agentGets a m).mem.wf = true := by
  simp [State.agentGets, hs, State.setPoison_wf]

@[simp] theorem State.ackTile_wf (s : State) (t : Nat) (m : Msg) (hs : s.mem.wf = true) :
    (s.ackTile t m).mem.wf = true := by
  unfold State.ackTile
  dsimp only
  repeat' split
  all_goals simp [hs, State.setPoison_wf]

@[simp] theorem State.refusedAt_mem (s : State) (a line : Nat) : (s.refusedAt a line).mem = s.mem := rfl

@[simp] theorem State.handleMsg_wf (s : State) (m : Msg) (hs : s.mem.wf = true) : (s.handleMsg m).mem.wf = true := by
  unfold State.handleMsg
  split <;> simp [hs]

@[simp] theorem State.pumpN_wf (n : Nat) (s : State) (hs : s.mem.wf = true) : (s.pumpN n).mem.wf = true := by
  induction n generalizing s with
  | zero => exact hs
  | succ n ih =>
    simp only [State.pumpN]
    split <;> simp [ih, hs]

@[simp] theorem State.pump_wf (s : State) (hs : s.mem.wf = true) : s.pump.mem.wf = true := by simp [State.pump, hs]

@[simp] theorem State.receive_wf (s : State) (m : Msg) (f : FlitHead) (hs : s.mem.wf = true) :
    (s.receive m f).mem.wf = true := by
  simp [State.receive, hs]

@[simp] theorem State.missRequest_mem (s : State) (c line : Nat) (own : Bool) (store : Option Nat) :
    (s.missRequest c line own store).mem = s.mem := by
  simp [State.missRequest]

@[simp] theorem State.bring_wf (s : State) (c line : Nat) (own : Bool) (store : Option Nat) (hs : s.mem.wf = true) :
    (s.bring c line own store).mem.wf = true := by
  simp [State.bring, hs]

@[simp] theorem State.agentFetch_wf (s : State) (a : Nat) (lines : List Nat) (hs : s.mem.wf = true) :
    (s.agentFetch a lines).1.mem.wf = true := by
  simp [State.agentFetch, hs]

@[simp] theorem State.agentReads_wf (s : State) (a : Nat) (lines : List Nat) (hs : s.mem.wf = true) :
    (s.agentReads a lines).1.mem.wf = true := by
  unfold State.agentReads
  dsimp only
  split
  · exact hs
  · split
    · exact foldl_wf (fun t x ht => by split <;> simp [ht]) _ (State.agentFetch_wf _ _ _ hs)
    · exact State.agentFetch_wf _ _ _ hs

@[simp] theorem State.repeatRequest_mem (s : State) (a line : Nat) : (s.repeatRequest a line).mem = s.mem := by
  unfold State.repeatRequest
  repeat' split
  all_goals simp

@[simp] theorem State.probeWrite_mem (s : State) (a : Accessor) (w : Word) : (s.probeWrite a w).mem = s.mem := by
  simp [State.probeWrite]

@[simp] theorem State.requestRow_wf (s : State) (e : MsgEnd) (line type : Nat) (hs : s.mem.wf = true) :
    (s.requestRow e line type).mem.wf = true := by
  simp [State.requestRow, hs]

@[simp] theorem execReadShared_canonical (src : MsgEnd) (line : Nat) (s : State) (hs : s.mem.wf = true) :
    Canonical (execReadShared src line s) := runIf_canonical (by simp [hs])

@[simp] theorem execReadOwn_canonical (src : MsgEnd) (line : Nat) (s : State) (hs : s.mem.wf = true) :
    Canonical (execReadOwn src line s) := runIf_canonical (by simp [hs])

@[simp] theorem execUpgrade_canonical (src : MsgEnd) (line : Nat) (s : State) (hs : s.mem.wf = true) :
    Canonical (execUpgrade src line s) := runIf_canonical (by simp [hs])

@[simp] theorem execReadNoAllocate_canonical (src : MsgEnd) (line : Nat) (s : State) (hs : s.mem.wf = true) :
    Canonical (execReadNoAllocate src line s) := runIf_canonical (by simp [hs])

@[simp] theorem State.writeBackRow_wf (s : State) (e : MsgEnd) (line : Nat) (words : Option (List Word))
    (hs : s.mem.wf = true) : (s.writeBackRow e line words).mem.wf = true := by
  simp [State.writeBackRow, hs]

@[simp] theorem execWriteBack_canonical (src : MsgEnd) (line : Nat) (words : Option (List Word)) (s : State)
    (hs : s.mem.wf = true) : Canonical (execWriteBack src line words s) :=
  runIf_canonical (by simp [hs])

@[simp] theorem execMaskedWriteBack_canonical (src : MsgEnd) (line : Nat) (words mask : List Word) (s : State)
    (hs : s.mem.wf = true) : Canonical (execMaskedWriteBack src line words mask s) :=
  runIf_canonical (by simp [hs])

@[simp] theorem State.fromHome_wf (s : State) (e : MsgEnd) (line type : Nat) (hs : s.mem.wf = true) :
    (s.fromHome e line type).mem.wf = true := by
  simp [State.fromHome, hs]

@[simp] theorem execInvalidate_canonical (dst : MsgEnd) (line : Nat) (s : State) (hs : s.mem.wf = true) :
    Canonical (execInvalidate dst line s) := runIf_canonical (by simp [hs])

@[simp] theorem execSnoopShare_canonical (dst : MsgEnd) (line : Nat) (s : State) (hs : s.mem.wf = true) :
    Canonical (execSnoopShare dst line s) := runIf_canonical (by simp [hs])

@[simp] theorem execSnoopOwn_canonical (dst : MsgEnd) (line : Nat) (s : State) (hs : s.mem.wf = true) :
    Canonical (execSnoopOwn dst line s) := runIf_canonical (by simp [hs])

@[simp] theorem execSnoopRead_canonical (dst : MsgEnd) (line : Nat) (s : State) (hs : s.mem.wf = true) :
    Canonical (execSnoopRead dst line s) := runIf_canonical (by simp [hs])

@[simp] theorem execAcknowledge_canonical (dst : Nat) (src : MsgEnd) (line : Nat) (wbf : Bool) (s : State)
    (hs : s.mem.wf = true) : Canonical (execAcknowledge dst src line wbf s) :=
  runIf_canonical (by simp [hs])

@[simp] theorem execNegativeAcknowledge_canonical (dst : MsgEnd) (line : Nat) (s : State) (hs : s.mem.wf = true) :
    Canonical (execNegativeAcknowledge dst line s) := runIf_canonical (by simp [hs])

@[simp] theorem execNakRetry_canonical (agent line : Nat) (s : State) (hs : s.mem.wf = true) :
    Canonical (execNakRetry agent line s) := runIf_canonical (by simp [hs])

@[simp] theorem execGrant_canonical (dst : MsgEnd) (line : Nat) (s : State) (hs : s.mem.wf = true) :
    Canonical (execGrant dst line s) := runIf_canonical (by simp [hs])

@[simp] theorem execData_canonical (dst : Nat) (src : MsgEnd) (line : Nat) (words : List Word) (grant : Nat)
    (dirty : Bool) (s : State) (hs : s.mem.wf = true) : Canonical (execData dst src line words grant dirty s) :=
  runIf_canonical (by simp [hs])

@[simp] theorem execHeldSnoopRelease_canonical (tile line : Nat) (s : State) (hs : s.mem.wf = true) :
    Canonical (execHeldSnoopRelease tile line s) := runIf_canonical (by simp [hs])

@[simp] theorem execDyProbe_canonical (acc : Accessor) (value : Word) (s : State) (hs : s.mem.wf = true) :
    Canonical (execDyProbe acc value s) := runIf_canonical (by simp [hs])

/-! ## Translate -/

@[simp] theorem State.install_mem (s : State) (p : Party) (core va : Nat) : (s.install p core va).mem = s.mem := by
  unfold State.install
  dsimp only
  split <;> simp

/-! ## Agents -/

@[simp] theorem State.agentPut_wf (s : State) (a : Nat) (l : List BitsAt) (hs : s.mem.wf = true) :
    (s.agentPut a l).mem.wf = true := foldl_wf (fun t g ht => by simp [ht]) _ hs

@[simp] theorem State.agentWrWords_wf (s : State) (a t ia : Nat) (ws : List Word) (hs : s.mem.wf = true) :
    (s.agentWrWords a t ia ws).mem.wf = true := by
  simp [State.agentWrWords, hs]

@[simp] theorem State.agentWrOctets_wf (s : State) (a t k : Nat) (l : List Octet) (hs : s.mem.wf = true) :
    (s.agentWrOctets a t k l).mem.wf = true := by
  simp [State.agentWrOctets, hs]

@[simp] theorem State.withLines_wf (s : State) (a : Nat) (lines : List Nat) (go : State → State) (hs : s.mem.wf = true)
    (hgo : (go (s.agentReads a lines).1).mem.wf = true) : (s.withLines a lines go).mem.wf = true := by
  unfold State.withLines
  dsimp only
  split <;> simp [hs, hgo]

@[simp] theorem State.withReads_wf (s : State) (a t : Nat) (ws : List Nat) (go : State → State) (hs : s.mem.wf = true)
    (hgo : (go (s.agentReads a (s.agentLines t ws)).1).mem.wf = true) : (s.withReads a t ws go).mem.wf = true :=
  State.withLines_wf s a _ go hs hgo

/-! ## Journal -/

@[simp] theorem State.mirrorConfig_mem (s : State) (t : Nat) : (s.mirrorConfig t).mem = s.mem := by
  simp [State.mirrorConfig]

@[simp] theorem State.refill_mem (n : Nat) (s : State) : (s.refill n).mem = s.mem := by
  induction n generalizing s with
  | zero => rfl
  | succ n ih =>
    by_cases h : 256 ≤ s.jn.spares.length
    · exact congrArg State.mem (if_pos h)
    · refine (congrArg State.mem (if_neg h)).trans ?_
      split
      · exact ih _
      · rfl

@[simp] theorem State.intoSegment_mem (s : State) (g size : Nat) : (s.intoSegment g size).mem = s.mem := by
  simp [State.intoSegment]

theorem State.retireFor_mem {s t : State} {g x : Nat} (h : s.retireFor g = some (x, t)) : t.mem = s.mem := by
  simp only [State.retireFor, Option.map_eq_some_iff, Prod.mk.injEq] at h
  obtain ⟨_, _, _, rfl⟩ := h
  rfl

@[simp] theorem State.loadEpoch_mem (s : State) (t : Nat) : (s.loadEpoch t).mem = s.mem := rfl

@[simp] theorem State.sealNonce_mem (s : State) (t blocks : Nat) : (s.sealNonce t blocks).2.2.mem = s.mem := by
  simp [State.sealNonce]

@[simp] theorem State.updateWritten_mem (s : State) (t : Nat) : (s.updateWritten t).mem = s.mem := rfl

@[simp] theorem State.sealOf_mem (s : State) (p : Pend) (n : Nat) : (s.sealOf p n).2.2.mem = s.mem := by
  unfold State.sealOf
  dsimp only
  repeat' split
  all_goals simp

@[simp] theorem State.writeRecord_mem (s : State) (p : Pend) (compress : Bool) (seg : Nat) :
    (s.writeRecord p compress seg).mem = s.mem := by
  simp [State.writeRecord]

@[simp] theorem State.entryWrite_mem (s : State) (stream : Nat) (verified : Bool) :
    (s.entryWrite stream verified).mem = s.mem := by
  unfold State.entryWrite
  split
  · rfl
  · split
    · rfl
    · split
      · simp
      · split
        next heq => simp [State.retireFor_mem heq]
        next => simp

@[simp] theorem State.flushItem_mem (s : State) (p : Pend) (left : Nat) : (s.flushItem p left).1.mem = s.mem := by
  unfold State.flushItem
  dsimp only
  split
  · rfl
  · split
    · simp
    · split
      · rfl
      · split
        next heq => simp [State.retireFor_mem heq]
        next => rfl

@[simp] theorem State.flushRegion_mem (s : State) : s.flushRegion.mem = s.mem :=
  foldl_unchanged (fun a : State × Nat => a.1.mem) (fun a p => by simp) _ _

@[simp] theorem State.ownRecord_mem (s : State) (type : Nat) (ws : List Word) : (s.ownRecord type ws).mem = s.mem := by
  unfold State.ownRecord
  dsimp only
  repeat' split
  all_goals simp

@[simp] theorem State.acceptEntry_mem (s : State) (t : Nat) (c : Commit) : (s.acceptEntry t c).mem = s.mem := rfl

@[simp] theorem State.withdraw_mem (s : State) (t n : Nat) : (s.withdraw t n).mem = s.mem := rfl

@[simp] theorem State.markLocal_mem (s : State) (t status : Nat) : (s.markLocal t status).mem = s.mem := by
  simp [State.markLocal]

@[simp] theorem State.finishCommit_mem (s : State) (t : Nat) (c : Commit) (status seq : Nat) :
    (s.finishCommit t c status seq).mem = s.mem := by
  simp [State.finishCommit]

@[simp] theorem State.decideAll_mem (fuel : Nat) (s : State) (t : Nat) (expired : Bool) :
    (s.decideAll fuel t expired).mem = s.mem := by
  induction fuel generalizing s expired with
  | zero => rfl
  | succ f ih =>
    unfold State.decideAll
    dsimp only
    repeat' split
    all_goals simp [ih]

@[simp] theorem State.decideTenant_mem (s : State) (t : Nat) (expired : Bool) :
    (s.decideTenant t expired).mem = s.mem := by
  simp [State.decideTenant]

@[simp] theorem State.decideEvery_mem (s : State) : s.decideEvery.mem = s.mem := by simp [State.decideEvery]

@[simp] theorem State.entryReceipt_mem (s : State) (t : Nat) (received : Bool) :
    (s.entryReceipt t received).mem = s.mem := by
  unfold State.entryReceipt
  dsimp only
  repeat' split
  all_goals simp

@[simp] theorem State.twinLost_mem (s : State) : s.twinLost.mem = s.mem := by
  refine foldl_mem (fun t e => ?_) _ _
  repeat' split
  all_goals simp

@[simp] theorem State.commitArrives_mem (s : State) (t : Nat) (c : Commit) : (s.commitArrives t c).mem = s.mem := by
  simp [State.commitArrives]

@[simp] theorem State.jnCopy_wf (t base size fuel : Nat) (s : State) (n off cnt : Nat) (dmg : Bool)
    (hs : s.mem.wf = true) : (s.jnCopy t base size fuel n off cnt dmg).1.mem.wf = true := by
  induction fuel generalizing s n off cnt dmg with
  | zero => exact hs
  | succ f ih =>
    unfold State.jnCopy
    dsimp only
    split
    · exact hs
    · split
      · exact hs
      · split
        all_goals
          split
          · exact hs
          · exact ih _ _ _ _ _ (by simp [hs])

@[simp] theorem State.readFailures_mem (s : State) (t : Nat) : (s.readFailures t).mem = s.mem := rfl

@[simp] theorem State.jnRead_wf (s : State) (t : Nat) (hs : s.mem.wf = true) : (s.jnRead t).mem.wf = true := by
  simp [State.jnRead, hs]

@[simp] theorem State.jnRelease_mem (s : State) (t n : Nat) : (s.jnRelease t n).mem = s.mem := by simp [State.jnRelease]

@[simp] theorem State.jnReject_mem (s : State) (t : Nat) (r : Role) : (s.jnReject t r).mem = s.mem := by
  unfold State.jnReject
  split <;> simp

@[simp] theorem State.jnReleaseWrite_mem (s : State) (a : Accessor) (t v : Nat) :
    (s.jnReleaseWrite a t v).mem = s.mem := by
  simp [State.jnReleaseWrite]

@[simp] theorem State.jnCtrlWrite_wf (s : State) (a : Accessor) (t : Nat) (w : Word) (hs : s.mem.wf = true) :
    (s.jnCtrlWrite a t w).mem.wf = true := by
  simp [State.jnCtrlWrite, hs]

/-! ## Access -/

@[simp] theorem State.odWriteNum_mem (s : State) (route : Route) (index sub v more : Nat) (f : State → State)
    (hf : (f s).mem = s.mem) : (s.odWriteNum route index sub v more f).mem = s.mem := by
  unfold State.odWriteNum
  dsimp only
  split
  · simp
  · split <;> simp [hf]

@[simp] theorem State.odWriteNum_wf (s : State) (route : Route) (index sub v more : Nat) (f : State → State)
    (hs : s.mem.wf = true) (hf : (f s).mem.wf = true) : (s.odWriteNum route index sub v more f).mem.wf = true := by
  unfold State.odWriteNum
  dsimp only
  split
  · simp [hs]
  · split <;> simp [hs, hf]

@[simp] theorem State.odWriteOct_mem (s : State) (route : Route) (index sub : Nat) (l : List Octet) (more : Nat)
    (f : State → State) (hf : (f s).mem = s.mem) : (s.odWriteOct route index sub l more f).mem = s.mem := by
  unfold State.odWriteOct
  dsimp only
  split
  · simp
  · split <;> simp [hf]

@[simp] theorem State.endSession_mem (s : State) (x : Session) (reason : Option Nat) :
    (s.endSession x reason).mem = s.mem := by
  unfold State.endSession
  split <;> simp

@[simp] theorem State.endSessions_mem (s : State) (p : Session → Bool) (reason : Option Nat) :
    (s.endSessions p reason).mem = s.mem := by
  simp [State.endSessions]

@[simp] theorem State.persist_mem (s : State) (index sub : Nat) : (s.persist index sub).mem = s.mem := by
  simp [State.persist]

/-! ## Links -/

@[simp] theorem State.floodOf_mem (s : State) (origin bits : Nat) (but : Option Nat) :
    (s.floodOf origin bits but).mem = s.mem := by
  simp [State.floodOf]

@[simp] theorem State.flood_mem (s : State) : s.flood.mem = s.mem := by simp [State.flood]

@[simp] theorem State.detour_mem (s : State) (k : Nat) : (s.detour k).mem = s.mem := by
  unfold State.detour
  split <;> simp

@[simp] theorem State.fenceGroup_mem (s : State) (k g : Nat) : (s.fenceGroup k g).mem = s.mem := rfl

@[simp] theorem State.resend_mem (s : State) (k : Nat) : (s.resend k).mem = s.mem :=
  foldl_mem (fun s _ => State.emit_mem s _) _ _

@[simp] theorem State.retrained_mem (s : State) (k expected : Nat) (g0 g1 : Bool) :
    (s.retrained k expected g0 g1).mem = s.mem := by
  simp [State.retrained]

@[simp] theorem State.linkFails_mem (s : State) (k : Nat) : (s.linkFails k).mem = s.mem := by simp [State.linkFails]

@[simp] theorem State.replayAsked_mem (s : State) (k seq : Nat) : (s.replayAsked k seq).mem = s.mem := by
  simp [State.replayAsked]

@[simp] theorem State.adminWrite_mem (s : State) (a : Accessor) (k : Nat) (w : Word) :
    (s.adminWrite a k w).mem = s.mem := by
  unfold State.adminWrite
  split <;> simp

@[simp] theorem State.loseOwner_wf (s : State) (lost : Nat → Bool) (e : Nat × DirEntry) (hs : s.mem.wf = true) :
    (s.loseOwner lost e).mem.wf = true := by
  unfold State.loseOwner
  dsimp only
  split <;> simp [State.setPoison_wf hs]

theorem Mem.filter_wf {m : Mem} (h : m.wf = true) (p : Nat × Word → Bool) (q : Nat × Bool → Bool) :
    ({ m with words := m.words.filter p, poison := m.poison.filter q } : Mem).wf = true := by
  obtain ⟨hw, ht, hp⟩ := (Mem.wf_iff m).1 h
  exact (Mem.wf_iff _).2 ⟨twf_filter hw p, ht, twf_filter hp q⟩

@[simp] theorem State.loseMembers_wf (s : State) (kept : List Nat) (hs : s.mem.wf = true) :
    (s.loseMembers kept).mem.wf = true := by
  unfold State.loseMembers
  dsimp only
  generalize hp : State.pump _ = pumped
  have canonical : pumped.mem.wf = true := by
    rw [← hp]
    refine State.pump_wf _ (State.drainHome_wf _ (foldl_wf State.tryClose_wf _ (Mem.filter_wf ?_ _ _)))
    rw [State.invalidateAt_mem]
    exact foldl_wf (fun s e => State.loseOwner_wf s _ e) _ hs
  split
  · rwa [State.report_mem]
  · exact canonical

@[simp] theorem State.twinLinkFails_mem (s : State) : s.twinLinkFails.mem = s.mem := by simp [State.twinLinkFails]

@[simp] theorem State.twinResend_mem (s : State) (expected : Nat) : (s.twinResend expected).mem = s.mem := by
  unfold State.twinResend
  exact foldl_mem (fun s _ => State.emit_mem s _) _ _

@[simp] theorem State.twinReplay_mem (s : State) (seq : Nat) : (s.twinReplay seq).mem = s.mem := by
  simp [State.twinReplay]

@[simp] theorem State.twinRetrained_mem (s : State) (expected : Nat) (ok : Bool) :
    (s.twinRetrained expected ok).mem = s.mem := by
  simp [State.twinRetrained]

@[simp] theorem State.twinTrained_mem (s : State) (ok : Bool) : (s.twinTrained ok).mem = s.mem := by
  simp [State.twinTrained]

@[simp] theorem State.twinIdentified_mem (s : State) (matched : Bool) : (s.twinIdentified matched).mem = s.mem := by
  simp [State.twinIdentified]

@[simp] theorem execReplayRequest_canonical (link seq : Nat) (s : State) (hs : s.mem.wf = true) :
    Canonical (execReplayRequest link seq s) := runIf_canonical (by simp [hs])

@[simp] theorem execBadCrcOrSequenceGap_canonical (link : Nat) (s : State) (hs : s.mem.wf = true) :
    Canonical (execBadCrcOrSequenceGap link s) := runIf_canonical (by simp [hs])

@[simp] theorem execLinkFailure_canonical (link : Nat) (s : State) (hs : s.mem.wf = true) :
    Canonical (execLinkFailure link s) := runIf_canonical (by simp [hs])

@[simp] theorem execRetraining_canonical (link : Retrained) (g0 g1 : Bool) (s : State) (hs : s.mem.wf = true) :
    Canonical (execRetraining link g0 g1 s) := runIf_canonical (by simp [hs])

@[simp] theorem execTraining_canonical (link : Nat) (g0 g1 : Bool) (s : State) (hs : s.mem.wf = true) :
    Canonical (execTraining link g0 g1 s) := by
  refine runIf_canonical ?_
  split
  · simp [hs]
  · dsimp only
    split <;> simp [hs]

@[simp] theorem execIdentify_canonical (link : Nat) (matched : Bool) (s : State) (hs : s.mem.wf = true) :
    Canonical (execIdentify link matched s) := by
  refine runIf_canonical ?_
  split
  · simp [hs]
  · dsimp only
    split
    · split <;> simp [hs]
    · split
      · simp [hs]
      · split <;> simp [hs]
    · exact hs

@[simp] theorem execTrainingRetry_canonical (link : Nat) (s : State) (hs : s.mem.wf = true) :
    Canonical (execTrainingRetry link s) := runIf_canonical (by simp [hs])

@[simp] theorem execLaneGroupFence_canonical (link group : Nat) (s : State) (hs : s.mem.wf = true) :
    Canonical (execLaneGroupFence link group s) := runIf_canonical (by simp [hs])

@[simp] theorem State.linkStateIn_mem (s : State) (origin bits link : Nat) :
    (s.linkStateIn origin bits link).mem = s.mem := by
  simp [State.linkStateIn]

@[simp] theorem execLinkState_canonical (origin : LinkOrigin) (bits : Nat) (s : State) (hs : s.mem.wf = true) :
    Canonical (execLinkState origin bits s) := runIf_canonical (by simp [hs])

@[simp] theorem execLinkStateFlood_canonical (s : State) (hs : s.mem.wf = true) : Canonical (execLinkStateFlood s) :=
  runIf_canonical (by simp [hs])

@[simp] theorem State.deliveredIn_mem (s : State) (link seq : Nat) : (s.deliveredIn link seq).mem = s.mem := by
  simp [State.deliveredIn]

@[simp] theorem execDelivered_canonical (link seq : Nat) (s : State) (hs : s.mem.wf = true) :
    Canonical (execDelivered link seq s) := runIf_canonical (by simp [hs])

@[simp] theorem State.markerIn_mem (s : State) (link : Nat) (confirmed : Bool) :
    (s.markerIn link confirmed).mem = s.mem := by
  simp [State.markerIn]

@[simp] theorem execDrainMarker_canonical (link : Nat) (confirmed : Bool) (s : State) (hs : s.mem.wf = true) :
    Canonical (execDrainMarker link confirmed s) := runIf_canonical (by simp [hs])

@[simp] theorem execAdmin_canonical (acc : Accessor) (link : Nat) (value : Word) (s : State) (hs : s.mem.wf = true) :
    Canonical (execAdmin acc link value s) := runIf_canonical (by simp [hs])

@[simp] theorem execLinkProtocolFault_canonical (link : Nat) (s : State) (hs : s.mem.wf = true) :
    Canonical (execLinkProtocolFault link s) := runIf_canonical (by simp [hs])

/-! ## Power -/

@[simp] theorem State.relock_mem (s : State) : s.relock.mem = s.mem := rfl

@[simp] theorem State.takeCeiling_mem (s : State) : s.takeCeiling.mem = s.mem := by simp [State.takeCeiling]

@[simp] theorem State.takePower_mem (s : State) : s.takePower.mem = s.mem := rfl

@[simp] theorem State.finishChange_mem (s : State) : s.finishChange.mem = s.mem := by
  unfold State.finishChange
  split <;> simp

@[simp] theorem State.applyProfile_mem (s : State) (p : Nat) : (s.applyProfile p).mem = s.mem := by
  simp [State.applyProfile]

@[simp] theorem State.requestProfile_mem (s : State) (p : Nat) : (s.requestProfile p).mem = s.mem := by
  simp [State.requestProfile]

@[simp] theorem State.startDeferred_mem (s : State) : s.startDeferred.mem = s.mem := by
  unfold State.startDeferred
  dsimp only
  split <;> simp

@[simp] theorem State.reprofile_mem (s : State) : s.reprofile.mem = s.mem := by simp [State.reprofile]

@[simp] theorem State.setCap_mem (s : State) (c : Nat) : (s.setCap c).mem = s.mem := by simp [State.setCap]

@[simp] theorem State.gauge_mem (s : State) (mv : Nat) : (s.gauge mv).mem = s.mem := by simp [State.gauge]

@[simp] theorem State.selfTest_mem (s : State) (uf uohm mv : Nat) : (s.selfTest uf uohm mv).mem = s.mem := by
  simp [State.selfTest]

@[simp] theorem State.powerDown_wf (s : State) : s.powerDown.mem.wf = true := rfl

@[simp] theorem State.setInactive_mem (s : State) (b : Bank) : (s.setInactive b).mem = s.mem := rfl

@[simp] theorem State.updateStatus_mem (s : State) (n : Nat) : (s.updateStatus n).mem = s.mem := rfl

@[simp] theorem State.stageFails_mem (s : State) (status : Nat) (b : Bank) : (s.stageFails status b).mem = s.mem := rfl

@[simp] theorem State.abandonStaging_mem (s : State) : s.abandonStaging.mem = s.mem := by simp [State.abandonStaging]

@[simp] theorem State.toOff_wf (s : State) : s.toOff.mem.wf = true := by
  simp [State.toOff]

@[simp] theorem State.toStandby_wf (s : State) : s.toStandby.mem.wf = true := by
  unfold State.toStandby
  split <;> simp

@[simp] theorem State.dusk_wf (s : State) : s.dusk.mem.wf = true := by simp [State.dusk]

@[simp] theorem State.haltRecord_mem (s : State) (source : Nat) : (s.haltRecord source).mem = s.mem := rfl

@[simp] theorem State.halt_wf (s : State) (source : Nat) (hs : s.mem.wf = true) : (s.halt source).mem.wf = true := by
  unfold State.halt
  split
  · exact hs
  · simp

@[simp] theorem State.finishStop_mem (s : State) : s.finishStop.mem = s.mem := by
  unfold State.finishStop
  split <;> simp

@[simp] theorem State.stopTimeout_mem (s : State) (t : Nat) : (s.stopTimeout t).mem = s.mem := by
  simp [State.stopTimeout]

@[simp] theorem execSelectedProfile_canonical (route : Route) (value : Nat) (s : State) (hs : s.mem.wf = true) :
    Canonical (execSelectedProfile route value s) := runIf_canonical (by simp [hs])

@[simp] theorem execDeferredProfileChange_canonical (s : State) (hs : s.mem.wf = true) :
    Canonical (execDeferredProfileChange s) := runIf_canonical (by simp [hs])

@[simp] theorem execCustomClockAdjust_canonical (mean1ms mean10ms : Nat) (below100ms : Bool) (s : State)
    (hs : s.mem.wf = true) : Canonical (execCustomClockAdjust mean1ms mean10ms below100ms s) :=
  runIf_canonical (by simp [hs])

@[simp] theorem execInletTemperatureChange_canonical (inlet : ℤ) (s : State) (hs : s.mem.wf = true) :
    Canonical (execInletTemperatureChange inlet s) := runIf_canonical (by simp [hs])

@[simp] theorem execCapRaise_canonical (s : State) (hs : s.mem.wf = true) : Canonical (execCapRaise s) :=
  runIf_canonical (by simp [hs])

@[simp] theorem execCoolantCauseClear_canonical (s : State) (hs : s.mem.wf = true) :
    Canonical (execCoolantCauseClear s) := runIf_canonical (by simp [hs])

@[simp] theorem execDieOvertemperature_canonical (hottest : ℤ) (s : State) (hs : s.mem.wf = true) :
    Canonical (execDieOvertemperature hottest s) := runIf_canonical (by simp [hs])

@[simp] theorem execFuelGaugeSample_canonical (millivolts : Nat) (s : State) (hs : s.mem.wf = true) :
    Canonical (execFuelGaugeSample millivolts s) := runIf_canonical (by simp [hs])

@[simp] theorem execSelfTest_canonical (microfarads microohms millivolts : Nat) (s : State) (hs : s.mem.wf = true) :
    Canonical (execSelfTest microfarads microohms millivolts s) := runIf_canonical (by simp [hs])

@[simp] theorem execStartSelfTest_canonical (route : Route) (value : Nat) (s : State) (hs : s.mem.wf = true) :
    Canonical (execStartSelfTest route value s) := runIf_canonical (by simp [hs])

@[simp] theorem execVauxAccepted_canonical (slot : Nat) (twinId : Bool) (millivolts : Nat) (s : State)
    (hs : s.mem.wf = true) : Canonical (execVauxAccepted slot twinId millivolts s) :=
  runIf_canonical (by simp [hs])

@[simp] theorem execVauxLost_canonical (s : State) (hs : s.mem.wf = true) : Canonical (execVauxLost s) :=
  runIf_canonical (by dsimp only; split <;> simp [hs])

@[simp] theorem execVin48Accepted_canonical (millivolts : Nat) (s : State) (hs : s.mem.wf = true) :
    Canonical (execVin48Accepted millivolts s) := runIf_canonical (by simp [hs])

@[simp] theorem execVin48Fail_canonical (millivolts : Nat) (s : State) (hs : s.mem.wf = true) :
    Canonical (execVin48Fail millivolts s) := runIf_canonical (by dsimp only; split <;> simp [hs])

@[simp] theorem execPorstNLow_canonical (s : State) (hs : s.mem.wf = true) : Canonical (execPorstNLow s) := by
  refine runIf_canonical ?_
  dsimp only
  split
  · simp
  · simp
  · simp
  · exact hs

@[simp] theorem execPorstNHigh_canonical (s : State) (hs : s.mem.wf = true) : Canonical (execPorstNHigh s) :=
  runIf_canonical (by simp [hs])

@[simp] theorem execModuleReset_canonical (route : Route) (value : Nat) (s : State) (hs : s.mem.wf = true) :
    Canonical (execModuleReset route value s) :=
  runIf_canonical (State.odWriteNum_wf _ _ _ _ _ _ _ hs (State.powerDown_wf s))

@[simp] theorem execSysclkLoss_canonical (s : State) (hs : s.mem.wf = true) : Canonical (execSysclkLoss s) :=
  runIf_canonical (by dsimp only; split <;> simp [hs])

@[simp] theorem execSysclkReturn_canonical (s : State) (hs : s.mem.wf = true) : Canonical (execSysclkReturn s) :=
  runIf_canonical (by simp [hs])

@[simp] theorem execReverseCurrent_canonical (input : Nat) (s : State) (hs : s.mem.wf = true) :
    Canonical (execReverseCurrent input s) := runIf_canonical (by simp [hs])

@[simp] theorem execStartPermit_canonical (route : Route) (value : Nat) (s : State) (hs : s.mem.wf = true) :
    Canonical (execStartPermit route value s) := runIf_canonical (by simp [hs])

/-! ## Channels -/

@[simp] theorem State.schPost_mem (s : State) (t level l n : Nat) : (s.schPost t level l n).2.mem = s.mem := by
  unfold State.schPost
  dsimp only
  repeat' split
  all_goals simp

@[simp] theorem State.bringProgram_wf (a t n p : Nat) (s : State) (hs : s.mem.wf = true) :
    (State.bringProgram a t n p s).1.mem.wf = true := by
  induction n generalizing p s with
  | zero => exact hs
  | succ n ih =>
    have hw := s.agentReads_wf a (s.agentLines t [p, p + 1, p + 2, p + 3]) hs
    unfold State.bringProgram
    dsimp only
    split
    · exact hs
    · split
      next heq =>
        rw [heq] at hw
        exact hw
      next heq =>
        rw [heq] at hw
        split
        · exact hw
        · exact ih _ _ hw

@[simp] theorem State.ledgerRecord_mem (s : State) (src : Nat) (id : DWord) : (s.ledgerRecord src id).mem = s.mem := by
  unfold State.ledgerRecord
  dsimp only
  split <;> simp

@[simp] theorem State.closeGrant_mem (s : State) (o : Order) : (s.closeGrant o).mem = s.mem := by
  unfold State.closeGrant
  split <;> simp

@[simp] theorem State.recordDone_mem (s : State) (m slot : Nat) : (s.recordDone m slot).mem = s.mem := by
  unfold State.recordDone
  dsimp only
  split <;> simp

@[simp] theorem State.outcome_mem (s : State) (m slot st count : Nat) (detail : DWord) :
    (s.outcome m slot st count detail).mem = s.mem := by
  unfold State.outcome
  dsimp only
  split <;> simp

@[simp] theorem State.finishOrder_mem (s : State) (m slot st : Nat) : (s.finishOrder m slot st).mem = s.mem := rfl

@[simp] theorem State.emitFrame_mem (s : State) (type : Nat) (h : CHeader) (payload : List Octet) :
    (s.emitFrame type h payload).mem = s.mem := by
  unfold State.emitFrame
  split <;> simp

@[simp] theorem State.servePeerN_mem (n p : Nat) (s : State) : (s.servePeerN n p).mem = s.mem := by
  induction n generalizing s with
  | zero => rfl
  | succ n ih =>
    simp only [State.servePeerN]
    repeat' split
    all_goals simp [ih]

@[simp] theorem State.servePeer_mem (s : State) (p : Nat) : (s.servePeer p).mem = s.mem := by simp [State.servePeer]

@[simp] theorem State.sendFrame_mem (s : State) (p type : Nat) (h : CHeader) (payload : List Octet) :
    (s.sendFrame p type h payload).mem = s.mem := by
  simp [State.sendFrame]

@[simp] theorem State.sendMessage_mem (s : State) (c : Chan) (id : DWord) (attempt : Nat) (data : List Octet) :
    (s.sendMessage c id attempt data).mem = s.mem := by
  simp [State.sendMessage]

@[simp] theorem State.sendCompletion_mem (s : State) (p : Nat) (id : DWord) (attempt status count time : Nat) :
    (s.sendCompletion p id attempt status count time).mem = s.mem := by
  simp [State.sendCompletion]

@[simp] theorem State.placeOrder_mem (s : State) (c : Chan) (l : List Octet) : (s.placeOrder c l).mem = s.mem := rfl

@[simp] theorem State.completionOut_mem (s : State) (c : Chan) : (s.completionOut c).mem = s.mem := rfl

@[simp] theorem State.dataPointer_mem (s : State) (c : Chan) (cid addr len : Nat) :
    (s.dataPointer c cid addr len).2.2.mem = s.mem := by
  unfold State.dataPointer
  dsimp only
  repeat' split
  all_goals simp

@[simp] theorem State.nvmeCommand_mem (s : State) (c : Chan) (o : Order) (cid grant : Nat) :
    (s.nvmeCommand c o cid grant).2.mem = s.mem := by
  unfold State.nvmeCommand
  dsimp only
  split <;> simp

@[simp] theorem State.deliver_mem (s : State) (m slot attempt : Nat) : (s.deliver m slot attempt).mem = s.mem := by
  unfold State.deliver
  dsimp only
  repeat' split
  all_goals simp

@[simp] theorem State.issueNext_wf (s : State) (m : Nat) (hs : s.mem.wf = true) : (s.issueNext m).mem.wf = true := by
  unfold State.issueNext
  dsimp only
  repeat' split
  all_goals simp [hs]

@[simp] theorem State.redrive_wf (s : State) (m slot : Nat) (hs : s.mem.wf = true) :
    (s.redrive m slot).mem.wf = true := by
  unfold State.redrive
  dsimp only
  repeat' split
  all_goals simp [hs]

@[simp] theorem State.noAnswer_wf (s : State) (m slot : Nat) (hs : s.mem.wf = true) :
    (s.noAnswer m slot).mem.wf = true := by
  unfold State.noAnswer
  dsimp only
  split <;> simp [hs]

@[simp] theorem State.openEntry_mem (s : State) (m slot : Nat) : (s.openEntry m slot).mem = s.mem := by
  unfold State.openEntry
  dsimp only
  repeat' split
  all_goals simp

@[simp] theorem State.duplicateInDoubt_mem (s : State) (m slot : Nat) : (s.duplicateInDoubt m slot).mem = s.mem := by
  unfold State.duplicateInDoubt
  dsimp only
  repeat' split
  all_goals simp

@[simp] theorem State.retireRelease_mem (s : State) (m : Nat) : (s.retireRelease m).mem = s.mem := rfl

@[simp] theorem State.applyRetire_mem (s : State) (m slot mark : Nat) : (s.applyRetire m slot mark).mem = s.mem := rfl

@[simp] theorem State.startRead_mem (s : State) (m : Nat) (o : Order) : (s.startRead m o).mem = s.mem := by
  unfold State.startRead
  dsimp only
  repeat' split
  all_goals simp

theorem State.withReads_keeps {s : State} {a t : Nat} {ws : List Nat} {go : State → State} (hs : s.mem.wf = true)
    (hgo : ∀ u, u.mem.wf = true → (go u).mem.wf = true) : (s.withReads a t ws go).mem.wf = true :=
  State.withReads_wf s a t ws go hs (hgo _ (by simp [hs]))

@[simp] theorem State.start_wf (s : State) (m : Nat) (code : OCode) (hs : s.mem.wf = true) :
    (s.start m code).mem.wf = true := by
  unfold State.start
  split
  · exact hs
  · refine State.withReads_keeps hs (fun u hu => ?_)
    generalize u.nextOrder m = p
    obtain ⟨o, readable⟩ := p
    dsimp only
    split
    · exact hu
    · generalize hb : (if (readable && o.chain) = true then _ else _ : State × Bool) = b
      have hb : b.1.mem.wf = true := by
        rw [← hb]
        split
        · simp [hu]
        · exact hu
      split
      · exact hb
      · dsimp only at hb
        repeat' split
        all_goals simp [hb]

@[simp] theorem State.allocate_mem (s : State) (m : Nat) : (s.allocate m).mem = s.mem := by
  unfold State.allocate
  dsimp only
  split <;> simp

@[simp] theorem State.writeCompletion_wf (s : State) (m : Nat) (o : Order) (hs : s.mem.wf = true) :
    (s.writeCompletion m o).mem.wf = true := by
  simp [State.writeCompletion, hs]

@[simp] theorem State.closeRest_wf (s : State) (m n : Nat) (hs : s.mem.wf = true) :
    (s.closeRest m n).mem.wf = true := by
  induction n generalizing s with
  | zero => exact hs
  | succ n ih => simp [State.closeRest, ih, hs]

@[simp] theorem State.afterRecord_wf (s : State) (m : Nat) (o : Order) (hs : s.mem.wf = true) :
    (s.afterRecord m o).mem.wf = true := by
  unfold State.afterRecord
  dsimp only
  split
  · rw [State.setChan_mem]
    exact State.closeRest_wf _ _ _ hs
  · split <;> simp [hs]

@[simp] theorem State.completeNext_wf (s : State) (m : Nat) (hs : s.mem.wf = true) :
    (s.completeNext m).mem.wf = true := by
  unfold State.completeNext
  dsimp only
  split
  · exact hs
  next o _ =>
    split
    · exact hs
    · generalize hr : (ite o.unrecorded _ _ : State) = recorded
      have hr : recorded.mem.wf = true := by
        rw [← hr]
        split <;> simp [hs]
      split
      · exact hr
      · refine State.withReads_keeps hr (fun u hu => ?_)
        have hw : ((u.writeCompletion m o).afterRecord m o).mem.wf = true := by simp [hu]
        split <;> simp [hw]

@[simp] theorem State.completionBlock_mem (s : State) (id : DWord) (result attempt count : Nat) (detail : BitVec 64) :
    (s.completionBlock id result attempt count detail).mem = s.mem := by
  unfold State.completionBlock
  dsimp only
  repeat' split
  all_goals simp

@[simp] theorem State.targetReset_wf (s : State) (port rid : Nat) (hs : s.mem.wf = true) :
    (s.targetReset port rid).mem.wf = true := by
  refine foldl_wf (fun t e ht => ?_) _ hs
  split
  · exact foldl_wf (fun u o hu => by simp [hu]) _ ht
  · exact ht

@[simp] theorem State.nvmeCompletion_wf (s : State) (port rid cid status dword0 dword3 : Nat) (hs : s.mem.wf = true) :
    (s.nvmeCompletion port rid cid status dword0 dword3).mem.wf = true := by
  unfold State.nvmeCompletion
  split <;> simp [hs]

@[simp] theorem State.pcieDown_mem (s : State) (link : Nat) : (s.pcieDown link).mem = s.mem := rfl

@[simp] theorem State.pcieUpEvent_wf (s : State) (link rate width : Nat) (hs : s.mem.wf = true) :
    (s.pcieUpEvent link rate width).mem.wf = true := by
  refine foldl_wf (fun t e ht => ?_) _ hs
  split
  · exact foldl_wf (fun u o hu => by simp [hu]) _ ht
  · exact ht

@[simp] theorem State.ioFault_mem (s : State) (t : Nat) (write : Bool) (cause rid addr : Nat) :
    (s.ioFault t write cause rid addr).mem = s.mem := by
  simp [State.ioFault]

@[simp] theorem State.wrRealOctets_wf (s : State) (a : Nat) (l : List (Nat × Octet)) (hs : s.mem.wf = true) :
    (s.wrRealOctets a l).mem.wf = true := by
  simp [State.wrRealOctets, hs]

@[simp] theorem State.deviceWrite_wf (s : State) (port rid addr : Nat) (octets : List Octet) (hs : s.mem.wf = true) :
    (s.deviceWrite port rid addr octets).mem.wf = true := by
  unfold State.deviceWrite
  dsimp only
  repeat' split
  all_goals simp [hs]

@[simp] theorem State.deviceRead_wf (s : State) (port rid addr n : Nat) (hs : s.mem.wf = true) :
    (s.deviceRead port rid addr n).mem.wf = true := by
  unfold State.deviceRead
  repeat' split
  all_goals simp [hs]

@[simp] theorem State.releaseChannel_mem (s : State) (c : Chan) : (s.releaseChannel c).mem = s.mem := rfl

@[simp] theorem State.configured_mem (s : State) (l : List Octet) : (s.configured l).mem = s.mem := by
  simp [State.configured]

@[simp] theorem State.configItem_mem (s : State) (l : List Octet) : (s.configItem l).2.mem = s.mem := by
  simp [State.configItem]

@[simp] theorem State.configure_mem (s : State) (l : List Octet) : (s.configure l).mem = s.mem := by
  have hc := (s.persist 0x1310 1).configItem_mem l
  unfold State.configure
  dsimp only
  split
  next heq =>
    rw [heq] at hc
    simpa using hc
  next heq =>
    rw [heq] at hc
    simpa using hc

@[simp] theorem State.configReceipt_mem (s : State) (i : Nat) (received : Bool) :
    (s.configReceipt i received).mem = s.mem := by
  unfold State.configReceipt
  split
  · rfl
  next l _ =>
    dsimp only
    split
    · simp
    · generalize hu : ({ s with ch := _ } : State) = u
      have hc := State.configItem_mem u l
      have hm : u.mem = s.mem := by rw [← hu]
      split
      next heq =>
        rw [heq] at hc
        exact hc.trans hm
      next heq =>
        rw [heq] at hc
        rw [State.configured_mem]
        exact hc.trans hm

@[simp] theorem State.configsDue_mem (s : State) : s.configsDue.mem = s.mem := by simp [State.configsDue]

theorem State.noAnswers_wf (l : List Order) (m : Nat) {s : State} (hs : s.mem.wf = true) :
    (l.foldl (fun s o => if o.stage == .issued then s.noAnswer m o.slot else s) s).mem.wf = true :=
  foldl_wf (fun u o hu => by split <;> simp [hu]) l hs

@[simp] theorem State.fenceProc_wf (s : State) (p : Nat) (hs : s.mem.wf = true) : (s.fenceProc p).mem.wf = true := by
  unfold State.fenceProc
  dsimp only
  refine foldl_wf (fun t e ht => ?_) _ (by simp [hs])
  split
  · split
    · split <;> simp [ht]
    · exact State.noAnswers_wf _ _ (by split <;> simp [ht])
  · exact ht

@[simp] theorem execNop_canonical (chan : Nat) (s : State) (hs : s.mem.wf = true) : Canonical (execNop chan s) :=
  runIf_canonical (by simp [hs])

@[simp] theorem execRead_canonical (chan : Nat) (s : State) (hs : s.mem.wf = true) : Canonical (execRead chan s) :=
  runIf_canonical (by simp [hs])

@[simp] theorem execWrite_canonical (chan : Nat) (s : State) (hs : s.mem.wf = true) : Canonical (execWrite chan s) :=
  runIf_canonical (by simp [hs])

@[simp] theorem execFlush_canonical (chan : Nat) (s : State) (hs : s.mem.wf = true) : Canonical (execFlush chan s) :=
  runIf_canonical (by simp [hs])

@[simp] theorem execWriteZeroes_canonical (chan : Nat) (s : State) (hs : s.mem.wf = true) :
    Canonical (execWriteZeroes chan s) := runIf_canonical (by simp [hs])

@[simp] theorem execDeallocate_canonical (chan : Nat) (s : State) (hs : s.mem.wf = true) :
    Canonical (execDeallocate chan s) := runIf_canonical (by simp [hs])

@[simp] theorem execControl_canonical (chan : Nat) (s : State) (hs : s.mem.wf = true) :
    Canonical (execControl chan s) := runIf_canonical (by simp [hs])

@[simp] theorem execQuery_canonical (chan : Nat) (s : State) (hs : s.mem.wf = true) : Canonical (execQuery chan s) :=
  runIf_canonical (by simp [hs])

@[simp] theorem execSend_canonical (chan : Nat) (s : State) (hs : s.mem.wf = true) : Canonical (execSend chan s) :=
  runIf_canonical (by simp [hs])

@[simp] theorem execReceive_canonical (chan : Nat) (s : State) (hs : s.mem.wf = true) :
    Canonical (execReceive chan s) := runIf_canonical (by simp [hs])

@[simp] theorem execRetire_canonical (chan : Nat) (s : State) (hs : s.mem.wf = true) : Canonical (execRetire chan s) :=
  runIf_canonical (by simp [hs])

@[simp] theorem execClose_canonical (chan : Nat) (s : State) (hs : s.mem.wf = true) : Canonical (execClose chan s) :=
  runIf_canonical (by simp [hs])

@[simp] theorem execLedgerAllocation_canonical (chan : Nat) (s : State) (hs : s.mem.wf = true) :
    Canonical (execLedgerAllocation chan s) := runIf_canonical (by simp [hs])

@[simp] theorem execIssue_canonical (chan : Nat) (s : State) (hs : s.mem.wf = true) : Canonical (execIssue chan s) :=
  runIf_canonical (by simp [hs])

@[simp] theorem execCompletionBlock_canonical (opid : DWord) (result : Nat) (_duplicate : Bool) (attempt count : Nat)
    (detail : BitVec 64) (s : State) (hs : s.mem.wf = true) :
    Canonical (execCompletionBlock opid result _duplicate attempt count detail s) := runIf_canonical (by simp [hs])

@[simp] theorem execNvmExpressCompletion_canonical (port rid cid status dword0 dword3 : Nat) (s : State)
    (hs : s.mem.wf = true) : Canonical (execNvmExpressCompletion port rid cid status dword0 dword3 s) :=
  runIf_canonical (by simp [hs])

@[simp] theorem execCompletionRecord_canonical (chan : Nat) (s : State) (hs : s.mem.wf = true) :
    Canonical (execCompletionRecord chan s) := runIf_canonical (by simp [hs])

@[simp] theorem execOrderTimeout_canonical (chan slot : Nat) (s : State) (hs : s.mem.wf = true) :
    Canonical (execOrderTimeout chan slot s) := runIf_canonical (by simp [hs])

@[simp] theorem execPcieLinkUp_canonical (port link rate width : Nat) (s : State) (hs : s.mem.wf = true) :
    Canonical (execPcieLinkUp port link rate width s) := runIf_canonical (by simp [hs])

@[simp] theorem execAdapterReset_canonical (port rid : Nat) (s : State) (hs : s.mem.wf = true) :
    Canonical (execAdapterReset port rid s) := runIf_canonical (by simp [hs])

@[simp] theorem execDeviceWrite_canonical (port rid addr : Nat) (octets : List Octet) (s : State)
    (hs : s.mem.wf = true) : Canonical (execDeviceWrite port rid addr octets s) :=
  runIf_canonical (by simp [hs])

@[simp] theorem execDeviceRead_canonical (port rid addr len : Nat) (s : State) (hs : s.mem.wf = true) :
    Canonical (execDeviceRead port rid addr len s) := runIf_canonical (by simp [hs])

@[simp] theorem execConfigureChannel_canonical (route : Route) (record : List Octet) (s : State)
    (hs : s.mem.wf = true) : Canonical (execConfigureChannel route record s) :=
  runIf_canonical (by simp [hs])

@[simp] theorem execAerErrorMessage_canonical (port link : Nat) (s : State) (hs : s.mem.wf = true) :
    Canonical (execAerErrorMessage port link s) := runIf_canonical (by simp [hs])

/-! ## Constellation -/

@[simp] theorem State.takeFack_mem (s : State) (h : CHeader) : (s.takeFack h).mem = s.mem := by simp [State.takeFack]

@[simp] theorem State.acceptSeq_mem (s : State) (h : CHeader) : (s.acceptSeq h).2.mem = s.mem := by
  simp [State.acceptSeq]

@[simp] theorem State.dropFrame_mem (s : State) : s.dropFrame.mem = s.mem := rfl

@[simp] theorem State.peerRetire_mem (s : State) (m src mark : Nat) (id : DWord) :
    (s.peerRetire m src mark id).mem = s.mem := rfl

@[simp] theorem State.message_wf (s : State) (h : CHeader) (data : List Octet) (hs : s.mem.wf = true) :
    (s.message h data).mem.wf = true := by
  unfold State.message
  dsimp only
  split
  · simp [hs]
  · split
    · simp [hs]
    · split
      · simp [hs]
      · split
        · simp [hs]
        · split
          · simp [hs]
          · simp [hs]

@[simp] theorem State.consData_wf (s : State) (h : CHeader) (payload : List Octet) (hs : s.mem.wf = true) :
    (s.consData h payload).mem.wf = true := by
  simp [State.consData, hs]

@[simp] theorem State.consCompletion_mem (s : State) (h : CHeader) (status count : Nat) :
    (s.consCompletion h status count).mem = s.mem := by
  unfold State.consCompletion
  dsimp only
  repeat' split
  all_goals simp

@[simp] theorem State.peerAlive_mem (s : State) (p : Nat) : (s.peerAlive p).mem = s.mem := rfl

@[simp] theorem State.sendPlain_mem (s : State) (p type : Nat) : (s.sendPlain p type).mem = s.mem := by
  simp [State.sendPlain]

@[simp] theorem State.newFloor_mem (s : State) : s.newFloor.mem = s.mem := by simp [State.newFloor]

@[simp] theorem State.stepTime_mem (s : State) (t : Nat) : (s.stepTime t).mem = s.mem := by simp [State.stepTime]

@[simp] theorem execConstellationData_canonical (hdr : CHeader) (payload : List Octet) (s : State)
    (hs : s.mem.wf = true) : Canonical (execConstellationData hdr payload s) :=
  runIf_canonical (by simp [hs])

@[simp] theorem execAck_canonical (hdr : CHeader) (s : State) (hs : s.mem.wf = true) : Canonical (execAck hdr s) :=
  runIf_canonical (by simp [hs])

@[simp] theorem execCompletion_canonical (hdr : CHeader) (status count : Nat) (_time : BitVec 64) (s : State)
    (hs : s.mem.wf = true) : Canonical (execCompletion hdr status count _time s) :=
  runIf_canonical (by simp [hs])

@[simp] theorem execNotReady_canonical (hdr : CHeader) (s : State) (hs : s.mem.wf = true) :
    Canonical (execNotReady hdr s) := runIf_canonical (by simp [hs])

@[simp] theorem execHello_canonical (port : Nat) (hdr : CHeader) (s : State) (hs : s.mem.wf = true) :
    Canonical (execHello port hdr s) := runIf_canonical (by simp [hs])

@[simp] theorem execHelloSend_canonical (peer : Nat) (s : State) (hs : s.mem.wf = true) :
    Canonical (execHelloSend peer s) := runIf_canonical (by simp [hs])

@[simp] theorem execFack_canonical (peer : Nat) (s : State) (hs : s.mem.wf = true) : Canonical (execFack peer s) :=
  runIf_canonical (by simp [hs])

@[simp] theorem execRetransmit_canonical (peer : Nat) (s : State) (hs : s.mem.wf = true) :
    Canonical (execRetransmit peer s) := runIf_canonical (by simp [hs])

@[simp] theorem execPeerDown_canonical (peer : Nat) (s : State) (hs : s.mem.wf = true) :
    Canonical (execPeerDown peer s) := runIf_canonical (by simp [hs])

@[simp] theorem execConstellationPortFailure_canonical (port : Nat) (s : State) (hs : s.mem.wf = true) :
    Canonical (execConstellationPortFailure port s) := runIf_canonical (by simp [hs])

@[simp] theorem execTimeFloor_canonical (s : State) (hs : s.mem.wf = true) : Canonical (execTimeFloor s) :=
  runIf_canonical (by simp [hs])

@[simp] theorem execPtpMessage_canonical (offset : ℤ) (atLock : Bool) (s : State) (hs : s.mem.wf = true) :
    Canonical (execPtpMessage offset atLock s) := runIf_canonical (by simp [hs])

@[simp] theorem execTimeOfDay_canonical (route : Route) (value : BitVec 64) (s : State) (hs : s.mem.wf = true) :
    Canonical (execTimeOfDay route value s) := runIf_canonical (by simp [hs])

/-! ## Compress -/

@[simp] theorem State.esbCx_mem (s : State) (t level a n : Nat) : (s.esbCx t level a n).2.mem = s.mem := by
  simp [State.esbCx]

@[simp] theorem State.eplCx_mem (s : State) (t level a : Nat) : (s.eplCx t level a).2.mem = s.mem := by
  simp [State.eplCx]

@[simp] theorem State.cxWrite_wf (s : State) (t : Nat) (nonet : Bool) (a : Nat) (l : List Nat) (hs : s.mem.wf = true) :
    (s.cxWrite t nonet a l).mem.wf = true := by
  simp [State.cxWrite, hs]

@[simp] theorem State.saveCtx_wf (s : State) (t : Nat) (q : CxReq) (d : Dict) (blocks : Nat) (hs : s.mem.wf = true) :
    (s.saveCtx t q d blocks).mem.wf = true := by
  simp [State.saveCtx, hs]

@[simp] theorem State.cxCompress_wf (s : State) (t : Nat) (q : CxReq) (d : Dict) (blocks : Nat) (hs : s.mem.wf = true) :
    (s.cxCompress t q d blocks).2.mem.wf = true := by
  simp [State.cxCompress, hs]

@[simp] theorem State.cxDecompress_wf (s : State) (t : Nat) (q : CxReq) (d : Dict) (blocks : Nat)
    (hs : s.mem.wf = true) : (s.cxDecompress t q d blocks).2.mem.wf = true := by
  unfold State.cxDecompress
  dsimp only
  repeat' split
  all_goals simp [hs]

@[simp] theorem State.cxRun_wf (s : State) (t : Nat) (q : CxReq) (hs : s.mem.wf = true) :
    (s.cxRun t q).2.mem.wf = true := by
  unfold State.cxRun
  dsimp only
  repeat' split
  all_goals simp [hs]

@[simp] theorem State.cxBegin_wf (s : State) (t r lane : Nat) (q : CxReq) (hs : s.mem.wf = true) :
    (s.cxBegin t r lane q).mem.wf = true := by
  unfold State.cxBegin
  dsimp only
  split <;> simp [hs]

@[simp] theorem State.cxStart_wf (s : State) (t r lane op : Nat) (hs : s.mem.wf = true) :
    (s.cxStart t r lane op).mem.wf = true := by
  unfold State.cxStart
  dsimp only
  split
  · exact hs
  · refine State.withReads_keeps hs (fun u hu => ?_)
    split
    · exact hu
    · exact State.withReads_keeps hu (fun v hv => State.cxBegin_wf v t r lane _ hv)

@[simp] theorem State.ringComplete_wf (s : State) (t : Nat) (g : Ring) (slot : Nat) (words : List Word) (irq : Bool)
    (hs : s.mem.wf = true) : (s.ringComplete t g slot words irq).mem.wf = true := by
  simp [State.ringComplete, hs]

@[simp] theorem State.cxComplete_wf (s : State) (t r : Nat) (hs : s.mem.wf = true) :
    (s.cxComplete t r).mem.wf = true := by
  unfold State.cxComplete
  dsimp only
  repeat' split
  all_goals simp [hs]

@[simp] theorem State.cxCloseWrite_mem (s : State) (a : Accessor) (t : Nat) (w : Word) :
    (s.cxCloseWrite a t w).mem = s.mem := by
  unfold State.cxCloseWrite
  dsimp only
  repeat' split
  all_goals simp

@[simp] theorem State.fenceLane_mem (s : State) (l : Nat) : (s.fenceLane l).mem = s.mem := by simp [State.fenceLane]

@[simp] theorem State.cxCompletions_wf (t r n : Nat) (s : State) (hs : s.mem.wf = true) :
    (s.cxCompletions t r n).mem.wf = true := by
  induction n generalizing s with
  | zero => exact hs
  | succ n ih => simp [State.cxCompletions, ih, hs]

@[simp] theorem State.cxDrainRing_wf (s : State) (t r : Nat) (hs : s.mem.wf = true) :
    (s.cxDrainRing t r).1.mem.wf = true := by
  simp [State.cxDrainRing, hs]

@[simp] theorem execCompress_canonical (tenant ring lane : Nat) (s : State) (hs : s.mem.wf = true) :
    Canonical (execCompress tenant ring lane s) := runIf_canonical (by simp [hs])

@[simp] theorem execDecompress_canonical (tenant ring lane : Nat) (s : State) (hs : s.mem.wf = true) :
    Canonical (execDecompress tenant ring lane s) := runIf_canonical (by simp [hs])

@[simp] theorem execCompressionCompletion_canonical (tenant ring : Nat) (s : State) (hs : s.mem.wf = true) :
    Canonical (execCompressionCompletion tenant ring s) := runIf_canonical (by simp [hs])

@[simp] theorem execCxClose_canonical (acc : Accessor) (tenant : Nat) (value : Word) (s : State)
    (hs : s.mem.wf = true) : Canonical (execCxClose acc tenant value s) :=
  runIf_canonical (by simp [hs])

/-! ## Cipher -/

@[simp] theorem State.esbCi_mem (s : State) (t level a n : Nat) : (s.esbCi t level a n).2.mem = s.mem := by
  simp [State.esbCi]

@[simp] theorem State.eplCi_mem (s : State) (t level a : Nat) : (s.eplCi t level a).2.mem = s.mem := by
  simp [State.eplCi]

@[simp] theorem State.ciBlocks_wf (t : Nat) (key : List Octet) (dec : Bool) (src dst n j : Nat) (s : State)
    (hs : s.mem.wf = true) : (s.ciBlocks t key dec src dst n j).mem.wf = true := by
  simp [State.ciBlocks, hs]

@[simp] theorem State.ciDispatch_wf (s : State) (t : Nat) (x : Ran) (n : Nat) (hs : s.mem.wf = true) :
    (s.ciDispatch t x n).1.mem.wf = true := by
  simp [State.ciDispatch, hs]

@[simp] theorem State.ciCount_mem (s : State) (t h blocks : Nat) : (s.ciCount t h blocks).mem = s.mem := by
  simp [State.ciCount]

@[simp] theorem State.ciBegin_mem (s : State) (t r aes : Nat) (q : CiReq) : (s.ciBegin t r aes q).mem = s.mem := by
  simp [State.ciBegin]

@[simp] theorem State.ciStart_wf (s : State) (t r aes op : Nat) (hs : s.mem.wf = true) :
    (s.ciStart t r aes op).mem.wf = true := by
  simp [State.ciStart, hs]

@[simp] theorem State.ciRecord_wf (s : State) (t : Nat) (g : Ring) (slot : Nat) (words : List Word) (irq : Bool)
    (hs : s.mem.wf = true) : (s.ciRecord t g slot words irq).mem.wf = true := by
  simp [State.ciRecord, hs]

@[simp] theorem State.ciFinish_wf (s : State) (t r : Nat) (x : Ran) (hs : s.mem.wf = true) :
    (s.ciFinish t r x).1.mem.wf = true := by
  simp [State.ciFinish, hs]

@[simp] theorem State.ciComplete_wf (s : State) (t r : Nat) (hs : s.mem.wf = true) :
    (s.ciComplete t r).mem.wf = true := by
  unfold State.ciComplete
  dsimp only
  split
  · split
    · exact hs
    · refine State.withReads_keeps hs (fun u hu => ?_)
      dsimp only
      rw [State.setCiRing_mem]
      exact State.ciRecord_wf _ _ _ _ _ _ hu
  next x _ =>
    split
    · exact hs
    · refine State.withReads_keeps hs (fun u hu => ?_)
      have hf := State.ciFinish_wf u t r x hu
      split
      · exact hf
      · rw [State.setCiRing_mem]
        exact State.ciRecord_wf _ _ _ _ _ _ hf

@[simp] theorem State.ciStop_wf (s : State) (t : Nat) (x : Ran) (status : Nat) (hs : s.mem.wf = true) :
    (s.ciStop t x status).1.mem.wf = true := by
  simp [State.ciStop, hs]

@[simp] theorem State.ciCloseWrite_mem (s : State) (a : Accessor) (t : Nat) (w : Word) :
    (s.ciCloseWrite a t w).mem = s.mem := by
  unfold State.ciCloseWrite
  dsimp only
  repeat' split
  all_goals simp

@[simp] theorem State.keyResult_mem (s : State) (t status : Nat) : (s.keyResult t status).mem = s.mem := rfl

@[simp] theorem State.keyPersist_mem (s : State) (t h : Nat) (k : KeySlot) : (s.keyPersist t h k).mem = s.mem := by
  simp [State.keyPersist]

@[simp] theorem State.keyRun_wf (s : State) (t op size : Nat) (enc dec ex : Bool) (h : Nat) (hs : s.mem.wf = true) :
    (s.keyRun t op size enc dec ex h).mem.wf = true := by
  unfold State.keyRun
  dsimp only
  repeat' split
  all_goals simp [hs]

@[simp] theorem State.keyCmdWrite_wf (s : State) (a : Accessor) (t : Nat) (w : Word) (hs : s.mem.wf = true) :
    (s.keyCmdWrite a t w).mem.wf = true := by
  unfold State.keyCmdWrite
  dsimp only
  split
  · exact hs
  · split
    · split <;> simp [hs]
    · split
      · exact State.withReads_keeps (by simp [hs]) (fun u hu => by simp [hu])
      · simp [hs]

@[simp] theorem State.changeRing_wf (s : State) (t h r : Nat) (hs : s.mem.wf = true) :
    (s.changeRing t h r).mem.wf = true := by
  refine foldl_fst_wf (fun p x hp => ?_) _ hs
  dsimp only
  split <;> simp [hp]

@[simp] theorem State.keyEffect_wf (s : State) (t h : Nat) (k : KeySlot) (hs : s.mem.wf = true) :
    (s.keyEffect t h k).mem.wf = true := by
  unfold State.keyEffect
  dsimp only
  rw [State.setKeySlot_mem]
  exact foldl_wf (fun u r hu => by simp [hu]) _ hs

@[simp] theorem State.effectPoint_wf (s : State) (t : Nat) (hs : s.mem.wf = true) :
    (s.effectPoint t).mem.wf = true := by
  unfold State.effectPoint
  split <;> simp [hs]

@[simp] theorem State.keyReceipt_mem (s : State) (t : Nat) : (s.keyReceipt t).mem = s.mem := by
  unfold State.keyReceipt
  split <;> simp

@[simp] theorem State.fenceAes_wf (s : State) (c : Nat) (hs : s.mem.wf = true) : (s.fenceAes c).mem.wf = true :=
  foldl_wf (fun t e ht => foldl_wf (fun u re hu => by split <;> simp [hu]) _ ht) _ (by simp [hs])

@[simp] theorem State.ciCompletions_wf (t r n : Nat) (s : State) (hs : s.mem.wf = true) :
    (s.ciCompletions t r n).mem.wf = true := by
  induction n generalizing s with
  | zero => exact hs
  | succ n ih => simp [State.ciCompletions, ih, hs]

@[simp] theorem State.ciDrainRing_wf (s : State) (t r : Nat) (hs : s.mem.wf = true) :
    (s.ciDrainRing t r).1.mem.wf = true := by
  unfold State.ciDrainRing
  dsimp only
  split
  · exact hs
  · refine State.ciCompletions_wf _ _ _ _ ?_
    rw [State.setCiRing_mem]
    refine foldl_fst_wf (fun p x hp => ?_) _ hs
    simp [hp]

@[simp] theorem State.ciDrain_wf (s : State) (t : Nat) (hs : s.mem.wf = true) : (s.ciDrain t).mem.wf = true := by
  have hd : ((List.range 16).foldl (fun (p : State × Nat) r =>
      ((p.1.ciDrainRing t r).1, p.2 + (p.1.ciDrainRing t r).2)) (s, 0)).1.mem.wf = true :=
    foldl_fst_wf (fun p r hp => by simp [hp]) _ hs
  simp [State.ciDrain, hd]

@[simp] theorem State.keyRow_wf (s : State) (a : Accessor) (t op : Nat) (w : Word) (hs : s.mem.wf = true) :
    (s.keyRow a t op w).mem.wf = true := by
  simp [State.keyRow, hs]

@[simp] theorem execEncrypt_canonical (tenant ring aes : Nat) (s : State) (hs : s.mem.wf = true) :
    Canonical (execEncrypt tenant ring aes s) := runIf_canonical (by simp [hs])

@[simp] theorem execDecrypt_canonical (tenant ring aes : Nat) (s : State) (hs : s.mem.wf = true) :
    Canonical (execDecrypt tenant ring aes s) := runIf_canonical (by simp [hs])

@[simp] theorem execCipherCompletion_canonical (tenant ring : Nat) (s : State) (hs : s.mem.wf = true) :
    Canonical (execCipherCompletion tenant ring s) := runIf_canonical (by simp [hs])

@[simp] theorem execCiClose_canonical (acc : Accessor) (tenant : Nat) (value : Word) (s : State)
    (hs : s.mem.wf = true) : Canonical (execCiClose acc tenant value s) :=
  runIf_canonical (by simp [hs])

@[simp] theorem execErase_canonical (acc : Accessor) (tenant : Nat) (value : Word) (s : State) (hs : s.mem.wf = true) :
    Canonical (execErase acc tenant value s) := runIf_canonical (by simp [hs])

@[simp] theorem execLoadPlain_canonical (acc : Accessor) (tenant : Nat) (value : Word) (s : State)
    (hs : s.mem.wf = true) : Canonical (execLoadPlain acc tenant value s) :=
  runIf_canonical (by simp [hs])

@[simp] theorem execLoadWrapped_canonical (acc : Accessor) (tenant : Nat) (value : Word) (s : State)
    (hs : s.mem.wf = true) : Canonical (execLoadWrapped acc tenant value s) :=
  runIf_canonical (by simp [hs])

@[simp] theorem execGenerate_canonical (acc : Accessor) (tenant : Nat) (value : Word) (s : State)
    (hs : s.mem.wf = true) : Canonical (execGenerate acc tenant value s) :=
  runIf_canonical (by simp [hs])

@[simp] theorem execExportWrapped_canonical (acc : Accessor) (tenant : Nat) (value : Word) (s : State)
    (hs : s.mem.wf = true) : Canonical (execExportWrapped acc tenant value s) :=
  runIf_canonical (by simp [hs])

@[simp] theorem execEffectPoint_canonical (tenant : Nat) (s : State) (hs : s.mem.wf = true) :
    Canonical (execEffectPoint tenant s) := runIf_canonical (by simp [hs])

/-! ## Tenants -/

@[simp] theorem State.dropPage_wf (s : State) (page : Nat) (hs : s.mem.wf = true) :
    (s.dropPage page).mem.wf = true := by
  simp [State.dropPage, hs]

@[simp] theorem State.retagPage_wf (s : State) (page : Nat) (new : BitVec 16) (hs : s.mem.wf = true) :
    (s.retagPage page new).mem.wf = true := by
  unfold State.retagPage
  dsimp only
  split
  · exact State.setTag_wf (by simp [hs]) _ _
  · exact State.setTag_wf (State.zeroPage_wf (by simp [hs]) _) _ _

@[simp] theorem State.zeroSlices_mem (s : State) (t : Nat) : (s.zeroSlices t).mem = s.mem := by simp [State.zeroSlices]

@[simp] theorem State.create_mem (s : State) (t : Nat) : (s.create t).mem = s.mem := by simp [State.create]

@[simp] theorem State.cxDrain_wf (s : State) (t : Nat) (hs : s.mem.wf = true) : (s.cxDrain t).mem.wf = true := by
  unfold State.cxDrain
  dsimp only
  rw [State.setCxT_mem]
  exact foldl_fst_wf (fun p r hp => by simp [hp]) _ hs

/-- The two completions of one ring number of a tenant (the step of `State.ringsClose`). -/
def State.closeRing (t : Nat) (s : State) (r : Nat) : State :=
  State.ciCompletions t r (s.ciRing t r).backlog (State.cxCompletions t r (s.cxRing t r).backlog s)

theorem State.closeRing_wf (t r : Nat) {s : State} (hs : s.mem.wf = true) : (State.closeRing t s r).mem.wf = true :=
  State.ciCompletions_wf t r _ _ (State.cxCompletions_wf t r _ s hs)

theorem State.closeRings_wf (rings : List Nat) (t : Nat) {s : State} (hs : s.mem.wf = true) :
    (rings.foldl (State.closeRing t) s).mem.wf = true := by
  induction rings generalizing s with
  | nil => exact hs
  | cons r rs ih =>
    rw [List.foldl_cons]
    exact ih (State.closeRing_wf t r hs)

theorem State.ringsClose_fst (s : State) (t : Nat) :
    (s.ringsClose t).1 = (List.range 16).foldl (State.closeRing t) s := by
  unfold State.ringsClose State.closeRing
  dsimp only

@[simp] theorem State.ringsClose_wf (s : State) (t : Nat) (hs : s.mem.wf = true) :
    (s.ringsClose t).1.mem.wf = true := by
  rw [State.ringsClose_fst]
  exact State.closeRings_wf _ t hs

@[simp] theorem State.drain_wf (s : State) (t : Nat) (deleting : Bool) (hs : s.mem.wf = true) :
    (s.drain t deleting).mem.wf = true := by
  simp [State.drain, hs]

@[simp] theorem State.abandonChannel_wf (s : State) (m : Nat) (hs : s.mem.wf = true) :
    (s.abandonChannel m).1.mem.wf = true := by
  refine foldl_fst_wf (fun p x hp => ?_) _ hs
  dsimp only
  split <;> simp [hp]

@[simp] theorem State.abandonLedger_mem (s : State) (t : Nat) : (s.abandonLedger t).mem = s.mem := by
  simp [State.abandonLedger]

@[simp] theorem State.ptlTenant_mem (s : State) (t : Nat) : (s.ptlTenant t).mem = s.mem := rfl

@[simp] theorem State.deleteTenant_wf (s : State) (t : Nat) (keep : Bool) (hs : s.mem.wf = true) :
    (s.deleteTenant t keep).mem.wf = true := by
  have hp : ∀ l : List Nat, (l.foldl (fun s p => s.retagPage p s.freeTag) s).mem.wf = true :=
    fun l => foldl_wf (fun u p hu => by simp [hu]) l hs
  simp [State.deleteTenant, hp]

theorem State.abandonChannels_wf (l : List (Nat × Chan)) (t : Nat) {p : State × Nat} (hp : p.1.mem.wf = true) :
    (l.foldl (fun (p : State × Nat) e =>
      if e.2.tenant == t && e.2.opened then
        let (s, k) := p.1.abandonChannel e.1
        (s, p.2 + k)
      else p) p).1.mem.wf = true :=
  foldl_fst_wf (fun p e hp => by dsimp only; split <;> simp [hp]) _ hp

@[simp] theorem State.drainEnds_wf (s : State) (t : Nat) (hs : s.mem.wf = true) : (s.drainEnds t).mem.wf = true := by
  unfold State.drainEnds
  split
  · exact hs
  · have hu := s.ringsClose_wf t hs
    generalize s.ringsClose t = p at hu ⊢
    obtain ⟨u, closed⟩ := p
    dsimp only at hu ⊢
    split
    · exact hu
    · have hf : ((u.ownFunctions t).foldl (fun s f => s.emit (.reset f.1 f.2)) u).mem = u.mem :=
        foldl_mem (fun s _ => State.emit_mem s _) _ _
      generalize hq : (List.foldl _ (_, 0) _ : State × Nat) = q
      have hq : q.1.mem.wf = true := by
        rw [← hq]
        exact State.abandonChannels_wf _ t (by simp [hf, hu])
      split <;> simp [hq]

@[simp] theorem State.handOverStart_mem (s : State) (op target : Nat) : (s.handOverStart op target).mem = s.mem := by
  simp [State.handOverStart]

@[simp] theorem State.handOverWrite_mem (s : State) (a : Accessor) (w : Word) : (s.handOverWrite a w).mem = s.mem := by
  simp [State.handOverWrite]

@[simp] theorem State.moveSrc_mem (s : State) (o n : Nat) : (s.moveSrc o n).mem = s.mem := by simp [State.moveSrc]

@[simp] theorem State.handOverDone_mem (s : State) (passed : Bool) : (s.handOverDone passed).mem = s.mem := by
  unfold State.handOverDone
  dsimp only
  repeat' split
  all_goals simp

@[simp] theorem State.gate_mem (s : State) (b : Nat) : (s.gate b).mem = s.mem := by
  unfold State.gate
  dsimp only
  split <;> simp

@[simp] theorem State.gateTimeout_mem (s : State) (b : Nat) : (s.gateTimeout b).mem = s.mem := by
  simp [State.gateTimeout]

@[simp] theorem State.worldsOpen_mem (s : State) : s.worldsOpen.mem = s.mem := by
  unfold State.worldsOpen
  dsimp only
  rw [foldl_mem (fun t p => foldl_mem (fun u e => by simp) _ _)]
  exact foldl_mem (fun u e => State.setBlock_mem u _ _) _ _

@[simp] theorem State.kick_mem (s : State) (a : Accessor) (w : Word) : (s.kick a w).mem = s.mem := by simp [State.kick]

@[simp] theorem State.restartZenith_mem (s : State) (verified measured : Bool) :
    (s.restartZenith verified measured).mem = s.mem := by
  simp [State.restartZenith]

@[simp] theorem State.tenantCommand_wf (s : State) (route : Route) (v : Nat) (needsZenith : Bool) (states : List TenSt)
    (idle : Bool) (f : State → Nat → State) (hs : s.mem.wf = true) (hf : ∀ t, (f s t).mem.wf = true) :
    (s.tenantCommand route v needsZenith states idle f).mem.wf = true := State.odWriteNum_wf _ _ _ _ _ _ _ hs (hf _)

@[simp] theorem execCreate_canonical (route : Route) (s : State) (hs : s.mem.wf = true) :
    Canonical (execCreate route s) := runIf_canonical (by simp [hs])

@[simp] theorem execReset_canonical (route : Route) (s : State) (hs : s.mem.wf = true) :
    Canonical (execReset route s) := runIf_canonical (by simp [hs])

@[simp] theorem execDelete_canonical (route : Route) (s : State) (hs : s.mem.wf = true) :
    Canonical (execDelete route s) := runIf_canonical (by simp [hs])

@[simp] theorem execDrainTimeout_canonical (tenant : Nat) (s : State) (hs : s.mem.wf = true) :
    Canonical (execDrainTimeout tenant s) := runIf_canonical (by simp [hs])

@[simp] theorem execClaim_canonical (acc : Accessor) (block : Nat) (s : State) (hs : s.mem.wf = true) :
    Canonical (execClaim acc block s) := runIf_canonical (by simp [hs])

@[simp] theorem execRelease_canonical (acc : Accessor) (block : Nat) (s : State) (hs : s.mem.wf = true) :
    Canonical (execRelease acc block s) := runIf_canonical (by simp [hs])

@[simp] theorem execMoveSource_canonical (acc : Accessor) (source : Nat) (s : State) (hs : s.mem.wf = true) :
    Canonical (execMoveSource acc source s) := runIf_canonical (by simp [hs])

@[simp] theorem execHandOverComplete_canonical (selfCheckPassed : Bool) (s : State) (hs : s.mem.wf = true) :
    Canonical (execHandOverComplete selfCheckPassed s) := runIf_canonical (by simp [hs])

@[simp] theorem execGatingRequest_canonical (block : Nat) (s : State) (hs : s.mem.wf = true) :
    Canonical (execGatingRequest block s) := runIf_canonical (by simp [hs])

@[simp] theorem execGatingTimeout_canonical (block : Nat) (s : State) (hs : s.mem.wf = true) :
    Canonical (execGatingTimeout block s) := runIf_canonical (by simp [hs])

@[simp] theorem execKick_canonical (acc : Accessor) (value : Word) (s : State) (hs : s.mem.wf = true) :
    Canonical (execKick acc value s) := runIf_canonical (by simp [hs])

@[simp] theorem execRestartZenith_canonical (route : Route) (value : Nat) (verified measured : Bool) (s : State)
    (hs : s.mem.wf = true) : Canonical (execRestartZenith route value verified measured s) :=
  runIf_canonical (by simp [hs])

/-! ## Ops -/

@[simp] theorem State.endReservation_wf (s : State) (c : Nat) (hs : s.mem.wf = true) :
    (s.endReservation c).mem.wf = true := by
  unfold State.endReservation
  split <;> simp [hs]

@[simp] theorem State.shutWindow_wf (s : State) (c : Nat) (hs : s.mem.wf = true) : (s.shutWindow c).mem.wf = true := by
  unfold State.shutWindow
  split <;> simp [hs]

@[simp] theorem State.enterBlock_wf (s : State) (c ra : Nat) (i : Intr) (sw : DWord) (ic : Nat) (hs : s.mem.wf = true) :
    (s.enterBlock c ra i sw ic).mem.wf = true := by
  simp [State.enterBlock, hs]

@[simp] theorem State.fatalFault_wf (s : State) (source : Nat) (hs : s.mem.wf = true) :
    (s.fatalFault source).mem.wf = true := by
  simp [State.fatalFault, hs]

@[simp] theorem State.blockFatal_wf (s : State) (c : Nat) (hs : s.mem.wf = true) : (s.blockFatal c).mem.wf = true := by
  simp [State.blockFatal, hs]

@[simp] theorem State.blockReady_wf (s : State) (c lvl : Nat) (hs : s.mem.wf = true) :
    (s.blockReady c lvl).mem.wf = true := by
  unfold State.blockReady
  split <;> simp [hs]

@[simp] theorem State.takeAt_wf (s : State) (c fuel lvl : Nat) (i : Intr) (hs : s.mem.wf = true) :
    (s.takeAt c fuel lvl i).mem.wf = true := by
  induction fuel generalizing s lvl i with
  | zero => exact hs
  | succ n ih =>
    unfold State.takeAt
    dsimp only
    split <;> simp [ih, hs]

@[simp] theorem State.take_wf (s : State) (c lvl : Nat) (i : Intr) (hs : s.mem.wf = true) :
    (s.take c lvl i).mem.wf = true := by
  simp [State.take, hs]

@[simp] theorem State.takeSealing_wf (s : State) (c : Nat) (i : Intr) (hs : s.mem.wf = true) :
    (s.takeSealing c i).mem.wf = true := by
  simp [State.takeSealing, hs]

@[simp] theorem State.takeIntr_wf (s : State) (c : Nat) (i : Intr) (hs : s.mem.wf = true) :
    (s.takeIntr c i).mem.wf = true := by
  simp [State.takeIntr, hs]

@[simp] theorem State.takeAsync_wf (s : State) (c lvl cls sub info : Nat) (hs : s.mem.wf = true) :
    (s.takeAsync c lvl cls sub info).mem.wf = true := by
  simp [State.takeAsync, hs]

@[simp] theorem State.leaveZenith_wf (s : State) (c : Nat) (hs : s.mem.wf = true) :
    (s.leaveZenith c).mem.wf = true := by
  unfold State.leaveZenith
  split <;> simp [hs]

@[simp] theorem State.zenithAbsent_wf (s : State) (hs : s.mem.wf = true) : s.zenithAbsent.mem.wf = true := by
  unfold State.zenithAbsent
  dsimp only
  split
  · exact hs
  · exact foldl_wf (fun t e ht => by simp [ht]) _ (by simp [hs])

@[simp] theorem State.external_wf (s : State) (c : Nat) (hs : s.mem.wf = true) : (s.external c).mem.wf = true := by
  unfold State.external
  split
  · exact hs
  · split <;> simp [hs]

@[simp] theorem execExternalInterruption_canonical (core : Nat) (s : State) (hs : s.mem.wf = true) :
    Canonical (execExternalInterruption core s) := runIf_canonical (by simp [hs])

@[simp] theorem State.addCheck_mem (s : State) (c : Nat) (x : Check) : (s.addCheck c x).mem = s.mem := rfl

@[simp] theorem State.deliverChecks_wf (s : State) (c : Nat) (hs : s.mem.wf = true) :
    (s.deliverChecks c).mem.wf = true := by
  unfold State.deliverChecks
  dsimp only
  repeat' split
  all_goals simp [hs]

@[simp] theorem execContainedMachineCheck_canonical (core sub : Nat) (info : DWord) (s : State) (hs : s.mem.wf = true) :
    Canonical (execContainedMachineCheck core sub info s) := runIf_canonical (by simp [hs])

@[simp] theorem State.uncontainedAt_wf (s : State) (owner sub core site : Nat) (hs : s.mem.wf = true) :
    (s.uncontainedAt owner sub core site).mem.wf = true := by
  unfold State.uncontainedAt
  dsimp only
  split
  · simp [hs]
  · split
    · simp [hs]
    · rw [State.decideTenant_mem]
      exact foldl_wf (fun t e ht => by simp [ht]) _ (by simp [hs])

@[simp] theorem State.loseData_wf (s : State) (line : Nat) (hs : s.mem.wf = true) :
    (s.loseData line).mem.wf = true := by
  simp [State.loseData, hs]

@[simp] theorem State.uncontained_wf (s : State) (line sub core : Nat) (hs : s.mem.wf = true) :
    (s.uncontained line sub core).mem.wf = true := by
  simp [State.uncontained, hs]

@[simp] theorem execUncontainedMachineCheck_canonical (line sub core : Nat) (s : State) (hs : s.mem.wf = true) :
    Canonical (execUncontainedMachineCheck line sub core s) := runIf_canonical (by simp [hs])

@[simp] theorem execZenithWatchdogExpiry_canonical (s : State) (hs : s.mem.wf = true) :
    Canonical (execZenithWatchdogExpiry s) := runIf_canonical (by simp [hs])

/-! ## Faults -/

@[simp] theorem State.fenceWays_mem (s : State) (t g : Nat) : (s.fenceWays t g).mem = s.mem := by simp [State.fenceWays]

@[simp] theorem State.fenceTwinLane_mem (s : State) (n : Nat) : (s.fenceTwinLane n).mem = s.mem := rfl

@[simp] theorem State.useSpare_mem (s : State) (region : Nat) : (s.useSpare region).mem = s.mem := by
  simp [State.useSpare]

@[simp] theorem State.siteFails_mem (s : State) (site : Nat) : (s.siteFails site).mem = s.mem := by
  simp [State.siteFails]

@[simp] theorem State.takeoverDecided_mem (s : State) (site : Nat) : (s.takeoverDecided site).mem = s.mem := by
  unfold State.takeoverDecided
  split <;> simp

@[simp] theorem State.squallReaction_wf (s : State) (n : Nat) (forced : Bool) (hs : s.mem.wf = true) :
    (s.squallReaction n forced).mem.wf = true := by
  simp [State.squallReaction, hs]

@[simp] theorem State.logSample_mem (s : State) (now : Nat) (x : Sample) (v : FSrc) (squall fenced : Bool)
    (count : Nat) : (s.logSample now x v squall fenced count).mem = s.mem :=
  rfl

@[simp] theorem State.collect_wf (s : State) (x : Sample) (hs : s.mem.wf = true) : (s.collect x).mem.wf = true := by
  simp [State.collect, hs]

@[simp] theorem State.faultReport_wf (s : State) (source cls detail : Nat) (hs : s.mem.wf = true) :
    (s.faultReport source cls detail).mem.wf = true := by
  simp [State.faultReport, hs]

@[simp] theorem State.sampleAll_wf (s : State) (hs : s.mem.wf = true) : s.sampleAll.mem.wf = true :=
  foldl_wf (fun t e ht => by simp [ht]) _ hs

@[simp] theorem State.railFault_wf (s : State) (source : Nat) (forced : Bool) (hs : s.mem.wf = true) :
    (s.railFault source forced).mem.wf = true := by
  simp [State.railFault, hs]

@[simp] theorem State.squallExit_mem (s : State) (source : Nat) : (s.squallExit source).mem = s.mem := by
  simp [State.squallExit]

@[simp] theorem State.force_mem (s : State) (w : Nat) : (s.force w).mem = s.mem := rfl

@[simp] theorem State.forcedReport_wf (s : State) (source : Nat) (hs : s.mem.wf = true) :
    (s.forcedReport source).mem.wf = true := by
  simp [State.forcedReport, hs]

@[simp] theorem execFaultReport_canonical (source : Nat) (cls : FaultClass) (detail : Nat) (s : State)
    (hs : s.mem.wf = true) : Canonical (execFaultReport source cls detail s) :=
  runIf_canonical (by simp [hs])

@[simp] theorem execReportingPathFault_canonical (source : Nat) (s : State) (hs : s.mem.wf = true) :
    Canonical (execReportingPathFault source s) := runIf_canonical (by simp [hs])

@[simp] theorem execSquallExit_canonical (source : Nat) (s : State) (hs : s.mem.wf = true) :
    Canonical (execSquallExit source s) := runIf_canonical (by simp [hs])

@[simp] theorem execForce_canonical (route : Route) (value : Nat) (s : State) (hs : s.mem.wf = true) :
    Canonical (execForce route value s) := runIf_canonical (by simp [hs])

@[simp] theorem execForcedReport_canonical (source : Nat) (s : State) (hs : s.mem.wf = true) :
    Canonical (execForcedReport source s) := runIf_canonical (by simp [hs])

@[simp] theorem execSpareRebuildComplete_canonical (region : Nat) (s : State) (hs : s.mem.wf = true) :
    Canonical (execSpareRebuildComplete region s) := runIf_canonical (by simp [hs])

@[simp] theorem execReturnUnit_canonical (route : Route) (value : Nat) (s : State) (hs : s.mem.wf = true) :
    Canonical (execReturnUnit route value s) := runIf_canonical (by simp [hs])

@[simp] theorem execReturnFailedSites_canonical (route : Route) (value : Nat) (s : State) (hs : s.mem.wf = true) :
    Canonical (execReturnFailedSites route value s) := runIf_canonical (by simp [hs])

/-! ## Twin -/

theorem State.keyItem_mem (s : State) (t : Nat) (o : Option KeyChange) :
    (o.elim (none, s) (fun c => s.mirrorOut t (.key t c.handle c.slot.loaded))).2.mem = s.mem := by
  cases o with
  | none => rfl
  | some c => simp

@[simp] theorem State.mirrorReceipt_mem (s : State) (i : Nat) (received : Bool) :
    (s.mirrorReceipt i received).mem = s.mem := by
  unfold State.mirrorReceipt
  split
  · rfl
  · generalize hu : ({ s with tw := _ } : State) = u
    have hm : u.mem = s.mem := by rw [← hu]
    rw [← hm]
    dsimp only
    repeat' split
    all_goals simp [State.keyItem_mem]

@[simp] theorem State.twinLeaves_mem (s : State) : s.twinLeaves.mem = s.mem := by simp [State.twinLeaves]

@[simp] theorem State.mirrored_mem (s : State) (item : MirrorItem) : (s.mirrored item).mem = s.mem := by
  unfold State.mirrored
  dsimp only
  repeat' split
  all_goals simp

theorem State.mirrorChans_mem (l : List MirrorChannel) (t : Nat) (s : State) :
    (l.foldl (fun s c => s.setChan c.chan { mirrorChan c t with proc := s.choosePe.getD 0 }) s).mem = s.mem :=
  foldl_mem (fun s _ => State.setChan_mem s _ _) l s

@[simp] theorem State.adopt_mem (s : State) (cfg : MirrorConfig) (localAck : Bool) :
    (s.adopt cfg localAck).mem = s.mem := by
  unfold State.adopt
  extract_lets +lift t _ _ _ _ _ _ _ _ _ _ settings channels _ _ _ _ _ _ _ journal
  have before : settings.mem = s.mem := ((((State.setPage_mem _ _ _).trans (State.setCiT_mem _ _ _)).trans
    (State.setCxT_mem _ _ _)).trans (State.setChT_mem _ _ _)).trans (State.setTenant_mem _ _ _)
  have opened : channels.mem = settings.mem := State.mirrorChans_mem cfg.channels t settings
  have after : journal.mem = channels.mem := rfl
  split
  · rw [State.loadEpoch_mem, after, opened, before]
  · rw [after, opened, before]

@[simp] theorem State.takeOver_mem (s : State) : s.takeOver.mem = s.mem := by simp [State.takeOver]

@[simp] theorem State.reconcile_wf (s : State) (hs : s.mem.wf = true) : s.reconcile.mem.wf = true := by
  unfold State.reconcile
  split
  · exact hs
  · exact foldl_wf (fun u p hu => by simp [hu]) _ hs

@[simp] theorem State.pair_wf (s : State) (serial : BitVec 64) (twinId attested : Bool) (hs : s.mem.wf = true) :
    (s.pair serial twinId attested).mem.wf = true := by
  simp [State.pair, hs]

@[simp] theorem State.becomeStandby_wf (s : State) (hs : s.mem.wf = true) : s.becomeStandby.mem.wf = true :=
  foldl_wf (fun u p hu => by simp [hu]) _ (by simp [hs])

@[simp] theorem State.heartbeat_wf (s : State) (hb : Heartbeat) (path : Nat) (hs : s.mem.wf = true) :
    (s.heartbeat hb path).mem.wf = true := by
  unfold State.heartbeat
  dsimp only
  repeat' split
  all_goals simp [hs]

@[simp] theorem State.heartbeatSend_mem (s : State) (path : Nat) : (s.heartbeatSend path).mem = s.mem := by
  simp [State.heartbeatSend]

@[simp] theorem State.selfFenceNow_mem (s : State) : s.selfFenceNow.mem = s.mem := by
  unfold State.selfFenceNow
  split <;> simp

@[simp] theorem State.planFence_mem (s : State) : s.planFence.mem = s.mem := by simp [State.planFence]

@[simp] theorem execMirrorReceipt_canonical (item : Nat) (received : Bool) (s : State) (hs : s.mem.wf = true) :
    Canonical (execMirrorReceipt item received s) := runIf_canonical (by simp [hs])

@[simp] theorem execMirroredItem_canonical (item : MirrorItem) (s : State) (hs : s.mem.wf = true) :
    Canonical (execMirroredItem item s) := runIf_canonical (by simp [hs])

@[simp] theorem execHeartbeat_canonical (hb : Heartbeat) (path : Nat) (s : State) (hs : s.mem.wf = true) :
    Canonical (execHeartbeat hb path s) := runIf_canonical (by simp [hs])

@[simp] theorem execHeartbeatSend_canonical (path : Nat) (s : State) (hs : s.mem.wf = true) :
    Canonical (execHeartbeatSend path s) := runIf_canonical (by simp [hs])

@[simp] theorem execWitness_canonical (segment : Nat) (s : State) (hs : s.mem.wf = true) :
    Canonical (execWitness segment s) := runIf_canonical (by simp [hs])

@[simp] theorem execPairing_canonical (peerSerial : BitVec 64) (peerTwinId attested : Bool) (s : State)
    (hs : s.mem.wf = true) : Canonical (execPairing peerSerial peerTwinId attested s) :=
  runIf_canonical (by simp [hs])

@[simp] theorem execPairingEnabled_canonical (route : Route) (value : Nat) (s : State) (hs : s.mem.wf = true) :
    Canonical (execPairingEnabled route value s) := runIf_canonical (by simp [hs])

@[simp] theorem State.bulkCopy_mem (s : State) : s.bulkCopy.mem = s.mem := by simp [State.bulkCopy]

@[simp] theorem execBulkCopyComplete_canonical (s : State) (hs : s.mem.wf = true) :
    Canonical (execBulkCopyComplete s) := runIf_canonical (by simp [hs])

@[simp] theorem execTwinLinkSilence_canonical (s : State) (hs : s.mem.wf = true) : Canonical (execTwinLinkSilence s) :=
  runIf_canonical (by simp [hs])

@[simp] theorem execSelfFence_canonical (s : State) (hs : s.mem.wf = true) : Canonical (execSelfFence s) :=
  runIf_canonical (by simp [hs])

@[simp] theorem execTakeover_canonical (s : State) (hs : s.mem.wf = true) : Canonical (execTakeover s) :=
  runIf_canonical (by simp [hs])

@[simp] theorem execRelinquish_canonical (hb : Heartbeat) (s : State) (hs : s.mem.wf = true) :
    Canonical (execRelinquish hb s) := runIf_canonical (by simp [hs])

@[simp] theorem execPlannedFailover_canonical (route : Route) (value : Nat) (s : State) (hs : s.mem.wf = true) :
    Canonical (execPlannedFailover route value s) := runIf_canonical (by simp [hs])

@[simp] theorem execSendRelinquish_canonical (s : State) (hs : s.mem.wf = true) : Canonical (execSendRelinquish s) :=
  runIf_canonical (by simp [hs])

/-! ## Ctl -/

@[simp] theorem State.ccReject_mem (s : State) (r : Role) : (s.ccReject r).mem = s.mem := by
  unfold State.ccReject
  split <;> simp

@[simp] theorem State.ccWrite_mem (s : State) (r : Role) (off : Nat) (w : Word) : (s.ccWrite r off w).mem = s.mem := by
  simp [State.ccWrite]

@[simp] theorem State.dyWrite_mem (s : State) (a : Accessor) (off : Nat) (w : Word) :
    (s.dyWrite a off w).mem = s.mem := by
  unfold State.dyWrite
  dsimp only
  repeat' split
  all_goals simp

@[simp] theorem State.chReject_mem (s : State) (t : Nat) (r : Role) : (s.chReject t r).mem = s.mem := by
  unfold State.chReject
  split <;> simp

@[simp] theorem State.chWrite_mem (s : State) (r : Role) (t off : Nat) (w : Word) :
    (s.chWrite r t off w).mem = s.mem := by
  simp [State.chWrite]

@[simp] theorem State.chModWrite_mem (s : State) (r : Role) (off : Nat) (w : Word) :
    (s.chModWrite r off w).mem = s.mem := by
  simp [State.chModWrite]

@[simp] theorem State.jnRegRead_mem (s : State) (r : Role) (t off : Nat) : (s.jnRegRead r t off).2.mem = s.mem := by
  simp [State.jnRegRead]

@[simp] theorem State.jnWrite_wf (s : State) (a : Accessor) (t off : Nat) (w : Word) (hs : s.mem.wf = true) :
    (s.jnWrite a t off w).mem.wf = true := by
  simp [State.jnWrite, hs]

@[simp] theorem State.jnModWrite_mem (s : State) (r : Role) (off : Nat) (w : Word) :
    (s.jnModWrite r off w).mem = s.mem := by
  simp [State.jnModWrite]

@[simp] theorem State.cxReject_mem (s : State) (t : Nat) (r : Role) : (s.cxReject t r).mem = s.mem := by
  unfold State.cxReject
  split <;> simp

@[simp] theorem State.cxPageWrite_mem (s : State) (a : Accessor) (t off : Nat) (w : Word) :
    (s.cxPageWrite a t off w).mem = s.mem := by
  simp [State.cxPageWrite]

@[simp] theorem State.ciReject_mem (s : State) (t : Nat) (r : Role) : (s.ciReject t r).mem = s.mem := by
  unfold State.ciReject
  split <;> simp

@[simp] theorem State.ciWrite_wf (s : State) (a : Accessor) (t off : Nat) (w : Word) (hs : s.mem.wf = true) :
    (s.ciWrite a t off w).mem.wf = true := by
  simp [State.ciWrite, hs]

@[simp] theorem State.ciModWrite_mem (s : State) (r : Role) (off : Nat) (w : Word) :
    (s.ciModWrite r off w).mem = s.mem := by
  simp [State.ciModWrite]

@[simp] theorem State.svReject_mem (s : State) (r : Role) : (s.svReject r).mem = s.mem := by
  unfold State.svReject
  split <;> simp

@[simp] theorem State.ctxWrite_mem (s : State) (a : Accessor) (w : Word) : (s.ctxWrite a w).mem = s.mem := by
  simp [State.ctxWrite]

@[simp] theorem State.svRead_mem (s : State) (a : Accessor) (off : Nat) : (s.svRead a off).2.mem = s.mem := by
  simp [State.svRead]

@[simp] theorem State.svWrite_mem (s : State) (a : Accessor) (off : Nat) (w : Word) :
    (s.svWrite a off w).mem = s.mem := by
  simp [State.svWrite]

@[simp] theorem State.fcWrite_mem (s : State) (r : Role) (off : Nat) (w : Word) : (s.fcWrite r off w).mem = s.mem := by
  simp [State.fcWrite]

@[simp] theorem State.twRead_mem (s : State) (r : Role) (off : Nat) : (s.twRead r off).2.mem = s.mem := by
  simp [State.twRead]

@[simp] theorem State.twWrite_mem (s : State) (r : Role) (off : Nat) (w : Word) : (s.twWrite r off w).mem = s.mem := by
  simp [State.twWrite]

@[simp] theorem State.ctlRead_mem (s : State) (a : Accessor) (addr : Nat) : (s.ctlRead a addr).2.mem = s.mem := by
  unfold State.ctlRead
  split <;> simp

@[simp] theorem State.ctlReadD_mem (s : State) (a : Accessor) (addr : Nat) : (s.ctlReadD a addr).2.mem = s.mem := by
  simp [State.ctlReadD]

@[simp] theorem State.ctlWrite_wf (s : State) (a : Accessor) (addr : Nat) (w : Word) (hs : s.mem.wf = true) :
    (s.ctlWrite a addr w).mem.wf = true := by
  unfold State.ctlWrite
  split <;> simp [hs]

@[simp] theorem execRegisterWrite_canonical (acc : Accessor) (addr : Nat) (value : Word) (s : State)
    (hs : s.mem.wf = true) : Canonical (execRegisterWrite acc addr value s) :=
  runIf_canonical (by simp [hs])

@[simp] theorem execJnRd_canonical (acc : Accessor) (tenant value : Nat) (s : State) (hs : s.mem.wf = true) :
    Canonical (execJnRd acc tenant value s) := runIf_canonical (by simp [hs])

@[simp] theorem execJnRelease_canonical (acc : Accessor) (tenant value : Nat) (s : State) (hs : s.mem.wf = true) :
    Canonical (execJnRelease acc tenant value s) := runIf_canonical (by simp [hs])

/-! ## Perform -/

@[simp] theorem State.addDiscard_mem (s : State) (c level sub info : Nat) :
    (s.addDiscard c level sub info).mem = s.mem := rfl

@[simp] theorem State.takeLine_wf (s : State) (c line : Nat) (store : Option Nat) (hs : s.mem.wf = true) :
    (s.takeLine c line store).1.mem.wf = true := by
  simp [State.takeLine, hs]

@[simp] theorem State.reportDiscard_mem (s : State) (c port level n vaddr : Nat) :
    (s.reportDiscard c port level n vaddr).mem = s.mem := by
  simp [State.reportDiscard]

@[simp] theorem State.flushIo_mem (s : State) (link : Nat) : (s.flushIo link).mem = s.mem := by
  unfold State.flushIo
  exact foldl_mem (fun s _ => State.emit_mem s _) _ _

@[simp] theorem State.sendIo_mem (s : State) (c : Nat) (e : SbEntry) : (s.sendIo c e).mem = s.mem := by
  simp [State.sendIo]

@[simp] theorem State.sendControl_wf (s : State) (c : Nat) (e : SbEntry) (hs : s.mem.wf = true) :
    (s.sendControl c e).mem.wf = true := by
  simp [State.sendControl, hs]

@[simp] theorem State.popEntry_mem (s : State) (c : Nat) : (s.popEntry c).mem = s.mem := rfl

@[simp] theorem State.beginEntry_mem (s : State) (c : Nat) (sent : Option Nat) : (s.beginEntry c sent).mem = s.mem :=
  rfl

@[simp] theorem State.sendMasked_wf (s : State) (c line : Nat) (words mask : List Word) (hs : s.mem.wf = true) :
    (s.sendMasked c line words mask).1.mem.wf = true := by
  simp [State.sendMasked, hs]

@[simp] theorem State.storeHere_wf (s : State) (c line : Nat) (ws : List SbWord) (hs : s.mem.wf = true) :
    (s.storeHere c line ws).mem.wf = true := by
  simp [State.storeHere, State.wrLineMask_wf hs]

@[simp] theorem State.performStore_wf (s : State) (c : Nat) (e : SbEntry) (hs : s.mem.wf = true) :
    (s.performStore c e).1.mem.wf = true := by
  simp [State.performStore, hs]

@[simp] theorem State.performClean_wf (s : State) (c : Nat) (e : SbEntry) (hs : s.mem.wf = true) :
    (s.performClean c e).1.mem.wf = true := by
  simp [State.performClean, hs]

@[simp] theorem State.performInvalidate_wf (s : State) (c : Nat) (e : SbEntry) (hs : s.mem.wf = true) :
    (s.performInvalidate c e).1.mem.wf = true := by
  simp [State.performInvalidate, hs]

@[simp] theorem State.performOldest_wf (s : State) (c : Nat) (hs : s.mem.wf = true) :
    (s.performOldest c).1.mem.wf = true := by
  unfold State.performOldest
  dsimp only
  repeat' split
  all_goals simp [hs]

@[simp] theorem State.performN_wf (c n : Nat) (s : State) (hs : s.mem.wf = true) : (s.performN c n).mem.wf = true := by
  induction n generalizing s with
  | zero => exact hs
  | succ n ih => simp [State.performN, ih, hs]

@[simp] theorem State.drainCore_wf (s : State) (c : Nat) (hs : s.mem.wf = true) : (s.drainCore c).1.mem.wf = true := by
  simp [State.drainCore, hs]

@[simp] theorem execStoreBufferEntryPerformed_canonical (core : Nat) (s : State) (hs : s.mem.wf = true) :
    Canonical (execStoreBufferEntryPerformed core s) := runIf_canonical (by simp [hs])

@[simp] theorem execReservationDeferralExpiry_canonical (core : Nat) (s : State) (hs : s.mem.wf = true) :
    Canonical (execReservationDeferralExpiry core s) := runIf_canonical (by simp [hs])

@[simp] theorem execReplay_canonical (core line : Nat) (s : State) (hs : s.mem.wf = true) :
    Canonical (execReplay core line s) := runIf_canonical (by simp [hs])

@[simp] theorem State.linkDown_wf (s : State) (port link : Nat) (hs : s.mem.wf = true) :
    (s.linkDown port link).mem.wf = true := by
  refine foldl_wf (fun t c ht => ?_) _ (by simp [hs])
  split <;> simp [ht]

@[simp] theorem execLinkDownDetected_canonical (port link : Nat) (s : State) (hs : s.mem.wf = true) :
    Canonical (execLinkDownDetected port link s) := runIf_canonical (by simp [hs])

@[simp] theorem State.failLost_wf (s : State) (c : Nat) (hs : s.mem.wf = true) : (s.failLost c).mem.wf = true := by
  unfold State.failLost
  dsimp only
  split <;> simp [hs]

@[simp] theorem State.minorityFatal_wf (s : State) (hs : s.mem.wf = true) : s.minorityFatal.mem.wf = true := by
  simp [State.minorityFatal, hs]

@[simp] theorem State.partitionRule_wf (s : State) (reachable : List Nat) (hs : s.mem.wf = true) :
    (s.partitionRule reachable).mem.wf = true := by
  unfold State.partitionRule
  dsimp only
  split
  · exact hs
  · split
    · exact hs
    · split
      · exact foldl_wf (fun t e ht => by simp [ht]) _ (by simp [hs])
      · simp [hs]

@[simp] theorem execPartitionRule_canonical (reachable : List Nat) (s : State) (hs : s.mem.wf = true) :
    Canonical (execPartitionRule reachable s) := runIf_canonical (by simp [hs])

/-! ## Operands -/

theorem State.readOp_mem {s t : State} {c v : Nat} {x : Vector DWord 16} {p : Placed}
    (h : s.readOp c x p = .ok (v, t)) : t.mem = s.mem := by
  unfold State.readOp at h
  dsimp only at h
  split at h
  · cases h
    rfl
  · cases h
    rfl
  · split at h <;> cases h <;> simp
  · split at h
    · obtain ⟨_, _, h⟩ := ok_of_map h
      cases h
      rfl
    · split at h
      · obtain ⟨_, _, h⟩ := ok_of_map h
        cases h
        rfl
      · split at h
        · cases h
        · obtain ⟨_, _, h⟩ := ok_of_map h
          cases h
          rfl
    · cases h
      rfl
  · obtain ⟨_, _, h⟩ := ok_of_map h
    cases h
    rfl

theorem State.readAll_mem {s t : State} {c : Nat} {x : Vector DWord 16} {ps : List Placed} {vs : List Nat}
    (h : s.readAll c x ps = .ok (vs, t)) : t.mem = s.mem := by
  induction ps generalizing s vs with
  | nil =>
    cases h
    rfl
  | cons p ps ih =>
    simp only [State.readAll] at h
    split at h
    · split at h
      · cases h
      next hp =>
        split at h
        · cases h
        next hps =>
          cases h
          rw [ih hps, State.readOp_mem hp]
    · split at h
      · cases h
      next hps =>
        cases h
        exact ih hps

/-! ## Insn -/

theorem State.prepare_mem {s : State} {c : Nat} {ins : Insn} {o : OpCode} {r : Run} (h : s.prepare c ins o = .ok r) :
    r.s.mem = s.mem := by
  unfold State.prepare at h
  dsimp only at h
  split at h
  · cases h
  split at h
  · cases h
  split at h
  · cases h
  next heq =>
    cases h
    exact State.readAll_mem heq

@[simp] theorem State.installAll_mem (s : State) (p : Party) (c : Nat) (vas : List Nat) :
    (s.installAll p c vas).mem = s.mem := by
  simp [State.installAll]

@[simp] theorem Run.finish_mem (r : Run) (e : Eff) : (r.finish e).mem = r.s.mem := by simp [Run.finish]

@[simp] theorem State.forgetPoison_wf (s : State) (hs : s.mem.wf = true) : s.forgetPoison.mem.wf = true :=
  Safety.forgetPoison_wf hs

@[simp] theorem State.stopped_wf (s : State) (c : Nat) (ins : Insn) (ilen : Nat) (e : Stop) (hs : s.mem.wf = true) :
    (s.stopped c ins ilen e).mem.wf = true := by
  unfold State.stopped
  split <;> simp [hs]

@[simp] theorem State.resolve_wf (s : State) (c : Nat) (st : Stop) (hs : s.mem.wf = true) :
    (s.resolve c st).1.mem.wf = true := by
  unfold State.resolve
  dsimp only
  split <;> simp [hs]

theorem Run.useCaches_mem {r r' : Run} (h : r.useCaches = .ok r') : r'.s.mem = r.s.mem := by
  unfold Run.useCaches at h
  split at h
  · cases h
  next h1 =>
    split at h
    · cases h
    next h2 =>
      cases h
      exact (State.useLoads_mem h2).trans (State.useLoads_mem h1)

theorem State.tryInstr_wf {s t : State} {c : Nat} {ins : Insn} {o : OpCode} {f : Run → Except Stop State}
    (hf : RunKeeps f) (hs : s.mem.wf = true) (h : s.tryInstr c ins o f = .ok t) : t.mem.wf = true := by
  obtain ⟨r0, r, hp, hc, hr, _⟩ := Safety.tryInstr_ok h
  exact hf r t (by rw [Run.useCaches_mem hc, State.prepare_mem hp]; exact hs) hr

theorem State.tryMany_wf {c : Nat} {ins : Insn} {o : OpCode} {f : Run → Except Stop State} (hf : RunKeeps f) (n : Nat)
    (s : State) (hs : s.mem.wf = true) : (s.tryMany c ins o f n).mem.wf = true := by
  induction n generalizing s with
  | zero => exact hs
  | succ n ih =>
    simp only [State.tryMany]
    split
    next heq => exact State.tryInstr_wf hf hs heq
    next => simp [ih, hs]

@[simp] theorem State.beforeInstr_wf (s : State) (c : Nat) (hs : s.mem.wf = true) :
    (s.beforeInstr c).1.mem.wf = true := by
  simp [State.beforeInstr, hs]

theorem State.instr_wf {s : State} {c : Nat} {ins : Insn} {o : OpCode} {f : Run → Except Stop State} (hf : RunKeeps f)
    (hs : s.mem.wf = true) : (s.instr c ins o f).mem.wf = true := by
  unfold State.instr
  dsimp only
  split
  · exact hs
  · split
    · simp [hs]
    · exact State.deliverChecks_wf _ _ (State.tryMany_wf hf _ _ (by simp [hs]))

@[simp] theorem State.simple_wf (s : State) (c : Nat) (ins : Insn) (o : OpCode) (f : Run → Except Stop Eff)
    (hs : s.mem.wf = true) : (s.simple c ins o f).mem.wf = true := by
  refine State.instr_wf (fun r t hr h => ?_) hs
  obtain ⟨e, _, rfl⟩ := ok_of_map h
  simp [hr]

@[simp] theorem State.drained_wf (s : State) (c : Nat) (go : State → State) (hs : s.mem.wf = true)
    (hgo : ∀ t, t.mem.wf = true → (go t).mem.wf = true) : (s.drained c go).mem.wf = true := by
  simp [State.drained, hs, hgo]

/-! ## Arith -/

@[simp] theorem execAdd_canonical (core : Nat) (ins : Insn) (s : State) (hs : s.mem.wf = true) :
    Canonical (execAdd core ins s) := runIf_canonical (by simp [hs])

@[simp] theorem execSub_canonical (core : Nat) (ins : Insn) (s : State) (hs : s.mem.wf = true) :
    Canonical (execSub core ins s) := runIf_canonical (by simp [hs])

@[simp] theorem execAdc_canonical (core : Nat) (ins : Insn) (s : State) (hs : s.mem.wf = true) :
    Canonical (execAdc core ins s) := runIf_canonical (by simp [hs])

@[simp] theorem execSbb_canonical (core : Nat) (ins : Insn) (s : State) (hs : s.mem.wf = true) :
    Canonical (execSbb core ins s) := runIf_canonical (by simp [hs])

@[simp] theorem execNeg_canonical (core : Nat) (ins : Insn) (s : State) (hs : s.mem.wf = true) :
    Canonical (execNeg core ins s) := runIf_canonical (by simp [hs])

@[simp] theorem execAbs_canonical (core : Nat) (ins : Insn) (s : State) (hs : s.mem.wf = true) :
    Canonical (execAbs core ins s) := runIf_canonical (by simp [hs])

@[simp] theorem execMul_canonical (core : Nat) (ins : Insn) (s : State) (hs : s.mem.wf = true) :
    Canonical (execMul core ins s) := runIf_canonical (by simp [hs])

@[simp] theorem execMlf_canonical (core : Nat) (ins : Insn) (s : State) (hs : s.mem.wf = true) :
    Canonical (execMlf core ins s) := runIf_canonical (by simp [hs])

@[simp] theorem execDiv_canonical (core : Nat) (ins : Insn) (s : State) (hs : s.mem.wf = true) :
    Canonical (execDiv core ins s) := runIf_canonical (by simp [hs])

@[simp] theorem execRem_canonical (core : Nat) (ins : Insn) (s : State) (hs : s.mem.wf = true) :
    Canonical (execRem core ins s) := runIf_canonical (by simp [hs])

@[simp] theorem execDvr_canonical (core : Nat) (ins : Insn) (s : State) (hs : s.mem.wf = true) :
    Canonical (execDvr core ins s) := runIf_canonical (by simp [hs])

@[simp] theorem execCmp_canonical (core : Nat) (ins : Insn) (s : State) (hs : s.mem.wf = true) :
    Canonical (execCmp core ins s) := runIf_canonical (by simp [hs])

@[simp] theorem execTst_canonical (core : Nat) (ins : Insn) (s : State) (hs : s.mem.wf = true) :
    Canonical (execTst core ins s) := runIf_canonical (by simp [hs])

@[simp] theorem execAnd_canonical (core : Nat) (ins : Insn) (s : State) (hs : s.mem.wf = true) :
    Canonical (execAnd core ins s) := runIf_canonical (by simp [hs])

@[simp] theorem execOrr_canonical (core : Nat) (ins : Insn) (s : State) (hs : s.mem.wf = true) :
    Canonical (execOrr core ins s) := runIf_canonical (by simp [hs])

@[simp] theorem execXor_canonical (core : Nat) (ins : Insn) (s : State) (hs : s.mem.wf = true) :
    Canonical (execXor core ins s) := runIf_canonical (by simp [hs])

@[simp] theorem execNot_canonical (core : Nat) (ins : Insn) (s : State) (hs : s.mem.wf = true) :
    Canonical (execNot core ins s) := runIf_canonical (by simp [hs])

@[simp] theorem execSll_canonical (core : Nat) (ins : Insn) (s : State) (hs : s.mem.wf = true) :
    Canonical (execSll core ins s) := runIf_canonical (by simp [hs])

@[simp] theorem execSrl_canonical (core : Nat) (ins : Insn) (s : State) (hs : s.mem.wf = true) :
    Canonical (execSrl core ins s) := runIf_canonical (by simp [hs])

@[simp] theorem execSla_canonical (core : Nat) (ins : Insn) (s : State) (hs : s.mem.wf = true) :
    Canonical (execSla core ins s) := runIf_canonical (by simp [hs])

@[simp] theorem execSra_canonical (core : Nat) (ins : Insn) (s : State) (hs : s.mem.wf = true) :
    Canonical (execSra core ins s) := runIf_canonical (by simp [hs])

@[simp] theorem execRol_canonical (core : Nat) (ins : Insn) (s : State) (hs : s.mem.wf = true) :
    Canonical (execRol core ins s) := runIf_canonical (by simp [hs])

@[simp] theorem execRor_canonical (core : Nat) (ins : Insn) (s : State) (hs : s.mem.wf = true) :
    Canonical (execRor core ins s) := runIf_canonical (by simp [hs])

@[simp] theorem execClz_canonical (core : Nat) (ins : Insn) (s : State) (hs : s.mem.wf = true) :
    Canonical (execClz core ins s) := runIf_canonical (by simp [hs])

@[simp] theorem execPct_canonical (core : Nat) (ins : Insn) (s : State) (hs : s.mem.wf = true) :
    Canonical (execPct core ins s) := runIf_canonical (by simp [hs])

@[simp] theorem execXbt_canonical (core : Nat) (ins : Insn) (s : State) (hs : s.mem.wf = true) :
    Canonical (execXbt core ins s) := runIf_canonical (by simp [hs])

@[simp] theorem execIbt_canonical (core : Nat) (ins : Insn) (s : State) (hs : s.mem.wf = true) :
    Canonical (execIbt core ins s) := runIf_canonical (by simp [hs])

/-! ## Move -/

@[simp] theorem State.mvw_wf (s : State) (core : Nat) (ins : Insn) (hs : s.mem.wf = true) :
    (s.mvw core ins).mem.wf = true := by
  unfold State.mvw
  dsimp only
  split
  · exact State.drained_wf _ _ _ hs (fun t ht => State.simple_wf t _ _ _ _ ht)
  · simp [hs]

@[simp] theorem execMvw_canonical (core : Nat) (ins : Insn) (s : State) (hs : s.mem.wf = true) :
    Canonical (execMvw core ins s) := runIf_canonical (by simp [hs])

@[simp] theorem execXch_canonical (core : Nat) (ins : Insn) (s : State) (hs : s.mem.wf = true) :
    Canonical (execXch core ins s) := runIf_canonical (by simp [hs])

@[simp] theorem State.ownLine_wf (s : State) (c line : Nat) (hs : s.mem.wf = true) :
    (s.ownLine c line).1.mem.wf = true := by
  simp [State.ownLine, hs]

@[simp] theorem Run.loadReserved_wf (r : Run) (hr : r.s.mem.wf = true) : r.loadReserved.mem.wf = true := by
  simp [Run.loadReserved, hr]

@[simp] theorem execLdr_canonical (core : Nat) (ins : Insn) (s : State) (hs : s.mem.wf = true) :
    Canonical (execLdr core ins s) :=
  runIf_canonical (State.instr_wf (fun r _ hr h => by cases h; exact r.loadReserved_wf hr) hs)

@[simp] theorem Run.storeConditional_wf (r : Run) (hr : r.s.mem.wf = true) : r.storeConditional.mem.wf = true := by
  have ht := r.s.takeLine_wf r.c (r.lineOfOp 1) none hr
  unfold Run.storeConditional
  dsimp only
  split
  · split
    · exact State.endReservation_wf _ _ (State.drainCore_wf _ _ (by simp [ht]))
    · exact ht
  · simp [hr]

@[simp] theorem execStc_canonical (core : Nat) (ins : Insn) (s : State) (hs : s.mem.wf = true) :
    Canonical (execStc core ins s) :=
  runIf_canonical (State.drained_wf _ _ _ hs (fun _ ht =>
    State.instr_wf (fun r _ hr h => by cases h; exact r.storeConditional_wf hr) ht))

/-! ## Decimal -/

@[simp] theorem execDad_canonical (core : Nat) (ins : Insn) (s : State) (hs : s.mem.wf = true) :
    Canonical (execDad core ins s) := runIf_canonical (by simp [hs])

@[simp] theorem execDsb_canonical (core : Nat) (ins : Insn) (s : State) (hs : s.mem.wf = true) :
    Canonical (execDsb core ins s) := runIf_canonical (by simp [hs])

@[simp] theorem execDmu_canonical (core : Nat) (ins : Insn) (s : State) (hs : s.mem.wf = true) :
    Canonical (execDmu core ins s) := runIf_canonical (by simp [hs])

@[simp] theorem execDdv_canonical (core : Nat) (ins : Insn) (s : State) (hs : s.mem.wf = true) :
    Canonical (execDdv core ins s) := runIf_canonical (by simp [hs])

@[simp] theorem execDcp_canonical (core : Nat) (ins : Insn) (s : State) (hs : s.mem.wf = true) :
    Canonical (execDcp core ins s) := runIf_canonical (by simp [hs])

@[simp] theorem execDmv_canonical (core : Nat) (ins : Insn) (s : State) (hs : s.mem.wf = true) :
    Canonical (execDmv core ins s) := runIf_canonical (by simp [hs])

@[simp] theorem execDsr_canonical (core : Nat) (ins : Insn) (s : State) (hs : s.mem.wf = true) :
    Canonical (execDsr core ins s) := runIf_canonical (by simp [hs])

@[simp] theorem execCdb_canonical (core : Nat) (ins : Insn) (s : State) (hs : s.mem.wf = true) :
    Canonical (execCdb core ins s) := runIf_canonical (by simp [hs])

@[simp] theorem execCbd_canonical (core : Nat) (ins : Insn) (s : State) (hs : s.mem.wf = true) :
    Canonical (execCbd core ins s) := runIf_canonical (by simp [hs])

@[simp] theorem execDts_canonical (core : Nat) (ins : Insn) (s : State) (hs : s.mem.wf = true) :
    Canonical (execDts core ins s) := runIf_canonical (by simp [hs])

/-! ## Float -/

@[simp] theorem execFad_canonical (core : Nat) (ins : Insn) (s : State) (hs : s.mem.wf = true) :
    Canonical (execFad core ins s) := runIf_canonical (by simp [hs])

@[simp] theorem execFsb_canonical (core : Nat) (ins : Insn) (s : State) (hs : s.mem.wf = true) :
    Canonical (execFsb core ins s) := runIf_canonical (by simp [hs])

@[simp] theorem execFmu_canonical (core : Nat) (ins : Insn) (s : State) (hs : s.mem.wf = true) :
    Canonical (execFmu core ins s) := runIf_canonical (by simp [hs])

@[simp] theorem execFdv_canonical (core : Nat) (ins : Insn) (s : State) (hs : s.mem.wf = true) :
    Canonical (execFdv core ins s) := runIf_canonical (by simp [hs])

@[simp] theorem execFsq_canonical (core : Nat) (ins : Insn) (s : State) (hs : s.mem.wf = true) :
    Canonical (execFsq core ins s) := runIf_canonical (by simp [hs])

@[simp] theorem execFma_canonical (core : Nat) (ins : Insn) (s : State) (hs : s.mem.wf = true) :
    Canonical (execFma core ins s) := runIf_canonical (by simp [hs])

@[simp] theorem execFcp_canonical (core : Nat) (ins : Insn) (s : State) (hs : s.mem.wf = true) :
    Canonical (execFcp core ins s) := runIf_canonical (by simp [hs])

@[simp] theorem execFcv_canonical (core : Nat) (ins : Insn) (s : State) (hs : s.mem.wf = true) :
    Canonical (execFcv core ins s) := runIf_canonical (by simp [hs])

@[simp] theorem execFci_canonical (core : Nat) (ins : Insn) (s : State) (hs : s.mem.wf = true) :
    Canonical (execFci core ins s) := runIf_canonical (by simp [hs])

@[simp] theorem execFfi_canonical (core : Nat) (ins : Insn) (s : State) (hs : s.mem.wf = true) :
    Canonical (execFfi core ins s) := runIf_canonical (by simp [hs])

@[simp] theorem execFtd_canonical (core : Nat) (ins : Insn) (s : State) (hs : s.mem.wf = true) :
    Canonical (execFtd core ins s) := runIf_canonical (by simp [hs])

@[simp] theorem execFfd_canonical (core : Nat) (ins : Insn) (s : State) (hs : s.mem.wf = true) :
    Canonical (execFfd core ins s) := runIf_canonical (by simp [hs])

@[simp] theorem execFtx_canonical (core : Nat) (ins : Insn) (s : State) (hs : s.mem.wf = true) :
    Canonical (execFtx core ins s) := runIf_canonical (by simp [hs])

@[simp] theorem execFfx_canonical (core : Nat) (ins : Insn) (s : State) (hs : s.mem.wf = true) :
    Canonical (execFfx core ins s) := runIf_canonical (by simp [hs])

@[simp] theorem execFri_canonical (core : Nat) (ins : Insn) (s : State) (hs : s.mem.wf = true) :
    Canonical (execFri core ins s) := runIf_canonical (by simp [hs])

/-! ## Flow -/

@[simp] theorem execBr_canonical (core : Nat) (ins : Insn) (s : State) (hs : s.mem.wf = true) :
    Canonical (execBr core ins s) := runIf_canonical (by simp [hs])

@[simp] theorem execBal_canonical (core : Nat) (ins : Insn) (s : State) (hs : s.mem.wf = true) :
    Canonical (execBal core ins s) := runIf_canonical (by simp [hs])

@[simp] theorem execBct_canonical (core : Nat) (ins : Insn) (s : State) (hs : s.mem.wf = true) :
    Canonical (execBct core ins s) := runIf_canonical (by simp [hs])

@[simp] theorem Run.call_wf (r : Run) (cls : Nat) (hr : r.s.mem.wf = true) : (r.call cls).mem.wf = true := by
  simp [Run.call, hr]

@[simp] theorem execCsv_canonical (core : Nat) (ins : Insn) (s : State) (hs : s.mem.wf = true) :
    Canonical (execCsv core ins s) :=
  runIf_canonical (State.instr_wf (fun r _ hr h => by cases h; exact r.call_wf _ hr) hs)

@[simp] theorem execChs_canonical (core : Nat) (ins : Insn) (s : State) (hs : s.mem.wf = true) :
    Canonical (execChs core ins s) :=
  runIf_canonical (State.instr_wf (fun r _ hr h => by cases h; exact r.call_wf _ hr) hs)

@[simp] theorem State.zenithReturn_mem (s : State) (c status : Nat) : (s.zenithReturn c status).mem = s.mem := by
  unfold State.zenithReturn
  split <;> simp

@[simp] theorem Run.zenithCall_wf (r : Run) (hr : r.s.mem.wf = true) : r.zenithCall.mem.wf = true := by
  simp [Run.zenithCall, hr]

@[simp] theorem State.czn_wf (s : State) (core : Nat) (ins : Insn) (hs : s.mem.wf = true) :
    (s.czn core ins).mem.wf = true := State.instr_wf (fun r t hr h => by cases h; simp [hr]) hs

@[simp] theorem execCzn_canonical (core : Nat) (ins : Insn) (s : State) (hs : s.mem.wf = true) :
    Canonical (execCzn core ins s) := runIf_canonical (by simp [hs])

theorem State.service_wf {s : State} {c : Nat} {ins : Insn} {code : Nat} {f : State → Nat → State × Nat}
    (hf : ∀ t pl, t.mem.wf = true → (f t pl).1.mem.wf = true) (hs : s.mem.wf = true) :
    (s.service c ins code f).mem.wf = true := by
  unfold State.service
  dsimp only
  have hb : (if s.serving c code = true then s else s.czn c ins).mem.wf = true := by simp [hs]
  generalize (if s.serving c code = true then s else s.czn c ins) = t at hb ⊢
  split
  · exact hb
  · split
    · simp [hb]
    · split
      · simp [hb]
      · exact State.deliverChecks_wf _ _ (by simp [hf, hb])

@[simp] theorem State.argWrite_wf (s : State) (c pl a : Nat) (l : List Octet) (hs : s.mem.wf = true) :
    (s.argWrite c pl a l).mem.wf = true := by
  simp [State.argWrite, hs]

@[simp] theorem State.attest_wf (s : State) (c pl : Nat) (hs : s.mem.wf = true) : (s.attest c pl).1.mem.wf = true := by
  simp [State.attest, hs]

@[simp] theorem execAttest_canonical (core : Nat) (ins : Insn) (s : State) (hs : s.mem.wf = true) :
    Canonical (execAttest core ins s) := runIf_canonical (State.service_wf (fun t pl ht => t.attest_wf core pl ht) hs)

@[simp] theorem State.assign_wf (s : State) (c pl : Nat) (hs : s.mem.wf = true) : (s.assign c pl).1.mem.wf = true := by
  unfold State.assign
  dsimp only
  split
  · exact hs
  · split
    · exact foldl_wf (fun t i ht => by simp [ht]) _ hs
    · exact hs

@[simp] theorem execAssignPages_canonical (core : Nat) (ins : Insn) (s : State) (hs : s.mem.wf = true) :
    Canonical (execAssignPages core ins s) :=
  runIf_canonical (State.service_wf (fun t pl ht => t.assign_wf core pl ht) hs)

@[simp] theorem State.deleteNotice_mem (s : State) (c pl : Nat) : (s.deleteNotice c pl).1.mem = s.mem := by
  simp [State.deleteNotice]

@[simp] theorem execDeleteNotice_canonical (core : Nat) (ins : Insn) (s : State) (hs : s.mem.wf = true) :
    Canonical (execDeleteNotice core ins s) := runIf_canonical (State.service_wf (fun t pl ht => by simp [ht]) hs)

@[simp] theorem execRti_canonical (core : Nat) (ins : Insn) (s : State) (hs : s.mem.wf = true) :
    Canonical (execRti core ins s) := runIf_canonical (by simp [hs])

@[simp] theorem execWait_canonical (core : Nat) (ins : Insn) (s : State) (hs : s.mem.wf = true) :
    Canonical (execWait core ins s) :=
  runIf_canonical (State.instr_wf (fun r t hr h => by
    split at h
    · cases h
      simp [hr]
    · cases h) hs)

@[simp] theorem execLsw_canonical (core : Nat) (ins : Insn) (s : State) (hs : s.mem.wf = true) :
    Canonical (execLsw core ins s) := runIf_canonical (by simp [hs])

@[simp] theorem execSsw_canonical (core : Nat) (ins : Insn) (s : State) (hs : s.mem.wf = true) :
    Canonical (execSsw core ins s) := runIf_canonical (by simp [hs])

@[simp] theorem execSpm_canonical (core : Nat) (ins : Insn) (s : State) (hs : s.mem.wf = true) :
    Canonical (execSpm core ins s) := runIf_canonical (by simp [hs])

@[simp] theorem execRcc_canonical (core : Nat) (ins : Insn) (s : State) (hs : s.mem.wf = true) :
    Canonical (execRcc core ins s) := runIf_canonical (State.instr_wf (fun r t hr h => by cases h; simp [hr]) hs)

@[simp] theorem execRtd_canonical (core : Nat) (ins : Insn) (s : State) (hs : s.mem.wf = true) :
    Canonical (execRtd core ins s) := runIf_canonical (State.instr_wf (fun r t hr h => by cases h; simp [hr]) hs)

/-! ## Long -/

theorem State.bindLoads_mem {s t : State} {c : Nat} {ck : Checkpoint} {lines : List Nat}
    (h : s.bindLoads c ck lines = .ok t) : t.mem = s.mem := by
  unfold State.bindLoads at h
  split at h
  · cases h
  next heq =>
    cases h
    simp [State.useLoads_mem heq]

theorem unitTry_wf {c : Nat} {u : State → Except Stop (State × Nat)} (hu : UnitKeeps u) (n : Nat) (s : State)
    (hs : s.mem.wf = true) :
    (unitTry c u n s).1.mem.wf = true ∧ ∀ t v, (unitTry c u n s).2 = .ok (t, v) → t.mem.wf = true := by
  induction n generalizing s with
  | zero => exact ⟨hs, fun _ _ h => by cases h⟩
  | succ n ih =>
    have hf : ∀ e, (s.resolve c e).1.mem.wf = true := fun e => by simp [hs]
    simp only [unitTry]
    split
    next e _ =>
      split
      · exact ih _ (hf e)
      · exact ⟨hf e, fun _ _ h => by cases h⟩
    next t code heq =>
      split
      · exact ⟨hs, fun _ _ h => by cases h; exact hu s t code hs heq⟩
      · split
        · exact ih _ (hf _)
        · exact ⟨hf .full, fun _ _ h => by cases h⟩

theorem longLoop_wf {c : Nat} {ckOf : Nat → Bool → Core → Checkpoint}
    {unit : Checkpoint → State → Nat → Except Stop (State × Nat)} (hu : ∀ ck k, UnitKeeps (fun s => unit ck s k))
    (n : Nat) (s : State) (k : Nat) (flag : Bool) (hs : s.mem.wf = true) :
    (longLoop c ckOf unit n s k flag).s.mem.wf = true := by
  induction n generalizing s k flag with
  | zero => exact hs
  | succ n ih =>
    have hw := unitTry_wf (c := c) (u := fun s => unit (ckOf k flag (s.core c)) s k) (fun s => hu _ k s) 128 s hs
    unfold longLoop
    dsimp only
    split
    next heq =>
      rw [heq] at hw
      exact hw.1
    next heq =>
      rw [heq] at hw
      have ht := hw.2 _ _ rfl
      split
      · exact ht
      · exact ih _ _ _ (by simp [ht])

@[simp] theorem State.progress_mem (s : State) (l : Long) (nto : Bool) (k : Nat) (flag hit : Bool) :
    (s.progress l nto k flag hit).mem = s.mem := by
  simp [State.progress]

@[simp] theorem State.longDone_mem (s : State) (l : Long) (len : Nat) (res : List (Nat × Nat)) (cc : Option Nat) :
    (s.longDone l len res cc).mem = s.mem := rfl

theorem State.longValue_mem {s t : State} {l : Long} {pre : Option OpSpec} {ck : Checkpoint} {v : Nat}
    (h : s.longValue l pre ck = .ok (t, v)) : t.mem = s.mem := by
  unfold State.longValue at h
  split at h
  · cases h
    rfl
  · split at h
    · cases h
    · split at h
      · cases h
      next heq =>
        obtain ⟨_, hb, h⟩ := ok_of_map h
        cases h
        rw [State.bindLoads_mem hb, State.readOp_mem heq]

@[simp] theorem State.longEnd_wf (s : State) (l : Long) (ins : Insn) (o : OpCode) (nto : Bool) (bound : Nat)
    (r : LongRes) (fin : Long → LongFin → List (Nat × Nat) × Option Nat) (hs : s.mem.wf = true) :
    (s.longEnd l ins o nto bound r fin).mem.wf = true := by
  unfold State.longEnd
  split <;> simp [hs]

theorem State.longRun_wf {s : State} {c : Nat} {ins : Insn} {stop : Option Nat} {o : OpCode} {nto : Bool}
    {pre : Option OpSpec} {unit : Long → Checkpoint → State → Nat → Except Stop (State × Nat)}
    {fin : Long → LongFin → List (Nat × Nat) × Option Nat} {ls : List Loc} {f : Form} {n : Nat}
    (hu : ∀ l ck k, UnitKeeps (fun s => unit l ck s k)) (hs : s.mem.wf = true) :
    (s.longRun c ins stop o nto pre unit fin ls f n).mem.wf = true := by
  unfold State.longRun
  extract_lets k l first bound0 bound flag r t
  split
  · exact hs
  · have hv : UnitKeeps (fun s => s.longValue l pre (l.boundary nto first flag (s.core c))) :=
      fun u v n hu h => State.longValue_mem h ▸ hu
    have hp : ∀ p : State × Except Stop (State × Nat),
        p = (if n == first then (s, .ok (s, 0))
          else unitTry c (fun s => s.longValue l pre (l.boundary nto first flag (s.core c))) 128 s) →
        p.1.mem.wf = true ∧ ∀ t v, p.2 = .ok (t, v) → t.mem.wf = true := by
      rintro p rfl
      split
      · exact ⟨hs, fun _ _ h => by cases h; exact hs⟩
      · exact unitTry_wf hv 128 s hs
    have hr : r.s.mem.wf = true := by
      simp only [r]
      split
      next heq => exact (hp _ heq.symm).1
      next heq => exact longLoop_wf (fun ck k => hu _ ck k) _ _ _ _ ((hp _ heq.symm).2 _ _ rfl)
    have ht : t.mem.wf = true := by
      simp only [t]
      split <;> simp [hr]
    exact State.longEnd_wf _ _ _ _ _ _ _ _ ht

theorem State.longTry_wf {c : Nat} {ins : Insn} {o : OpCode} {go : State → List Loc → Form → Nat → State}
    (hgo : ∀ t ls f n, t.mem.wf = true → (go t ls f n).mem.wf = true) (n : Nat) (s : State) (hs : s.mem.wf = true) :
    (s.longTry c ins o go n).mem.wf = true := by
  induction n generalizing s with
  | zero => exact hs
  | succ n ih =>
    unfold State.longTry
    dsimp only
    split
    · simp [ih, hs]
    · split
      · simp [ih, hs]
      · simp [ih, hs]
      next heq => exact hgo _ _ _ _ (by rw [State.useLoads_mem heq]; exact hs)

theorem State.long_wf {s : State} {c : Nat} {ins : Insn} {stop : Option Nat} {o : OpCode} {nto : Bool}
    {pre : Option OpSpec} {unit : Long → Checkpoint → State → Nat → Except Stop (State × Nat)}
    {fin : Long → LongFin → List (Nat × Nat) × Option Nat} (hu : ∀ l ck k, UnitKeeps (fun s => unit l ck s k))
    (hs : s.mem.wf = true) : (s.long c ins stop o nto pre unit fin).mem.wf = true := by
  unfold State.long
  dsimp only
  split
  · exact hs
  · split
    · simp [hs]
    · exact State.deliverChecks_wf _ _ (State.longTry_wf (fun t ls f n ht => State.longRun_wf hu ht) _ _ (by simp [hs]))

theorem mvnUnit_keeps (h : Word) (l : Long) (ck : Checkpoint) (k : Nat) : UnitKeeps (fun s => mvnUnit h l ck s k) := by
  intro s t n hs hu
  unfold mvnUnit at hu
  dsimp only at hu
  split at hu
  · cases hu
  split at hu
  · cases hu
  split at hu
  · cases hu
  split at hu
  · cases hu
  next heq =>
    obtain ⟨u, hb, hu⟩ := ok_of_map hu
    cases hu
    simp [State.bindLoads_mem hb, State.readOp_mem heq, hs]

@[simp] theorem State.mvn_wf (s : State) (core : Nat) (ins : Insn) (stop : Option Nat) (hs : s.mem.wf = true) :
    (s.mvn core ins stop).mem.wf = true := State.long_wf (fun l ck k => mvnUnit_keeps _ l ck k) hs

@[simp] theorem execMvn_canonical (core : Nat) (ins : Insn) (stop : Option Nat) (s : State) (hs : s.mem.wf = true) :
    Canonical (execMvn core ins stop s) := runIf_canonical (by simp [hs])

theorem flnUnit_keeps (h : Word) (l : Long) (ck : Checkpoint) (k : Nat) : UnitKeeps (fun s => flnUnit h l ck s k) := by
  intro s t n hs hu
  obtain ⟨_, _, hu⟩ := ok_of_map hu
  cases hu
  simp [hs]

@[simp] theorem execFln_canonical (core : Nat) (ins : Insn) (stop : Option Nat) (s : State) (hs : s.mem.wf = true) :
    Canonical (execFln core ins stop s) := runIf_canonical (State.long_wf (flnUnit_keeps ins.hdr) hs)

theorem copyUnit_keeps (f code : Nat → Nat) (l : Long) (ck : Checkpoint) (k : Nat) :
    UnitKeeps (fun s => copyUnit f code l ck s k) := by
  intro s t n hs hu
  unfold copyUnit at hu
  dsimp only at hu
  iterate 3
    split at hu
    · cases hu
  obtain ⟨u, hb, hu⟩ := ok_of_map hu
  cases hu
  simp [State.bindLoads_mem hb, hs]

@[simp] theorem execMvc_canonical (core : Nat) (ins : Insn) (stop : Option Nat) (s : State) (hs : s.mem.wf = true) :
    Canonical (execMvc core ins stop s) := runIf_canonical (State.long_wf (copyUnit_keeps _ _) hs)

theorem cpcUnit_keeps (l : Long) (ck : Checkpoint) (k : Nat) : UnitKeeps (fun s => cpcUnit l ck s k) := by
  intro s t n hs hu
  unfold cpcUnit at hu
  dsimp only at hu
  iterate 4
    split at hu
    · cases hu
  obtain ⟨u, hb, hu⟩ := ok_of_map hu
  cases hu
  simp [State.bindLoads_mem hb, hs]

@[simp] theorem execCpc_canonical (core : Nat) (ins : Insn) (stop : Option Nat) (s : State) (hs : s.mem.wf = true) :
    Canonical (execCpc core ins stop s) := runIf_canonical (State.long_wf (cpcUnit_keeps) hs)

theorem trcUnit_keeps (l : Long) (ck : Checkpoint) (k : Nat) : UnitKeeps (fun s => trcUnit l ck s k) := by
  intro s t n hs hu
  unfold trcUnit at hu
  dsimp only at hu
  iterate 4
    split at hu
    · cases hu
  obtain ⟨u, hb, hu⟩ := ok_of_map hu
  cases hu
  simp [State.bindLoads_mem hb, hs]

@[simp] theorem execTrc_canonical (core : Nat) (ins : Insn) (stop : Option Nat) (s : State) (hs : s.mem.wf = true) :
    Canonical (execTrc core ins stop s) := runIf_canonical (State.long_wf (trcUnit_keeps) hs)

theorem scnUnit_keeps (l : Long) (ck : Checkpoint) (k : Nat) : UnitKeeps (fun s => scnUnit l ck s k) := by
  intro s t n hs hu
  unfold scnUnit at hu
  dsimp only at hu
  iterate 3
    split at hu
    · cases hu
  obtain ⟨u, hb, hu⟩ := ok_of_map hu
  cases hu
  simp [State.bindLoads_mem hb, hs]

@[simp] theorem execScn_canonical (core : Nat) (ins : Insn) (stop : Option Nat) (s : State) (hs : s.mem.wf = true) :
    Canonical (execScn core ins stop s) := runIf_canonical (State.long_wf (scnUnit_keeps) hs)

theorem flcUnit_keeps (l : Long) (ck : Checkpoint) (k : Nat) : UnitKeeps (fun s => flcUnit l ck s k) := by
  intro s t n hs hu
  unfold flcUnit at hu
  dsimp only at hu
  split at hu
  · cases hu
  split at hu
  · split at hu <;> cases hu
    simp [hs]
  · cases hu

@[simp] theorem execFlc_canonical (core : Nat) (ins : Insn) (stop : Option Nat) (s : State) (hs : s.mem.wf = true) :
    Canonical (execFlc core ins stop s) := runIf_canonical (State.long_wf (flcUnit_keeps) hs)

@[simp] theorem execNto_canonical (core : Nat) (ins : Insn) (stop : Option Nat) (s : State) (hs : s.mem.wf = true) :
    Canonical (execNto core ins stop s) := runIf_canonical (State.long_wf (copyUnit_keeps _ _) hs)

@[simp] theorem execOtn_canonical (core : Nat) (ins : Insn) (stop : Option Nat) (s : State) (hs : s.mem.wf = true) :
    Canonical (execOtn core ins stop s) := runIf_canonical (State.long_wf (copyUnit_keeps _ _) hs)

@[simp] theorem execMvb_canonical (core : Nat) (ins : Insn) (stop : Option Nat) (s : State) (hs : s.mem.wf = true) :
    Canonical (execMvb core ins stop s) := runIf_canonical (State.long_wf (copyUnit_keeps _ _) hs)

@[simp] theorem State.resumeIo_wf (s : State) (c : Nat) (l : IoLoad) (data : DWord) (hs : s.mem.wf = true) :
    (s.resumeIo c l data).mem.wf = true := by
  simp [State.resumeIo, hs]

@[simp] theorem State.ioFails_wf (s : State) (c : Nat) (l : IoLoad) (hs : s.mem.wf = true) :
    (s.ioFails c l).mem.wf = true := by
  simp [State.ioFails, hs]

@[simp] theorem execIoLoadCompletion_canonical (core status : Nat) (data : DWord) (s : State) (hs : s.mem.wf = true) :
    Canonical (execIoLoadCompletion core status data s) := runIf_canonical (by split <;> simp [hs])

@[simp] theorem execIoLoadTimeout_canonical (core : Nat) (s : State) (hs : s.mem.wf = true) :
    Canonical (execIoLoadTimeout core s) := runIf_canonical (by split <;> simp [hs])

/-! ## Cache -/

@[simp] theorem execBar_canonical (core : Nat) (ins : Insn) (s : State) (hs : s.mem.wf = true) :
    Canonical (execBar core ins s) :=
  runIf_canonical (State.drained_wf _ _ _ hs (fun t ht => State.simple_wf t _ _ _ _ ht))

@[simp] theorem State.cacheServes_mem (s : State) (c : Nat) (keys : List Nat) : (s.cacheServes c keys).mem = s.mem :=
  rfl

@[simp] theorem State.cacheFree_mem (s : State) (c : Nat) : (s.cacheFree c).mem = s.mem := rfl

@[simp] theorem State.l2Leaves_wf (s : State) (c : Nat) (hs : s.mem.wf = true) : (s.l2Leaves c).mem.wf = true := by
  simp [State.l2Leaves, hs]

@[simp] theorem State.l2Begins_wf (s : State) (c : Nat) (hs : s.mem.wf = true) : (s.l2Begins c).mem.wf = true := by
  simp [State.l2Begins, hs]

@[simp] theorem State.l1Walked_mem (s : State) (c : Nat) : (s.l1Walked c).mem = s.mem := rfl

@[simp] theorem State.l2Walked_wf (s : State) (c : Nat) (hs : s.mem.wf = true) : (s.l2Walked c).mem.wf = true := by
  simp [State.l2Walked, hs]

@[simp] theorem State.setL3_mem (s : State) (t : Nat) (v : CacheState) : (s.setL3 t v).mem = s.mem := rfl

@[simp] theorem State.l3Empty_wf (s : State) (t : Nat) (hs : s.mem.wf = true) : (s.l3Empty t).mem.wf = true := by
  simp [State.l3Empty, hs]

@[simp] theorem State.disableStep_wf (s : State) (i : CacheId) (n : Nat) (hs : s.mem.wf = true) :
    (s.disableStep i n).1.mem.wf = true := by
  have hbegins : ((s.coresOfTile n).foldl (fun s c => s.l2Begins c) s).mem.wf = true :=
    foldl_wf (fun t c ht => by simp [ht]) _ hs
  have hl1 : ((s.coresOfTile n).foldl (fun s c => s.l1Walked c) s).mem.wf = true :=
    foldl_wf (fun t c ht => by simp [ht]) _ hs
  have hl2 : ((s.coresOfTile n).foldl (fun s c => s.l2Walked c) s).mem.wf = true :=
    foldl_wf (fun t c ht => by simp [ht]) _ hs
  unfold State.disableStep
  dsimp only
  repeat' split
  all_goals simp [hs, hbegins, hl1, hl2]

@[simp] theorem State.cacheEnable_mem (s : State) (i : CacheId) (n : Nat) : (s.cacheEnable i n).mem = s.mem := by
  unfold State.cacheEnable
  split <;> simp

@[simp] theorem State.cleanWalk_wf (s : State) (i : CacheId) (n : Nat) (inv : Bool) (hs : s.mem.wf = true) :
    (s.cleanWalk i n inv).mem.wf = true := by
  unfold State.cleanWalk
  split <;> simp [hs]

@[simp] theorem State.cleanStep_wf (s : State) (c : Nat) (i : CacheId) (n : Nat) (inv : Bool) (hs : s.mem.wf = true) :
    (s.cleanStep c i n inv).1.mem.wf = true := by
  simp [State.cleanStep, hs]

theorem State.cct_wf {s : State} {core : Nat} {ins : Insn} {disable : Bool}
    {act : State → CacheId → Nat → Except Stop (State × Bool)}
    (ha : ∀ s i n t, s.mem.wf = true → act s i n = .ok t → t.1.mem.wf = true) (hs : s.mem.wf = true) :
    (s.cct core ins disable act).mem.wf = true := by
  refine State.drained_wf _ _ _ hs (fun t ht => State.instr_wf (fun r u hr h => ?_) ht)
  dsimp only at h
  split at h
  · cases h
  · split at h
    · cases h
      exact hr
    · obtain ⟨v, hv, rfl⟩ := ok_of_map h
      have := ha _ _ _ _ hr hv
      split <;> simp [this]

@[simp] theorem execEnable_canonical (core : Nat) (ins : Insn) (s : State) (hs : s.mem.wf = true) :
    Canonical (execEnable core ins s) :=
  runIf_canonical (State.cct_wf (fun u i n t hu h => by
    split at h
    · cases h
    · cases h
      simp [hu]) hs)

@[simp] theorem execDisable_canonical (core : Nat) (ins : Insn) (s : State) (hs : s.mem.wf = true) :
    Canonical (execDisable core ins s) :=
  runIf_canonical (State.cct_wf (fun u i n _ hu h => by cases h; exact u.disableStep_wf i n hu) hs)

@[simp] theorem execCleanAll_canonical (core : Nat) (ins : Insn) (s : State) (hs : s.mem.wf = true) :
    Canonical (execCleanAll core ins s) :=
  runIf_canonical (State.cct_wf (fun u i n _ hu h => by cases h; exact u.cleanStep_wf core i n false hu) hs)

@[simp] theorem execCleanAndInvalidateAll_canonical (core : Nat) (ins : Insn) (s : State) (hs : s.mem.wf = true) :
    Canonical (execCleanAndInvalidateAll core ins s) :=
  runIf_canonical (State.cct_wf (fun u i n _ hu h => by cases h; exact u.cleanStep_wf core i n true hu) hs)

@[simp] theorem Run.lnmDone_mem (r : Run) (s : State) : (r.lnmDone s).mem = s.mem := Run.finish_mem _ _

@[simp] theorem State.lnmStore_wf (s : State) (core : Nat) (ins : Insn) (nd : Need) (kind : SbKind)
    (ws : List (Nat × Word)) (hs : s.mem.wf = true) : (s.lnmStore core ins nd kind ws).mem.wf = true := by
  refine State.instr_wf (fun r t hr h => ?_) hs
  obtain ⟨_, _, rfl⟩ := ok_of_map h
  simp [hr]

theorem State.lnmLoad_wf {s : State} {core : Nat} {ins : Insn} {nd : Need} {preload : Bool}
    {f : Run → Nat → Except Stop State} (hf : ∀ line, RunKeeps (fun r => f r line)) (hs : s.mem.wf = true) :
    (s.lnmLoad core ins nd preload f).mem.wf = true := by
  refine State.instr_wf (fun r t hr h => ?_) hs
  split at h
  · cases h
  · obtain ⟨u, hu, rfl⟩ := ok_of_map h
    simp [hf _ r u hr hu]

@[simp] theorem execCleanLine_canonical (core : Nat) (ins : Insn) (s : State) (hs : s.mem.wf = true) :
    Canonical (execCleanLine core ins s) := runIf_canonical (by simp [hs])

@[simp] theorem execInvalidateLine_canonical (core : Nat) (ins : Insn) (s : State) (hs : s.mem.wf = true) :
    Canonical (execInvalidateLine core ins s) := runIf_canonical (by simp [hs])

@[simp] theorem execZeroLine_canonical (core : Nat) (ins : Insn) (s : State) (hs : s.mem.wf = true) :
    Canonical (execZeroLine core ins s) := runIf_canonical (by simp [hs])

theorem Run.preload_mem {r : Run} {line : Nat} {t : State} (h : r.preload line = .ok t) : t.mem = r.s.mem := by
  unfold Run.preload at h
  split at h
  · cases h
  split at h
  · cases h
  next heq =>
    cases h
    exact State.useLoads_mem heq

theorem Run.preloadL2_mem {r : Run} {line : Nat} {t : State} (h : r.preloadL2 line = .ok t) : t.mem = r.s.mem := by
  unfold Run.preloadL2 at h
  split at h
  · cases h
  next hp =>
    split at h
    · cases h
    · cases h
      simp [Run.preload_mem hp]

@[simp] theorem execPreloadShared_canonical (core : Nat) (ins : Insn) (s : State) (hs : s.mem.wf = true) :
    Canonical (execPreloadShared core ins s) :=
  runIf_canonical (State.lnmLoad_wf (fun _ r _ hr h => by rw [Run.preload_mem h]; exact hr) hs)

@[simp] theorem execPreloadOwned_canonical (core : Nat) (ins : Insn) (s : State) (hs : s.mem.wf = true) :
    Canonical (execPreloadOwned core ins s) :=
  runIf_canonical (State.instr_wf (fun r t hr h => by
    split at h
    · cases h
    next line _ =>
      have ho := r.s.ownLine_wf r.c line hr
      generalize r.s.ownLine r.c line = p at ho h
      obtain ⟨u, ok⟩ := p
      dsimp only at ho h
      split at h
      · cases h
        exact ho
      · split at h
        · cases h
        next hu =>
          cases h
          rw [Run.lnmDone_mem, State.useLoads_mem hu]
          exact ho) hs)

@[simp] theorem execPreloadAndLock_canonical (core : Nat) (ins : Insn) (s : State) (hs : s.mem.wf = true) :
    Canonical (execPreloadAndLock core ins s) :=
  runIf_canonical (State.lnmLoad_wf (fun line r t hr h => by
    dsimp only at h
    split at h
    · cases h
    · obtain ⟨u, hu, rfl⟩ := ok_of_map h
      rw [State.modCore_mem, Run.preloadL2_mem hu]
      exact hr) hs)

@[simp] theorem execUnlockLine_canonical (core : Nat) (ins : Insn) (s : State) (hs : s.mem.wf = true) :
    Canonical (execUnlockLine core ins s) :=
  runIf_canonical (State.lnmLoad_wf (fun _ r _ hr h => by cases h; exact hr) hs)

@[simp] theorem execUnlockAll_canonical (core : Nat) (ins : Insn) (s : State) (hs : s.mem.wf = true) :
    Canonical (execUnlockAll core ins s) := runIf_canonical (State.instr_wf (fun r t hr h => by cases h; simp [hr]) hs)

@[simp] theorem State.ptl_wf (s : State) (core : Nat) (ins : Insn) (held : State → Core → Bool)
    (drop : Run → TcEntry → Bool) (hs : s.mem.wf = true) : (s.ptl core ins held drop).mem.wf = true := by
  refine State.instr_wf (fun r t hr h => ?_) hs
  split at h <;> cases h
  · exact hr
  · simp [hr]

@[simp] theorem execStage1Page_canonical (core : Nat) (ins : Insn) (s : State) (hs : s.mem.wf = true) :
    Canonical (execStage1Page core ins s) := runIf_canonical (by simp [hs])

@[simp] theorem execStage1All_canonical (core : Nat) (ins : Insn) (s : State) (hs : s.mem.wf = true) :
    Canonical (execStage1All core ins s) := runIf_canonical (by simp [hs])

@[simp] theorem execStage2Page_canonical (core : Nat) (ins : Insn) (s : State) (hs : s.mem.wf = true) :
    Canonical (execStage2Page core ins s) := runIf_canonical (by simp [hs])

@[simp] theorem execStage2Tenant_canonical (core : Nat) (ins : Insn) (s : State) (hs : s.mem.wf = true) :
    Canonical (execStage2Tenant core ins s) := runIf_canonical (by simp [hs])

@[simp] theorem execModule_canonical (core : Nat) (ins : Insn) (s : State) (hs : s.mem.wf = true) :
    Canonical (execModule core ins s) := runIf_canonical (by simp [hs])

/-! ## Commits -/

@[simp] theorem execCommitAdmission_canonical (tenant : Nat) (s : State) (hs : s.mem.wf = true) :
    Canonical (execCommitAdmission tenant s) := runIf_canonical (by simp [hs])

@[simp] theorem execWaitLimit_canonical (tenant : Nat) (s : State) (hs : s.mem.wf = true) :
    Canonical (execWaitLimit tenant s) := runIf_canonical (by simp [hs])

@[simp] theorem execEntryWrite_canonical (stream : Nat) (verified : Bool) (s : State) (hs : s.mem.wf = true) :
    Canonical (execEntryWrite stream verified s) := runIf_canonical (by simp [hs])

@[simp] theorem State.newRoot_mem (s : State) (t : Nat) : (s.newRoot t).mem = s.mem := rfl

@[simp] theorem State.setSealing_mem (s : State) (t : Nat) (on : Bool) : (s.setSealing t on).mem = s.mem := by
  simp [State.setSealing]

@[simp] theorem execSealing_canonical (route : Route) (value : Nat) (s : State) (hs : s.mem.wf = true) :
    Canonical (execSealing route value s) := runIf_canonical (by simp [hs])

@[simp] theorem State.reprovision_mem (s : State) (t : Nat) : (s.reprovision t).mem = s.mem := by
  simp [State.reprovision]

@[simp] theorem execReProvisionSealing_canonical (route : Route) (value : Nat) (s : State) (hs : s.mem.wf = true) :
    Canonical (execReProvisionSealing route value s) := runIf_canonical (by simp [hs])

/-! ## Sparing -/

@[simp] theorem State.bindCore_mem (s : State) (c : Nat) (site : Option Nat) : (s.bindCore c site).mem = s.mem := rfl

@[simp] theorem State.rebind_mem (s : State) (c : Nat) : (s.rebind c).mem = s.mem := by simp [State.rebind]

@[simp] theorem State.siteMap_mem (s : State) : s.siteMap.mem = s.mem := by simp [State.siteMap]

@[simp] theorem State.coreFault_wf (s : State) (c : Nat) (intact : Bool) (detector who : Nat) (hs : s.mem.wf = true) :
    (s.coreFault c intact detector who).mem.wf = true := by
  simp [State.coreFault, hs]

@[simp] theorem State.resumeOn_wf (s : State) (c old new : Nat) (hs : s.mem.wf = true) :
    (s.resumeOn c old new).mem.wf = true := by
  simp [State.resumeOn, hs]

@[simp] theorem State.loseCore_mem (s : State) (c site : Nat) : (s.loseCore c site).mem = s.mem := rfl

@[simp] theorem State.takeoverBegins_wf (s : State) (c base : Nat) (checkpointIntact linesIntact entriesIntact : Bool)
    (hs : s.mem.wf = true) : (s.takeoverBegins c base checkpointIntact linesIntact entriesIntact).mem.wf = true := by
  unfold State.takeoverBegins
  dsimp only
  repeat' split
  all_goals simp [hs]

@[simp] theorem State.takeoverEnds_wf (s : State) (c base : Nat) (k : Taking) (hs : s.mem.wf = true) :
    (s.takeoverEnds c base k).mem.wf = true := by
  unfold State.takeoverEnds
  split <;> simp [hs]

@[simp] theorem State.takeover_wf (s : State) (site : Nat) (checkpointIntact linesIntact entriesIntact : Bool)
    (hs : s.mem.wf = true) : (s.takeover site checkpointIntact linesIntact entriesIntact).mem.wf = true := by
  unfold State.takeover
  split
  · exact hs
  next c _ =>
    dsimp only
    split
    · simp [hs]
    next k _ =>
      split
      · simp [hs]
      · generalize hb : (if k.begun = true then _ else _ : State) = u
        have hu : u.mem.wf = true := by
          rw [← hb]
          split <;> simp [hs]
        split <;> simp [hu]

@[simp] theorem State.loadImage_mem (s : State) : s.loadImage.mem = s.mem := by
  unfold State.loadImage
  split
  · rfl
  · dsimp only
    split
    · rfl
    · split
      · rfl
      · split
        · rfl
        · exact State.persist_mem ..

@[simp] theorem State.unloadImage_mem (s : State) : s.unloadImage.mem = s.mem := rfl

@[simp] theorem State.customerCommand_mem (s : State) (v : Nat) : (s.customerCommand v).mem = s.mem := by
  simp [State.customerCommand]

@[simp] theorem execInstructionRetry_canonical (core : Nat) (coreCopyIntact recoveryIntact : Bool) (s : State)
    (hs : s.mem.wf = true) : Canonical (execInstructionRetry core coreCopyIntact recoveryIntact s) :=
  runIf_canonical (by simp [hs])

@[simp] theorem execMicrocodeWatchdogExpiry_canonical (core : Nat) (s : State) (hs : s.mem.wf = true) :
    Canonical (execMicrocodeWatchdogExpiry core s) := runIf_canonical (by split <;> simp [hs])

@[simp] theorem execHaloTakeover_canonical (site : Nat) (checkpointIntact linesIntact entriesIntact : Bool) (s : State)
    (hs : s.mem.wf = true) : Canonical (execHaloTakeover site checkpointIntact linesIntact entriesIntact s) :=
  runIf_canonical (by simp [hs])

@[simp] theorem execSpareSelfTest_canonical (site : Nat) (passed : Bool) (s : State) (hs : s.mem.wf = true) :
    Canonical (execSpareSelfTest site passed s) := runIf_canonical (by simp [hs])

@[simp] theorem execLoadStagedImage_canonical (route : Route) (s : State) (hs : s.mem.wf = true) :
    Canonical (execLoadStagedImage route s) := runIf_canonical (by simp [hs])

@[simp] theorem execUnload_canonical (route : Route) (s : State) (hs : s.mem.wf = true) :
    Canonical (execUnload route s) := runIf_canonical (by simp [hs])

/-! ## Horizontal -/

@[simp] theorem State.coreCycle_wf (s : State) (c : Nat) (hs : s.mem.wf = true) : (s.coreCycle c).mem.wf = true := by
  unfold State.coreCycle
  dsimp only
  repeat' split
  all_goals simp [hs]

@[simp] theorem State.coreCycles_wf (s : State) (hs : s.mem.wf = true) : s.coreCycles.mem.wf = true :=
  foldl_wf (fun t e ht => by simp [ht]) _ hs

/-! ## Firmware -/

@[simp] theorem State.setCredential_mem (s : State) (role : Nat) (l : List Octet) :
    (s.setCredential role l).mem = s.mem := by
  simp [State.setCredential]

@[simp] theorem State.credentialWrite_mem (s : State) (route : Route) (sub : Nat) (octets : List Octet) :
    (s.credentialWrite route sub octets).mem = s.mem := by
  simp [State.credentialWrite]

@[simp] theorem State.stage_mem (s : State) (m : MediumContents) : (s.stage m).mem = s.mem := by
  unfold State.stage
  split <;> simp

@[simp] theorem State.stageBlock_mem (s : State) : s.stageBlock.mem = s.mem := by
  unfold State.stageBlock
  split <;> simp

@[simp] theorem State.usePatch_mem (s : State) (b : Bank) : (s.usePatch b).mem = s.mem := by simp [State.usePatch]

@[simp] theorem State.activate_mem (s : State) (live verified : Bool) : (s.activate live verified).mem = s.mem := by
  simp [State.activate]

@[simp] theorem State.commitSecver_mem (s : State) : s.commitSecver.mem = s.mem := rfl

@[simp] theorem State.enroll_mem (s : State) (l : List Octet) : (s.enroll l).mem = s.mem := by
  unfold State.enroll
  dsimp only
  repeat' split
  all_goals simp

@[simp] theorem State.mediumAction_mem (s : State) (m : MediumContents) : (s.mediumAction m).mem = s.mem := by
  unfold State.mediumAction
  dsimp only
  repeat' split
  all_goals simp

@[simp] theorem State.turnKey_mem (s : State) (pos : KeyPos) : (s.turnKey pos).mem = s.mem := by simp [State.turnKey]

@[simp] theorem execCredential_canonical (route : Route) (sub : Nat) (octets : List Octet) (s : State)
    (hs : s.mem.wf = true) : Canonical (execCredential route sub octets s) :=
  runIf_canonical (by simp [hs])

@[simp] theorem execKeySwitch_canonical (contacts : KeyContacts) (s : State) (hs : s.mem.wf = true) :
    Canonical (execKeySwitch contacts s) := runIf_canonical (by split <;> simp [hs])

@[simp] theorem execRequestPress_canonical (milliseconds : Nat) (medium : MediumContents) (s : State)
    (hs : s.mem.wf = true) : Canonical (execRequestPress milliseconds medium s) :=
  runIf_canonical (by simp [hs])

@[simp] theorem execMediumAction_canonical (medium : MediumContents) (s : State) (hs : s.mem.wf = true) :
    Canonical (execMediumAction medium s) := runIf_canonical (by simp [hs])

@[simp] theorem execIdentifyPress_canonical (s : State) (hs : s.mem.wf = true) : Canonical (execIdentifyPress s) :=
  runIf_canonical (by simp [hs])

@[simp] theorem execMediumChange_canonical (state : Nat) (s : State) (hs : s.mem.wf = true) :
    Canonical (execMediumChange state s) := runIf_canonical (by simp [hs])

@[simp] theorem execStage_canonical (route : Route) (medium : MediumContents) (s : State) (hs : s.mem.wf = true) :
    Canonical (execStage route medium s) := runIf_canonical (by simp [hs])

@[simp] theorem execActivateAtDawn_canonical (route : Route) (verified : Bool) (s : State) (hs : s.mem.wf = true) :
    Canonical (execActivateAtDawn route verified s) := runIf_canonical (by simp [hs])

@[simp] theorem execActivateLive_canonical (route : Route) (verified sameOthers : Bool) (s : State)
    (hs : s.mem.wf = true) : Canonical (execActivateLive route verified sameOthers s) :=
  runIf_canonical (by simp [hs])

@[simp] theorem execCommitSecurityVersion_canonical (route : Route) (s : State) (hs : s.mem.wf = true) :
    Canonical (execCommitSecurityVersion route s) := runIf_canonical (by simp [hs])

@[simp] theorem execAbandonStaging_canonical (route : Route) (s : State) (hs : s.mem.wf = true) :
    Canonical (execAbandonStaging route s) := runIf_canonical (by simp [hs])

/-! ## Life -/

@[simp] theorem State.bootBank_mem (s : State) (aOk bOk : Bool) : (s.bootBank aOk bOk).2.mem = s.mem := by
  simp [State.bootBank]

@[simp] theorem State.measured_mem (s : State) (m0 : BitVec 384) : (s.measured m0).mem = s.mem := rfl

@[simp] theorem State.returnUnits_mem (s : State) : s.returnUnits.mem = s.mem := rfl

theorem State.dawnSites_wf (s : State) (bad : List Nat) : (s.dawnSites bad).mem.wf = true := by
  unfold State.dawnSites
  dsimp only
  rw [State.siteMap_mem, foldl_mem (fun t x => by simp)]
  rfl

@[simp] theorem State.lossOf_mem (s : State) (t : Nat) : (s.lossOf t).mem = s.mem := by simp [State.lossOf]

@[simp] theorem State.recoverStream_mem (bad : List (Nat × Nat)) (s : State) (stream : Nat) :
    (s.recoverStream bad stream).mem = s.mem := by
  simp [State.recoverStream]

@[simp] theorem State.haltLoss_mem (s : State) : s.haltLoss.mem = s.mem := by simp [State.haltLoss]

@[simp] theorem State.dawnAnvil_mem (s : State) (bad : List (Nat × Nat)) : (s.dawnAnvil bad).mem = s.mem := by
  simp [State.dawnAnvil]

@[simp] theorem State.dawnLedger_mem (s : State) : s.dawnLedger.mem = s.mem := rfl

@[simp] theorem State.dawnConfig_mem (s : State) : s.dawnConfig.mem = s.mem := by simp [State.dawnConfig]

@[simp] theorem State.dawnLink_mem (f : DawnInput) (s : State) (k : Nat) : (s.dawnLink f k).mem = s.mem := by
  unfold State.dawnLink
  dsimp only
  repeat' split
  all_goals simp

@[simp] theorem State.dawnLinks_mem (s : State) (f : DawnInput) : (s.dawnLinks f).mem = s.mem := by
  simp [State.dawnLinks]

@[simp] theorem State.dawnTwin_mem (s : State) : s.dawnTwin.mem = s.mem := rfl

@[simp] theorem State.toSafe_mem (s : State) : s.toSafe.mem = s.mem := rfl

@[simp] theorem State.dawnBegin_mem (s : State) : s.dawnBegin.mem = s.mem := by simp [State.dawnBegin]

@[simp] theorem State.dawnEnd_mem (s : State) : s.dawnEnd.mem = s.mem := by simp [State.dawnEnd]

@[simp] theorem State.dawnFatal_wf (s : State) (source : Nat) (hs : s.mem.wf = true) :
    (s.dawnFatal source).mem.wf = true := by
  simp [State.dawnFatal, hs]

@[simp] theorem State.dawn_wf (s : State) (f : DawnInput) (hs : s.mem.wf = true) : (s.dawn f).mem.wf = true := by
  unfold State.dawn
  dsimp only
  repeat' split
  all_goals simp [hs, State.dawnSites_wf]

@[simp] theorem State.orderlyStop_mem (s : State) : s.orderlyStop.mem = s.mem := by simp [State.orderlyStop]

@[simp] theorem State.leverLifted_mem (s : State) : s.leverLifted.mem = s.mem := by
  unfold State.leverLifted
  dsimp only
  split <;> simp

@[simp] theorem State.leverLowered_wf (s : State) (hs : s.mem.wf = true) : s.leverLowered.mem.wf = true := by
  unfold State.leverLowered
  dsimp only
  split
  · simp
  · exact hs

@[simp] theorem State.leverOpened_wf (s : State) (hs : s.mem.wf = true) : s.leverOpened.mem.wf = true := by
  unfold State.leverOpened
  dsimp only
  repeat' split
  all_goals simp [hs]

@[simp] theorem State.bleedComplete_wf (s : State) (hs : s.mem.wf = true) : s.bleedComplete.mem.wf = true := by
  unfold State.bleedComplete
  dsimp only
  repeat' split
  all_goals simp [hs]

@[simp] theorem State.pcieRefLost_wf (s : State) (hs : s.mem.wf = true) : s.pcieRefLost.mem.wf = true :=
  foldl_wf (fun t p ht => foldl_wf (fun u n hu => by simp [hu]) _ ht) _ hs

@[simp] theorem State.ethRefLost_mem (s : State) : s.ethRefLost.mem = s.mem := by simp [State.ethRefLost]

@[simp] theorem execDawnStart_canonical (found : DawnInput) (s : State) (hs : s.mem.wf = true) :
    Canonical (execDawnStart found s) := runIf_canonical (by simp [hs])

@[simp] theorem execOrderlyStop_canonical (route : Route) (value : Nat) (s : State) (hs : s.mem.wf = true) :
    Canonical (execOrderlyStop route value s) := runIf_canonical (by simp [hs])

@[simp] theorem execLeverLifted_canonical (s : State) (hs : s.mem.wf = true) : Canonical (execLeverLifted s) :=
  runIf_canonical (by simp [hs])

@[simp] theorem execLeverLowered_canonical (s : State) (hs : s.mem.wf = true) : Canonical (execLeverLowered s) :=
  runIf_canonical (by simp [hs])

@[simp] theorem execLeverOpened_canonical (s : State) (hs : s.mem.wf = true) : Canonical (execLeverOpened s) :=
  runIf_canonical (by simp [hs])

@[simp] theorem execStoreBleedComplete_canonical (s : State) (hs : s.mem.wf = true) :
    Canonical (execStoreBleedComplete s) := runIf_canonical (by simp [hs])

@[simp] theorem execReferenceClockLoss_canonical (which : Nat) (s : State) (hs : s.mem.wf = true) :
    Canonical (execReferenceClockLoss which s) := runIf_canonical (by simp [hs])

/-! ## Objects -/

@[simp] theorem State.odRead_mem (s : State) (route : Route) (index sub : Nat) :
    (s.odRead route index sub).mem = s.mem := by
  unfold State.odRead
  split <;> simp

theorem nextOf_wf {s : State} {o : Host.Outcome State Fault Refusal} (hs : s.mem.wf = true) (ho : Canonical o) :
    (nextOf s o).mem.wf = true := by
  unfold nextOf
  split
  · exact ho _ rfl
  · exact hs

@[simp] theorem State.setIrqSlice_mem (s : State) (o v : Nat) : (s.setIrqSlice o v).mem = s.mem := rfl

@[simp] theorem State.setCustom_mem (s : State) (p : ProfileSet) : (s.setCustom p).mem = s.mem := by
  simp [State.setCustom]

@[simp] theorem State.setValue_mem (s : State) (index sub v sel : Nat) (octets : List Octet) :
    (s.setValue index sub v sel octets).mem = s.mem := by
  unfold State.setValue
  split <;> simp

@[simp] theorem State.setObject_mem (s : State) (route : Route) (index sub v : Nat) (octets : List Octet) :
    (s.setObject route index sub v octets).mem = s.mem := by
  simp [State.setObject]

@[simp] theorem State.tenantObject_wf (s : State) (route : Route) (v : Nat) (hs : s.mem.wf = true) :
    (s.tenantObject route v).mem.wf = true := by
  unfold State.tenantObject
  split
  · exact nextOf_wf hs (execCreate_canonical route s hs)
  · exact nextOf_wf hs (execReset_canonical route s hs)
  · exact nextOf_wf hs (execDelete_canonical route s hs)
  · simp [hs]

@[simp] theorem State.updateObject_wf (s : State) (route : Route) (v : Nat) (hs : s.mem.wf = true) :
    (s.updateObject route v).mem.wf = true := by
  have ht : s.tick.2.mem.wf = true := hs
  unfold State.updateObject
  dsimp only
  split
  · exact nextOf_wf ht (execStage_canonical _ _ _ ht)
  · exact nextOf_wf ht (execActivateAtDawn_canonical _ _ _ ht)
  · exact nextOf_wf ht (execActivateLive_canonical _ _ _ _ ht)
  · exact nextOf_wf ht (execCommitSecurityVersion_canonical _ _ ht)
  · exact nextOf_wf ht (execAbandonStaging_canonical _ _ ht)
  · exact State.odWriteNum_wf _ _ _ _ _ _ _ ht ht

@[simp] theorem State.customerObject_wf (s : State) (route : Route) (v : Nat) (hs : s.mem.wf = true) :
    (s.customerObject route v).mem.wf = true := by
  unfold State.customerObject
  split
  · exact nextOf_wf hs (execLoadStagedImage_canonical _ _ hs)
  · exact nextOf_wf hs (execUnload_canonical _ _ hs)
  · simp [hs]

@[simp] theorem State.restartObject_wf (s : State) (route : Route) (v : Nat) (hs : s.mem.wf = true) :
    (s.restartObject route v).mem.wf = true := nextOf_wf hs (execRestartZenith_canonical _ _ _ _ s.tick.2 hs)

@[simp] theorem State.odWrite_wf (s : State) (route : Route) (index sub : Nat) (octets : List Octet)
    (hs : s.mem.wf = true) : (s.odWrite route index sub octets).mem.wf = true := by
  unfold State.odWrite
  extract_lets +lift v fits
  split
  · simp [hs]
  · split
    all_goals simp [hs, nextOf_wf]

@[simp] theorem execObjectWrite_canonical (route : Route) (index sub : Nat) (octets : List Octet) (s : State)
    (hs : s.mem.wf = true) : Canonical (execObjectWrite route index sub octets s) :=
  runIf_canonical (by simp [hs])

/-! ## Submit -/

theorem State.post_wf {s : State} {core : Nat} {ins : Insn} {o : OpCode} {opn : Nat}
    {reads : State → Nat → Nat → Nat × List Nat} {f : State → Nat → Nat → Nat → Nat → Word × State}
    (hf : ∀ s t level a n, (f s t level a n).2.mem = s.mem) (hs : s.mem.wf = true) :
    (s.post core ins o opn reads f).mem.wf = true := by
  refine State.drained_wf _ _ _ hs (fun t ht => State.instr_wf (fun r u hr h => ?_) ht)
  have hw := State.agentReads_wf r.s (reads r.s r.start.tenant (r.val 0)).1
    (if r.start.pl < 2 then [] else r.s.agentLines r.start.tenant (reads r.s r.start.tenant (r.val 0)).2) hr
  dsimp only at h
  split at h
  · cases h
  next v heq =>
    cases h
    rw [heq] at hw
    simp [hf, hw]

@[simp] theorem execEsbCompression_canonical (core : Nat) (ins : Insn) (s : State) (hs : s.mem.wf = true) :
    Canonical (execEsbCompression core ins s) :=
  runIf_canonical (State.post_wf (fun s _ _ _ _ => State.esbCx_mem s _ _ _ _) hs)

@[simp] theorem execEsbCipher_canonical (core : Nat) (ins : Insn) (s : State) (hs : s.mem.wf = true) :
    Canonical (execEsbCipher core ins s) :=
  runIf_canonical (State.post_wf (fun s _ _ _ _ => State.esbCi_mem s _ _ _ _) hs)

@[simp] theorem execEplCompression_canonical (core : Nat) (ins : Insn) (s : State) (hs : s.mem.wf = true) :
    Canonical (execEplCompression core ins s) :=
  runIf_canonical (State.post_wf (fun s _ _ _ _ => State.eplCx_mem s _ _ _) hs)

@[simp] theorem execEplCipher_canonical (core : Nat) (ins : Insn) (s : State) (hs : s.mem.wf = true) :
    Canonical (execEplCipher core ins s) :=
  runIf_canonical (State.post_wf (fun s _ _ _ _ => State.eplCi_mem s _ _ _) hs)

@[simp] theorem execSch_canonical (core : Nat) (ins : Insn) (s : State) (hs : s.mem.wf = true) :
    Canonical (execSch core ins s) := runIf_canonical (State.post_wf (fun s _ _ _ _ => State.schPost_mem s _ _ _ _) hs)

theorem State.prepareBlock_mem {α : Type} {s : State} {c : Nat} {ins : Insn} {o : OpCode}
    {check : State → List Word → Except Stop α} {r : Run} {d : α} (h : s.prepareBlock c ins o check = .ok (r, d)) :
    r.s.mem = s.mem := by
  unfold State.prepareBlock at h
  dsimp only at h
  split at h
  · cases h
  split at h
  · cases h
  split at h
  · cases h
  next heq =>
    split at h
    · cases h
    split at h
    · cases h
    · cases h
      exact State.readAll_mem heq

theorem State.tryBlock_wf {α : Type} {s t : State} {c : Nat} {ins : Insn} {o : OpCode}
    {check : State → List Word → Except Stop α} {f : Run → α → Except Stop State} (hf : ∀ d, RunKeeps (fun r => f r d))
    (hs : s.mem.wf = true) (h : s.tryBlock c ins o check f = .ok t) : t.mem.wf = true := by
  unfold State.tryBlock at h
  split at h
  · cases h
  next r d hp =>
    split at h
    · cases h
    next r' hc =>
      split at h
      · cases h
      next hr =>
        cases h
        exact hf d r' _ (by rw [Run.useCaches_mem hc, State.prepareBlock_mem hp]; exact hs) hr

theorem State.tryBlocks_wf {α : Type} {c : Nat} {ins : Insn} {o : OpCode} {check : State → List Word → Except Stop α}
    {f : Run → α → Except Stop State} (hf : ∀ d, RunKeeps (fun r => f r d)) (n : Nat) (s : State)
    (hs : s.mem.wf = true) : (s.tryBlocks c ins o check f n).mem.wf = true := by
  induction n generalizing s with
  | zero => exact hs
  | succ n ih =>
    simp only [State.tryBlocks]
    split
    next heq => exact State.tryBlock_wf hf hs heq
    next => simp [ih, hs]

theorem State.blockInsn_wf {α : Type} {s : State} {core : Nat} {ins : Insn} {o : OpCode}
    {check : State → List Word → Except Stop α} {f : Run → α → Except Stop State} (hf : ∀ d, RunKeeps (fun r => f r d))
    (hs : s.mem.wf = true) : (s.blockInsn core ins o check f).mem.wf = true := by
  refine State.drained_wf _ _ _ hs (fun t ht => ?_)
  dsimp only
  split
  · simp [ht]
  · exact State.deliverChecks_wf _ _ (State.tryBlocks_wf hf _ _ (by simp [ht]))

theorem Run.reads_wf {r r' : Run} {a : Nat} {lines : List Nat} (hr : r.s.mem.wf = true) (h : r.reads a lines = .ok r') :
    r'.s.mem.wf = true := by
  have hw := r.s.agentReads_wf a lines hr
  unfold Run.reads at h
  split at h
  · cases h
  next heq =>
    cases h
    rw [heq] at hw
    exact hw

@[simp] theorem Run.status_mem (r : Run) (s : State) (w : Word) : (r.status s w).mem = s.mem := Run.finish_mem _ _

@[simp] theorem Run.commit_mem (r : Run) (d : ComDesc) : (r.commit d).mem = r.s.mem := by simp [Run.commit]

@[simp] theorem execCom_canonical (core : Nat) (ins : Insn) (s : State) (hs : s.mem.wf = true) :
    Canonical (execCom core ins s) :=
  runIf_canonical (State.blockInsn_wf (fun d r t hr h => by
    obtain ⟨u, hu, rfl⟩ := ok_of_map h
    rw [Run.commit_mem]
    exact Run.reads_wf hr hu) hs)

@[simp] theorem State.odaResult_wf (s : State) (p : OdaPlan) (t : OType) (l : List Octet) (hs : s.mem.wf = true) :
    (s.odaResult p t l).mem.wf = true := by
  simp [State.odaResult, hs]

@[simp] theorem State.odaAccess_wf (s : State) (c : Nat) (p : OdaPlan) (hs : s.mem.wf = true) :
    (s.odaAccess c p).mem.wf = true := by
  unfold State.odaAccess
  dsimp only
  split <;> simp [hs]

@[simp] theorem Run.oda_wf (r : Run) (p : OdaPlan) (hr : r.s.mem.wf = true) : (r.oda p).mem.wf = true := by
  unfold Run.oda
  extract_lets +lift u l ok v
  have hu : u.mem.wf = true := r.s.odaAccess_wf r.c p hr
  have hv : v.mem.wf = true := by
    simp only [v]
    split
    · split <;> simp [hu]
    · exact hu
  split
  · rw [Run.status_mem]
    exact hv
  · exact hv

@[simp] theorem State.objectAccess_wf (s : State) (core : Nat) (ins : Insn) (hs : s.mem.wf = true) :
    (s.objectAccess core ins).mem.wf = true := by
  refine State.blockInsn_wf (fun p r t hr h => ?_) hs
  obtain ⟨r', hr', rfl⟩ := ok_of_map h
  simp [Run.reads_wf hr hr']

@[simp] theorem execOdaRead_canonical (core : Nat) (ins : Insn) (s : State) (hs : s.mem.wf = true) :
    Canonical (execOdaRead core ins s) := runIf_canonical (by simp [hs])

@[simp] theorem execOdaWrite_canonical (core : Nat) (ins : Insn) (s : State) (hs : s.mem.wf = true) :
    Canonical (execOdaWrite core ins s) := runIf_canonical (by simp [hs])

/-! ## Micro -/

@[simp] theorem Micro.put_s (m : Micro) (i v : Nat) : (m.put i v).s = m.s := by
  unfold Micro.put
  split <;> rfl

theorem Micro.bounded_s {m m' : Micro} {c : Nat} (h : m.bounded c = .ok m') : m'.s = m.s := by
  unfold Micro.bounded at h
  split at h <;> cases h
  rfl

theorem Micro.load_s {m m' : Micro} {c rd : Nat} {ws : List (Nat × Nat)} {f : Nat → Nat}
    (h : m.load c rd ws f = .ok m') : m'.s = m.s := by
  unfold Micro.load at h
  split at h <;> cases h
  simp

theorem Micro.store_mem {m m' : Micro} {c : Nat} {ws : List (Nat × Nat)} {f : Core → Core}
    (h : m.store c ws f = .ok m') : m'.s.mem = m.s.mem := by
  rw [Micro.bounded_s h]
  rfl

theorem Micro.words_mem {m m' : Micro} {c n : Nat} {hm st : Bool} {w : Word} (h : m.words c n hm st w = .ok m') :
    m'.s.mem = m.s.mem := by
  unfold Micro.words at h
  dsimp only at h
  split at h
  · cases h
  · split at h
    · exact Micro.store_mem h
    · rw [Micro.load_s h]

theorem Micro.chars_mem {m m' : Micro} {c q : Nat} {hm st : Bool} {w : Word} (h : m.chars c q hm st w = .ok m') :
    m'.s.mem = m.s.mem := by
  unfold Micro.chars at h
  dsimp only at h
  split at h
  · cases h
  · split at h
    · exact Micro.store_mem h
    · rw [Micro.load_s h]

theorem Micro.trap_s {m m' : Micro} {code : Nat} (h : m.trap code = .ok m') : m'.s = m.s := by
  unfold Micro.trap at h
  dsimp only at h
  split at h
  · cases h
  · split at h <;> cases h
    rfl
  · cases h
  · cases h
  · split at h <;> cases h
    rfl

/-- Every state that a micro-operation answers has the memory of `m`. -/
def Micro.Leaves (m : Micro) (e : Except Stop MicroNext) : Prop := ∀ x, e = .ok x → x.state.mem = m.s.mem

@[simp] theorem Micro.leaves_error (m : Micro) (e : Stop) : m.Leaves (.error e) := fun _ h => nomatch h

@[simp] theorem Micro.leaves_ok (m : Micro) (x : MicroNext) : m.Leaves (.ok x) ↔ x.state.mem = m.s.mem :=
  ⟨fun h => h x rfl, fun h _ hy => Except.ok.inj hy ▸ h⟩

theorem Micro.leaves_go {m : Micro} {e : Except Stop Micro} (he : ∀ m', e = .ok m' → m'.s.mem = m.s.mem) :
    m.Leaves (e.map .go) := by
  intro x hx
  obtain ⟨m', hm, rfl⟩ := ok_of_map hx
  exact he m' hm

theorem Micro.exec_leaves (m : Micro) (r : Run) (sg : Bool) (w : Word) : m.Leaves (m.exec r sg w) := by
  have hwords : ∀ n hm st, m.Leaves ((m.words r.c n hm st w).map .go) :=
    fun _ _ _ => Micro.leaves_go (fun _ => Micro.words_mem)
  have hchars : ∀ q hm st, m.Leaves ((m.chars r.c q hm st w).map .go) :=
    fun _ _ _ => Micro.leaves_go (fun _ => Micro.chars_mem)
  have htrap : ∀ code, m.Leaves ((m.trap code).map .go) :=
    fun _ => Micro.leaves_go (fun _ h => by rw [Micro.trap_s h])
  unfold Micro.exec
  extract_lets a b imm wd hm set at_ sgn counted
  have hset : ∀ v, m.Leaves (set v) := fun v => by simp [set, MicroNext.state]
  have hat : ∀ yes, m.Leaves (at_ yes) := fun yes => by cases yes <;> simp [at_, MicroNext.state]
  have hcounted : counted.s = m.s := Micro.put_s m _ _
  split
  all_goals
    repeat' split
    all_goals simp [hwords, hchars, htrap, hset, hat, hcounted, MicroNext.state]

theorem Micro.exec_mem {m : Micro} {r : Run} {sg : Bool} {w : Word} {x : MicroNext} (h : m.exec r sg w = .ok x) :
    x.state.mem = m.s.mem := m.exec_leaves r sg w x h

theorem microLoop_mem {r : Run} {sg : Bool} {n : Nat} {m m' : Micro} (h : microLoop r sg n m = .ok m') :
    m'.s.mem = m.s.mem := by
  induction n generalizing m with
  | zero => cases h
  | succ n ih =>
    simp only [microLoop] at h
    split at h
    · cases h
    next heq => rw [ih h]; exact Micro.exec_mem heq
    next heq =>
      cases h
      exact Micro.exec_mem heq

theorem CustEntry.finish_mem {e : CustEntry} {r : Run} {m : Micro} {t : State} (h : e.finish r m = .ok t) :
    t.mem = m.s.mem := by
  unfold CustEntry.finish at h
  dsimp only at h
  split at h <;> cases h
  simp

@[simp] theorem State.customer_wf (s : State) (core : Nat) (ins : Insn) (e : CustEntry) (hs : s.mem.wf = true) :
    (s.customer core ins e).mem.wf = true := by
  refine State.instr_wf (fun r t hr h => ?_) hs
  split at h
  · cases h
  split at h
  · cases h
  next heq => rw [CustEntry.finish_mem h, microLoop_mem heq]; exact hr

@[simp] theorem State.undefinedOpcode_wf (s : State) (core : Nat) (ins : Insn) (sub : Nat) (hs : s.mem.wf = true) :
    (s.undefinedOpcode core ins sub).mem.wf = true := by
  have hb : (s.beforeInstr core).1.mem.wf = true := by simp [hs]
  have hr : ∀ st, ((s.beforeInstr core).1.tick.2.resolve core st).1.mem.wf = true := fun st => by simp [hb]
  simp [State.undefinedOpcode, hs, hb, hr]

@[simp] theorem State.customerInsn_wf (s : State) (core : Nat) (ins : Insn) (hs : s.mem.wf = true) :
    (s.customerInsn core ins).mem.wf = true := by
  unfold State.customerInsn
  dsimp only
  split
  · simp [hs]
  · split
    · simp [hs]
    · exact State.drained_wf _ _ _ hs (fun t ht => State.customer_wf t core ins _ ht)

@[simp] theorem execCustomerOpcode_canonical (core : Nat) (ins : Insn) (s : State) (hs : s.mem.wf = true) :
    Canonical (execCustomerOpcode core ins s) := runIf_canonical (by simp [hs])

/-! ## Ssp -/

@[simp] theorem State.publicRead_mem (s : State) (at_ : SspTo) (index sub offset : Nat) :
    (s.publicRead at_ index sub offset).mem = s.mem := by
  simp [State.publicRead]

@[simp] theorem State.sspOpen_mem (s : State) (at_ : SspTo) (role : Nat) : (s.sspOpen at_ role).mem = s.mem := by
  simp [State.sspOpen]

@[simp] theorem State.respond_mem (s : State) (x : Session) (tag abort : Nat) (body : List Octet) :
    (s.respond x tag abort body).mem = s.mem := by
  simp [State.respond]

@[simp] theorem State.acceptRequest_mem (s : State) (r : SspRequest) : (s.acceptRequest r).2.mem = s.mem := by
  unfold State.acceptRequest
  dsimp only
  repeat' split
  all_goals simp

theorem State.sspRequest_wf {s : State} {r : SspRequest} {run : State → Session → State × Session × Nat × List Octet}
    (hr : ∀ t x, t.mem.wf = true → (run t x).1.mem.wf = true) (hs : s.mem.wf = true) :
    (s.sspRequest r run).mem.wf = true := by
  have ha := s.acceptRequest_mem r
  unfold State.sspRequest
  split
  next heq =>
    rw [heq] at ha
    rw [ha]
    exact hs
  next t heq =>
    rw [heq] at ha
    dsimp only at ha ⊢
    have ht : t.mem.wf = true := ha ▸ hs
    split <;> simp [hr, ht]

@[simp] theorem State.runRead_mem (r : SspRequest) (s : State) (x : Session) : (s.runRead r x).1.mem = s.mem := by
  simp [State.runRead]

@[simp] theorem State.runWrite_wf (r : SspRequest) (s : State) (x : Session) (hs : s.mem.wf = true) :
    (s.runWrite r x).1.mem.wf = true := by
  unfold State.runWrite
  dsimp only
  repeat' split
  all_goals simp [hs]

@[simp] theorem State.sspClose_mem (s : State) (id : Nat) (authentic : Bool) (counter : Nat) :
    (s.sspClose id authentic counter).mem = s.mem := by
  unfold State.sspClose
  split <;> simp

@[simp] theorem execPublicRead_canonical (at_ : SspTo) (index sub offset : Nat) (s : State) (hs : s.mem.wf = true) :
    Canonical (execPublicRead at_ index sub offset s) := runIf_canonical (by simp [hs])

@[simp] theorem execSspOpen_canonical (at_ : SspTo) (role : Nat) (_nonce : BitVec 256) (s : State)
    (hs : s.mem.wf = true) : Canonical (execSspOpen at_ role _nonce s) :=
  runIf_canonical (by simp [hs])

@[simp] theorem execRequestRead_canonical (req : SspRequest) (s : State) (hs : s.mem.wf = true) :
    Canonical (execRequestRead req s) := runIf_canonical (State.sspRequest_wf (fun t x ht => by simp [ht]) hs)

@[simp] theorem execRequestWrite_canonical (req : SspRequest) (s : State) (hs : s.mem.wf = true) :
    Canonical (execRequestWrite req s) :=
  runIf_canonical (State.sspRequest_wf (fun t x ht => State.runWrite_wf req t x ht) hs)

@[simp] theorem execSspClose_canonical (session _reason : Nat) (authentic : Bool) (counter : Nat) (s : State)
    (hs : s.mem.wf = true) : Canonical (execSspClose session _reason authentic counter s) :=
  runIf_canonical (by simp [hs])

@[simp] theorem execSessionIdle_canonical (session : Nat) (s : State) (hs : s.mem.wf = true) :
    Canonical (execSessionIdle session s) := runIf_canonical (by split <;> simp [hs])

/-! ## Every command and every step -/

theorem exec_canonical (i : Instr) (s : State) (hs : s.mem.wf = true) : Canonical (exec i s) := by
  cases i <;> simp [exec, hs]

theorem step_canonical (s : State) (hs : s.mem.wf = true) : Canonical (step s) := by
  unfold step
  split
  · intro t ht
    cases ht
    simp [MemoryWf, hs]
  · exact exec_canonical _ _ hs

/-- Settles O4: a step on an empty queue by the lemmas of the three functions it applies, any other by the lemma of its
command. -/
theorem memoryStaysCanonical : Obligations.MemoryStaysCanonical := by
  unfold Obligations.MemoryStaysCanonical
  exact fun s t hs h => step_canonical s hs t h

end Sys2Proof.Machine
end

section
/-! # What deciding commits and flushing the region leave alone

The journal's operations write records, commits' answers and items for the twin. The module's control state and the
compression engine keep their values through every one of them, in the order of the model's definitions. -/

namespace Sys2Proof.Machine

@[simp] theorem State.md_cx_ite (c : Prop) [Decidable c] (s t : State) :
    (if c then s else t).md = (if c then s.md else t.md) ∧ (if c then s else t).cx = (if c then s.cx else t.cx) :=
  ⟨apply_ite .., apply_ite ..⟩

@[simp] theorem State.emitTwin_md_cx (s : State) (m : TwinMsg) :
    (s.emitTwin m).md = s.md ∧ (s.emitTwin m).cx = s.cx := by
  simp [State.emitTwin]

@[simp] theorem State.mirrorOut_md_cx (s : State) (t : Nat) (m : MirrorItem) :
    (s.mirrorOut t m).2.md = s.md ∧ (s.mirrorOut t m).2.cx = s.cx := by
  unfold State.mirrorOut
  split <;> simp

@[simp] theorem State.answerCore_md_cx (s : State) (c : Nat) (w : Word) :
    (s.answerCore c w).md = s.md ∧ (s.answerCore c w).cx = s.cx := by
  unfold State.answerCore
  split <;> simp

@[simp] theorem State.refill_md_cx (n : Nat) (s : State) : (s.refill n).md = s.md ∧ (s.refill n).cx = s.cx := by
  induction n generalizing s with
  | zero => exact ⟨rfl, rfl⟩
  | succ n ih =>
    by_cases full : 256 ≤ s.jn.spares.length
    · rw [show s.refill (n + 1) = s from if_pos full]
      exact ⟨rfl, rfl⟩
    · rw [show s.refill (n + 1) = _ from if_neg full]
      split
      · exact ih _
      · exact ⟨rfl, rfl⟩

@[simp] theorem State.intoSegment_md_cx (s : State) (g size : Nat) :
    (s.intoSegment g size).md = s.md ∧ (s.intoSegment g size).cx = s.cx := by
  simp [State.intoSegment]

theorem State.retireFor_md_cx {s t : State} {g x : Nat} (h : s.retireFor g = some (x, t)) :
    t.md = s.md ∧ t.cx = s.cx := by
  simp only [State.retireFor, Option.map_eq_some_iff, Prod.mk.injEq] at h
  obtain ⟨_, _, _, rfl⟩ := h
  exact ⟨rfl, rfl⟩

@[simp] theorem State.sealNonce_md_cx (s : State) (t blocks : Nat) :
    (s.sealNonce t blocks).2.2.md = s.md ∧ (s.sealNonce t blocks).2.2.cx = s.cx := by
  simp [State.sealNonce, State.loadEpoch]

@[simp] theorem State.sealOf_md_cx (s : State) (p : Pend) (n : Nat) :
    (s.sealOf p n).2.2.md = s.md ∧ (s.sealOf p n).2.2.cx = s.cx := by
  unfold State.sealOf
  dsimp only
  split
  · exact ⟨rfl, rfl⟩
  · split <;> simp

@[simp] theorem State.writeRecord_md_cx (s : State) (p : Pend) (compress : Bool) (seg : Nat) :
    (s.writeRecord p compress seg).md = s.md ∧ (s.writeRecord p compress seg).cx = s.cx := by
  simp [State.writeRecord, State.updateWritten]

@[simp] theorem State.flushItem_md_cx (s : State) (p : Pend) (left : Nat) :
    (s.flushItem p left).1.md = s.md ∧ (s.flushItem p left).1.cx = s.cx := by
  unfold State.flushItem
  dsimp only
  split
  · exact ⟨rfl, rfl⟩
  · split
    · simp
    · split
      · exact ⟨rfl, rfl⟩
      · split
        next spare => simp [State.retireFor_md_cx spare]
        next => exact ⟨rfl, rfl⟩

@[simp] theorem State.flushRegion_md (s : State) : s.flushRegion.md = s.md :=
  foldl_unchanged (fun a : State × Nat => a.1.md) (fun a p => (a.1.flushItem_md_cx p a.2).1) _ _

@[simp] theorem State.ownRecord_md_cx (s : State) (type : Nat) (ws : List Word) :
    (s.ownRecord type ws).md = s.md ∧ (s.ownRecord type ws).cx = s.cx := by
  obtain ⟨p, -, -, -, -, waits | lost | ⟨g, written⟩⟩ := s.ownRecord_cases type ws
  · rw [waits]
    exact ⟨rfl, rfl⟩
  · rw [lost]
    exact ⟨rfl, rfl⟩
  · rw [written]
    exact State.writeRecord_md_cx ..

@[simp] theorem State.acceptEntry_md_cx (s : State) (t : Nat) (c : Commit) :
    (s.acceptEntry t c).md = s.md ∧ (s.acceptEntry t c).cx = s.cx := ⟨rfl, rfl⟩

@[simp] theorem State.markLocal_md_cx (s : State) (t status : Nat) :
    (s.markLocal t status).md = s.md ∧ (s.markLocal t status).cx = s.cx := by
  simp [State.markLocal]

@[simp] theorem State.finishCommit_md_cx (s : State) (t : Nat) (c : Commit) (status seq : Nat) :
    (s.finishCommit t c status seq).md = s.md ∧ (s.finishCommit t c status seq).cx = s.cx := by
  simp [State.finishCommit]

@[simp] theorem State.decideAll_md_cx (fuel : Nat) (s : State) (t : Nat) (expired : Bool) :
    (s.decideAll fuel t expired).md = s.md ∧ (s.decideAll fuel t expired).cx = s.cx := by
  induction fuel generalizing s expired with
  | zero => exact ⟨rfl, rfl⟩
  | succ fuel ih =>
    unfold State.decideAll
    dsimp only
    split
    · exact ⟨rfl, rfl⟩
    · split
      · exact ⟨rfl, rfl⟩
      · split
        · exact ⟨rfl, rfl⟩
        · simp [ih]
        · simp

@[simp] theorem State.decideTenant_md_cx (s : State) (t : Nat) (expired : Bool) :
    (s.decideTenant t expired).md = s.md ∧ (s.decideTenant t expired).cx = s.cx :=
  s.decideAll_md_cx _ t expired

@[simp] theorem State.decideEvery_md (s : State) : s.decideEvery.md = s.md :=
  foldl_unchanged State.md (fun t (e : Nat × JnTenant) => (t.decideTenant_md_cx e.1 false).1) _ _

@[simp] theorem State.decideEvery_cx (s : State) : s.decideEvery.cx = s.cx :=
  foldl_unchanged State.cx (fun t (e : Nat × JnTenant) => (t.decideTenant_md_cx e.1 false).2) _ _

end Sys2Proof.Machine
end

section
/-! # Profiles, power, stops and the lever

What the functions of Power and Life do in each case that chapters 1, 8, 13, 14 and 15 distinguish, and obligations O32,
O33, O34, O36 and O37. -/

namespace Sys2Proof.Machine
open Sys2Proof.Safety

/-! ## Outcomes -/

/-- A command that is always well formed answers its meaning. -/
theorem answers_of_runIf_true {i : Instr} {s t u : State} (h : exec i s = s.runIf true u) (hu : u = t) : Answers i s t :=
  answers_of_runIf h rfl (by rw [hu])

section ObjectWrites
variable {i : Instr} {s t : State} {route : Route} {index sub v more : Nat} {f : State → State}

/-- A permitted write of a number that its object's rule accepts has its effect. -/
theorem writes_of_odWriteNum (h : exec i s = s.runIf (wfRoute route) (s.odWriteNum route index sub v more f))
    (hr : wfRoute route = true) (hw : MayWrite s route index sub v) (hm : more = 0) (hf : f s = t) : Writes i s t :=
  answers_of_runIf h hr (by rw [odWriteNum_of_mayWrite hw, if_pos hm, hf])

/-- A permitted write of a number that its object's rule refuses is answered by the rule's abort alone. -/
theorem aborts_of_odWriteNum (h : exec i s = s.runIf (wfRoute route) (s.odWriteNum route index sub v more f))
    (hr : wfRoute route = true) (hw : MayWrite s route index sub v) (hm : more ≠ 0) :
    Answers i s (s.odAnswer more []) :=
  answers_of_runIf h hr (by rw [odWriteNum_of_mayWrite hw, if_neg hm])

end ObjectWrites

/-! ## Changes of the active profile (R34) -/

theorem State.finishChange_none {s : State} (h : s.md.change = none) : s.finishChange = s := by
  simp [State.finishChange, h]

theorem State.finishChange_draining {s : State} (h : s.laneDraining = true) : s.finishChange = s := by
  unfold State.finishChange
  split
  · rfl
  · rw [if_pos h]

/-- A change to a power not above the present one ends with step 5. -/
theorem State.finishChange_down {s : State} (hc : s.md.change = some false) (hl : s.laneDraining = false) :
    s.finishChange = { s with md := { s.md with change := none, power := (s.profile s.md.active).power } } := by
  simp only [State.finishChange, hc, hl]
  rfl

theorem State.startDeferred_running {s : State} (hf : s.finishChange = s) (hc : s.md.change.isSome = true) :
    s.startDeferred = s := by
  simp only [State.startDeferred, hf, hc, if_true]
  split <;> rfl

theorem State.startDeferred_none {s : State} (h : s.finishChange.md.deferred = none) :
    s.startDeferred = s.finishChange := by
  simp only [State.startDeferred, h]

theorem State.startDeferred_some {s : State} {p : Nat} (hc : s.md.change = none) (hd : s.md.deferred = some p) :
    s.startDeferred = ({ s with md := { s.md with deferred := none } }).applyProfile p := by
  simp [State.startDeferred, State.finishChange_none hc, hd, hc]

/-- Steps 2 and 3 set the ceiling, the margin and the clocks. -/
theorem State.takeCeiling_md (s : State) :
    s.takeCeiling.md = { s.md with ceiling := (s.profile s.md.active).ceiling, margin := (s.profile s.md.active).margin,
                                   clock0 := s.tileClock, clock1 := s.tileClock, clock2 := s.tileClock,
                                   clock3 := s.tileClock } := by
  rw [State.takeCeiling, State.decideEvery_md]
  rfl

@[simp] theorem State.takeCeiling_cx (s : State) : s.takeCeiling.cx = s.cx := by
  rw [State.takeCeiling, State.decideEvery_cx]
  rfl

/-- The settings of a profile depend on the custom profile alone. -/
theorem State.profile_congr {s t : State} (h : s.md.custom = t.md.custom) (p : Nat) : s.profile p = t.profile p := by
  unfold State.profile
  rw [h]

/-- A change to a power not above the present one, before its steps 2 and 3. -/
def State.changeDown (s : State) (p : Nat) : State :=
  { s with md := { s.md with active := p, change := some false,
                             customLimit := if s.md.selected == 4 then s.md.customLimit else 5600 } }

/-- The same after steps 2, 3 and 4: it ends once no disabled lane runs a block. -/
def State.lanesTaken (s : State) (p : Nat) : State :=
  { (s.changeDown p).takeCeiling with md := { (s.changeDown p).takeCeiling.md with lanes := (s.profile p).lanes } }

theorem State.applyProfile_of_not_up {s : State} {p : Nat} (h : ¬ s.md.power < (s.profile p).power) :
    s.applyProfile p = (s.lanesTaken p).finishChange := by
  simp only [State.applyProfile, decide_eq_false h]
  rfl

theorem State.lanesTaken_md (s : State) (p : Nat) :
    (s.lanesTaken p).md = { (s.changeDown p).md with
      ceiling := (s.profile p).ceiling, margin := (s.profile p).margin, clock0 := (s.changeDown p).tileClock,
      clock1 := (s.changeDown p).tileClock, clock2 := (s.changeDown p).tileClock, clock3 := (s.changeDown p).tileClock,
      lanes := (s.profile p).lanes } := by
  rw [State.lanesTaken, State.takeCeiling_md]
  rfl

theorem State.lanesTaken_draining (s : State) (p : Nat) :
    (s.lanesTaken p).laneDraining = s.cx.busy.any (fun l => decide ((s.profile p).lanes ≤ l)) := by
  rw [State.laneDraining, State.lanesTaken_md, State.lanesTaken, State.takeCeiling_cx]
  rfl

/-- A change downwards without a block to wait for is over at once. -/
theorem State.applyProfile_down {s : State} {p : Nat} (hp : (s.profile p).power < s.md.power)
    (hb : s.cx.busy.any (fun l => decide ((s.profile p).lanes ≤ l)) = false) :
    (s.applyProfile p).md = { (s.lanesTaken p).md with change := none, power := (s.profile p).power } := by
  have ended : (s.applyProfile p).md =
      { (s.lanesTaken p).md with change := none, power := ((s.lanesTaken p).profile (s.lanesTaken p).md.active).power } := by
    rw [State.applyProfile_of_not_up (by omega), State.finishChange_down]
    · rw [State.lanesTaken_md]
      rfl
    · rw [State.lanesTaken_draining, hb]
  have custom : (s.lanesTaken p).md.custom = s.md.custom := by rw [State.lanesTaken_md]; rfl
  have active : (s.lanesTaken p).md.active = p := by rw [State.lanesTaken_md]; rfl
  rw [ended, State.profile_congr custom, active]

/-- Settles O32: the rows of a selection and of the change kept by the rule of object writes and the cases of
`startDeferred`; a change downwards by what its steps leave in the module's control state. -/
theorem profileChanges : Obligations.ProfileChanges := by
  unfold Obligations.ProfileChanges
  intro s route v hr
  refine ⟨fun hv hw => ?selected, fun hv _ hw => ?outOfRange, fun p hc hd => ?kept, fun hc hd => ?idle,
    fun hc hl => ?draining, fun hc hl hd => ?last, fun p hp hb => ?down⟩
  case selected =>
    refine writes_of_odWriteNum rfl hr hw (by simp [rangeOnly, hv]) ?_
    simp only [State.requestProfile, bne_iff_ne]
  case outOfRange =>
    have refused : rangeOnly (decide (v ≤ 4)) = 8 := by simp [rangeOnly, hv]
    rw [← refused]
    exact aborts_of_odWriteNum rfl hr hw (by rw [refused]; decide)
  case kept => exact answers_of_runIf_true rfl (State.startDeferred_some hc hd)
  case idle =>
    have ended := State.finishChange_none hc
    exact answers_of_runIf_true rfl ((State.startDeferred_none (by rw [ended, hd])).trans ended)
  case draining =>
    exact answers_of_runIf_true rfl (State.startDeferred_running (State.finishChange_draining hl) hc)
  case last =>
    have ended := State.finishChange_down hc hl
    exact answers_of_runIf_true rfl ((State.startDeferred_none (by rw [ended, hd])).trans ended)
  case down =>
    simp [State.applyProfile_down hp hb, State.lanesTaken_md, State.changeDown]

/-! ## Temperatures (R28, R33, R471, R472) -/

/-- Settles O33: each row by the branch of its command that the hypotheses choose. -/
theorem temperatures : Obligations.Temperatures := by
  unfold Obligations.Temperatures
  intro s inlet hottest m1 m10 low
  refine ⟨?inlet, fun he hc hi => ?raise, fun hc h1 h2 => ?clear, fun h => ?cool, fun h1 h2 => ?hot, fun h ho => ?fatal,
    fun hr ha => ?custom⟩
  case inlet =>
    refine answers_of_runIf_true rfl ?_
    simp only [Bool.or_eq_true, Bool.and_eq_true, decide_eq_true_eq]
    rfl
  case raise => exact answers_of_runIf_true rfl (by simp [he, hc, hi])
  case clear => exact answers_of_runIf_true rfl (by simp [hc, h1, h2])
  case cool => exact answers_of_runIf_true rfl (by simp [show ¬ 1100 ≤ hottest by omega, show ¬ 1050 < hottest by omega])
  case hot => exact answers_of_runIf_true rfl (by simp [show ¬ 1100 ≤ hottest by omega, h1])
  case fatal => exact answers_of_runIf_true rfl (by simp [h, ho])
  case custom =>
    have custom : (s.tilesRun && s.md.active == 4) = true := by simp [hr, ha]
    refine ⟨fun hp => ?falls, fun hp hq => ⟨?rises, ?stays⟩⟩
    case falls => exact answers_of_runIf_true rfl ((if_pos custom).trans (if_pos hp))
    case rises =>
      exact answers_of_runIf_true rfl
        ((if_pos custom).trans ((if_neg (Nat.not_lt.mpr hp)).trans (if_pos (decide_eq_true hq))))
    case stays =>
      exact answers_of_runIf_true rfl
        ((if_pos custom).trans ((if_neg (Nat.not_lt.mpr hp)).trans (if_neg Bool.false_ne_true)))

/-! ## The store and the power inputs (R38, R42, R251, R268, R270, R272) -/

section SelfTest
variable {s : State} (hv : s.md.vin48 = true) (hs : s.md.st = .standby) (hl : s.md.lever = .closed) {uf uohm : Nat}
  (mv : Nat)
include hv hs hl

/-- In STANDBY with the lever closed a self-test starts whenever VIN48 is accepted. -/
theorem State.testStarts_standby : s.testStarts = true := by simp [State.testStarts, hv, hs, hl]

/-- A good measurement in STANDBY is taken, and the store gauged. -/
theorem State.selfTest_taken (hm : measureOk uf uohm = true) :
    s.selfTest uf uohm mv =
      (({ s with es := { s.es with held := true, uf := uf, uohm := uohm, lastTest := s.tm.tod,
                                   testResult := if endOfLife uf uohm then 2 else 1, testDue := false },
                 md := { s.md with weak := decide (fullReserve uf uohm < 11000) } }).gauge mv) := by
  simp [State.selfTest, State.testStarts_standby hv hs hl, hv, hs, hl, hm]

/-- A bad one is discarded, and the test stays due. -/
theorem State.selfTest_discarded (hm : measureOk uf uohm = false) :
    s.selfTest uf uohm mv = ({ s with es := { s.es with testResult := 4, testDue := true } }).report 1218 2 := by
  simp [State.selfTest, State.testStarts_standby hv hs hl, hv, hs, hl, hm]

end SelfTest

/-- Settles O34: the self-test by its two outcomes in STANDBY, each input's row by the module state. The row for every
other state is the last of its match, whose side conditions are the hypotheses at hand. -/
theorem powerInputsAndStore : Obligations.PowerInputsAndStore := by
  unfold Obligations.PowerInputsAndStore
  refine ⟨fun s mv uf uohm route => ?store, fun s slot mv twin => ?inputs⟩
  case store =>
    refine ⟨fun ho => ?sample, fun hv hs hl h1 h2 h3 h4 => ?good, fun hv hs hl hu => ?low, fun hr hw => ?request⟩
    case sample => exact answers_of_runIf_true rfl (by simp [ho])
    case good =>
      have ok : measureOk uf uohm = true := by simp [measureOk, h1, h2, h3, h4]
      refine answers_of_runIf_true rfl ((State.selfTest_taken hv hs hl mv ok).trans ?_)
      have life : endOfLife uf uohm = decide (uf < 108500) := by simp [endOfLife, h4]
      simp only [life, decide_eq_true_eq]
      rfl
    case low =>
      have bad : measureOk uf uohm = false := by simp [measureOk, hu]
      exact answers_of_runIf_true rfl (State.selfTest_discarded hv hs hl mv bad)
    case request => exact writes_of_odWriteNum rfl hr hw rfl rfl
  case inputs =>
    refine ⟨fun ho => ?vauxFromOff, fun ho => ?vauxElse, fun hs => ?lossInStandby, fun ho hs => ?lossElse,
      answers_of_runIf_true rfl rfl, fun hs => ?failInStandby, fun hs => ?failInRun, ?reverse⟩
    case vauxFromOff => exact answers_of_runIf_true rfl (by simp [ho])
    case vauxElse => exact answers_of_runIf_true rfl (by simp [ho])
    case lossInStandby => exact answers_of_runIf_true rfl (by simp [hs])
    case lossElse => exact answers_of_runIf_true rfl (by simp)
    case failInStandby => exact answers_of_runIf_true rfl (by simp [hs])
    case failInRun => exact answers_of_runIf_true rfl (by simp [hs])
    case reverse => exact ⟨answers_of_runIf_true rfl (by simp), answers_of_runIf_true rfl (by simp)⟩

/-! ## Stops and resets (R38, R40, R464, R466, R467) -/

theorem State.finishStop_waiting {s : State} {out : List Nat} (h : s.md.stopping = some out) (hw : s.stopWaits out = true) :
    s.finishStop = s := by
  simp [State.finishStop, h, hw]

theorem State.finishStop_drained {s : State} {out : List Nat} (h : s.md.stopping = some out)
    (hw : s.stopWaits out = false) :
    s.finishStop =
      ({ s with md := { s.md with st := .safe, stopping := none, change := none, deferred := none } }).flushRegion := by
  simp [State.finishStop, h, hw]

theorem State.orderlyStop_alone {s : State} (h : s.twinServes = false) :
    s.orderlyStop = ({ s with md := { s.md with stopping := some [] } }).decideEvery.flushRegion.finishStop := by
  simp [State.orderlyStop, h]

/-- A table whose values are mapped reads as the mapped value. -/
theorem tget_map {α β : Type} (f : α → β) (t : Tab α) (d : α) (k : Nat) :
    tget (t.map (fun e => (e.1, f e.2))) (f d) k = f (tget t d k) := by
  induction t with
  | nil => rfl
  | cons e r ih =>
    simp only [List.map_cons, tget, ih]
    split <;> rfl

/-- What a power-down leaves of a tenant's cipher state: its slices, its core limit and its keys. -/
def CiTenant.rest (c : CiTenant) : CiTenant :=
  { CiTenant.init with ringSlice := c.ringSlice, handleSlice := c.handleSlice, coreLimit := c.coreLimit, keys := c.keys,
                       kek := c.kek, change := c.change }

theorem State.powerDown_ciT (s : State) (t : Nat) : s.powerDown.ciT t = (s.ciT t).rest :=
  tget_map CiTenant.rest s.ci.tenants CiTenant.init t

/-- Settles O36: the stop by the cases of `finishStop`, the resets and clocks by the module state, the power-down field by
field. -/
theorem stopsAndResets : Obligations.StopsAndResets := by
  unfold Obligations.StopsAndResets
  refine ⟨fun s route hr => ?events, fun s => ?frame⟩
  case events =>
    refine ⟨fun hw ht => ?stop, fun out ho => ⟨State.finishStop_waiting ho, State.finishStop_drained ho⟩,
      fun v hv hw => ?permit, fun hw hs => ?reset, fun hs => ?porstSafe, fun hs => ?porstRun, fun hs => ?porstStandby,
      answers_of_runIf_true rfl rfl, fun hs => ?clockStandby, fun hs => ?clockRun, answers_of_runIf_true rfl rfl,
      answers_of_runIf rfl rfl rfl, answers_of_runIf rfl rfl rfl⟩
    case stop => exact writes_of_odWriteNum rfl hr hw rfl (State.orderlyStop_alone ht)
    case permit => exact writes_of_odWriteNum rfl hr hw (by simp [rangeOnly, hv]) rfl
    case reset => exact writes_of_odWriteNum rfl hr hw (by rcases hs with hs | hs <;> simp [rangeOnly, hs]) rfl
    case porstSafe => exact answers_of_runIf_true rfl (by rcases hs with hs | hs <;> simp [hs])
    case porstRun => exact answers_of_runIf_true rfl (by simp [hs])
    case porstStandby => exact answers_of_runIf_true rfl (by simp [hs])
    case clockStandby => exact answers_of_runIf_true rfl (by simp [hs])
    case clockRun => exact answers_of_runIf_true rfl (by simp [hs])
  case frame =>
    exact ⟨rfl, rfl, rfl, rfl, rfl, rfl, rfl, rfl, rfl, rfl, rfl, rfl, rfl, rfl, fun t => by rw [State.powerDown_ciT]; rfl⟩

/-! ## The lever and the bleed (R41, R285, R446, R447) -/

@[simp] theorem State.abandonStaging_md (s : State) : s.abandonStaging.md = s.md := by
  unfold State.abandonStaging
  split <;> rfl

@[simp] theorem State.abandonStaging_tw (s : State) : s.abandonStaging.tw = s.tw := by
  unfold State.abandonStaging
  split <;> rfl

/-- The bleed has ended: step 6, with the store at a free voltage below 5.0 V. -/
def State.bledOut (s : State) : State :=
  { s with fresh := s.fresh + 1, md := { s.md with extractStep := 6 },
           es := { s.es with bleeding := false, bled := true, reserve := 0, mv := Config.bledVoltage s.fresh % 5000 } }

/-- The latch is released with a pulse. -/
def State.releaseLatch (s : State) : State := ({ s with md := { s.md with latchReleased := true } }).emit .latchPulse

theorem State.bleedComplete_standby {s : State} (hs : s.md.st = .standby) (hb : s.es.bleeding = true) :
    s.bleedComplete = s.bledOut.releaseLatch := by
  have lit : ¬ (s.md.st == .off) = true := by simp [hs]
  unfold State.bleedComplete
  rw [hs]
  exact (if_pos hb).trans (if_neg lit)

theorem State.bleedComplete_off {s : State} (hs : s.md.st = .off) (hb : s.es.bleeding = true) :
    s.bleedComplete = s.bledOut := by
  have dark : (s.md.st == .off) = true := by simp [hs]
  unfold State.bleedComplete
  rw [hs]
  exact (if_pos hb).trans (if_pos dark)

theorem State.bleedComplete_extracting {s : State} (hs : s.md.st = .extracting)
    (hx : s.md.extractStep = 2 ∨ s.md.extractStep = 5) :
    s.bleedComplete = s.flushRegion.powerDown.bledOut.releaseLatch := by
  have step : (s.md.extractStep == 2 || s.md.extractStep == 5) = true := by simpa using hx
  have lit : ¬ (s.flushRegion.md.st == .off) = true := by simp [hs]
  unfold State.bleedComplete
  rw [hs]
  exact (if_pos step).trans (if_neg lit)

/-- Settles O37: the lever's rows by the module state, which abandoning a staging keeps (a state other than
EXTRACTING is the last row of a match, whose side condition is the hypothesis at hand), and the bleed's end by its three
cases. -/
theorem extraction : Obligations.Extraction := by
  unfold Obligations.Extraction
  intro s
  refine ⟨fun hs ht => ?runAlone, fun hs ht => ?runPaired, fun hs => ?stopped, fun hs => ?unpowered, fun hs => ?logged,
    ⟨fun hs => ?lowered, fun hs => ?closed⟩, fun hl => ?locked, fun hl hs => ?taken, fun hl hs => ?opened,
    ⟨fun hs hb => ?bleedStandby, fun hs hx => ?bleedExtracting, fun hs hb => ?bleedOff⟩⟩
  case runAlone => exact answers_of_runIf_true rfl (by simp [State.leverLifted, State.twinServes, hs, ht])
  case runPaired => exact answers_of_runIf_true rfl (by simp [State.leverLifted, State.twinServes, hs, ht])
  case stopped => exact answers_of_runIf_true rfl (by rcases hs with hs | hs <;> simp [State.leverLifted, hs])
  case unpowered => exact answers_of_runIf_true rfl (by rcases hs with hs | hs <;> simp [State.leverLifted, hs])
  case logged => exact answers_of_runIf_true rfl (by rcases hs with hs | hs | hs <;> simp [State.leverLifted, hs])
  case lowered => exact answers_of_runIf_true rfl (by simp [State.leverLowered, hs])
  case closed => exact answers_of_runIf_true rfl (by simp [State.leverLowered])
  case locked => exact answers_of_runIf_true rfl (by simp [State.leverOpened, hl])
  case taken => exact answers_of_runIf_true rfl (by simp [State.leverOpened, hl, hs])
  case opened => exact answers_of_runIf_true rfl (by simp [State.leverOpened, hl])
  case bleedStandby => exact answers_of_runIf_true rfl (State.bleedComplete_standby hs hb)
  case bleedExtracting => exact answers_of_runIf_true rfl (State.bleedComplete_extracting hs hx)
  case bleedOff =>
    refine answers_of_runIf_true rfl ((State.bleedComplete_off hs hb).trans ?_)
    simp only [List.append_nil]
    rfl

end Sys2Proof.Machine
end

section
/-! # Logical, comparing, shifting and bit-field instructions

How a command ends once its instruction begins, whatever its meaning delivers (R59, R63, R72), the exact results of
Table 3.3, and obligations O9 and O10. -/

namespace Sys2Proof.Machine
open Sys2Proof.Safety

/-! ## How a command ends -/

section Ends
variable {i : Instr} {s : State} {core : Nat} {ins : Insn} {o : OpCode} {r : Run} {ok : Bool}

/-- A well-formed command answers its meaning. -/
theorem answers_of_runIf_eq {t u : State} (hx : exec i s = s.runIf ok u) (hw : ok = true) (hu : u = t) : Answers i s t :=
  answers_of_runIf hx hw (by rw [hu])

/-- A command whose instruction begins completes with the state that its meaning gives. -/
theorem completes_of_instr {f : Run → Except Stop State} {t : State} (hw : ok = true) (h : Begins s core ins o r)
    (hx : exec i s = s.runIf ok (s.instr core ins o f)) (hf : f r = .ok t) : Completes i s core t :=
  fun room => answers_of_runIf_eq hx hw (instr_of_begins h hf room)

/-- One whose meaning raises what nothing can remove is stopped for it. -/
theorem stops_of_instr {f : Run → Except Stop State} {st : Stop} (hw : ok = true) (h : Begins s core ins o r)
    (hx : exec i s = s.runIf ok (s.instr core ins o f)) (hf : f r = .error st) (hs : final st = true) :
    Stops i s core ins r.len st :=
  answers_of_runIf_eq hx hw (by rw [stops_of_begins h hf hs, h.fields.1])

/-- A command whose meaning gives results, SW and IC delivers them. -/
theorem delivers_of_simple {f : Run → Except Stop Eff} {writes : List (Nat × Nat)} {sw : DWord} {ic : Nat}
    (hw : ok = true) (h : Begins s core ins o r) (hx : exec i s = s.runIf ok (s.simple core ins o f))
    (hf : f r = .ok { writes := writes, sw := sw, ic := ic }) : Delivers i s core r writes sw ic :=
  completes_of_instr hw h hx (by rw [hf]; rfl)

/-- A command whose meaning gives an integer result that never overflows delivers it. -/
theorem plainEnds_of_simple {f : Run → Except Stop Eff} {opn w v cc : Nat} (hw : ok = true) (h : Begins s core ins o r)
    (hx : exec i s = s.runIf ok (s.simple core ins o f))
    (hf : f r = r.integer opn w { val := v, ov := false, cy := none, cc := cc }) : PlainEnds i s core r opn v cc :=
  delivers_of_simple hw h hx hf

/-- A command whose meaning gives an integer result delivers it or takes the overflow exception (R78). Its code counts only
where the result fits: an overflow sets CC to 3 (R63). -/
theorem integerEnds_of_simple {f : Run → Except Stop Eff} {opn w cc : Nat} {x : IntRes} {v : Int} {fits : Bool}
    (hw : ok = true) (h : Begins s core ins o r) (hx : exec i s = s.runIf ok (s.simple core ins o f))
    (hf : f r = r.integer opn w x) (hval : x.val = (v % 2 ^ w).toNat) (hov : x.ov = !fits)
    (hcc : fits = true → x.cc = cc) : IntegerEnds i s core ins r opn w v fits x.cy cc := by
  subst hw
  have ends := integer_ends h hx opn w x v fits x.cy x.cc hf hval hov rfl rfl
  cases fits with
  | true => rwa [← hcc rfl]
  | false => exact ends

end Ends

/-! ## What beginning checks -/

/-- The operands of an instruction are formed only once its header has passed its checks (R68). -/
theorem State.formInsn_headerSub {s : State} {c : Nat} {ins : Insn} {o : OpCode} {hl : List Nat}
    {p : List Loc × Form} (h : s.formInsn c ins o hl = .ok p) : o.headerSub ins.hdr = none := by
  unfold State.formInsn at h
  dsimp only at h
  split at h
  · cases h
  · assumption

theorem State.decodeInsn_headerSub {s : State} {c : Nat} {ins : Insn} {o : OpCode} {p : List Loc × Form}
    (h : s.decodeInsn c ins o = .ok p) : o.headerSub ins.hdr = none := by
  unfold State.decodeInsn at h
  dsimp only at h
  split at h
  · cases h
  · split at h
    · cases h
    next formed => exact State.formInsn_headerSub formed

/-- What is prepared runs on the command's core, and has been decoded. -/
theorem State.prepare_ok {s : State} {c : Nat} {ins : Insn} {o : OpCode} {r : Run} (h : s.prepare c ins o = .ok r) :
    r.c = c ∧ ∃ p, s.decodeInsn c ins o = .ok p := by
  unfold State.prepare at h
  dsimp only at h
  split at h
  · cases h
  next decoded =>
    split at h
    · cases h
    · split at h
      · cases h
      · cases h
        exact ⟨rfl, _, decoded⟩

/-- A header that passes its checks has a VAR that the opcode permits (Table 2.14). -/
theorem OpCode.varOk_of_headerSub {o : OpCode} {h : Word} (hs : o.headerSub h = none) : o.varOk = true := by
  unfold OpCode.headerSub at hs
  split at hs
  · cases hs
  · split at hs
    · cases hs
    next ok => simpa using ok

/-- An instruction that begins has a VAR that its opcode permits. -/
theorem begins_varOk {s : State} {core : Nat} {ins : Insn} {o : OpCode} {r : Run} (h : Begins s core ins o r) :
    o.varOk = true := by
  obtain ⟨_, _, r0, prepared, _⟩ := h
  obtain ⟨_, p, decoded⟩ := State.prepare_ok prepared
  exact OpCode.varOk_of_headerSub (State.decodeInsn_headerSub decoded)

theorem Run.width_pos (r : Run) : 0 < r.width := by
  unfold Run.width dwWords
  split <;> decide

/-! ## Logic and comparisons (R63, R77) -/

/-- The sign of a difference is the order of its terms. -/
theorem signCC_sub (a b : Int) : signCC (a - b) = ccOrder a b := by
  simp only [signCC, ccOrder, sub_eq_zero, sub_neg]

/-- Settles O9: each command delivers what its operation computes; CMP orders by the sign of the difference. -/
theorem logicAndCompares : Obligations.LogicAndCompares := by
  unfold Obligations.LogicAndCompares
  intro s core ins r a b cc num
  refine ⟨fun h => ⟨fun hw => ?and, fun hw => ?orr, fun hw => ?xor⟩, fun h hw => ?not, fun h hw => ?cmp, fun h hw => ?tst⟩
  case and => exact plainEnds_of_simple hw h rfl rfl
  case orr => exact plainEnds_of_simple hw h rfl rfl
  case xor => exact plainEnds_of_simple hw h rfl rfl
  case not => exact plainEnds_of_simple hw h rfl rfl
  case cmp =>
    rw [signCC_sub]
    exact delivers_of_simple hw h rfl rfl
  case tst => exact delivers_of_simple hw h rfl rfl

/-! ## Shifts (R82, Table 3.3) -/

/-- The number of `w` bits that a pattern stands for differs from it by a multiple of 2^w. -/
theorem sint_emod (w a : Nat) : sint w a % 2 ^ w = (a : Int) % 2 ^ w := by
  unfold sint
  split
  · exact Int.sub_emod_right ..
  · rfl

theorem sint_zero {w : Nat} : sint w 0 = 0 := by
  unfold sint
  rw [if_neg (Nat.not_le.2 (Nat.two_pow_pos _))]
  rfl

/-- A shifted pattern stands for the shifted number, modulo 2^w. -/
theorem toNat_sint_mul_emod (w a m : Nat) : (sint w a * (m : Int) % 2 ^ w).toNat = a * m % 2 ^ w := by
  rw [Int.mul_emod, sint_emod, ← Int.mul_emod]
  norm_cast

/-- A number shifted left by `c` fits `d + c + 1` bits exactly when the number fits `d + 1`. -/
theorem fitsSigned_mul_two_pow (d c : Nat) (v : Int) :
    fitsSigned (d + c + 1) (v * 2 ^ c) = true ↔ -2 ^ d ≤ v ∧ v < 2 ^ d := by
  have pos : (0 : Int) < 2 ^ c := by positivity
  simp only [fitsSigned, Nat.add_sub_cancel, pow_add, Bool.and_eq_true, decide_eq_true_eq, ← neg_mul]
  rw [Int.mul_le_mul_right pos, Int.mul_lt_mul_right pos]

/-- Shifting a number left by `c` keeps it in `w` bits exactly when the bits [w-1 : w-1-c] are all equal. -/
theorem slaLoses_eq {w a c : Nat} (ha : a < 2 ^ w) (hc : c < w) :
    slaLoses w a c = !fitsSigned w (sint w a * 2 ^ c) := by
  obtain ⟨d, rfl⟩ : ∃ d, w = d + c + 1 := ⟨w - 1 - c, by omega⟩
  have top : d + c + 1 - 1 - c = d := by omega
  have half : 2 ^ (d + c + 1 - 1) = 2 ^ c * 2 ^ d := by rw [Nat.add_sub_cancel, Nat.add_comm, pow_add]
  have whole : 2 ^ (d + c + 1) = 2 * (2 ^ c * 2 ^ d) := by rw [pow_succ, Nat.add_comm, pow_add, Nat.mul_comm]
  have pos : 0 < 2 ^ d := Nat.two_pow_pos d
  have room : 2 ^ d ≤ 2 ^ c * 2 ^ d := Nat.le_mul_of_pos_left _ (Nat.two_pow_pos c)
  have none_set : a / 2 ^ d = 0 ↔ a < 2 ^ d := Nat.div_eq_zero_iff_lt pos
  have all_set : a / 2 ^ d = 2 ^ (c + 1) - 1 ↔ 2 * (2 ^ c * 2 ^ d) ≤ a + 2 ^ d := by
    have bound : a / 2 ^ d < 2 ^ (c + 1) := by
      rw [Nat.div_lt_iff_lt_mul pos, pow_succ, Nat.mul_comm _ 2, Nat.mul_assoc]
      omega
    have reach := Nat.le_div_iff_mul_le pos (x := 2 ^ (c + 1) - 1) (y := a)
    rw [Nat.sub_mul, pow_succ, Nat.mul_comm _ 2, Nat.mul_assoc, Nat.one_mul] at reach
    rw [pow_succ] at bound ⊢
    omega
  rw [Bool.eq_iff_iff, Bool.not_eq_true', Bool.eq_false_iff, ne_eq, fitsSigned_mul_two_pow]
  simp only [slaLoses, if_pos hc, top, Bool.and_eq_true, bne_iff_ne, ne_eq, none_set, all_set, sint, half]
  have wholeInt : (2 : Int) ^ (d + c + 1) = ((2 * (2 ^ c * 2 ^ d) : Nat) : Int) := by rw [← whole]; norm_cast
  have unitInt : (2 : Int) ^ d = ((2 ^ d : Nat) : Int) := by norm_cast
  rw [wholeInt, unitInt]
  rw [whole] at ha
  generalize 2 ^ c * 2 ^ d = p at *
  generalize 2 ^ d = q at *
  split <;> omega

/-- A number that fits `w` bits is the one that its pattern stands for. -/
theorem sint_toNat_emod {w : Nat} {v : Int} (hw : 0 < w) (fits : fitsSigned w v = true) : sint w (v % 2 ^ w).toNat = v := by
  have halves : (2 : Int) ^ w = 2 * 2 ^ (w - 1) := by rw [← pow_succ', Nat.sub_add_cancel hw]
  have half : ((2 ^ (w - 1) : Nat) : Int) = 2 ^ (w - 1) := by norm_cast
  simp only [fitsSigned, Bool.and_eq_true, decide_eq_true_eq] at fits
  obtain ⟨low, high⟩ := fits
  unfold sint
  by_cases hv : 0 ≤ v
  · rw [Int.emod_eq_of_lt hv (by omega), if_neg (by omega), Int.toNat_of_nonneg hv]
  · have pattern : v % 2 ^ w = v + 2 ^ w := by
      rw [← Int.add_emod_right, Int.emod_eq_of_lt (by omega) (by omega)]
    rw [pattern, if_pos (by omega), Int.toNat_of_nonneg (by omega), Int.add_sub_cancel]

/-- SLA's result is the shifted number modulo 2^w (R82). -/
theorem intSla_val (w a c : Nat) :
    (intSla w a c).val = ((if c < w then sint w a * 2 ^ c else 0) % 2 ^ w).toNat := by
  by_cases hc : c < w
  · have shifted := toNat_sint_mul_emod w a (2 ^ c)
    push_cast at shifted
    simp only [intSla, if_pos hc, shifted]
  · simp [intSla, hc]

/-- SLA overflows where the shifted number does not fit; a number shifted out as a whole fits when it is zero. -/
theorem intSla_ov {w a c : Nat} (ha : a < 2 ^ w) :
    (intSla w a c).ov = !(if c < w then fitsSigned w (sint w a * 2 ^ c) else decide (a = 0)) := by
  by_cases hc : c < w
  · simp only [intSla, if_pos hc, slaLoses_eq ha hc]
  · simp only [intSla, slaLoses, if_neg hc, bne, beq_eq_decide]

/-- Where the shifted number fits, SLA's code is that of its sign. -/
theorem intSla_cc {w a c : Nat} (hw : 0 < w)
    (fits : (if c < w then fitsSigned w (sint w a * 2 ^ c) else decide (a = 0)) = true) :
    (intSla w a c).cc = signCC (if c < w then sint w a * 2 ^ c else 0) := by
  have code : (intSla w a c).cc = signCC (sint w (intSla w a c).val) := rfl
  rw [code, intSla_val]
  by_cases hc : c < w
  · rw [if_pos hc] at fits ⊢
    rw [sint_toNat_emod hw fits]
  · simp only [if_neg hc, Int.zero_emod, Int.toNat_zero, sint_zero]

/-! ## Bit fields -/

/-- A field that lies within the operand is smaller than the operand's bound. -/
theorem field_lt {w p n a : Nat} (h : p + n ≤ w) : a / 2 ^ p % 2 ^ n < 2 ^ w :=
  (Nat.mod_lt _ (Nat.two_pow_pos n)).trans_le (Nat.pow_le_pow_right (by decide) (by omega))

/-- XBT delivers the field as a number, signed with SG, in the result's width (Table 2.8). -/
theorem intExtract_eq {w p n a : Nat} (sg : Bool) (h : p + n ≤ w) :
    let f := a / 2 ^ p % 2 ^ n
    let v : Int := if sg then sint n f else f
    intExtract w sg p n a = { val := (v % 2 ^ w).toNat, ov := false, cy := none, cc := signCC v } := by
  cases sg with
  | true => rfl
  | false =>
    have kept : ((a / 2 ^ p % 2 ^ n : Nat) : Int) % 2 ^ w = (a / 2 ^ p % 2 ^ n : Nat) := by
      exact_mod_cast Nat.mod_eq_of_lt (field_lt h)
    simp only [intExtract, Bool.false_eq_true, if_false, kept, Int.toNat_natCast]
    rfl

/-- Settles O10: SLA by the exact shifted number, XBT by the field's bound, every other one by its own operation. -/
theorem shiftsAndFields : Obligations.ShiftsAndFields := by
  unfold Obligations.ShiftsAndFields
  intro s core ins r w a c cc bits rot
  refine ⟨fun h => ⟨fun hw => ?sll, fun hw => ?srl, fun hw ha => ?sla, fun hw => ?sra, fun hw => ?rol, fun hw => ?ror⟩,
    fun h => ⟨fun hw => ?clz, fun hw => ?pct⟩, fun h hw => ?xbt, fun h hw => ?ibt⟩
  case sll => exact plainEnds_of_simple hw h rfl rfl
  case srl => exact plainEnds_of_simple hw h rfl rfl
  case sla =>
    exact integerEnds_of_simple (x := intSla w a c) hw h rfl rfl (intSla_val w a c) (intSla_ov ha)
      (intSla_cc r.width_pos)
  case sra => exact plainEnds_of_simple hw h rfl rfl
  case rol => exact plainEnds_of_simple hw h rfl rfl
  case ror => exact plainEnds_of_simple hw h rfl rfl
  case clz => exact plainEnds_of_simple hw h rfl rfl
  case pct => exact plainEnds_of_simple hw h rfl rfl
  case xbt =>
    have inside : varOf r.hdr + lenOf r.hdr ≤ w := by
      rw [show w = 36 * dwWords r.hdr from rfl, h.fields.2]
      exact of_decide_eq_true (begins_varOk h)
    exact plainEnds_of_simple hw h rfl (congrArg (r.integer 1 r.width) (intExtract_eq _ inside))
  case ibt => exact plainEnds_of_simple hw h rfl rfl

end Sys2Proof.Machine
end

section
/-! # Moves, state words, branches and calls

The instructions of Tables 2.7, 2.11 and 2.13 that are not long: MVW behind the older accesses of its core (R121), the
rule of state-word loads (R49), the interruption that a call ends with (R70), and obligations O13 and O14. -/

namespace Sys2Proof.Machine
open Sys2Proof.Safety

/-! ## What an instruction is prepared on -/

theorem Run.useCaches_c {r r0 : Run} (h : r0.useCaches = .ok r) : r.c = r0.c := by
  unfold Run.useCaches at h
  split at h
  · cases h
  · split at h
    · cases h
    · cases h
      rfl

/-- What is prepared runs on the command's core. -/
theorem begins_c {s : State} {core : Nat} {ins : Insn} {o : OpCode} {r : Run} (h : Begins s core ins o r) :
    r.c = core := by
  obtain ⟨_, _, r0, prepared, cached⟩ := h
  rw [Run.useCaches_c cached, (State.prepare_ok prepared).1]

/-! ## Moves (R63, R121) -/

/-- MVW from elsewhere than control space and I/O space executes at once. -/
theorem State.mvw_plain {s : State} {core : Nat} {ins : Insn} (h : deviceMode ins.a = false) :
    s.mvw core ins = s.simple core ins (opMvw ins.hdr) (fun r => .ok r.move) := by
  simp [State.mvw, h]

/-- MVW from control space or I/O space executes on the machine in which every older access is performed. -/
theorem State.mvw_device {s t : State} {core : Nat} {ins : Insn} (h : deviceMode ins.a = true) (hd : Drains s core t) :
    s.mvw core ins = t.simple core ins (opMvw ins.hdr) (fun r => .ok r.move) := by
  obtain ⟨goes, drained⟩ := hd
  simp [State.mvw, h, State.drained, goes, drained]

/-- MVW begun on `t` completes with the value moved, whatever command of `s` has led there. -/
theorem mvw_delivers {s t : State} {core : Nat} {ins : Insn} {r : Run} (hw : wfIns core ins 0o10 = true)
    (h : Begins t core ins (opMvw ins.hdr) r)
    (led : s.mvw core ins = t.simple core ins (opMvw ins.hdr) (fun r => .ok r.move)) :
    Delivers (.mvw core ins) s core r [(1, r.val 0)]
      (if hdrCS r.hdr then setFld r.sw 63 62 (signCC (sint r.width (r.val 0))) else r.sw) r.nextIC := fun room =>
  answers_of_runIf_eq rfl hw (led.trans (instr_of_begins h rfl room))

/-! ## State-word loads (R49, R347) -/

/-- A state word that the level, the rounding direction, the heritage rule and the context allow is not refused. -/
theorem Core.swRefused_none {k : Core} {level ic : Nat} {sw : DWord} (hl : level ≤ swPL sw) (hr : fld sw 66 64 ≤ 4)
    (hh : bit sw 69 = true → 2 ≤ swPL sw ∧ ic < 2 ^ 24) (hc : 2 ≤ swPL sw → k.ctxValid = true) :
    k.swRefused level sw ic = none := by
  have plain : ¬ (bit sw 69 = true ∧ (swPL sw < 2 ∨ 2 ^ 24 ≤ ic)) := by
    rintro ⟨heritage, wrong⟩
    obtain ⟨high, low⟩ := hh heritage
    omega
  have placed : ¬ (2 ≤ swPL sw ∧ k.ctxValid = false) := by
    rintro ⟨high, invalid⟩
    rw [hc high] at invalid
    cases invalid
  simp only [Core.swRefused, Nat.not_lt.2 hl, if_false, Nat.not_lt.2 hr, decide_false, Bool.false_or, Bool.or_eq_true,
    Bool.and_eq_true, Bool.not_eq_true', decide_eq_true_eq, plain, placed, or_self]

/-- A state-word load that is not refused delivers SW and IC. -/
theorem Run.loadSW_ok {r : Run} {sw : DWord} {ic next : Nat} (h : r.start.swRefused r.start.pl sw ic = none) :
    r.loadSW sw ic next = .ok { writes := [], sw := sw, ic := next } := by
  simp [Run.loadSW, h, Run.eff]

/-- Settles O13: MVW by where its source lies, the state-word loads by the rule of R49, every other one by what it
delivers. -/
theorem movesAndStateWords : Obligations.MovesAndStateWords := by
  unfold Obligations.MovesAndStateWords
  intro s core ins r v moved accepted
  refine ⟨fun hw => ⟨fun hd h => ?plain, fun t hd drains h => ?device⟩, fun hw h => ?xch, fun hw h => ?ssw,
    fun hw h hr => ?spm, fun hw h ha => ?lsw, fun hw h ha => ?rti⟩
  case plain => exact mvw_delivers hw h (State.mvw_plain hd)
  case device => exact mvw_delivers hw h (State.mvw_device hd drains)
  case xch => exact delivers_of_simple hw h rfl rfl
  case ssw => exact delivers_of_simple hw h rfl rfl
  case spm => exact delivers_of_simple hw h rfl (if_neg (Nat.not_lt.2 hr))
  case lsw =>
    obtain ⟨level, rounding, heritage, context⟩ := ha
    exact delivers_of_simple hw h rfl (Run.loadSW_ok (Core.swRefused_none level rounding heritage context))
  case rti =>
    obtain ⟨level, rounding, heritage, context⟩ := ha
    exact delivers_of_simple hw h rfl (Run.loadSW_ok (Core.swRefused_none level rounding heritage context))

/-! ## Branches and calls (R70, R367) -/

/-- A call that its level's block takes leaves the machine in which it has been taken. -/
theorem Run.call_taken {r : Run} {cls : Nat}
    (h : (((r.finish (r.eff [] r.sw)).takeIntr r.c (r.callIntr cls)).core r.c).seq ≠
      ((r.finish (r.eff [] r.sw)).core r.c).seq) :
    r.call cls = (r.finish (r.eff [] r.sw)).takeIntr r.c (r.callIntr cls) := by
  simp only [Run.call, beq_iff_eq, h, if_false]

/-- A call of a service that Zenith has is left to Zenith. -/
theorem Run.zenithCall_defined {r : Run} (ha : r.s.tn.absent = false) (h1 : 1 ≤ r.code) (h3 : r.code ≤ 3) :
    r.zenithCall = r.call 0o22 := by
  simp [Run.zenithCall, ha, h1, h3]

/-- While Zenith is absent the hardware answers a call with SERVICE-ABSENT in X1. -/
theorem Run.zenithCall_absent {r : Run} (ha : r.s.tn.absent = true) :
    r.zenithCall = ({ r with x := setReg r.x 1 1 } : Run).finish (r.eff [] r.sw) := by
  simp only [Run.zenithCall, ha, if_true]

/-- Settles O14: a branch is taken by the bit of VAR that CC picks; WAIT waits by SW.IE; a call that is taken is the
interruption of its class. -/
theorem branchesWaitAndCalls : Obligations.BranchesWaitAndCalls := by
  unfold Obligations.BranchesWaitAndCalls
  refine ⟨fun s core ins r => ⟨fun hw h => ?br, fun hw h => ?bal, fun hw h => ?bct, fun hw h => ⟨fun ie => ?waits,
    fun ie => ?refused⟩⟩, ?calls⟩
  case br =>
    rw [Nat.testBit_eq_decide_div_mod_eq]
    simp only [decide_eq_true_eq]
    exact delivers_of_simple hw h rfl (by simp [Run.eff])
  case bal => exact delivers_of_simple hw h rfl rfl
  case bct => exact delivers_of_simple hw h rfl rfl
  case waits => exact completes_of_instr hw h rfl (if_pos ie)
  case refused => exact stops_of_instr hw h rfl (if_neg (by simp [ie])) rfl
  case calls =>
    intro s core ins r n done intr taken called
    refine ⟨fun hw h hc => ?csv, fun hw h hc => ?chs, fun hw h ha h1 h3 hc => ?czn, fun hw h ha => ?absent⟩
    case csv =>
      obtain rfl := begins_c h
      exact completes_of_instr hw h rfl (congrArg Except.ok (Run.call_taken hc))
    case chs =>
      obtain rfl := begins_c h
      exact completes_of_instr hw h rfl (congrArg Except.ok (Run.call_taken hc))
    case czn =>
      obtain rfl := begins_c h
      exact completes_of_instr hw h rfl
        (congrArg Except.ok ((Run.zenithCall_defined ha h1 h3).trans (Run.call_taken hc)))
    case absent => exact completes_of_instr hw h rfl (congrArg Except.ok (Run.zenithCall_absent ha))

end Sys2Proof.Machine
end

section
/-! # Long instructions

A command of a long instruction that begins anew and is not stopped is its loop of units and what that leaves (R64 to
R66), one unit is what its rule stores (Table 2.12), and obligations O17 and O18. -/

namespace Sys2Proof.Machine
open Sys2Proof.Safety

/-! ## From the command to the loop -/

/-- A long instruction that is decoded goes on with its operands, its count and its fetched lines. -/
theorem State.longTry_decoded {s w : State} {c fuel n : Nat} {ins : Insn} {o : OpCode} {ls : List Loc} {f : Form}
    (go : State → List Loc → Form → Nat → State) (decoded : s.decodeInsn c ins o = .ok (ls, f))
    (counted : countOf ins.hdr (s.core c).x = .ok n) (fetched : s.useLoads c true f.fetch = .ok w) :
    State.longTry c ins o go (fuel + 1) s = go w ls f n := by
  simp only [State.longTry, decoded, counted, fetched]

theorem State.long_decoded {s w : State} {c n : Nat} {ins : Insn} {stop : Option Nat} {o : OpCode} {nto : Bool}
    {pre : Option OpSpec} {ls : List Loc} {f : Form}
    (unit : Long → Checkpoint → State → Nat → Except Stop (State × Nat))
    (fin : Long → LongFin → List (Nat × Nat) × Option Nat) (goes : s.goes c = true) (clear : (s.beforeInstr c).2 = true)
    (decoded : (before s c).decodeInsn c ins o = .ok (ls, f)) (counted : countOf ins.hdr ((before s c).core c).x = .ok n)
    (fetched : (before s c).useLoads c true f.fetch = .ok w) :
    s.long c ins stop o nto pre unit fin = (w.longRun c ins stop o nto pre unit fin ls f n).deliverChecks c := by
  have tried := State.longTry_decoded (fuel := 127)
    (fun s ls f n => s.longRun c ins stop o nto pre unit fin ls f n) decoded counted fetched
  simp only [before] at tried
  simp [State.long, goes, clear, tried]

/-- What is done at the first try, with room for what it leaves, is not tried again. -/
theorem unitTry_ok {c fuel code : Nat} {u : State → Except Stop (State × Nat)} {s t : State} (h : u s = .ok (t, code))
    (room : Room c t) : unitTry c u (fuel + 1) s = (s, .ok (t, code)) := by
  simp only [Room] at room
  simp [unitTry, h, room]

/-- What ends the loop of a long instruction that no replay has discarded is dealt with by `longEnd`. -/
theorem State.longRun_begun {w u : State} {c n v : Nat} {ins : Insn} {o : OpCode} {nto : Bool} {pre : Option OpSpec}
    {ls : List Loc} {f : Form} {r : LongRes} (unit : Long → Checkpoint → State → Nat → Except Stop (State × Nat))
    (fin : Long → LongFin → List (Nat × Nat) × Option Nat) (anew : swPA (w.core c).sw = false)
    (calm : (w.bandTaken c).isSome = true → n ≤ 256)
    (first : (n = 0 ∧ v = 0 ∧ u = w) ∨
      (0 < n ∧ Room c u ∧
        w.longValue (longOf w c ins ls f n 0) pre ((longOf w c ins ls f n 0).boundary nto 0 false (w.core c)) = .ok (u, v)))
    (ran : longLoop c ((longOf w c ins ls f n v).boundary nto) (unit (longOf w c ins ls f n v)) n u 0 false = r)
    (kept : r.fin ≠ .gone) :
    w.longRun c ins none o nto pre unit fin ls f n =
      ((r.s.installAll (w.core c).party c (f.vas ++ (longOf w c ins ls f n v).vas)).usePasses c).longEnd
        (longOf w c ins ls f n 0) ins o nto n r fin := by
  have bound : (if (w.bandTaken c).isSome = true then min (min n n) (0 + 256) else min n n) = n := by
    split
    · have := calm ‹_›
      omega
    · omega
  have moved : ¬ (n ≤ 0 ∧ 0 < n) := by omega
  have started : (if (n == 0) = true then (w, .ok (w, 0))
      else unitTry c (fun s => s.longValue (longOf w c ins ls f n 0) pre
        ((longOf w c ins ls f n 0).boundary nto 0 false (s.core c))) 128 w) = (w, .ok (u, v)) := by
    rcases first with ⟨rfl, rfl, rfl⟩ | ⟨pos, room, value⟩
    · rfl
    · rw [if_neg (by simpa using pos.ne'), unitTry_ok value room]
  have looped : longLoop c ((longOf w c ins ls f n 0).boundary nto) (unit (longOf w c ins ls f n v)) n u 0 false = r := ran
  have present : (r.fin == .gone) = false := by simpa using kept
  simp only [longOf] at started looped
  simp only [State.longRun, anew, Bool.false_eq_true, if_false, Option.getD_none, bound, Bool.and_eq_true,
    decide_eq_true_eq, moved, Bool.and_false, Bool.false_and, Nat.sub_zero, started, looped, present]
  rfl

section Begun
variable {s u v : State} {core k code : Nat} {ins : Insn} {o : OpCode} {nto seen : Bool} {pre : Option OpSpec} {l : Long}
  {f : Form} {unit : Long → Checkpoint → State → Nat → Except Stop (State × Nat)}
  {fin : Long → LongFin → List (Nat × Nat) × Option Nat} {i : Instr} {ok : Bool}
  {res : List (Nat × Nat)} {cc : Option Nat}

/-- A long instruction that begins anew leaves what `longEnd` makes of the end of its loop. -/
theorem longRun_of_begins {r : LongRes} (h : LongBegins s core ins o nto pre u l f)
    (ran : longLoop l.c (l.boundary nto) (unit l) l.n u 0 false = r) (kept : r.fin ≠ .gone) :
    s.long core ins none o nto pre unit fin =
      (((r.s.installAll l.start.party core (f.vas ++ l.vas)).usePasses core).longEnd { l with val := 0 } ins o nto l.n r
        fin).deliverChecks core := by
  obtain ⟨goes, clear, w, ls, n, v, decoded, counted, fetched, anew, calm, rfl, first⟩ := h
  rw [State.long_decoded unit fin goes clear decoded counted fetched,
    State.longRun_begun unit fin anew calm first ran kept]
  rfl

/-- Every unit done: the instruction completes with the results of an end without a hit (R66). -/
theorem longEnds_of_runsAll (hw : ok = true) (h : LongBegins s core ins o nto pre u l f)
    (hx : exec i s = s.runIf ok (s.long core ins none o nto pre unit fin)) (ran : RunsAll unit nto l u v seen)
    (results : fin { l with val := 0 } { hit := none, flag := seen } = (res, cc)) : LongEnds i s core o v l f res cc := by
  refine answers_of_runIf_eq hx hw ((longRun_of_begins h ran (by simp)).trans ?_)
  simp only [State.longEnd, beq_self_eq_true, if_true, results]
  rfl

/-- A hit ends it at its unit: the command, which was not told to stop, completes there. -/
theorem longEnds_of_runsTo (hw : ok = true) (h : LongBegins s core ins o nto pre u l f)
    (hx : exec i s = s.runIf ok (s.long core ins none o nto pre unit fin)) (ran : RunsTo unit nto l k code u v)
    (results : ∀ seen, fin { l with val := 0 } { hit := some (k, code), flag := seen } = (res, cc)) :
    LongEnds i s core o v l f res cc := by
  obtain ⟨seen, ran⟩ := ran
  refine answers_of_runIf_eq hx hw ((longRun_of_begins h ran (by simp)).trans ?_)
  simp only [State.longEnd, Nat.lt_irrefl, decide_false, Bool.and_false, Bool.false_eq_true, if_false, results]
  rfl

theorem hdr_of_longBegins (h : LongBegins s core ins o nto pre u l f) : l.hdr = ins.hdr := by
  obtain ⟨_, _, _, _, _, _, _, _, _, _, _, rfl, _⟩ := h
  rfl

end Begun

/-- Settles O17: each command by its unit and by the results that its end reports. -/
theorem longInstructions : Obligations.LongInstructions := by
  unfold Obligations.LongInstructions
  intro s core ins u v l f seen k code n h starts all hit fln nto
  refine ⟨fun hw hs ran => ?mvn, fun hw hs ran => ?fln, fun hw hs ran => ?mvc,
    fun hw => ⟨fun hs ran => ?cpc, fun hs ran => ?differs⟩, fun hw hs ran => ?trc,
    fun hw => ⟨fun hs ran => ?scn, fun hs ran => ?found⟩, fun hw hs ran => ?flc, fun hw hs ran => ?nto,
    fun hw hs ran => ?otn, fun hw hs ran => ?mvb⟩
  case mvn => exact longEnds_of_runsAll hw hs rfl ran rfl
  case fln => exact longEnds_of_runsAll hw hs rfl ran rfl
  case mvc => exact longEnds_of_runsAll hw hs rfl ran rfl
  case cpc => exact longEnds_of_runsAll hw hs rfl ran rfl
  case differs => exact longEnds_of_runsTo hw hs rfl ran (fun _ => rfl)
  case trc => exact longEnds_of_runsAll hw hs rfl ran rfl
  case scn => exact longEnds_of_runsAll hw hs rfl ran (by simp [hdr_of_longBegins hs, h])
  case found => exact longEnds_of_runsTo hw hs rfl ran (fun _ => by simp [hdr_of_longBegins hs, h])
  case flc => exact longEnds_of_runsAll hw hs rfl ran rfl
  case nto => exact longEnds_of_runsAll hw hs rfl ran (by simp [hdr_of_longBegins hs, h])
  case otn => exact longEnds_of_runsAll hw hs rfl ran rfl
  case mvb => exact longEnds_of_runsAll hw hs rfl ran rfl

/-! ## Units (R60, R64, Table 2.12) -/

/-- CPC's code is the order of the two values. -/
theorem ccOrder_cast (v w : Nat) : ccOrder v w = if v = w then 0 else if v < w then 1 else 2 := by
  simp only [ccOrder, Nat.cast_inj, Nat.cast_lt]

/-- Settles O18: each unit by what it finds at its places, one read after the other. -/
theorem longUnits : Obligations.LongUnits := by
  unfold Obligations.LongUnits
  intro l s ck k v w a b p q t t' h
  refine ⟨fun ha hb rv bound g code => ?copy, fun ha hb read other bound => ?cpc, fun ha rv e ls entry hb bound => ?trc,
    fun ha rv e ls entry bound => ?scn, fun hb hv => ?flc, fun hp hq older read bound => ?mvn, fun hq => ?fln⟩
  case copy => simp [copyUnit, ha, hb, rv, bound, Except.map]
  case cpc => simp [cpcUnit, ha, hb, read, other, bound, Except.map, ccOrder_cast]
  case trc => simp [trcUnit, ha, hb, rv, entry, bound, Except.map]
  case scn => simp [scnUnit, ha, rv, entry, bound, Except.map]
  case flc => simp only [flcUnit, hb, hv, ← Nat.not_lt, ite_not]
  case mvn =>
    have performed : ((l.loc 0).device && !(s.core l.c).sb.isEmpty) = false := by
      cases device : (l.loc 0).device with
      | false => rfl
      | true => simp [older device]
    simp [mvnUnit, hp, hq, performed, read, bound, Except.map]
  case fln => simp [flnUnit, hq, Except.map]

end Sys2Proof.Machine
end

section
/-! # Results, and what completing an instruction changes

The rules of the store buffer: what a load sees after a store has entered it (R113, R114), and what a result in a
register or in memory leaves alone (R47, R59); the frame of a completion (R109); obligations O29 and O30. -/

namespace Sys2Proof.Machine
open Sys2Proof.Safety

/-! ## What a load sees (R114) -/

/-- A buffered word laid over a word of memory, where it is a store to it. -/
def SbWord.onto (x : SbWord) (a : Nat) (w : Word) : Word :=
  if x.off == a % 16 then (w &&& ~~~x.mask) ||| (x.val &&& x.mask) else w

/-- The entry's stores laid over a word, where the entry is of its line and holds data. -/
def SbEntry.onto (e : SbEntry) (a : Nat) (w : Word) : Word :=
  if (e.kind == .cached || e.kind == .zeroLine) && e.addr == lineOf a then e.words.foldl (fun w x => x.onto a w) w else w

theorem Core.forward_eq (k : Core) (a : Nat) (w : Word) : k.forward a w = k.sb.foldl (fun w e => e.onto a w) w := rfl

/-- A cached entry with one word more lays that word over the rest, in its line alone. -/
theorem SbEntry.onto_append {e : SbEntry} (h : e.kind = .cached) (x : SbWord) (a : Nat) (w : Word) :
    ({ e with words := e.words ++ [x] } : SbEntry).onto a w =
      if e.addr = lineOf a then x.onto a (e.onto a w) else e.onto a w := by
  by_cases line : e.addr = lineOf a <;> simp [SbEntry.onto, h, line]

theorem eq_iff_line_offset (a b : Nat) : a = b ↔ lineOf b = lineOf a ∧ b % 16 = a % 16 := by
  unfold lineOf
  omega

/-- A cached store appends its word to the youngest entry of its line, or appends an entry of its own (R113). -/
theorem Core.pushCached_cases (k : Core) (ra : Nat) (w mask : Word) (va : Nat) :
    ∃ (rest : List SbEntry) (e : SbEntry), e.kind = .cached ∧ e.addr = lineOf ra ∧
      (k.sb = rest ++ [e] ∨ (k.sb = rest ∧ e.words = [])) ∧
      k.pushCached ra w mask va = { k with sb := rest ++
        [{ e with words := e.words ++ [{ off := ra % 16, val := w, mask := mask, seq := k.seq }] }] } := by
  unfold Core.pushCached
  dsimp only
  split
  next e last =>
    split
    next merges =>
      simp only [Bool.and_eq_true, beq_iff_eq] at merges
      obtain ⟨⟨⟨⟨cached, _⟩, line⟩, _⟩, _⟩ := merges
      exact ⟨k.sb.dropLast, e, cached, line, .inl (List.dropLast_append_getLast? e last).symm, rfl⟩
    next => exact ⟨k.sb, { kind := .cached, addr := lineOf ra, wide := false, level := k.pl, vaddr := va, words := [] },
      rfl, rfl, .inr ⟨rfl, rfl⟩, rfl⟩
  next => exact ⟨k.sb, { kind := .cached, addr := lineOf ra, wide := false, level := k.pl, vaddr := va, words := [] },
    rfl, rfl, .inr ⟨rfl, rfl⟩, rfl⟩

/-- A load sees a cached store in the bits of its mask, and every other word as before. -/
theorem Core.forward_pushCached (k : Core) (ra : Nat) (w mask : Word) (va a : Nat) (v : Word) :
    (k.pushCached ra w mask va).forward a v =
      if a = ra then (k.forward a v &&& ~~~mask) ||| (w &&& mask) else k.forward a v := by
  obtain ⟨rest, e, cached, line, before, after⟩ := k.pushCached_cases ra w mask va
  have seen : k.forward a v = e.onto a (rest.foldl (fun w e => e.onto a w) v) := by
    rcases before with whole | ⟨whole, empty⟩
    · simp [Core.forward_eq, whole]
    · simp [Core.forward_eq, whole, SbEntry.onto, empty]
  rw [seen, after, Core.forward_eq]
  simp only [List.foldl_append, List.foldl_cons, List.foldl_nil]
  rw [SbEntry.onto_append cached, line]
  simp only [SbWord.onto, eq_iff_line_offset a ra, beq_iff_eq, ite_and]

/-- A whole word replaces what was seen. -/
theorem Core.forward_pushWord (k : Core) (ra : Nat) (w : Word) (va a : Nat) (v : Word) :
    (k.pushCached ra w (BitVec.allOnes 36) va).forward a v = if a = ra then w else k.forward a v := by
  simp only [Core.forward_pushCached, BitVec.not_allOnes, BitVec.and_zero, BitVec.zero_or, BitVec.and_allOnes]

/-! ## Words of a memory operand -/

theorem Core.forward_storeWords_other {a : Nat} (ps : List (Nat × Nat)) (h : ∀ q ∈ ps, q.1 ≠ a) (k : Core)
    (ws : List Word) (v : Word) : (k.storeWords ps ws).forward a v = k.forward a v := by
  induction ps generalizing k ws with
  | nil => rfl
  | cons p ps ih =>
    cases ws with
    | nil => rfl
    | cons w ws =>
      rw [Core.storeWords, ih (fun q hq => h q (List.mem_cons_of_mem _ hq)), Core.forward_pushWord,
        if_neg (h p List.mem_cons_self).symm]

/-- Stored to distinct places, each word is seen at its place. -/
theorem Core.forward_storeWords {ps : List (Nat × Nat)} (apart : (ps.map (·.1)).Nodup) (k : Core) {ws : List Word}
    (len : ps.length = ws.length) {i : Nat} (hi : i < ps.length) (v : Word) :
    (k.storeWords ps ws).forward (ps.getD i (0, 0)).1 v = wordAt ws i := by
  induction ps generalizing k ws i with
  | nil => cases hi
  | cons p ps ih =>
    obtain ⟨fresh, apart⟩ := List.nodup_cons.1 apart
    cases ws with
    | nil => cases len
    | cons w ws =>
      cases i with
      | zero =>
        have elsewhere : ∀ q ∈ ps, q.1 ≠ p.1 := fun q hq same => fresh (List.mem_map.2 ⟨q, hq, same⟩)
        rw [Core.storeWords, List.getD_cons_zero, Core.forward_storeWords_other ps elsewhere, Core.forward_pushWord,
          if_pos rfl]
        rfl
      | succ i =>
        rw [Core.storeWords, List.getD_cons_succ,
          ih apart _ (Nat.succ.inj len) (Nat.lt_of_succ_lt_succ hi)]
        rfl

theorem wordAt_valWords {n i : Nat} (v : Nat) (h : i < n) :
    wordAt (valWords n v) i = BitVec.ofNat 36 (v / 2 ^ (36 * (n - 1 - i))) := by
  simp [wordAt, valWords, h]

/-! ## Registers (R47) -/

theorem regOf_setReg (x : Vector DWord 16) (n v m : Nat) :
    regOf (setReg x n v) m = if m % 16 = n % 16 then v % 2 ^ 72 else regOf x m := by
  simp only [regOf, setReg, Vector.getElem_setIfInBounds]
  by_cases h : m % 16 = n % 16
  · simp [h]
  · simp [h, Ne.symm h]

/-- A result of a word or a doubleword fills a register from its low end. -/
theorem regResult_mod {n : Nat} (v : Nat) (h : n ≤ 2) : regResult n v % 2 ^ 72 = v % 2 ^ (36 * n) := by
  rw [regResult, if_pos h]
  refine Nat.mod_eq_of_lt ((Nat.mod_lt _ (Nat.two_pow_pos _)).trans_le (Nat.pow_le_pow_right (by decide) ?_))
  omega

/-! ## What storing a result leaves alone (R59) -/

theorem Core.pushCached_frame (k : Core) (ra : Nat) (w mask : Word) (va : Nat) :
    ∃ sb, k.pushCached ra w mask va = { k with sb := sb } := by
  obtain ⟨rest, e, _, _, _, after⟩ := k.pushCached_cases ra w mask va
  exact ⟨_, after⟩

theorem Core.storeWords_frame (k : Core) (ps : List (Nat × Nat)) (ws : List Word) :
    ∃ sb, k.storeWords ps ws = { k with sb := sb } := by
  induction ps generalizing k ws with
  | nil => exact ⟨k.sb, rfl⟩
  | cons p ps ih =>
    cases ws with
    | nil => exact ⟨k.sb, rfl⟩
    | cons w ws =>
      obtain ⟨_, pushed⟩ := k.pushCached_frame p.1 w (BitVec.allOnes 36) p.2
      rw [Core.storeWords, pushed]
      exact ih _ ws

/-- Settles O30: a register by the rule of `setReg`, memory by the rule of the words stored. -/
theorem resultPlaces : Obligations.ResultPlaces := by
  unfold Obligations.ResultPlaces
  refine fun k p v => ⟨fun n place hn _ two => ?register, fun va place len => ?memory⟩
  case register =>
    simp only [Core.writeOp, place]
    refine ⟨fun m hm => ?_, trivial⟩
    rw [regOf_setReg, Nat.mod_eq_of_lt hm, Nat.mod_eq_of_lt hn, regResult_mod v two]
  case memory =>
    simp only [Core.writeOp, place]
    refine ⟨?registers, fun a w elsewhere => Core.forward_storeWords_other _ elsewhere k _ w, fun i w apart hi => ?seen⟩
    case registers =>
      obtain ⟨_, stored⟩ := k.storeWords_frame p.words (valWords p.spec.n v)
      rw [stored]
    case seen =>
      rw [Core.forward_storeWords apart k (by simp [valWords, len]) (by omega), wordAt_valWords v hi]

/-! ## Completion (R59, R109) -/

/-- A result goes to a register or into the store buffer. -/
theorem Core.writeOp_frame (k : Core) (p : Placed) (v : Nat) : ∃ x sb, k.writeOp p v = { k with x := x, sb := sb } := by
  have stored := k.storeWords_frame p.words (valWords p.spec.n v)
  unfold Core.writeOp
  dsimp only
  split
  · exact ⟨_, k.sb, rfl⟩
  · exact ⟨k.x, _, rfl⟩
  · split
    · exact ⟨k.x, _, rfl⟩
    · split
      · exact ⟨k.x, _, rfl⟩
      · exact ⟨k.x, _, rfl⟩
    · exact ⟨k.x, k.sb, rfl⟩
  · exact ⟨k.x, stored⟩
  · exact ⟨k.x, stored⟩
  · exact ⟨k.x, k.sb, rfl⟩

/-- One result of an instruction, for the operand of its number. -/
def Run.deliver (r : Run) (k : Core) (w : Nat × Nat) : Core :=
  match r.ops[w.1]? with
  | some p => k.writeOp p w.2
  | none => k

/-- SW and IC as an instruction's effect sets them. -/
def Core.moveTo (k : Core) (e : Eff) : Core := { k with sw := e.sw, ic := BitVec.ofNat 48 (e.ic % 2 ^ aBits (bit e.sw 69)) }

theorem Run.coreAfter_eq (r : Run) (k : Core) (e : Eff) :
    r.coreAfter k e =
      ((e.writes.foldl r.deliver (({ k with x := r.x } : Core).expose r.start.checkpoint r.lines)).moveTo e).retire
        r.start.checkpoint [] := rfl

theorem Run.delivers_frame (r : Run) (writes : List (Nat × Nat)) (k : Core) :
    ∃ x sb, writes.foldl r.deliver k = { k with x := x, sb := sb } := by
  induction writes generalizing k with
  | nil => exact ⟨k.x, k.sb, rfl⟩
  | cons w writes ih =>
    rw [List.foldl_cons, Run.deliver]
    split
    next p _ =>
      obtain ⟨_, _, wrote⟩ := k.writeOp_frame p w.2
      rw [wrote]
      exact ih _
    next => exact ih k

theorem Core.expose_frame (k : Core) (ck : Checkpoint) (lines : List Nat) :
    ∃ l, k.expose ck lines = { k with exposed := l } := by
  unfold Core.expose
  split
  · exact ⟨_, rfl⟩
  · exact ⟨k.exposed, rfl⟩

/-- Passing the boundary changes the exposed loads, the number, the held data, the datapath and the recovery slots. -/
theorem Core.retire_frame (k : Core) (ck : Checkpoint) (lines : List Nat) :
    ∃ exposed seq held dp slots, k.retire ck lines =
      { k with exposed := exposed, seq := seq, ioHeld := held, dp := dp, slots := slots } := by
  obtain ⟨exposed, shown⟩ := k.expose_frame ck lines
  rw [Core.retire, shown]
  exact ⟨exposed, _, _, _, _, rfl⟩

/-- The core after an instruction: SW and IC as its effect says, and nothing else but what results and the boundary
change. -/
theorem Run.coreAfter_frame (r : Run) (k : Core) (e : Eff) :
    ∃ x sb exposed seq held dp slots, r.coreAfter k e =
      { k with x := x, sb := sb, exposed := exposed, seq := seq, ioHeld := held, dp := dp, slots := slots, sw := e.sw,
               ic := BitVec.ofNat 48 (e.ic % 2 ^ aBits (bit e.sw 69)) } := by
  obtain ⟨exposed, shown⟩ := ({ k with x := r.x } : Core).expose_frame r.start.checkpoint r.lines
  obtain ⟨x, sb, wrote⟩ := r.delivers_frame e.writes { k with x := r.x, exposed := exposed }
  obtain ⟨exposed', seq, held, dp, slots, retired⟩ :=
    (({ k with x := x, sb := sb, exposed := exposed } : Core).moveTo e).retire_frame r.start.checkpoint []
  rw [Run.coreAfter_eq, shown, wrote]
  exact ⟨x, sb, exposed', seq, held, dp, slots, retired⟩

theorem State.install_frame (s : State) (p : Party) (c va : Nat) : ∃ tc, s.install p c va = { s with tc := tc } := by
  unfold State.install
  dsimp only
  split
  · exact ⟨s.tc, rfl⟩
  · exact ⟨_, rfl⟩

/-- Translating leaves entries in the translation caches, and changes nothing else (R353). -/
theorem State.installAll_frame (s : State) (p : Party) (c : Nat) (vas : List Nat) :
    ∃ tc, s.installAll p c vas = { s with tc := tc } := by
  refine List.foldlRecOn (motive := fun (t : State) => ∃ tc, t = { s with tc := tc }) _ _ ⟨s.tc, rfl⟩ ?_
  rintro _ ⟨tc, rfl⟩ va _
  obtain ⟨tc', installed⟩ := State.install_frame { s with tc := tc } p c va
  exact ⟨tc', installed⟩

/-- Completion changes its core, the translation caches and the passing copies. -/
theorem Run.finish_frame (r : Run) (e : Eff) :
    ∃ tc passes, r.finish e =
      { r.s.setCore r.c (r.coreAfter (r.s.core r.c) e) with tc := tc, dy := { r.s.dy with passes := passes } } := by
  obtain ⟨tc, installed⟩ := r.s.installAll_frame r.start.party r.c r.vas
  unfold Run.finish
  rw [installed]
  exact ⟨tc, _, rfl⟩

/-- Settles O29: the machine by the frame of `finish`, its core by the frame of `coreAfter`. -/
theorem completionFrame : Obligations.CompletionFrame := by
  unfold Obligations.CompletionFrame
  intro r e
  obtain ⟨tc, passes, finished⟩ := r.finish_frame e
  obtain ⟨x, sb, exposed, seq, held, dp, slots, after⟩ := r.coreAfter_frame (r.s.core r.c) e
  have others : ∀ d, d ≠ r.c → (r.finish e).core d = r.s.core d := fun d hd => by
    rw [finished]
    exact (r.s.core_setCore r.c d _).trans (if_neg hd)
  have own : (r.finish e).core r.c = r.coreAfter (r.s.core r.c) e := by
    rw [finished]
    exact r.s.core_setCore_same r.c _
  simp only [own, after]
  refine ⟨?_, ?_, ?_, ?_, ?_, ?_, ?_, ?_, ?_, ?_, ?_, ?_, ?_, ?_, ?_, ?_, ?_, ?_, others, ?_⟩
  all_goals simp [finished]

end Sys2Proof.Machine
end

section
/-! # Interruptions of a core

What taking an interruption at a level whose block is at hand leaves in the block, the core and the machine (R70, Tables
2.15, 2.16), the level of each class and the events that interrupt a core (R71, R209, R382, R395); obligations O24 and
O25. -/

namespace Sys2Proof.Machine
open Sys2Proof.Safety

/-! ## The words of the block (Table 2.15) -/

theorem hiWord_ofNat (x : Nat) : hiWord (BitVec.ofNat 72 x) = BitVec.ofNat 36 (x / 2 ^ 36) := by
  apply BitVec.eq_of_toNat_eq
  simp only [hiWord, BitVec.extractLsb'_toNat, BitVec.toNat_ofNat, Nat.shiftRight_eq_div_pow]
  omega

theorem loWord_ofNat (x : Nat) : loWord (BitVec.ofNat 72 x) = BitVec.ofNat 36 x := by
  apply BitVec.eq_of_toNat_eq
  simp only [loWord, BitVec.extractLsb'_toNat, BitVec.toNat_ofNat, Nat.shiftRight_eq_div_pow]
  omega

/-- The places of a block's save area. -/
def savePlaces (ra : Nat) : List (Nat × Nat) := (List.range 8).map (fun n => (ra + n, 0))

theorem savePlaces_apart (ra : Nat) : ((savePlaces ra).map (·.1)).Nodup := by
  rw [savePlaces, List.map_map]
  exact List.nodup_range.map (fun a b h => Nat.add_left_cancel h)

/-- Words stored one after the other, numbered from `j`, are the words of an operand of as many places. -/
theorem Core.storeWords_numbered (ra : Nat) (ws : List Word) (j : Nat) (k : Core) :
    (ws.zipIdx j).foldl (fun (k : Core) (p : Word × Nat) =>
      k.pushCached (ra + p.2) p.1 (BitVec.ofNat 36 (2 ^ 36 - 1)) 0) k =
      k.storeWords ((List.range' j ws.length).map (fun n => (ra + n, 0))) ws := by
  induction ws generalizing j k with
  | nil => rfl
  | cons w ws ih => exact ih (j + 1) _

/-- The core that has entered a block: the save area stored, SW and IC from the vector. -/
def Core.enter (k : Core) (ra : Nat) (i : Intr) (sw : DWord) (ic : Nat) : Core :=
  { k.storeWords (savePlaces ra) i.words with sw := sw, ic := BitVec.ofNat 48 ic, run := .running }

theorem State.enterBlock_eq (s : State) (c ra : Nat) (i : Intr) (sw : DWord) (ic : Nat) :
    s.enterBlock c ra i sw ic =
      (s.setCore c (((s.core c).enter ra i sw ic).retire (s.core c).checkpoint [lineOf ra])).endReservation c := by
  have stored := Core.storeWords_numbered ra i.words 0 (s.core c)
  unfold State.enterBlock
  dsimp only
  rw [stored]
  rfl

/-- Where no snoop waits for it, a reservation ends in its core alone. -/
theorem State.endReservation_quiet {s : State} {c : Nat} (h : ∀ x, (s.core c).res = some x → x.snooped = false) :
    (s.endReservation c).core c = { s.core c with res := none } ∧ (s.endReservation c).mem = s.mem ∧
      ∀ d, d ≠ c → (s.endReservation c).core d = s.core d := by
  unfold State.endReservation
  split
  next none_held => exact ⟨by rw [← none_held], rfl, fun _ _ => rfl⟩
  next x held =>
    simp only [h x held, Bool.false_eq_true, if_false]
    exact ⟨State.core_modCore_same .., rfl, fun d hd => (s.core_setCore c d _).trans (if_neg hd)⟩

/-! ## Taking it (R70, R348) -/

/-- A state word that the level, the rounding direction and the heritage rule allow is a vector's. -/
theorem vector_allowed {sw : DWord} {lvl ic : Nat} (hl : lvl ≤ swPL sw) (hr : fld sw 66 64 ≤ 4)
    (hh : bit sw 69 = true → 2 ≤ swPL sw ∧ ic < 2 ^ 24) :
    (decide (swPL sw < lvl) || decide (4 < fld sw 66 64) ||
      (bit sw 69 && (decide (swPL sw < 2) || decide (2 ^ 24 ≤ ic)))) = false := by
  have plain : ¬ (bit sw 69 = true ∧ (swPL sw < 2 ∨ 2 ^ 24 ≤ ic)) := by
    rintro ⟨heritage, wrong⟩
    obtain ⟨high, low⟩ := hh heritage
    omega
  rw [Bool.eq_false_iff]
  simp only [ne_eq, Bool.or_eq_true, Bool.and_eq_true, decide_eq_true_eq]
  rintro ((above | rounding) | heritage)
  · omega
  · omega
  · exact plain heritage

/-- An interruption whose block is usable, at hand, and has an allowed vector is taken at its own level. -/
theorem State.take_ready {s : State} {c lvl ra : Nat} (i : Intr) {sw : DWord} {ic : Nat} (hb : s.blockAt c lvl = .ok ra)
    (ready : s.lineReady c (lineOf ra) false = true) (hsw : sw = s.coreWord c (ra + 8) ++ s.coreWord c (ra + 9))
    (hic : ic = fld (s.coreWord c (ra + 10) ++ s.coreWord c (ra + 11)) 47 0) (hl : lvl ≤ swPL sw)
    (hr : fld sw 66 64 ≤ 4) (hh : bit sw 69 = true → 2 ≤ swPL sw ∧ ic < 2 ^ 24) :
    s.take c lvl i = s.enterBlock c ra i sw ic := by
  have calm : s.blockReady c lvl = s := by simp [State.blockReady, hb, ready]
  have allowed := vector_allowed hl hr hh
  subst hsw hic
  simp only [State.take, State.takeAt, calm, hb, ready, allowed, Bool.not_true, Bool.false_eq_true, if_false]

/-- The save area's words are the old SW, the old IC, the code and the class-specific words. -/
theorem Intr.words_eq (i : Intr) :
    i.words = [hiWord i.sw, loWord i.sw, BitVec.ofNat 36 (i.ic % 2 ^ 48 / 2 ^ 36), BitVec.ofNat 36 i.ic,
      hiWord i.code, loWord i.code, BitVec.ofNat 36 (i.info / 2 ^ 36), BitVec.ofNat 36 i.info] := by
  have low : BitVec.ofNat 36 (i.ic % 2 ^ 48) = BitVec.ofNat 36 i.ic := by
    apply BitVec.eq_of_toNat_eq
    simp only [BitVec.toNat_ofNat]
    omega
  simp only [Intr.words, hiWord_ofNat, loWord_ofNat, low]

/-- What the core holds at the boundary behind an entry: registers, reservation and cycle count as before. -/
theorem Core.enter_retired (k : Core) (ra : Nat) (i : Intr) (sw : DWord) (ic : Nat) (ck : Checkpoint)
    (lines : List Nat) :
    let k' := (k.enter ra i sw ic).retire ck lines
    k'.sw = sw ∧ k'.ic = BitVec.ofNat 48 ic ∧ k'.x = k.x ∧ k'.run = .running ∧ k'.res = k.res ∧ k'.cycles = k.cycles ∧
      k'.sb = (k.storeWords (savePlaces ra) i.words).sb := by
  obtain ⟨sb, stored⟩ := k.storeWords_frame (savePlaces ra) i.words
  obtain ⟨_, _, _, _, _, retired⟩ := (k.enter ra i sw ic).retire_frame ck lines
  rw [retired, Core.enter, stored]
  exact ⟨rfl, rfl, rfl, rfl, rfl, rfl, rfl⟩

/-- Loads see what the buffer holds, whatever else the core does. -/
theorem Core.forward_congr {k k' : Core} (h : k.sb = k'.sb) (a : Nat) (w : Word) : k.forward a w = k'.forward a w := by
  rw [Core.forward_eq, Core.forward_eq, h]

theorem Core.forward_savePlaces (k : Core) (ra : Nat) (i : Intr) {n : Nat} (hn : n < 8) (v : Word) :
    (k.storeWords (savePlaces ra) i.words).forward (ra + n) v = wordAt i.words n := by
  have places : (savePlaces ra).length = 8 := by simp [savePlaces]
  have seen := Core.forward_storeWords (savePlaces_apart ra) k (ws := i.words) places (places ▸ hn) v
  rwa [show (savePlaces ra).getD n (0, 0) = (ra + n, 0) by simp [savePlaces, hn]] at seen

/-- Settles O24: the block by the rule of stored words, the core by what is left behind the boundary. -/
theorem interruptionEntry : Obligations.InterruptionEntry := by
  unfold Obligations.InterruptionEntry
  intro s c level ra i k w sw ic code saved hb ready _ quiet hl hr hh t k'
  have taken : t = s.enterBlock c ra i sw ic := State.take_ready i hb ready rfl rfl hl hr hh
  have words : i.words = saved := by simp only [Intr.words_eq, Intr.code, hiWord_ofNat, loWord_ofNat, saved, code]
  obtain ⟨atSW, atIC, atX, atRun, atRes, atCycles, atSb⟩ := k.enter_retired ra i sw ic k.checkpoint [lineOf ra]
  rw [State.enterBlock_eq] at taken
  generalize ((s.core c).enter ra i sw ic).retire (s.core c).checkpoint [lineOf ra] = e at *
  have still : ∀ x, ((s.setCore c e).core c).res = some x → x.snooped = false := by
    rw [State.core_setCore_same, atRes]
    exact quiet
  obtain ⟨own, memory, others⟩ := State.endReservation_quiet still
  rw [← taken] at own memory others
  rw [State.core_setCore_same] at own
  have own : k' = { e with res := none } := own
  have buffer : k'.sb = (k.storeWords (savePlaces ra) i.words).sb := by rw [own, atSb]
  have reads : ∀ a, t.rd a = s.rd a := fun a => congrArg (fun m : Mem => tget m.words 0 a) memory
  refine ⟨by rw [own, atSW], by rw [own, atIC], by rw [own, atX], by rw [own, atRun], by rw [own], by rw [own, atCycles],
    fun n hn => ?saved, reads, fun d hd => ?others⟩
  case saved => rw [Core.forward_congr buffer, Core.forward_savePlaces k ra i hn, words]
  case others => rw [others d hd, State.core_setCore, if_neg hd]

/-! ## Levels and events (R71, R209, R382, R395) -/

/-- A class that Table 2.17 gives no level of its own is taken at the issuing level, of a user at level 2. -/
theorem takenAt_issuing {cls : Nat} (h : cls ∉ [0o06, 0o07, 0o21, 0o22, 0o41]) (pl : Nat) : takenAt cls pl = min pl 2 := by
  simp only [List.mem_cons, List.not_mem_nil, or_false, not_or] at h
  obtain ⟨h6, h7, h21, h22, h41⟩ := h
  simp only [takenAt, beq_iff_eq, Bool.or_eq_true, h6, h7, h21, h22, h41, or_self, if_false]
  split <;> omega

theorem State.external_taken {s : State} {c b : Nat} (takes : s.takes c = true)
    (free : s.cc.acting.any (fun e => e.2 == c) = false) (band : s.bandTaken c = some b) :
    s.external c = s.takeAsync c b 0o30 b 0 := by
  simp [State.external, takes, free, band]

theorem State.external_none {s : State} {c : Nat} (noBand : s.bandTaken c = none) : s.external c = s := by
  simp [State.external, noBand]

/-- Whether a core takes interruptions does not depend on the checks that wait for it. -/
theorem State.takes_withChecks (s : State) (c : Nat) (l : List Check) :
    (s.modCore c (fun k => { k with checks := l })).takes c = s.takes c := by
  unfold State.takes
  rw [State.core_modCore_same]
  rfl

/-- The first check that is let in is taken, and leaves the list once it has been. -/
theorem State.deliverChecks_some {s : State} {c : Nat} {x : Check} (takes : s.takes c = true)
    (next : (s.core c).nextCheck = some x) :
    s.deliverChecks c =
      (let u := s.takeAsync c x.level x.cls x.sub x.info
       if (u.core c).seq = (s.core c).seq then u else u.modCore c (fun k => { k with checks := k.checks.erase x })) := by
  simp only [State.deliverChecks, takes, next, Bool.not_true, Bool.false_eq_true, if_false, bne_iff_ne, ne_eq, ite_not]

/-- A contained check at the level that runs, for the tenant that runs, is let in at once. -/
theorem Core.nextCheck_contained {k : Core} {sub info : Nat} {x : Check}
    (hx : x = { cls := 0o40, level := min k.pl 2, tenant := k.tenant, sub := sub, info := info })
    (only : k.checks = [x]) : k.nextCheck = some x := by
  simp [Core.nextCheck, only, hx]

/-- A contained machine check that finds no other waiting is taken at the level that runs (R395). -/
theorem State.contained_taken {s : State} {c sub info : Nat} (takes : s.takes c = true) (clear : (s.core c).checks = []) :
    let k := s.core c
    let x : Check := { cls := 0o40, level := min k.pl 2, tenant := k.tenant, sub := sub, info := info }
    let w := s.modCore c (fun k => { k with checks := [x] })
    let u := w.takeAsync c (min k.pl 2) 0o40 sub info
    (s.addCheck c { cls := 0o40, level := takenAt 0o40 k.pl, tenant := k.tenant, sub := sub, info := info }).deliverChecks c =
      if (u.core c).seq = (w.core c).seq then u else u.modCore c (fun k => { k with checks := k.checks.erase x }) := by
  intro k x w u
  have added : s.addCheck c { cls := 0o40, level := takenAt 0o40 k.pl, tenant := k.tenant, sub := sub, info := info } = w := by
    rw [takenAt_issuing (by decide)]
    simp only [State.addCheck, State.modCore, clear, List.nil_append, w, x, k]
  have letIn : (w.core c).nextCheck = some x := Core.nextCheck_contained (by rw [State.core_modCore_same]; rfl)
    (by rw [State.core_modCore_same])
  rw [added, State.deliverChecks_some ((s.takes_withChecks c [x]).trans takes) letIn]

/-- An uncontained machine check of a tenant is logged and counted, stops the tenant, and is presented to each of its cores
with a site (R209). -/
theorem State.uncontainedAt_tenant (s : State) {owner : Nat} (h : owner < 512) (sub core site : Nat) :
    s.uncontainedAt owner sub core site =
      (let a := s.logEntry { time := s.tm.tod, forced := false, rail := false, merged := false, squall := false,
                             fenced := false, cls := 2, source := 8 * (site % 104) + 7, count := 1, detail := sub }
       let b := { a with sp := { a.sp with uncontained := a.sp.uncontained + 1 } }
       let d := if (b.tenant owner).st = .active then b.setTenant owner { b.tenant owner with st := .stopped } else b
       let check : Check := { cls := 0o41, level := 1, tenant := owner, sub := sub, info := core * 2 ^ 36 }
       (d.cores.foldl (fun u x =>
         if decide (x.1 < 100) && u.bound x.1 && x.2.ctxValid && x.2.tenant == owner then
           (u.addCheck x.1 check).deliverChecks x.1
         else u) d).decideTenant owner false) := by
  have notSealed : ¬ (owner == 513) = true := by simpa using by omega
  unfold State.uncontainedAt
  rw [if_neg notSealed]
  dsimp only
  rw [if_neg (Nat.not_le.2 h)]
  simp only [beq_iff_eq]

/-- Settles O25: the levels by Table 2.17's classes, an external interruption by the band, a contained check by what lets it
in, an uncontained one by the owner of the line. -/
theorem coreInterruptions : Obligations.CoreInterruptions := by
  unfold Obligations.CoreInterruptions
  refine ⟨fun cls pl hpl => ⟨fun h => ?zero, fun h => ?one, fun h => ?lower, fun h => ?issuing⟩, ?events⟩
  case zero => rcases h with rfl | rfl <;> rfl
  case one => rw [h]; rfl
  case lower => rcases h with rfl | rfl <;> simp [takenAt]
  case issuing =>
    have general : ∀ c ∈ [0o01, 0o02, 0o03, 0o04, 0o05, 0o10, 0o11, 0o12, 0o13, 0o14, 0o20, 0o40],
        c ∉ [0o06, 0o07, 0o21, 0o22, 0o41] := by decide
    exact takenAt_issuing (general cls h) pl
  case events =>
    intro s core sub line info k asyncTo hw
    refine ⟨fun b takes free band => ?band, fun takes noBand => ?idle, fun hs takes clear => ?contained,
      fun hl h1 h5 => ?uncontained⟩
    case band => exact answers_of_runIf_eq rfl hw (State.external_taken takes free band)
    case idle => exact answers_of_runIf_eq rfl hw (State.external_none noBand)
    case contained =>
      exact answers_of_runIf_eq rfl (by simp [hw, hs]) ((if_pos takes).trans (State.contained_taken takes clear))
    case uncontained =>
      have accepted : (wfLine line && wfCore core && decide (1 ≤ sub) && decide (sub ≤ 5)) = true := by
        rw [show wfLine line = true from decide_eq_true hl, hw, decide_eq_true h1, decide_eq_true h5]
        rfl
      intro owner base site a b d hit check
      have located : s.uncontained line sub core = base.uncontainedAt owner sub core (s.siteOfCore core) := by
        simp only [State.uncontained, beq_iff_eq, base, owner]
      refine ⟨fun ht => ?tenant, fun hh => ?host, fun hz => ?sealed⟩
      case tenant =>
        exact answers_of_runIf_eq rfl accepted (located.trans (base.uncontainedAt_tenant ht sub core _))
      case host => exact answers_of_runIf_eq rfl accepted (by rw [located, hh]; rfl)
      case sealed => exact answers_of_runIf_eq rfl accepted (by rw [located, hz]; rfl)

end Sys2Proof.Machine
end

section
/-! # Integer sums, products and quotients

The exact result of each instruction as a number that SG chooses, what R80 refuses to divide, and obligations O7 and O8. -/

namespace Sys2Proof.Machine
open Sys2Proof.Safety

/-! ## Sums and differences (R79) -/

theorem b2n_le_one (b : Bool) : b2n b ≤ 1 := by cases b <;> decide

theorem intAdd_zero (w a b : Nat) :
    intAdd w a b 0 = IntRes.ofSigned w (sint w a + sint w b) (some (decide (2 ^ w ≤ a + b))) := by
  simp only [intAdd, Nat.cast_zero, add_zero]

theorem intSub_zero (w a b : Nat) :
    intSub w a b 0 = IntRes.ofSigned w (sint w a - sint w b) (some (decide (b ≤ a))) := by
  simp only [intSub, Nat.cast_zero, sub_zero, add_zero]

/-- SBB's borrow, the complement of the carry, is a number. -/
theorem intSub_borrow (w a b : Nat) {c : Nat} (hc : c ≤ 1) :
    intSub w a b (1 - c) =
      IntRes.ofSigned w (sint w a - sint w b - (1 - c)) (some (decide (b + (1 - c) ≤ a))) := by
  rw [intSub, Nat.cast_sub hc, Nat.cast_one]

theorem intAbs_eq (w a : Nat) :
    intAbs w a = IntRes.ofSigned w (if sint w a < 0 then -sint w a else sint w a) none := by
  have magnitude : ((sint w a).natAbs : Int) = if sint w a < 0 then -sint w a else sint w a := by
    split <;> omega
  rw [intAbs, magnitude]

section Ends
variable {i : Instr} {s : State} {core : Nat} {ins : Insn} {o : OpCode} {r : Run} {ok : Bool}

/-- A command whose meaning gives an exact signed number delivers it or takes the overflow exception (R78). -/
theorem integerEnds_of_signed {f : Run → Except Stop Eff} {opn w : Nat} {v : Int} {cy : Option Bool}
    (hw : ok = true) (h : Begins s core ins o r) (hx : exec i s = s.runIf ok (s.simple core ins o f))
    (hf : f r = r.integer opn w (IntRes.ofSigned w v cy)) :
    IntegerEnds i s core ins r opn w v (fitsSigned w v) cy (signCC v) :=
  integerEnds_of_simple (x := IntRes.ofSigned w v cy) hw h hx hf rfl rfl (fun _ => rfl)

/-- A command whose meaning raises what nothing can remove is stopped for it. -/
theorem stops_of_meaning {f : Run → Except Stop Eff} {st : Stop} (hw : ok = true) (h : Begins s core ins o r)
    (hx : exec i s = s.runIf ok (s.simple core ins o f)) (hf : f r = .error st) (hs : final st = true) :
    Stops i s core ins r.len st :=
  stops_of_instr hw h hx (by rw [hf]; rfl) hs

end Ends

/-- Settles O7: each operation's exact result is the signed sum or difference of the numbers that its operands stand for. -/
theorem integerSums : Obligations.IntegerSums := by
  unfold Obligations.IntegerSums
  intro s core ins r w a b c A B three two
  refine ⟨fun h => ⟨fun hw => ?add, fun hw => ?sub, fun hw => ?adc, fun hw => ?sbb⟩, fun h => ⟨fun hw => ?neg, fun hw => ?abs⟩⟩
  case add => exact integerEnds_of_signed hw h rfl (congrArg (r.integer 2 w) (intAdd_zero w a b))
  case sub => exact integerEnds_of_signed hw h rfl (congrArg (r.integer 2 w) (intSub_zero w a b))
  case adc => exact integerEnds_of_signed hw h rfl rfl
  case sbb => exact integerEnds_of_signed hw h rfl (congrArg (r.integer 2 w) (intSub_borrow w a b (b2n_le_one _)))
  case neg => exact integerEnds_of_signed hw h rfl rfl
  case abs => exact integerEnds_of_signed hw h rfl (congrArg (r.integer 1 w) (intAbs_eq w a))

/-! ## Numbers and results by SG (R77) -/

/-- The number that an operand of `w` bits stands for. -/
def operandNum (sg : Bool) (w v : Nat) : Int := if sg then sint w v else v

/-- A number fits the result's `w` bits. -/
def fitsBy (sg : Bool) (w : Nat) (v : Int) : Bool := if sg then fitsSigned w v else fitsUnsigned w v

/-- What an operation with this exact result delivers. -/
def IntRes.exact (sg : Bool) (w : Nat) (v : Int) : IntRes :=
  { val := (v % 2 ^ w).toNat, ov := !fitsBy sg w v, cy := none, cc := signCC v }

theorem IntRes.exact_of_fits {sg : Bool} {w : Nat} {v : Int} (fits : fitsBy sg w v = true) :
    IntRes.exact sg w v = { val := (v % 2 ^ w).toNat, ov := false, cy := none, cc := signCC v } := by
  rw [IntRes.exact, fits]
  rfl

theorem intMul_eq (w : Nat) (sg : Bool) (a b : Nat) :
    intMul w sg a b = IntRes.exact sg w (operandNum sg w a * operandNum sg w b) := by
  cases sg with
  | true => rfl
  | false => exact congrArg (IntRes.ofUnsigned w) (Nat.cast_mul a b)

theorem intMulFull_eq (sg : Bool) (a b : Nat) :
    intMulFull sg a b = IntRes.exact sg 72 (operandNum sg 36 a * operandNum sg 36 b) := by
  cases sg with
  | true => rfl
  | false => exact congrArg (IntRes.ofUnsigned 72) (Nat.cast_mul a b)

theorem intDiv_eq (w : Nat) (sg : Bool) (a b : Nat) :
    intDiv w sg a b = IntRes.exact sg w ((operandNum sg w a).tdiv (operandNum sg w b)) := by
  cases sg <;> rfl

theorem intRem_eq (w : Nat) (sg : Bool) (a b : Nat) :
    intRem w sg a b = IntRes.exact sg w ((operandNum sg w a).tmod (operandNum sg w b)) := by
  cases sg <;> rfl

/-- The magnitude of a signed number of `w` bits is at most 2^(w-1). -/
theorem sint_bounds {w v : Nat} (hw : 0 < w) (hv : v < 2 ^ w) :
    -2 ^ (w - 1) ≤ sint w v ∧ sint w v < 2 ^ (w - 1) := by
  have halves : 2 ^ w = 2 * 2 ^ (w - 1) := by rw [← pow_succ', Nat.sub_add_cancel hw]
  have halvesInt : (2 : Int) ^ w = 2 * 2 ^ (w - 1) := by exact_mod_cast halves
  have half : ((2 ^ (w - 1) : Nat) : Int) = 2 ^ (w - 1) := by norm_cast
  unfold sint
  split <;> omega

theorem natAbs_sint_le {w v : Nat} (hw : 0 < w) (hv : v < 2 ^ w) : (sint w v).natAbs ≤ 2 ^ (w - 1) := by
  have half : ((2 ^ (w - 1) : Nat) : Int) = 2 ^ (w - 1) := by norm_cast
  obtain ⟨low, high⟩ := sint_bounds hw hv
  omega

theorem fitsSigned_of_natAbs_lt {w : Nat} {v : Int} (hv : v.natAbs < 2 ^ (w - 1)) : fitsSigned w v = true := by
  have half : ((2 ^ (w - 1) : Nat) : Int) = 2 ^ (w - 1) := by norm_cast
  simp only [fitsSigned, Bool.and_eq_true, decide_eq_true_eq]
  omega

theorem fitsUnsigned_natCast {w n : Nat} (hn : n < 2 ^ w) : fitsUnsigned w n = true := by
  simp only [fitsUnsigned, Bool.and_eq_true, decide_eq_true_eq]
  exact ⟨Int.natCast_nonneg n, by exact_mod_cast hn⟩

/-! ## Products -/

/-- The product of two numbers fits twice their width. -/
theorem fitsBy_product {sg : Bool} {w a b : Nat} (hw : 0 < w) (ha : a < 2 ^ w) (hb : b < 2 ^ w) :
    fitsBy sg (2 * w) (operandNum sg w a * operandNum sg w b) = true := by
  cases sg with
  | true =>
    refine fitsSigned_of_natAbs_lt ?_
    calc (sint w a * sint w b).natAbs = (sint w a).natAbs * (sint w b).natAbs := Int.natAbs_mul _ _
      _ ≤ 2 ^ (w - 1) * 2 ^ (w - 1) := Nat.mul_le_mul (natAbs_sint_le hw ha) (natAbs_sint_le hw hb)
      _ = 2 ^ (w - 1 + (w - 1)) := (pow_add ..).symm
      _ < 2 ^ (2 * w - 1) := Nat.pow_lt_pow_right (by decide) (by omega)
  | false =>
    have product : operandNum false w a * operandNum false w b = (a * b : Nat) := (Nat.cast_mul a b).symm
    have room : a * b < 2 ^ (2 * w) := by
      rw [two_mul, pow_add]
      exact Nat.mul_lt_mul'' ha hb
    rw [product]
    exact fitsUnsigned_natCast room

/-! ## Quotients (R80) -/

/-- The most negative number divided by -1, the one quotient of signed numbers that does not fit. -/
def MostByMinusOne (sg : Bool) (w a b : Nat) : Prop :=
  sg = true ∧ operandNum sg w a = -(2 ^ (w - 1)) ∧ operandNum sg w b = -1

/-- A division of words of `w` bits takes the Divide exception for what R80 refuses, and is `good` for everything else. -/
def DivideEnds (i : Instr) (s : State) (core : Nat) (ins : Insn) (r : Run) (w : Nat) (good : Prop) : Prop :=
  let divisor := operandNum (hdrSG r.hdr) w (r.val 1)
  let most := MostByMinusOne (hdrSG r.hdr) w (r.val 0) (r.val 1)
  (divisor = 0 → Stops i s core ins r.len (Stop.mk' 0o11 1 0)) ∧
  (most → Stops i s core ins r.len (Stop.mk' 0o11 2 0)) ∧
  (divisor ≠ 0 → ¬ most → good)

theorem sint_eq_zero {w v : Nat} (hv : v < 2 ^ w) : sint w v = 0 ↔ v = 0 := by
  have whole : ((2 ^ w : Nat) : Int) = 2 ^ w := by norm_cast
  have half : 0 < 2 ^ (w - 1) := Nat.two_pow_pos _
  unfold sint
  split <;> omega

theorem operandNum_eq_zero {sg : Bool} {w v : Nat} (hv : v < 2 ^ w) : operandNum sg w v = 0 ↔ v = 0 := by
  cases sg with
  | true => exact sint_eq_zero hv
  | false => exact Int.natCast_eq_zero

theorem sint_eq_most {w v : Nat} (hw : 0 < w) : sint w v = -(2 ^ (w - 1)) ↔ v = 2 ^ (w - 1) := by
  have halves : (2 : Int) ^ w = 2 * 2 ^ (w - 1) := by rw [← pow_succ', Nat.sub_add_cancel hw]
  have half : ((2 ^ (w - 1) : Nat) : Int) = 2 ^ (w - 1) := by norm_cast
  have pos : 0 < 2 ^ (w - 1) := Nat.two_pow_pos _
  unfold sint
  split <;> omega

theorem sint_eq_neg_one {w v : Nat} (hw : 0 < w) : sint w v = -1 ↔ v = 2 ^ w - 1 := by
  have halves : 2 ^ w = 2 * 2 ^ (w - 1) := by rw [← pow_succ', Nat.sub_add_cancel hw]
  have whole : ((2 ^ w : Nat) : Int) = 2 ^ w := by norm_cast
  have pos : 0 < 2 ^ (w - 1) := Nat.two_pow_pos _
  unfold sint
  split <;> omega

theorem mostByMinusOne_iff {sg : Bool} {w a b : Nat} (hw : 0 < w) :
    MostByMinusOne sg w a b ↔ (sg && a == 2 ^ (w - 1) && b == 2 ^ w - 1) = true := by
  cases sg with
  | true => simp [MostByMinusOne, operandNum, sint_eq_most hw, sint_eq_neg_one hw]
  | false => simp [MostByMinusOne]

theorem divFault_zero {sg : Bool} {w a b : Nat} (hb : b < 2 ^ w) (zero : operandNum sg w b = 0) :
    divFault w sg a b = some 1 :=
  if_pos ((operandNum_eq_zero hb).1 zero)

theorem divFault_most {sg : Bool} {w a b : Nat} (hw : 0 < w) (most : MostByMinusOne sg w a b) :
    divFault w sg a b = some 2 := by
  have nonzero : b ≠ 0 := by
    rintro rfl
    obtain ⟨rfl, -, minusOne⟩ := most
    rw [operandNum, if_pos rfl, sint_zero] at minusOne
    cases minusOne
  rw [divFault, if_neg nonzero, if_pos ((mostByMinusOne_iff hw).1 most)]

theorem divFault_none {sg : Bool} {w a b : Nat} (hw : 0 < w) (hb : b < 2 ^ w) (nonzero : operandNum sg w b ≠ 0)
    (notMost : ¬ MostByMinusOne sg w a b) : divFault w sg a b = none := by
  rw [divFault, if_neg (mt (operandNum_eq_zero hb).2 nonzero), if_neg (mt (mostByMinusOne_iff hw).2 notMost)]

/-- A quotient of signed numbers is no larger than the dividend; it reaches 2^(w-1) by a divisor of 1 or -1 alone. -/
theorem fitsSigned_tdiv {w : Nat} {x y : Int} (low : -2 ^ (w - 1) ≤ x) (high : x < 2 ^ (w - 1))
    (notMost : ¬ (x = -(2 ^ (w - 1)) ∧ y = -1)) : fitsSigned w (x.tdiv y) = true := by
  have half : ((2 ^ (w - 1) : Nat) : Int) = 2 ^ (w - 1) := by norm_cast
  have pos : 0 < 2 ^ (w - 1) := Nat.two_pow_pos _
  by_cases one : y = 1
  · subst one
    simp [fitsSigned, low, high]
  by_cases minusOne : y = -1
  · subst minusOne
    simp only [fitsSigned, Int.tdiv_neg, Int.tdiv_one, Bool.and_eq_true, decide_eq_true_eq]
    omega
  · refine fitsSigned_of_natAbs_lt ?_
    rw [show (x.tdiv y).natAbs = x.natAbs / y.natAbs from Int.natAbs_tdiv x y]
    by_cases zero : y.natAbs = 0
    · rwa [zero, Nat.div_zero]
    · have halved : x.natAbs / y.natAbs ≤ x.natAbs / 2 := Nat.div_le_div_left (by omega) (by decide)
      omega

theorem fitsBy_tdiv {sg : Bool} {w a b : Nat} (hw : 0 < w) (ha : a < 2 ^ w) (notMost : ¬ MostByMinusOne sg w a b) :
    fitsBy sg w ((operandNum sg w a).tdiv (operandNum sg w b)) = true := by
  cases sg with
  | true =>
    obtain ⟨low, high⟩ := sint_bounds hw ha
    exact fitsSigned_tdiv low high (fun most => notMost ⟨rfl, most⟩)
  | false => exact fitsUnsigned_natCast (lt_of_le_of_lt (Nat.div_le_self a b) ha)

/-- A remainder is smaller than the divisor. -/
theorem fitsBy_tmod {sg : Bool} {w a b : Nat} (hw : 0 < w) (hb : b < 2 ^ w) (nonzero : operandNum sg w b ≠ 0) :
    fitsBy sg w ((operandNum sg w a).tmod (operandNum sg w b)) = true := by
  cases sg with
  | true =>
    refine fitsSigned_of_natAbs_lt (lt_of_lt_of_le ?_ (natAbs_sint_le hw hb))
    rw [Int.natAbs_tmod]
    exact Nat.mod_lt _ (Int.natAbs_pos.2 nonzero)
  | false =>
    exact fitsUnsigned_natCast ((Nat.mod_lt a (Nat.pos_of_ne_zero (mt (operandNum_eq_zero hb).2 nonzero))).trans hb)

section Ends
variable {i : Instr} {s : State} {core : Nat} {ins : Insn} {o : OpCode} {r : Run} {ok : Bool}

/-- A command whose meaning checks for what R80 refuses, and then ends as its quotient says. -/
theorem divideEnds_of_simple {f : Run → Except Stop Eff} {w : Nat} {good : Prop} (hw : ok = true)
    (h : Begins s core ins o r) (hx : exec i s = s.runIf ok (s.simple core ins o f)) (pos : 0 < w) (hb : r.val 1 < 2 ^ w)
    (faults : ∀ sub, divFault w (hdrSG r.hdr) (r.val 0) (r.val 1) = some sub → f r = .error (Stop.mk' 0o11 sub 0))
    (gives : operandNum (hdrSG r.hdr) w (r.val 1) ≠ 0 → ¬ MostByMinusOne (hdrSG r.hdr) w (r.val 0) (r.val 1) →
      divFault w (hdrSG r.hdr) (r.val 0) (r.val 1) = none → good) : DivideEnds i s core ins r w good :=
  ⟨fun zero => stops_of_meaning hw h hx (faults 1 (divFault_zero hb zero)) rfl,
    fun most => stops_of_meaning hw h hx (faults 2 (divFault_most pos most)) rfl,
    fun nonzero notMost => gives nonzero notMost (divFault_none pos hb nonzero notMost)⟩

/-- A command whose meaning gives an exact number by SG delivers it or takes the overflow exception (R78). -/
theorem integerEnds_of_exact {f : Run → Except Stop Eff} {opn w : Nat} {sg : Bool} {v : Int} (hw : ok = true)
    (h : Begins s core ins o r) (hx : exec i s = s.runIf ok (s.simple core ins o f))
    (hf : f r = r.integer opn w (IntRes.exact sg w v)) :
    IntegerEnds i s core ins r opn w v (fitsBy sg w v) none (signCC v) :=
  integerEnds_of_simple (x := IntRes.exact sg w v) hw h hx hf rfl rfl (fun _ => rfl)

/-- A command whose meaning gives an exact number that fits delivers it without overflow. -/
theorem plainEnds_of_exact {f : Run → Except Stop Eff} {opn w : Nat} {sg : Bool} {v : Int} (hw : ok = true)
    (h : Begins s core ins o r) (hx : exec i s = s.runIf ok (s.simple core ins o f))
    (fits : fitsBy sg w v = true) (hf : f r = r.integer opn w (IntRes.exact sg w v)) :
    PlainEnds i s core r opn (v % 2 ^ w).toNat (signCC v) :=
  plainEnds_of_simple hw h hx (hf.trans (congrArg (r.integer opn w) (IntRes.exact_of_fits fits)))

/-- DIV and REM, whose exact result fits the operands' width where R80 does not refuse it. -/
theorem divideEnds_of_intDivide {opc : Nat} {f : Nat → Bool → Nat → Nat → IntRes} {v : Int}
    (hw : wfIns core ins opc = true) (h : Begins s core ins (opABC ins.hdr true) r)
    (hx : exec i s = s.intDivide core ins opc f) (hb : r.val 1 < 2 ^ r.width)
    (result : f r.width (hdrSG r.hdr) (r.val 0) (r.val 1) = IntRes.exact (hdrSG r.hdr) r.width v)
    (fits : operandNum (hdrSG r.hdr) r.width (r.val 1) ≠ 0 →
      ¬ MostByMinusOne (hdrSG r.hdr) r.width (r.val 0) (r.val 1) → fitsBy (hdrSG r.hdr) r.width v = true) :
    DivideEnds i s core ins r r.width (PlainEnds i s core r 2 (v % 2 ^ r.width).toNat (signCC v)) := by
  refine divideEnds_of_simple hw h hx r.width_pos hb (fun sub fault => by simp only [fault])
    (fun nonzero notMost sound => ?_)
  exact plainEnds_of_exact hw h hx (fits nonzero notMost) (by simp only [sound, result])

end Ends

/-- Settles O8: a product or quotient is the exact result by SG; MLF's, DIV's and REM's fit once R80's cases are out. -/
theorem integerProductsAndQuotients : Obligations.IntegerProductsAndQuotients := by
  unfold Obligations.IntegerProductsAndQuotients
  refine ⟨fun s core ins r => ⟨fun h hw => ?mul, fun h hw ha hb => ?mlf⟩,
    fun s core ins r => ⟨fun h => ⟨fun hw ha hb => ?div, fun hw ha hb => ?rem⟩, fun h hw ha hb => ?dvr⟩⟩
  case mul => exact integerEnds_of_exact hw h rfl (congrArg (r.integer 2 r.width) (intMul_eq ..))
  case mlf =>
    exact plainEnds_of_exact hw h rfl (fitsBy_product (w := 36) (by decide) ha hb)
      (congrArg (r.integer 2 72) (intMulFull_eq ..))
  case div => exact divideEnds_of_intDivide hw h rfl hb (intDiv_eq ..) (fun _ notMost => fitsBy_tdiv r.width_pos ha notMost)
  case rem => exact divideEnds_of_intDivide hw h rfl hb (intRem_eq ..) (fun nonzero _ => fitsBy_tmod r.width_pos hb nonzero)
  case dvr =>
    refine divideEnds_of_simple hw h rfl (by decide) hb (fun sub fault => by simp only [fault]) (fun _ _ sound => ?_)
    refine delivers_of_simple hw h rfl ?_
    simp only [sound, intDiv_eq, intRem_eq]
    rfl

end Sys2Proof.Machine
end

section
/-! # Decimal instructions

What the sources of a decimal command give, how a command ends whose meaning gives a decimal result, and obligation O11. -/

namespace Sys2Proof.Machine
open Sys2Proof.Safety

/-! ## Decimal sources (R86) -/

/-- The Decimal data exception for an invalid code at a position of an operand. -/
def decDataStop (opn code p : Nat) : Stop :=
  .exc { cls := 0o12, sub := code, opn := opn, vaddr := 0, info := p / 9 * 2 ^ 36 + p % 9 }

theorem decSource_valid {opn l v : Nat} (valid : decBad l v = none) : decSource opn l v = .ok (decValue l v) := by
  simp only [decSource, valid]

theorem decSource_invalid {l v code p : Nat} (opn : Nat) (bad : decBad l v = some (code, p)) :
    decSource opn l v = .error (decDataStop opn code p) := by
  simp only [decSource, bad, decDataStop]

/-- Two valid sources give their numbers. -/
theorem Run.decAB_valid {r : Run} (validA : decBad (len1 r.hdr) (r.val 0) = none)
    (validB : decBad (len2 r.hdr) (r.val 1) = none) :
    r.decAB = .ok (decValue (len1 r.hdr) (r.val 0), decValue (len2 r.hdr) (r.val 1)) := by
  simp only [Run.decAB, decSource_valid validA, decSource_valid validB, Except.map]

/-- An invalid code in A is found first, whatever B holds. -/
theorem Run.decAB_invalid_first {r : Run} {code p : Nat} (bad : decBad (len1 r.hdr) (r.val 0) = some (code, p)) :
    r.decAB = .error (decDataStop 1 code p) := by
  simp only [Run.decAB, decSource_invalid 1 bad]

/-- Past a valid A, an invalid code in B is found. -/
theorem Run.decAB_invalid_second {r : Run} {code p : Nat} (validA : decBad (len1 r.hdr) (r.val 0) = none)
    (bad : decBad (len2 r.hdr) (r.val 1) = some (code, p)) : r.decAB = .error (decDataStop 2 code p) := by
  simp only [Run.decAB, decSource_valid validA, decSource_invalid 2 bad, Except.map]

/-! ## Decimal results (R87) -/

/-- SW after a decimal result: DOF for lost digits, and CC with CS. -/
def decSW (r : Run) (big : Bool) (v : Int) : DWord :=
  let sw := if big then setBit r.sw 59 true else r.sw
  if hdrCS r.hdr then setFld sw 63 62 (if big then 3 else signCC v) else sw

/-- Digits are lost to operand B of `l` words. -/
def decBig (l : Nat) (v : Int) : Bool := decide (9 * l - 1 < decLength v)

theorem Run.decimal_delivers {r : Run} {l : Nat} {v : Int} (more : List (Nat × Nat))
    (free : decBig l v = false ∨ swDE r.sw = false) :
    r.decimal l v more = .ok (r.eff ((1, decWrite l v) :: more) (decSW r (decBig l v) v)) := by
  have untrapped : (decBig l v && swDE r.sw) = false := Bool.and_eq_false_iff.2 free
  exact if_neg (ne_true_of_eq_false untrapped)

theorem Run.decimal_overflows {r : Run} {l : Nat} {v : Int} (more : List (Nat × Nat)) (big : decBig l v = true)
    (enabled : swDE r.sw = true) :
    r.decimal l v more = .error (.exc { cls := 0o13, sub := 0, opn := 0, vaddr := 0, info := decLength v }) :=
  if_pos (Bool.and_eq_true_iff.2 ⟨big, enabled⟩)

section Ends
variable {i : Instr} {s : State} {core : Nat} {ins : Insn} {o : OpCode} {r : Run} {ok : Bool}

/-- A command whose meaning gives a decimal result delivers it or takes the Decimal overflow exception (R87). -/
theorem decimalEnds_of_simple {f : Run → Except Stop Eff} {l : Nat} {v : Int} {more : List (Nat × Nat)}
    (hw : ok = true) (h : Begins s core ins o r) (hx : exec i s = s.runIf ok (s.simple core ins o f))
    (hf : f r = r.decimal l v more) : DecimalEnds i s core ins r l v more :=
  ⟨fun free => delivers_of_simple hw h hx (hf.trans (Run.decimal_delivers more free)),
    fun big enabled => stops_of_meaning hw h hx (hf.trans (Run.decimal_overflows more big enabled)) rfl⟩

/-- DAD, DSB and DMU on valid sources. -/
theorem decimalEnds_of_decArith {opc : Nat} {f : Int → Int → Int} (hw : wfIns core ins opc = true)
    (h : Begins s core ins (opDec ins.hdr true true true [srcOp (len1 ins.hdr), modOp (len2 ins.hdr)]) r)
    (hx : exec i s = s.decArith core ins opc f) (validA : decBad (len1 r.hdr) (r.val 0) = none)
    (validB : decBad (len2 r.hdr) (r.val 1) = none) :
    DecimalEnds i s core ins r (len2 r.hdr)
      (f (decValue (len2 r.hdr) (r.val 1)) (decValue (len1 r.hdr) (r.val 0))) [] :=
  decimalEnds_of_simple hw h hx (by simp only [Run.decAB_valid validA validB])

/-- DAD, DSB and DMU on an invalid source. -/
theorem stops_of_decArith {opc : Nat} {f : Int → Int → Int} {opn code p : Nat} (hw : wfIns core ins opc = true)
    (h : Begins s core ins (opDec ins.hdr true true true [srcOp (len1 ins.hdr), modOp (len2 ins.hdr)]) r)
    (hx : exec i s = s.decArith core ins opc f) (bad : r.decAB = .error (decDataStop opn code p)) :
    Stops i s core ins r.len (decDataStop opn code p) :=
  stops_of_meaning hw h hx (by simp only [bad]) rfl

end Ends

/-- Settles O11: valid sources give their numbers, whose exact result R87 stores; an invalid one stops the command before
anything else is looked at. -/
theorem decimalInstructions : Obligations.DecimalInstructions := by
  unfold Obligations.DecimalInstructions
  refine ⟨fun s core ins r => ⟨fun h validA validB => ⟨fun hw => ?dad, fun hw => ?dsb, fun hw => ?dmu⟩,
      fun h validA validB hw => ⟨fun nonzero => ?ddv, fun zero => ?ddvZero⟩, fun h validA validB hw => ?dcp,
      fun h valid hw => ?dmv, fun h valid hw => ?dsr, fun h valid hw => ?cdb, fun h hw => ?cbd,
      fun h hw => ⟨fun valid => ?dts, fun invalid => ?dtsInvalid⟩⟩,
    fun s core ins r code p h => ⟨fun first => ?badA, fun validA second => ?badB⟩⟩
  case dad => exact decimalEnds_of_decArith hw h rfl validA validB
  case dsb => exact decimalEnds_of_decArith hw h rfl validA validB
  case dmu => exact decimalEnds_of_decArith hw h rfl validA validB
  case ddv => exact decimalEnds_of_simple hw h rfl (by simp only [Run.decAB_valid validA validB, if_neg nonzero])
  case ddvZero =>
    exact stops_of_meaning hw h rfl (st := Stop.mk' 0o11 1 0)
      (by simp only [Run.decAB_valid validA validB, if_pos zero]) rfl
  case dcp =>
    rw [signCC_sub]
    exact delivers_of_simple hw h rfl (by rw [Run.decAB_valid validA validB]; rfl)
  case dmv => exact decimalEnds_of_simple hw h rfl (by simp only [decSource_valid valid])
  case dsr => exact decimalEnds_of_simple hw h rfl (by simp only [decSource_valid valid])
  case cdb => exact integerEnds_of_signed hw h rfl (by simp only [decSource_valid valid])
  case cbd => exact decimalEnds_of_simple hw h rfl rfl
  case dts => exact delivers_of_simple hw h rfl (by simp only [valid]; rfl)
  case dtsInvalid =>
    obtain ⟨place, invalid⟩ := Option.ne_none_iff_exists'.1 invalid
    exact delivers_of_simple hw h rfl (by simp only [invalid]; rfl)
  case badA =>
    have found := Run.decAB_invalid_first first
    exact ⟨fun hw => stops_of_decArith hw h rfl found, fun hw => stops_of_decArith hw h rfl found,
      fun hw => stops_of_decArith hw h rfl found⟩
  case badB =>
    have found := Run.decAB_invalid_second validA second
    exact ⟨fun hw => stops_of_decArith hw h rfl found, fun hw => stops_of_decArith hw h rfl found,
      fun hw => stops_of_decArith hw h rfl found⟩

end Sys2Proof.Machine
end

section
/-! # Floating instructions

How a command ends whose meaning gives a floating result, the decimal integer of FTD, and obligation O12. -/

namespace Sys2Proof.Machine
open Sys2Proof.Safety

/-! ## Floating results (R76, Table 3.1) -/

theorem floatTrap_none {sw : DWord} {flags : Nat} (info : Nat) (free : flags &&& swFE sw = 0) :
    floatTrap sw flags info = none :=
  if_pos free

theorem floatTrap_some {sw : DWord} {flags : Nat} (info : Nat) (enabled : flags &&& swFE sw ≠ 0) :
    floatTrap sw flags info =
      some (.exc { cls := 0o14, sub := (flags &&& swFE sw) + flags * 32, opn := 0, vaddr := 0, info := info }) :=
  if_neg enabled

/-- Some of the raised conditions are trapped only where one of all of them is. -/
theorem floatTrap_none_land {sw : DWord} {flags : Nat} (info part : Nat) (free : flags &&& swFE sw = 0) :
    floatTrap sw (flags &&& part) info = none :=
  floatTrap_none info (by rw [Nat.and_assoc, Nat.and_comm part, ← Nat.and_assoc, free, Nat.zero_and])

/-- A word lies in word 6, a longer result in words 6 and 7. -/
theorem resultInfo_words (n v : Nat) : resultInfo (36 * n) v = if n = 1 then v * 2 ^ 36 else v := by
  have oneWord : 36 * n = 36 ↔ n = 1 := by omega
  simp only [resultInfo, beq_iff_eq, oneWord]

section Ends
variable {i : Instr} {s : State} {core : Nat} {ins : Insn} {o : OpCode} {r : Run} {ok : Bool}

/-- A command whose meaning gives a floating result delivers it or takes the Floating exception (R76). -/
theorem floatEnds_of_simple {f : Run → Except Stop Eff} {opn n : Nat} {x : FRes} (hw : ok = true)
    (h : Begins s core ins o r) (hx : exec i s = s.runIf ok (s.simple core ins o f)) (hf : f r = r.floating opn n x) :
    FloatEnds i s core ins r opn n x := by
  refine ⟨fun free => ?delivered, fun enabled => ?trapped⟩
  case delivered =>
    exact delivers_of_simple hw h hx (by rw [hf, Run.floating, floatTrap_none _ free]; rfl)
  case trapped =>
    refine stops_of_meaning hw h hx ?_ rfl
    rw [hf, Run.floating, floatTrap_some _ enabled, resultInfo_words]

end Ends

/-- The decimal integer of FTD that fits its operand, where nothing that it raises is trapped. -/
theorem ftd_delivers {s : State} {core : Nat} {ins : Insn} {r : Run} (hw : wfIns core ins 0o3023 = true)
    (h : Begins s core ins { opFloat ins.hdr true false false [srcOp (dwWords ins.hdr), dstOp (len2 ins.hdr)] with
      lenOk := decLenOk ins.hdr false true } r)
    {v : Int} {flags : Nat} (result : (fmtOf (hdrDW r.hdr)).toDecimal r.rm (r.val 0) = (v, flags))
    (free : flags &&& swFE r.sw = 0) (fits : decLength v ≤ 9 * len2 r.hdr - 1) :
    Delivers (.ftd core ins) s core r [(1, decWrite (len2 r.hdr) v)]
      (let sw := addFF (decSW r false v) flags
       if flags = fV then setCCIf sw (hdrCS r.hdr) 3 else sw) r.nextIC := by
  have kept : decBig (len2 r.hdr) v = false := decide_eq_false (Nat.not_lt.2 fits)
  have digits := Run.decimal_delivers (r := r) [] (.inl kept)
  rw [kept] at digits
  refine delivers_of_simple hw h rfl ?_
  simp only [result, floatTrap_none_land 0 fV free, floatTrap_none 0 free, digits, Run.eff, beq_iff_eq]

/-- Settles O12: the arithmetic and the conversions deliver the operation's own result; FCP and FTD by what they raise. -/
theorem floatingInstructions : Obligations.FloatingInstructions := by
  unfold Obligations.FloatingInstructions
  refine ⟨fun s core ins r => ⟨fun h => ⟨fun hw => ?fad, fun hw => ?fsb, fun hw => ?fmu, fun hw => ?fdv⟩,
      fun h => ⟨fun hw => ?fsq, fun hw => ?fri⟩, fun h hw => ?fma, fun h hw => ?fcv, fun h hw => ?fci, fun h hw => ?ffi,
      fun h hw => ?ftx, fun h hw field => ?ffx, fun h hw valid => ?ffd⟩,
    fun s core ins r => ⟨fun h hw free => ?fcp, fun h hw free fits => ?ftd⟩⟩
  case fad => exact floatEnds_of_simple hw h rfl rfl
  case fsb => exact floatEnds_of_simple hw h rfl rfl
  case fmu => exact floatEnds_of_simple hw h rfl rfl
  case fdv => exact floatEnds_of_simple hw h rfl rfl
  case fsq => exact floatEnds_of_simple hw h rfl rfl
  case fri => exact floatEnds_of_simple hw h rfl rfl
  case fma => exact floatEnds_of_simple hw h rfl rfl
  case fcv => exact floatEnds_of_simple hw h rfl rfl
  case fci => exact floatEnds_of_simple hw h rfl rfl
  case ffi => exact floatEnds_of_simple hw h rfl rfl
  case ftx => exact floatEnds_of_simple hw h rfl rfl
  case ffx => exact floatEnds_of_simple hw h rfl (if_neg (Nat.not_le.2 field))
  case ffd => exact floatEnds_of_simple hw h rfl (by simp only [decSource_valid valid])
  case fcp => exact delivers_of_simple hw h rfl (by simp only [floatTrap_none 0 free]; rfl)
  case ftd => exact ftd_delivers hw h rfl free fits

end Sys2Proof.Machine
end

section
/-! # Reserved pairs, caches and translations

Instructions behind the older accesses of their core (R121, R123, R132), a step of DISABLE (R133, R134), and obligations
O16 and O19. -/

namespace Sys2Proof.Machine
open Sys2Proof.Safety

/-! ## Behind the older accesses -/

section Ends
variable {i : Instr} {s t : State} {core : Nat} {ins : Insn} {r : Run} {ok : Bool}

/-- What waits for the older accesses executes on the machine in which they have been performed. -/
theorem State.drained_of_drains (hd : Drains s core t) (go : State → State) : s.drained core go = go t := by
  obtain ⟨goes, drained⟩ := hd
  simp [State.drained, goes, drained]

/-- A command whose instruction begins once the older accesses are performed completes with the state that its meaning
gives. -/
theorem completes_of_drained {o : OpCode} {f : Run → Except Stop State} {u : State} (hw : ok = true)
    (hd : Drains s core t) (h : Begins t core ins o r)
    (hx : exec i s = s.runIf ok (s.drained core (fun s => s.instr core ins o f))) (hf : f r = .ok u) :
    Completes i s core u := fun room =>
  answers_of_runIf_eq hx hw (by rw [State.drained_of_drains hd, instr_of_begins h hf room])

/-! ## Reserved pairs (R118) -/

/-- A core holds a reservation of a line that counts when its L2 is ENABLED and its reservation is of that line. -/
theorem Core.reserves_iff (k : Core) (line : Nat) :
    k.reserves line = true ↔ k.l2 = .enabled ∧ ∃ x, k.res = some x ∧ x.line = line := by
  unfold Core.reserves
  cases k.res <;> simp

/-- LDR of a line that the core owns delivers its value and leaves a new reservation. -/
theorem Run.loadReserved_owned {u : State} (owned : r.s.ownLine r.c (r.lineOfOp 0) = (u, true)) :
    r.loadReserved =
      (({ r with s := u.endReservation r.c } : Run).finish (r.eff [(1, r.val 0)] r.sw)).modCore r.c
        (fun k => { k with res := some { line := r.lineOfOp 0, deferring := true, snooped := false } }) := by
  simp only [Run.loadReserved, owned, if_true]

/-- STC without the reservation stores nothing. -/
theorem Run.storeConditional_unreserved (h : r.start.reserves (r.lineOfOp 1) = false) :
    r.storeConditional = (r.finish (r.eff [] (setFld r.sw 63 62 1))).endReservation r.c := by
  simp only [Run.storeConditional, h, Bool.false_eq_true, if_false]

/-- STC with the reservation stores in the line that it owns, and its store is performed. -/
theorem Run.storeConditional_reserved {u : State} (h : r.start.reserves (r.lineOfOp 1) = true)
    (owned : r.s.takeLine r.c (r.lineOfOp 1) none = (u, true)) :
    r.storeConditional =
      ((({ r with s := u } : Run).finish (r.eff [(1, r.val 0)] (setFld r.sw 63 62 0))).drainCore r.c).1.endReservation
        r.c := by
  simp only [Run.storeConditional, h, owned, if_true]

/-! ## CACHE CONTROL (R132-R137) -/

/-- An action whose caches serve no other core completes when its step is the last, and else holds them. -/
theorem cct_ends {act : State → CacheId → Nat → Except Stop (State × Bool)} {n : Nat} {disable : Bool}
    {a : State × Bool} (hw : ok = true) (hd : Drains s core t) (h : Begins t core ins (opCct ins.hdr) r)
    (named : cctTarget r.s (cacheId (varOf r.hdr)) (r.val 0) = some n)
    (idle : r.s.cacheBusy core (r.s.covered (cacheId (varOf r.hdr)) n disable) = false)
    (hx : exec i s = s.runIf ok (s.cct core ins disable act)) (ha : act r.s (cacheId (varOf r.hdr)) n = .ok a) :
    (a.2 = true → Completes i s core ((({ r with s := a.1 } : Run).finish (r.eff [] r.sw)).cacheFree core)) ∧
    (a.2 = false → Completes i s core (a.1.cacheServes core (r.s.covered (cacheId (varOf r.hdr)) n disable))) := by
  obtain rfl := begins_c h
  refine ⟨fun last => ?_, fun more => ?_⟩
  · exact completes_of_drained hw hd h hx (by simp [named, idle, ha, Except.map, last])
  · exact completes_of_drained hw hd h hx (by simp [named, idle, ha, Except.map, more])

theorem State.l3_setL3_same (s : State) (t : Nat) (v : CacheState) : tget (s.setL3 t v).cc.l3 .enabled t = v :=
  tget_tput_same ..

theorem cacheState_cacheEnable (s : State) (i : CacheId) (n : Nat) : cacheState (s.cacheEnable i n) i n = .enabled := by
  cases i <;> simp [cacheState, State.cacheEnable, State.l3_setL3_same]

/-- The step that completes DISABLE leaves the cache DISABLED. -/
theorem cacheState_disableStep_last {i : CacheId} {n : Nat} (last : (s.disableStep i n).2 = true) :
    cacheState (s.disableStep i n).1 i n = .disabled := by
  cases i with
  | l1i =>
    cases h : (s.core n).l1i <;> simp [State.disableStep, h, cacheState] at last ⊢
  | l1d =>
    cases h : (s.core n).l1d <;> simp [State.disableStep, h, cacheState] at last ⊢
  | l2 =>
    cases h : (s.core n).l2 with
    | enabled => simp [State.disableStep, h] at last
    | disabling =>
      simp only [State.disableStep, h] at last ⊢
      split at last
      next l1sLeft => cases last
      next l1sDone => simp [l1sDone, cacheState, State.l2Walked]
    | disabled => simp [State.disableStep, h, cacheState]
  | l3 =>
    cases h : s.l3 n with
    | enabled => simp [State.disableStep, h] at last
    | disabling =>
      simp only [State.disableStep, h] at last ⊢
      split at last
      next l1sLeft => cases last
      next l1sDone =>
        split at last
        next l2sLeft => cases last
        next l2sDone =>
          split at last
          next empty => simp [l1sDone, l2sDone, empty, cacheState, State.l3_setL3_same]
          next linesLeft => cases last
    | disabled =>
      simp only [State.disableStep, h]
      exact h

/-- The first step of DISABLE leaves an ENABLED cache DISABLING. -/
theorem cacheState_disableStep_first {i : CacheId} {n : Nat} (enabled : cacheState s i n = .enabled) :
    (s.disableStep i n).2 = false ∧ cacheState (s.disableStep i n).1 i n = .disabling := by
  cases i with
  | l1i =>
    have found : (s.core n).l1i = .enabled := enabled
    simp [State.disableStep, found, cacheState]
  | l1d =>
    have found : (s.core n).l1d = .enabled := enabled
    simp [State.disableStep, found, cacheState]
  | l2 =>
    have found : (s.core n).l2 = .enabled := enabled
    simp [State.disableStep, found, cacheState, State.l2Begins, CacheState.begins]
  | l3 =>
    have found : s.l3 n = .enabled := enabled
    simp [State.disableStep, found, cacheState, State.l3_setL3_same]

/-- The walk of an L2 ends its locks (R130). -/
theorem locks_disableStep_l2 {n : Nat} (walking : cacheState s .l2 n = .disabling)
    (last : (s.disableStep .l2 n).2 = true) : ((s.disableStep .l2 n).1.core n).locks = [] := by
  have found : (s.core n).l2 = .disabling := walking
  simp only [State.disableStep, found] at last ⊢
  split at last
  next l1sLeft => cases last
  next l1sDone => simp [l1sDone, State.l2Walked]

/-! ## LINE MAINTENANCE (R138-R140) -/

/-- A variant of the store buffer completes with its entry in the buffer. -/
theorem lnmStore_completes {nd : Need} {kind : SbKind} {ws : List (Nat × Word)} {line : Nat} (hw : ok = true)
    (h : Begins s core ins (opLnm ins.hdr) r) (hx : exec i s = s.runIf ok (s.lnmStore core ins nd kind ws))
    (placed : r.lnmLine nd false = .ok line) :
    Completes i s core (r.lnmDone (r.s.modCore r.c (fun k => k.pushAlone kind line false (r.target 0) ws))) :=
  completes_of_instr hw h hx (by rw [placed]; rfl)

/-- A variant performed as a load completes with what it does to its line. -/
theorem lnmLoad_completes {nd : Need} {preload : Bool} {f : Run → Nat → Except Stop State} {line : Nat} {u : State}
    (hw : ok = true) (h : Begins s core ins (opLnm ins.hdr) r)
    (hx : exec i s = s.runIf ok (s.lnmLoad core ins nd preload f)) (placed : r.lnmLine nd preload = .ok line)
    (hf : f r line = .ok u) : Completes i s core (r.lnmDone u) :=
  completes_of_instr hw h hx (by simp only [placed, hf]; rfl)

/-- PRELOAD OWNED completes with the line owned and in the core's caches. -/
theorem preloadOwned_completes {line : Nat} {u v : State} (hw : wfVar core ins 0o6002 8 4 = true)
    (h : Begins s core ins (opLnm ins.hdr) r) (placed : r.lnmLine Need.store true = .ok line)
    (owned : r.s.ownLine r.c line = (u, true)) (filled : u.useLoads r.c false [line] = .ok v) :
    Completes (.preloadOwned core ins) s core (r.lnmDone v) :=
  completes_of_instr hw h rfl (by simp [placed, owned, filled])

/-- PRELOAD AND LOCK completes with the line locked, in an ENABLED L2 whose set has a way to lock (R129). -/
theorem preloadAndLock_completes {line : Nat} {u : State} (hw : wfVar core ins 0o6002 8 5 = true)
    (h : Begins s core ins (opLnm ins.hdr) r) (placed : r.lnmLine Need.load true = .ok line)
    (enabled : (r.s.core core).l2 = .enabled)
    (room : (r.s.core core).locked line = true ∨ (r.s.core core).locksInSet line < 12)
    (filled : r.preloadL2 line = .ok u) :
    Completes (.preloadAndLock core ins) s core (r.lnmDone (u.modCore core (fun k => k.lockLine line))) := by
  obtain rfl := begins_c h
  have lockable : ((r.s.core r.c).l2 != .enabled ||
      (!(r.s.core r.c).locked line && decide (12 ≤ (r.s.core r.c).locksInSet line))) = false := by
    rcases room with held | few
    · simp [enabled, held]
    · simp [enabled, Nat.not_le.2 few]
  exact lnmLoad_completes hw h rfl placed (by simp only [lockable, filled]; rfl)

theorem Core.lockLine_locked {k : Core} {line : Nat} (h : k.locked line = true) : k.lockLine line = k := by
  simp only [Core.lockLine, h, if_true]

theorem Core.lockLine_held {k : Core} {line : Nat} {x : CLine} (h : k.locked line = false)
    (held : k.tags2.lines.find? (fun x => x.line == line) = some x) :
    k.lockLine line = { k with locks := k.locks ++ [(line, x.way)] } := by
  simp only [Core.lockLine, h, held, Bool.false_eq_true, if_false]

/-! ## PURGE TRANSLATION (R353) -/

/-- A purge whose tenants hold no translations completes without the cached translations of its scope. -/
theorem ptl_completes {held : State → Core → Bool} (drop : Run → TcEntry → Bool) {scope : TcEntry → Bool}
    (hw : ok = true) (h : Begins s core ins (opPtl ins.hdr) r) (hx : exec i s = s.runIf ok (s.ptl core ins held drop))
    (free : held r.s r.start = false) (hs : drop r = scope) :
    let d := r.finish { writes := [], sw := r.sw, ic := r.nextIC }
    Completes i s core { d with tc := d.tc.filter (fun e => !scope e) } := by
  subst hs
  exact completes_of_instr hw h hx (by simp only [free, Bool.false_eq_true, if_false]; rfl)

/-- The regime of a level (Table 11.8), by its number. -/
theorem Core.regime_eq (k : Core) :
    k.regime = if k.pl = 0 then 1024 else if k.pl = 1 then 1025 else k.tenant := by
  simp only [Core.regime, beq_iff_eq]

end Ends

/-- Settles O16: each instruction by whether the core holds the reservation, with the line owned. -/
theorem reservedPair : Obligations.ReservedPair := by
  unfold Obligations.ReservedPair
  refine fun s core ins r u => ⟨fun hw h owned => ?ldr, fun line => Core.reserves_iff _ line,
    fun t hw hd h => ⟨fun lost => ?unreserved, fun holds owned => ?reserved⟩⟩
  case ldr =>
    obtain rfl := begins_c h
    exact completes_of_instr hw h rfl (congrArg Except.ok (Run.loadReserved_owned owned))
  case unreserved =>
    obtain rfl := begins_c h
    exact completes_of_drained hw hd h rfl (congrArg Except.ok (Run.storeConditional_unreserved lost))
  case reserved =>
    obtain rfl := begins_c h
    exact completes_of_drained hw hd h rfl (congrArg Except.ok (Run.storeConditional_reserved holds owned))

/-- Settles O19: BAR and CACHE CONTROL behind the older accesses, LINE MAINTENANCE by its entry or its line, PURGE
TRANSLATION by its scope. -/
theorem cachesAndTranslations : Obligations.CachesAndTranslations := by
  unfold Obligations.CachesAndTranslations
  refine ⟨?control, ?maintenance, ?purge⟩
  case control =>
    intro s t core ins r n hd i done idle ends
    refine ⟨fun hw h => completes_of_drained hw hd h rfl rfl, fun h named => ⟨fun hw free next => ?enable,
      fun hw free => ?disable, fun hw free => cct_ends hw hd h named free rfl rfl,
      fun hw free => cct_ends hw hd h named free rfl rfl⟩⟩
    case enable =>
      have enabled := cct_ends (i := .enable core ins) (a := (r.s.cacheEnable i n, true)) hw hd h named free rfl
        (by simp [i, next])
      exact ⟨enabled.1 rfl, cacheState_cacheEnable r.s i n⟩
    case disable =>
      refine ⟨cct_ends hw hd h named free rfl rfl, cacheState_disableStep_last, cacheState_disableStep_first, ?_⟩
      intro second
      rw [second]
      exact locks_disableStep_l2
  case maintenance =>
    intro s core ins r line u v h k buffered
    refine ⟨fun hw placed => lnmStore_completes hw h rfl placed, fun hw placed => lnmStore_completes hw h rfl placed,
      fun hw placed => lnmStore_completes hw h rfl placed,
      fun hw placed filled => lnmLoad_completes hw h rfl placed filled,
      fun hw placed owned filled => preloadOwned_completes hw h placed owned filled,
      fun hw placed _ enabled room filled => preloadAndLock_completes hw h placed enabled room filled,
      Core.lockLine_locked, fun x => Core.lockLine_held,
      fun hw placed => lnmLoad_completes hw h rfl placed rfl, fun hw => completes_of_instr hw h rfl rfl⟩
  case purge =>
    intro s core ins r h t mine page free drops
    have level : mine = r.start.regime := (Core.regime_eq r.start).symm
    refine ⟨fun hw => ?page1, fun hw => ?all1, fun hw none => ?page2, fun hw none => ?tenant, fun hw none => ?module⟩
    case page1 =>
      exact ptl_completes (fun r e => !e.stage2 && e.regime == r.start.regime && e.covers (r.target 0 / 4096))
        (held := noneHeld) hw h rfl rfl (by rw [← level]; rfl)
    case all1 =>
      exact ptl_completes (fun r e => !e.stage2 && e.regime == r.start.regime) (held := noneHeld) hw h rfl rfl
        (by rw [← level])
    case page2 =>
      exact ptl_completes (fun r e => e.stage2 && e.regime == r.start.tenant && e.covers (r.val 0 % 2 ^ 48 / 4096))
        (held := fun s k => s.holdsTranslations k.tenant) hw h rfl none rfl
    case tenant =>
      exact ptl_completes (fun r e => e.regime == r.start.tenant) (held := fun s k => s.holdsTranslations k.tenant) hw h
        rfl none rfl
    case module =>
      exact ptl_completes (fun _ e => e.regime != 1024) (held := fun s _ => (List.range 512).any s.holdsTranslations) hw h
        rfl (by simpa [free] using none) rfl

end Sys2Proof.Machine
end

section
/-! # The store buffer's events

A replay from an exposed load (R108, R110), the end of a deferral window (R120), and obligations O27 and O28. O28 fails:
the line that a store is performed in is filled into the core's L2, and in a set without an eligible way that fill
replays the core (R111), which frees entries behind the one performed. -/

namespace Sys2Proof.Machine
open Sys2Proof.Safety

/-! ## Deferral windows (R120) -/

section Windows
variable {s : State} {c : Nat}

theorem State.shutWindow_unreserved (h : (s.core c).res = none) : s.shutWindow c = s := by
  simp only [State.shutWindow, h]

theorem State.shutWindow_quiet {r : Reservation} (h : (s.core c).res = some r) (opened : r.deferring = true)
    (quiet : r.snooped = false) :
    s.shutWindow c = s.modCore c (fun k => { k with res := some { r with deferring := false } }) := by
  simp [State.shutWindow, h, opened, quiet]

/-- A window that puts off a snoop ends with the reservation, and the snoop is answered. -/
theorem State.shutWindow_snooped {r : Reservation} (h : (s.core c).res = some r) (opened : r.deferring = true)
    (snooped : r.snooped = true) :
    s.shutWindow c = ((s.modCore c (fun k => { k with res := none })).releaseHeld (s.tileOf c) r.line).pump := by
  simp only [State.shutWindow, h, opened, snooped, Bool.not_true, Bool.false_eq_true, if_false, if_true,
    State.endReservation]
  rfl

end Windows

/-! ## Replays (R108, R110) -/

/-- A core has gone back to the checkpoint of an exposed load: the load's instruction and every later one have left neither
loads nor buffered stores. -/
def Core.BackAt (k : Core) (e : Exposed) : Prop :=
  k.x = e.ck.x ∧ k.sw = e.ck.sw ∧ k.ic = e.ck.ic ∧ k.seq = e.seq ∧ k.run = .running ∧
    (∀ b ∈ k.sb, ∀ w ∈ b.words, w.seq < e.seq) ∧ ∀ x ∈ k.exposed, x.seq < e.seq

/-- A replay goes back to the first exposed load that the test picks. -/
theorem Core.replayWhere_backAt {k : Core} {p : Nat → Bool} {e : Exposed}
    (h : k.exposed.find? (fun e => p e.line) = some e) : (k.replayWhere p).BackAt e := by
  unfold Core.replayWhere
  rw [h]
  refine ⟨rfl, rfl, rfl, rfl, rfl, fun b hb w hw => ?stores, fun x hx => ?loads⟩
  case stores =>
    obtain ⟨older, _, rfl⟩ := List.mem_map.1 (List.mem_filter.1 hb).1
    exact of_decide_eq_true (List.mem_filter.1 hw).2
  case loads => exact of_decide_eq_true (List.mem_filter.1 hx).2

/-- Besides the replay, an invalidation changes a core's reservation and caches alone. -/
theorem Core.invalidated_backAt {k : Core} {p : Nat → Bool} {e : Exposed}
    (h : k.exposed.find? (fun e => p e.line) = some e) : (k.invalidated p).BackAt e :=
  Core.replayWhere_backAt h

/-- No reservation of an invalidated line is left (Table 4.4). -/
theorem Core.invalidated_res {k : Core} {p : Nat → Bool} {x : Reservation} (h : (k.invalidated p).res = some x) :
    p x.line = false := by
  unfold Core.invalidated at h
  dsimp only at h
  split at h
  · cases h
  next kept => simpa [h] using kept

/-- Settles O27: each event by what the core's reservation and exposed loads make of it. -/
theorem storeBufferEvents : Obligations.StoreBufferEvents := by
  unfold Obligations.StoreBufferEvents
  intro s core line hc hl k
  have named : (wfCore core && wfLine line) = true := by rw [hc, wfLine, decide_eq_true hl]; rfl
  refine ⟨answers_of_runIf_eq rfl hc rfl, fun h => ?unreserved, fun r h opened quiet => ?quiet,
    fun r h opened snooped => ?snooped, fun h => ?untouched, fun e h => ?replayed⟩
  case unreserved => exact answers_of_runIf_eq rfl hc (State.shutWindow_unreserved h)
  case quiet => exact answers_of_runIf_eq rfl hc (State.shutWindow_quiet h opened quiet)
  case snooped => exact answers_of_runIf_eq rfl hc (State.shutWindow_snooped h opened snooped)
  case untouched => exact answers_of_runIf_eq rfl named (if_neg (Bool.eq_false_iff.1 h))
  case replayed =>
    intro t k'
    have hit : k.exposed.any (fun e => e.line == line) = true :=
      List.any_eq_true.2 ⟨e, List.mem_of_find?_eq_some h, List.find?_some (p := fun e : Exposed => e.line == line) h⟩
    have own : k' = k.invalidated (· == line) := State.core_setCore_same ..
    obtain ⟨hx, hsw, hic, hseq, hrun, stores, loads⟩ : k'.BackAt e := own ▸ Core.invalidated_backAt h
    refine ⟨answers_of_runIf_eq rfl named (if_pos hit), hx, hsw, hic, hseq, hrun, stores, loads, fun x held => ?_⟩
    rw [own] at held
    exact ne_of_beq_false (Core.invalidated_res held)

/-! ## A store performed in a full set (R111) -/

/-- A store of one word to a line, by the instruction of a number. -/
def storeTo (seq line : Nat) : SbEntry :=
  { kind := .cached, addr := line, wide := false, level := 0, vaddr := 16 * line,
    words := [{ off := 0, val := 1, mask := BitVec.allOnes 36, seq := seq }] }

/-- A core whose L2 has set 0 full, each of its 16 lines held by the exposed load of one of the instructions 3 to 18. The
stores of instructions 1, 2 and 19 are buffered, the oldest to another line of that set. -/
def crowdedCore : Core :=
  { Core.init with
    seq := 20
    sb := [storeTo 1 0, storeTo 2 1, storeTo 19 2]
    exposed := (List.range 16).map (fun i => { line := 1024 * (i + 1), seq := i + 3, ck := Checkpoint.init })
    tags2 := { lines := (List.range 16).map (fun i => { line := 1024 * (i + 1), way := i, dirty := false }), tree := [] } }

/-- A machine whose core 0 is that core, in a tile that owns each of the lines. -/
def crowded : State :=
  let held (n : Nat) : Nat × TileLine :=
    (tileKey 0 (1024 * n), { st := .e, way := 0, age := n, tag := 0, waiter := none, keep := false })
  let s := State.reset.setCore 0 crowdedCore
  { s with dy := { s.dy with tiles := (List.range 17).map held } }

/-- Its oldest store can be performed at once: no load gates it, the tile owns its line, and no core defers. -/
theorem crowded_ready :
    MemoryWf crowded ∧ (crowded.core 0).sb = [storeTo 1 0, storeTo 2 1, storeTo 19 2] ∧
      (storeTo 1 0).words.all (fun w => !(crowded.core 0).gated w.seq) = true ∧
      crowded.storeBypass 0 0 = false ∧ crowded.lineReady 0 0 true = true ∧ crowded.deferring 0 0 = [] := by
  unfold MemoryWf
  decide +kernel

/-- Performing it finds no eligible way, so the core replays from instruction 3, and the store of instruction 19 leaves the
buffer with it. -/
theorem crowded_replayed : ((crowded.performOldest 0).1.core 0).sb = [storeTo 2 1] := by
  decide +kernel

/-- Refutes O28: the store's own fill of a full L2 set replays the core (R111), which frees a younger entry as well; the
statement keeps every entry behind the one performed. -/
theorem not_performedStoreFrame : ¬ Obligations.PerformedStoreFrame := by
  unfold Obligations.PerformedStoreFrame
  intro h
  obtain ⟨canonical, buffer, free, here, owned, alone⟩ := crowded_ready
  obtain ⟨_, kept, _⟩ :=
    h crowded 0 (storeTo 1 0) [storeTo 2 1, storeTo 19 2] 0 canonical buffer rfl rfl free here owned alone
  rw [crowded_replayed] at kept
  exact absurd kept (by decide)

end Sys2Proof.Machine
end

section
/-! # Coherence messages, and Table 5.8 at the home

Where a message goes that a row brings (R143, R149, R175), what sending one leaves alone, the home's action for each
request and state of its entry (R155-R160, R162-R164), its answers (R157), and obligation O48. -/

namespace Sys2Proof.Machine
open Sys2Proof.Safety

/-! ## Where a message goes -/

@[simp] theorem homeAgent_div (m : Nat) : homeAgent m / 64 = m := by unfold homeAgent; omega

@[simp] theorem homeAgent_mod (m : Nat) : homeAgent m % 64 = 63 := by unfold homeAgent; omega

/-- The machine with other links. Taking a message's flits from its link changes nothing else. -/
def State.withLinks (s : State) (l : Tab Link) : State := { s with dy := { s.dy with links := l } }

/-- A message for an agent of this module lands with what that agent does to it, whatever its links are. -/
theorem lands_of_receive {i : Instr} {s : State} {m : Msg} {f : FlitHead} {act : State → State} {ok : Bool}
    (hx : exec i s = s.runIf ok (s.receive m f)) (hw : ok = true) (here : m.dst / 64 = s.dy.modnum)
    (acts : ∀ l, (s.withLinks l).handleMsg m = act (s.withLinks l)) : Lands i s m f act := by
  refine ⟨fun own => ?own, fun other => ?other⟩
  case own =>
    refine answers_of_runIf_eq hx hw ?_
    have met : s.handleMsg m = act s := acts s.dy.links
    simp [State.receive, own, met]
  case other =>
    refine answers_of_runIf_eq hx hw ?_
    have met : (arrived s m f).handleMsg m = act (arrived s m f) := acts _
    have came : s.receive m f = ((arrived s m f).handleMsg m).pump.serviceLink f.link := by
      simp [State.receive, arrived, other, here]
    rw [came, met]

/-- A message of another module for a third one is carried on by its link. -/
theorem State.receive_relayed {s : State} {m : Msg} (f : FlitHead) (other : m.src / 64 ≠ s.dy.modnum)
    (third : m.dst / 64 ≠ s.dy.modnum) :
    s.receive m f =
      (let u := s.flitsIn f (poolOf true m) m.flits
       let k := linkTo s.dy.modnum (m.dst / 64)
       ((u.setLink k { u.link k with forward := (u.link k).forward ++ [m] }).transmit k).serviceLink f.link) := by
  simp only [State.receive, beq_false_of_ne other, beq_false_of_ne third, Bool.not_false, Bool.true_or,
    Bool.false_eq_true, if_false]
  rfl

/-! ## What sending a message leaves alone -/

@[simp] theorem State.setLink_entries (s : State) (k : Nat) (l : Link) :
    (s.setLink k l).dy.entries = s.dy.entries := rfl

@[simp] theorem State.sendFlit_entries (s : State) (k : Nat) (b : FlitBody) :
    (s.sendFlit k b).dy.entries = s.dy.entries := rfl

@[simp] theorem State.sendOn_entries (s : State) (k pool : Nat) (m : Msg) :
    (s.sendOn k pool m).dy.entries = s.dy.entries :=
  foldl_unchanged (fun s : State => s.dy.entries) (fun s b => State.sendFlit_entries s k b) _ _

@[simp] theorem State.transmitN_entries (n k : Nat) (s : State) :
    (State.transmitN n k s).dy.entries = s.dy.entries := by
  induction n generalizing s with
  | zero => rfl
  | succ n ih =>
    unfold State.transmitN
    dsimp only
    repeat' split
    all_goals simp [ih]

@[simp] theorem State.sendMsg_entries (s : State) (m : Msg) : (s.sendMsg m).dy.entries = s.dy.entries := by
  unfold State.sendMsg
  split
  · rfl
  · simp [State.transmit]

/-- What the home sends changes no entry. -/
@[simp] theorem State.homeSays_dir (s : State) (w : DirWait) (dst type aux : Nat) (words : List Word) (poisoned : Bool)
    (line : Nat) : (s.homeSays w dst type aux words poisoned).dir line = s.dir line := by
  simp [State.dir, State.homeSays]

@[simp] theorem State.wrWords_dy (s : State) (ra : Nat) (ws : List Word) : (s.wrWords ra ws).dy = s.dy := by
  induction ws generalizing s ra with
  | nil => rfl
  | cons w r ih => exact ih (s.wr ra w) (ra + 1)

@[simp] theorem State.wrWords_dir (s : State) (ra line : Nat) (ws : List Word) :
    (s.wrWords ra ws).dir line = s.dir line := by
  simp [State.dir]

/-! ## Taking a request up (R155, R162) -/

section Requests
variable {s : State} {w : DirWait} {e : DirEntry}

theorem State.request_here (home : lineHome w.line = s.dy.modnum) :
    s.request w = if s.lineWaits w.line then s.enqueue w else s.takeRequest w := by
  simp [State.request, home]

theorem State.takeRequest_absent (h : s.dir w.line = none) : s.takeRequest w = s.serve w := by
  simp [State.takeRequest, h]

/-- An entry that reads without error is acted on, which takes one free value. -/
theorem State.takeRequest_sound (h : s.dir w.line = some e) (sound : Config.entryError s.fresh w.line = 0) :
    s.takeRequest w = s.tick.2.serve w := by
  simp [State.takeRequest, h, State.tick, sound]

/-- An entry that cannot be corrected is recalled from everywhere, and the request goes on waiting. -/
theorem State.takeRequest_uncorrectable (h : s.dir w.line = some e) (bad : 2 ≤ Config.entryError s.fresh w.line) :
    s.takeRequest w =
      (let v := { s.tick.2 with dy := { s.tick.2.dy with entryErrors := sat36 (s.dy.entryErrors + 1) } }
       (v.broadcastRecall w.line e).requeue w) := by
  obtain ⟨n, hn⟩ : ∃ n, Config.entryError s.fresh w.line = n + 2 := ⟨_, (Nat.sub_add_cancel bad).symm⟩
  simp [State.takeRequest, h, State.tick, hn]

/-! ## A line without an entry (Table 5.8, INVALID; R159, R160) -/

theorem State.serve_absent_read (h : s.dir w.line = none) (req : w.req = .readNoAllocate) :
    s.serve w = s.dataTo w 4 := by
  simp [State.serve, h, req]

theorem State.serve_absent_masked {ws mask : List Word} (h : s.dir w.line = none) (req : w.req = .masked ws mask) :
    s.serve w = s.mergeMasked w ws mask := by
  simp [State.serve, h, req]

/-- Requests after which the requester holds the line. -/
def DirReq.Allocates (r : DirReq) : Prop := r = .readShared ∨ r = .readOwn ∨ r = .upgrade

theorem State.serve_absent_allocates (h : s.dir w.line = none) (req : w.req.Allocates) : s.serve w = s.newEntry w := by
  rcases req with req | req | req <;> simp [State.serve, h, req]

theorem State.newEntry_poisoned (poison : s.poisoned w.line = true) :
    s.newEntry w = (s.dataTo w 4).unrefuse w.src w.line := by
  simp [State.newEntry, poison]

theorem State.newEntry_way {n : Nat} (clean : s.poisoned w.line = false) (free : s.allocateWay w.src w.line = .way n) :
    s.newEntry w = (((s.own w.src w.line n).touch w.line).dataTo w (soleGrant w.src)).unrefuse w.src w.line := by
  simp [State.newEntry, clean, free]

theorem State.newEntry_victim {v : Nat} (clean : s.poisoned w.line = false)
    (full : s.allocateWay w.src w.line = .victim v) (h : s.dir v = some e) :
    s.newEntry w = (s.recall v e).requeue { w with behind := some v } := by
  simp [State.newEntry, clean, full, h]

/-- A request that finds no way is counted, stands among the waiters, and is refused. -/
theorem State.newEntry_nak (clean : s.poisoned w.line = false) (noWay : s.allocateWay w.src w.line = .nak) :
    ∃ v : State, s.newEntry w = v.homeSays w w.src 17 0 [] false ∧ v.dy.naks = sat36 (s.dy.naks + 1) ∧
      v.dy.refused.any (fun x => x.src == w.src && x.line == w.line) = true := by
  simp only [State.newEntry, clean, noWay, Bool.false_eq_true, if_false]
  refine ⟨_, rfl, ?_⟩
  by_cases waits : s.dy.refused.any (fun x => x.src == w.src && x.line == w.line) = true
  · rw [if_pos waits]
    exact ⟨rfl, waits⟩
  · rw [if_neg waits]
    exact ⟨rfl, by simp⟩

/-! ## A line with an entry (Table 5.8) -/

/-- The home when it acts on an entry: the line is the youngest of its set, the requester not among the waiters. -/
def State.takenUp (s : State) (w : DirWait) : State := (s.touch w.line).unrefuse w.src w.line

/-- The holders other than the requester. -/
def DirEntry.others (e : DirEntry) (src : Nat) : List Nat := e.holders.filter (· != src)

section Held
variable (h : s.dir w.line = some e) (held : e.ioh = true)
include h held

theorem State.serve_held_allocates (req : w.req.Allocates) :
    s.serve w = (s.takenUp w).openTx w e .busy 10 e.holders [] e.holders := by
  rcases req with req | req | req <;> simp [State.serve, h, held, req, State.takenUp]

theorem State.serve_held_read (req : w.req = .readNoAllocate) :
    s.serve w = (s.takenUp w).openTx w e .busy 10 [] [] e.holders := by
  simp [State.serve, h, held, req, State.takenUp]

theorem State.serve_held_masked {ws mask : List Word} (req : w.req = .masked ws mask) :
    s.serve w = (s.takenUp w).openTx w e .busy 10 [] [] e.holders := by
  simp [State.serve, h, held, req, State.takenUp]

end Held

section Shared
variable (h : s.dir w.line = some e) (loose : e.ioh = false) (shared : e.st = .shared)
include h loose shared

theorem State.serve_shared_reader (req : w.req = .readShared) (clean : (s.takenUp w).poisoned w.line = false) :
    s.serve w = ((s.takenUp w).setDir w.line { e with holders := e.others w.src ++ [w.src] }).dataTo w 0 := by
  unfold State.takenUp at clean
  simp [State.serve, h, loose, shared, req, clean, State.takenUp, DirEntry.others]

theorem State.serve_shared_owner_alone (req : w.req = .readOwn) (clean : (s.takenUp w).poisoned w.line = false)
    (alone : e.others w.src = []) :
    s.serve w = ((s.takenUp w).own w.src w.line e.way).dataTo w (soleGrant w.src) := by
  unfold State.takenUp at clean
  unfold DirEntry.others at alone
  simp only [State.serve, h, loose, shared, req, alone, State.ownWithData, clean, State.takenUp]
  simp

theorem State.serve_shared_owner (req : w.req = .readOwn ∨ w.req = .upgrade) (more : e.others w.src ≠ []) :
    s.serve w = (s.takenUp w).openTx w e .busy 8 (e.others w.src) (e.others w.src) [] := by
  have notAlone : (e.holders.filter (· != w.src)).isEmpty = false := by simpa [DirEntry.others] using more
  rcases req with req | req <;>
    simp only [State.serve, h, loose, shared, req, notAlone, State.takenUp, DirEntry.others] <;> simp

theorem State.serve_shared_upgrade_alone (req : w.req = .upgrade) (alone : e.others w.src = [])
    (holds : w.src ∈ e.holders) :
    s.serve w = ((s.takenUp w).own w.src w.line e.way).homeSays w w.src 18 0 [] false := by
  unfold DirEntry.others at alone
  simp only [State.serve, h, loose, shared, req, alone, State.takenUp]
  simp [holds]

theorem State.serve_shared_read (req : w.req = .readNoAllocate) : s.serve w = (s.takenUp w).dataTo w 4 := by
  simp [State.serve, h, loose, shared, req, State.takenUp]

theorem State.serve_shared_masked {ws mask : List Word} (req : w.req = .masked ws mask) (holds : e.holders ≠ []) :
    s.serve w = (s.takenUp w).openTx w e .busy 8 e.holders e.holders [] := by
  simp [State.serve, h, loose, shared, req, holds, State.takenUp]

end Shared

/-- The snoop that an owner is sent for a request. -/
def DirReq.ownerSnoop : DirReq → Nat
  | .readShared => 9
  | .readNoAllocate => 11
  | _ => 10

theorem State.serve_owned (h : s.dir w.line = some e) (loose : e.ioh = false) (owned : e.st = .owned)
    (more : e.others w.src ≠ []) :
    s.serve w = (s.takenUp w).openTx w e .busy w.req.ownerSnoop e.holders e.holders [] := by
  have notAlone : (e.holders.filter (· != w.src)).isEmpty = false := by simpa [DirEntry.others] using more
  cases req : w.req <;>
    simp only [State.serve, h, loose, owned, req, notAlone, State.takenUp, DirReq.ownerSnoop] <;> rfl

end Requests

/-! ## Answers at the home (R157) -/

section Answers
variable {s : State} {m : Msg} {e : DirEntry} {x : DirTx}

/-- A write-back's data, if any, is in memory, and its sender has been acknowledged. -/
def State.writtenBack (s : State) (m : Msg) : State :=
  let put := if m.words.isEmpty then s else s.wrWords (m.line * 16) ((List.range 16).map (wordAt m.words))
  put.homeSays { req := .recall, src := m.src, tag := m.tag, line := m.line, behind := none } m.src 16 0 [] false

@[simp] theorem State.writtenBack_dir (s : State) (m : Msg) (line : Nat) : (s.writtenBack m).dir line = s.dir line := by
  unfold State.writtenBack
  split <;> simp

/-- After a write-back has been stored and acknowledged, the line's entry decides what remains to be done. -/
theorem State.writeBackAt_entry (home : lineHome m.line = s.dy.modnum) :
    s.writeBackAt m =
      (match s.dir m.line with
       | none => s.writtenBack m
       | some e =>
         let left := e.others m.src
         match e.tx with
         | none => if left.isEmpty then ((s.writtenBack m).dropDir m.line).drainHome
                   else (s.writtenBack m).setDir m.line { e with holders := left }
         | some x =>
           let wb := if x.wbWait.contains m.src then x.wbWait.filter (· != m.src)
                     else if x.awaits.contains m.src then x.wbWait ++ [early m.src] else x.wbWait
           ((s.writtenBack m).setDir m.line { e with holders := left, tx := some { x with wbWait := wb } }).tryClose
             m.line) := by
  rw [← s.writtenBack_dir m m.line]
  unfold State.writeBackAt
  rw [if_neg (by simpa using home)]
  rfl

theorem State.writeBackAt_absent (home : lineHome m.line = s.dy.modnum) (h : s.dir m.line = none) :
    s.writeBackAt m = s.writtenBack m := by
  rw [State.writeBackAt_entry home, h]

theorem State.writeBackAt_holdersLeft (home : lineHome m.line = s.dy.modnum) (h : s.dir m.line = some e)
    (closed : e.tx = none) (left : e.others m.src ≠ []) :
    s.writeBackAt m = (s.writtenBack m).setDir m.line { e with holders := e.others m.src } := by
  simp [State.writeBackAt_entry home, h, closed, left]

theorem State.writeBackAt_lastHolder (home : lineHome m.line = s.dy.modnum) (h : s.dir m.line = some e)
    (closed : e.tx = none) (last : e.others m.src = []) :
    s.writeBackAt m = ((s.writtenBack m).dropDir m.line).drainHome := by
  simp [State.writeBackAt_entry home, h, closed, last]

/-- An open transaction that waits for the write-back waits for it no longer. -/
theorem State.writeBackAt_awaited (home : lineHome m.line = s.dy.modnum) (h : s.dir m.line = some e)
    (opened : e.tx = some x) (waits : m.src ∈ x.wbWait) :
    s.writeBackAt m =
      ((s.writtenBack m).setDir m.line
        { e with holders := e.others m.src, tx := some { x with wbWait := x.wbWait.filter (· != m.src) } }).tryClose
        m.line := by
  simp [State.writeBackAt_entry home, h, opened, waits]

theorem State.ackHome_unawaited (no : s.awaited m.src m.line = false) : s.ackHome m = s := by
  simp [State.ackHome, no]

theorem State.dataHome_unawaited (no : s.awaited m.src m.line = false) : s.dataHome m = s := by
  simp [State.dataHome, no]

section Awaited
variable (h : s.dir m.line = some e) (opened : e.tx = some x)
include h opened

theorem State.awaited_of_mem (waits : m.src ∈ x.awaits) : s.awaited m.src m.line = true := by
  simp [State.awaited, h, opened, waits]

theorem State.modTx_open (f : DirTx → DirTx) :
    s.modTx m.line f = s.setDir m.line { e with tx := some (f x) } := by
  simp [State.modTx, h, opened]

/-- An acknowledge without WBF is one answer less to wait for. -/
theorem State.ackHome_plain (waits : m.src ∈ x.awaits) (noWbf : m.aux / 32 % 2 = 0) :
    s.ackHome m =
      (s.setDir m.line { e with tx := some { x with awaits := x.awaits.filter (· != m.src) } }).tryClose m.line := by
  simp [State.ackHome, State.awaited_of_mem h opened waits, State.modTx_open h opened, noWbf]

/-- An acknowledge with WBF replaces the answer by the write-back to wait for. -/
theorem State.ackHome_wbf (waits : m.src ∈ x.awaits) (wbf : m.aux / 32 % 2 = 1) (first : x.wbWait = []) :
    s.ackHome m =
      (s.setDir m.line
        { e with tx := some { x with awaits := x.awaits.filter (· != m.src),
                                     wbWait := [m.src] } }).tryClose m.line := by
  simp [State.ackHome, State.awaited_of_mem h opened waits, State.modTx_open h opened, wbf, first]

/-- The first data that comes in is kept for the transaction's end. -/
theorem State.dataHome_first (waits : m.src ∈ x.awaits) (first : x.got = none) :
    s.dataHome m =
      (s.setDir m.line
        { e with tx := some { x with awaits := x.awaits.filter (· != m.src),
                                     got := some (m.words, m.aux / 256 % 2 == 1) } }).tryClose m.line := by
  simp [State.dataHome, State.awaited_of_mem h opened waits, State.modTx_open h opened, first]

end Awaited

end Answers

/-! ## Rows for the home -/

theorem wfLine_of_lt {line : Nat} (hl : line < 2 ^ 36) : wfLine line = true := decide_eq_true hl

theorem wfMsg_and_line {e : MsgEnd} {line : Nat} (he : wfMsg e = true) (hl : line < 2 ^ 36) :
    (wfMsg e && wfLine line) = true := by
  rw [he, wfLine_of_lt hl]
  rfl

/-- A row that brings a request: its message, and the request that it carries. -/
structure BringsRequest (s : State) (e : MsgEnd) (line : Nat) (r : Instr × Msg × DirReq) : Prop where
  run : exec r.1 s = s.runIf true (s.receive r.2.1 e.head.flit)
  request : r.2.1.request = some r.2.2
  dst : r.2.1.dst = homeAgent (lineHome line)
  src : r.2.1.src = e.agent
  tag : r.2.1.tag = e.head.tag
  line : r.2.1.line = line

/-- The rows of the five requests, with their messages (Table 5.5). -/
def requestRows (e : MsgEnd) (line : Nat) (ws mask : List Word) : List (Instr × Msg × DirReq) :=
  let msg (type : Nat) (w k : List Word) : Msg := rowMsg e type e.agent (homeAgent (lineHome line)) line 0 w k
  [(.readShared e line, msg 1 [] [], .readShared), (.readOwn e line, msg 2 [] [], .readOwn),
   (.upgrade e line, msg 3 [] [], .upgrade), (.readNoAllocate e line, msg 4 [] [], .readNoAllocate),
   (.maskedWriteBack e line ws mask, msg 6 ws mask, .masked ws mask)]

theorem bringsRequest_of_mem {s : State} {e : MsgEnd} {line : Nat} {ws mask : List Word} (he : wfMsg e = true)
    (hl : line < 2 ^ 36) (hws : wfLineWords ws = true) (hmask : wfLineWords mask = true)
    (other : e.agent / 64 ≠ s.dy.modnum) : ∀ r ∈ requestRows e line ws mask, BringsRequest s e line r := by
  have named : (wfMsg e && wfLine line) = true := wfMsg_and_line he hl
  have away : (e.agent / 64 != s.dy.modnum) = true := by simpa using other
  have plain (type : Nat) :
      s.requestRow e line type =
        s.receive (rowMsg e type e.agent (homeAgent (lineHome line)) line 0 [] []) e.head.flit := if_pos away
  have asked {i : Instr} {type : Nat} (hx : exec i s = s.runIf (wfMsg e && wfLine line) (s.requestRow e line type)) :
      exec i s =
        s.runIf true (s.receive (rowMsg e type e.agent (homeAgent (lineHome line)) line 0 [] []) e.head.flit) := by
    rw [hx, named, plain]
  have masked : exec (.maskedWriteBack e line ws mask) s =
      s.runIf true (s.receive (rowMsg e 6 e.agent (homeAgent (lineHome line)) line 0 ws mask) e.head.flit) := by
    change s.runIf (wfMsg e && wfLine line && (wfLineWords ws && wfLineWords mask)) (ite _ _ _) = _
    rw [named, hws, hmask, if_pos away]
    rfl
  simp only [requestRows, List.forall_mem_cons, List.not_mem_nil, false_implies, implies_true, and_true]
  exact ⟨⟨asked rfl, rfl, rfl, rfl, rfl, rfl⟩, ⟨asked rfl, rfl, rfl, rfl, rfl, rfl⟩,
    ⟨asked rfl, rfl, rfl, rfl, rfl, rfl⟩, ⟨asked rfl, rfl, rfl, rfl, rfl, rfl⟩, ⟨masked, rfl, rfl, rfl, rfl, rfl⟩⟩

section Rows
variable {s : State} {e : MsgEnd} {line : Nat} {r : Instr × Msg × DirReq}

theorem BringsRequest.relayed (b : BringsRequest s e line r) (other : e.agent / 64 ≠ s.dy.modnum)
    (third : lineHome line ≠ s.dy.modnum) :
    Answers r.1 s
      (let u := s.flitsIn e.head.flit (poolOf true r.2.1) r.2.1.flits
       let k := linkTo s.dy.modnum (lineHome line)
       ((u.setLink k { u.link k with forward := (u.link k).forward ++ [r.2.1] }).transmit k).serviceLink
         e.head.flit.link) := by
  refine answers_of_runIf_eq b.run rfl ?_
  rw [State.receive_relayed _ (by rwa [b.src]) (by rwa [b.dst, homeAgent_div]), b.dst, homeAgent_div]

/-- The home queues the request of a line that waits, and takes another up. -/
theorem BringsRequest.lands (b : BringsRequest s e line r) (home : lineHome line = s.dy.modnum) :
    let req : DirWait := { req := r.2.2, src := e.agent, tag := e.head.tag, line := line, behind := none }
    Lands r.1 s r.2.1 e.head.flit
      (fun u => if s.lineWaits line then u.enqueue req else u.takeRequest req) := by
  intro req
  refine lands_of_receive b.run rfl (by rw [b.dst, homeAgent_div, home]) fun l => ?_
  have met : (s.withLinks l).handleMsg r.2.1 = (s.withLinks l).request req := by
    simp only [State.handleMsg, b.dst, homeAgent_mod, beq_self_eq_true, if_true, b.request, b.src, b.tag, b.line, req]
  rw [met, State.request_here (w := req) (s := s.withLinks l) home]
  rfl

end Rows

/-! ## Rows for the home: answers (R157) -/

section Answered
variable {s : State} {e : MsgEnd} {line : Nat} {act : State → State}

/-- The message of another module's write-back. -/
def writeBackMsg (e : MsgEnd) (line : Nat) (ws : Option (List Word)) : Msg :=
  rowMsg e 5 e.agent (homeAgent (lineHome line)) line 0 (ws.getD []) []

/-- A row's write-back has data exactly where the row gives some. -/
theorem State.writtenBack_row (s : State) (e : MsgEnd) (line : Nat) {ws : Option (List Word)}
    (hws : wfLineData ws = true) :
    s.writtenBack (writeBackMsg e line ws) =
      (let put := match ws with
         | some x => s.wrWords (line * 16) ((List.range 16).map (wordAt x))
         | none => s
       put.homeSays { req := .recall, src := e.agent, tag := e.head.tag, line := line, behind := none } e.agent 16 0 []
         false) := by
  match ws, hws with
  | none, _ => rfl
  | some (_ :: _), _ => rfl

theorem writeBack_lands {ws : Option (List Word)} (he : wfMsg e = true) (hl : line < 2 ^ 36)
    (hws : wfLineData ws = true) (other : e.agent / 64 ≠ s.dy.modnum) (home : lineHome line = s.dy.modnum)
    (acts : ∀ l, (s.withLinks l).writeBackAt (writeBackMsg e line ws) = act (s.withLinks l)) :
    Lands (.writeBack e line ws) s (writeBackMsg e line ws) e.head.flit act := by
  have named : (wfMsg e && wfLine line && wfLineData ws) = true := by rw [wfMsg_and_line he hl, hws]; rfl
  have away : (e.agent / 64 != s.dy.modnum) = true := by simpa using other
  refine lands_of_receive (congrArg (s.runIf _) (if_pos away)) named ((homeAgent_div _).trans home) fun l => ?_
  rw [← acts]
  simp [State.handleMsg, writeBackMsg, rowMsg, Msg.request]

variable (he : wfMsgEnd e = true) (hl : line < 2 ^ 36) (hm : s.dy.modnum < 16)
include he hl hm

theorem wf_answer : (wfEnd (homeAgent s.dy.modnum) && wfMsgEnd e && wfLine line) = true := by
  have home : wfEnd (homeAgent s.dy.modnum) = true := by
    have small : homeAgent s.dy.modnum < 1024 := by unfold homeAgent; omega
    simp [wfEnd, small]
  rw [home, he, wfLine_of_lt hl]
  rfl

theorem acknowledge_lands {wbf : Bool}
    (acts : ∀ l, (s.withLinks l).ackHome (rowMsg e 16 e.agent (homeAgent s.dy.modnum) line (b2n wbf * 32) [] []) =
      act (s.withLinks l)) :
    Lands (.acknowledge (homeAgent s.dy.modnum) e line wbf) s
      (rowMsg e 16 e.agent (homeAgent s.dy.modnum) line (b2n wbf * 32) [] []) e.head.flit act := by
  refine lands_of_receive rfl (wf_answer he hl hm) (homeAgent_div _) fun l => ?_
  rw [← acts]
  simp [State.handleMsg, rowMsg, Msg.request]

theorem data_lands_home {ws : List Word} {g : Nat} {dirty : Bool} (hws : wfLineWords ws = true) (hg : g < 5)
    (acts : ∀ l, (s.withLinks l).dataHome (rowMsg e 19 e.agent (homeAgent s.dy.modnum) line (dataAux g dirty) ws []) =
      act (s.withLinks l)) :
    Lands (.data (homeAgent s.dy.modnum) e line ws g dirty) s
      (rowMsg e 19 e.agent (homeAgent s.dy.modnum) line (dataAux g dirty) ws []) e.head.flit act := by
  have named :
      (wfEnd (homeAgent s.dy.modnum) && wfMsgEnd e && wfLine line && wfLineWords ws && decide (g < 5)) = true := by
    rw [wf_answer he hl hm, hws, decide_eq_true hg]
    rfl
  refine lands_of_receive rfl named (homeAgent_div _) fun l => ?_
  rw [← acts]
  simp [State.handleMsg, rowMsg, Msg.request]

end Answered

/-- AUX of an acknowledge holds WBF (Table 5.6). -/
theorem ackAux_wbf (wbf : Bool) : b2n wbf * 32 / 32 % 2 = b2n wbf := by cases wbf <;> simp [b2n]

/-- AUX of a data message holds the dirty bit above its grant (Table 5.6). -/
theorem dataAux_dirty {g : Nat} (hg : g < 5) (dirty : Bool) : (dataAux g dirty / 256 % 2 == 1) = dirty := by
  cases dirty <;> simp only [dataAux, b2n, beq_iff_eq, beq_eq_false_iff_ne] <;> grind

/-! ## Requests of this module's own agents (R144) -/

section Own
variable {s : State} {e : MsgEnd} {line : Nat}

theorem State.requestRow_tile (own : e.agent / 64 = s.dy.modnum) (tile : e.agent % 64 < 4) (type : Nat) :
    s.requestRow e line type =
      (if type = 4 then s.copyAsks e.agent (tileKey (e.agent % 64) line) line
       else s.tileRequest (e.agent % 64) 15 line (type != 1) none).pump := by
  simp [State.requestRow, own, isTile, tile]

theorem State.requestRow_agent (own : e.agent / 64 = s.dy.modnum) (agent : 4 ≤ e.agent % 64) (type : Nat) :
    s.requestRow e line type =
      (if type = 2 then s.agentAsks (e.agent % 64) line
       else if type = 4 then s.copyAsks e.agent (tileKey (e.agent % 64) line) line else s).pump := by
  simp [State.requestRow, own, isTile, Nat.not_lt.2 agent]

theorem State.writeBackRow_tile (own : e.agent / 64 = s.dy.modnum) (tile : e.agent % 64 < 4)
    (data : Option (List Word)) :
    s.writeBackRow e line data = (s.evict (e.agent % 64) line).pump := by
  simp [State.writeBackRow, own, isTile, tile]

theorem State.writeBackRow_agent (own : e.agent / 64 = s.dy.modnum) (agent : 4 ≤ e.agent % 64)
    (data : Option (List Word)) :
    s.writeBackRow e line data = (s.agentReleases (e.agent % 64) line (data.getD [])).pump := by
  simp [State.writeBackRow, own, isTile, Nat.not_lt.2 agent]

end Own

/-- Settles O48: requests by the row that brings them and the cell of Table 5.8, answers by what the entry's transaction
awaits. -/
theorem directoryRows : Obligations.DirectoryRows := by
  unfold Obligations.DirectoryRows
  refine ⟨?requests, ?own, ?writeBacks, ?answers⟩
  case requests =>
    intro s e line ws mask he hl hws hmask other src f msg rows req
    have brings : ∀ r ∈ rows, BringsRequest s e line r := bringsRequest_of_mem he hl hws hmask other
    refine ⟨fun r hr third => (brings r hr).relayed other third, fun home r hr => (brings r hr).lands home,
      fun u absent => ?absent, fun u en entry sound => ?entry,
      fun u en r entry bad => State.takeRequest_uncorrectable (w := req r) entry bad⟩
    case absent =>
      have taken (r : DirReq) : u.takeRequest (req r) = u.serve (req r) := State.takeRequest_absent (w := req r) absent
      refine ⟨(taken _).trans (State.serve_absent_read (w := req _) absent rfl),
        (taken _).trans (State.serve_absent_masked (w := req _) absent rfl), fun r hr => ?_⟩
      have entered : u.takeRequest (req r) = u.newEntry (req r) :=
        (taken r).trans (State.serve_absent_allocates (w := req r) absent hr)
      rw [entered]
      exact ⟨fun poison => State.newEntry_poisoned (w := req r) poison, fun clean =>
        ⟨fun w free => State.newEntry_way (w := req r) clean free,
         fun v en full h => State.newEntry_victim (w := req r) clean full h,
         fun noWay => State.newEntry_nak (w := req r) clean noWay⟩⟩
    case entry =>
      intro v others snoop
      have taken (r : DirReq) : u.takeRequest (req r) = u.tick.2.serve (req r) :=
        State.takeRequest_sound (w := req r) entry sound
      refine ⟨fun held => ?held, fun loose shared => ?shared, fun loose owned more => ?owned⟩
      case held =>
        exact ⟨fun r hr => (taken r).trans (State.serve_held_allocates (w := req r) entry held hr),
          (taken _).trans (State.serve_held_read (w := req _) entry held rfl),
          (taken _).trans (State.serve_held_masked (w := req _) entry held rfl)⟩
      case shared =>
        exact ⟨fun clean => (taken _).trans (State.serve_shared_reader (w := req _) entry loose shared rfl clean),
          fun clean alone =>
            (taken _).trans (State.serve_shared_owner_alone (w := req _) entry loose shared rfl clean alone),
          fun more => ⟨(taken _).trans (State.serve_shared_owner (w := req _) entry loose shared (.inl rfl) more),
            (taken _).trans (State.serve_shared_owner (w := req _) entry loose shared (.inr rfl) more)⟩,
          fun alone holds =>
            (taken _).trans (State.serve_shared_upgrade_alone (w := req _) entry loose shared rfl alone holds),
          (taken _).trans (State.serve_shared_read (w := req _) entry loose shared rfl),
          fun holds => (taken _).trans (State.serve_shared_masked (w := req _) entry loose shared rfl holds)⟩
      case owned =>
        have asked (r : DirReq) : u.takeRequest (req r) = snoop (req r) r.ownerSnoop en.holders :=
          (taken r).trans (State.serve_owned (w := req r) entry loose owned more)
        exact ⟨asked _, asked _, asked _, asked _, asked _⟩
  case own =>
    intro s e line ws mask data he hl hws hmask hdata own a
    have named : (wfMsg e && wfLine line) = true := wfMsg_and_line he hl
    have namedData : (wfMsg e && wfLine line && wfLineData data) = true := by rw [named, hdata]; rfl
    have namedMask : (wfMsg e && wfLine line && (wfLineWords ws && wfLineWords mask)) = true := by
      rw [named, hws, hmask]; rfl
    have here : ¬ (e.agent / 64 != s.dy.modnum) = true := by simpa using own
    refine ⟨fun tile => ?tile, fun agent => ?agent, answers_of_runIf_eq rfl namedMask (if_neg here)⟩
    case tile =>
      exact ⟨answers_of_runIf_eq rfl named (State.requestRow_tile own tile 1),
        answers_of_runIf_eq rfl named (State.requestRow_tile own tile 2),
        answers_of_runIf_eq rfl named (State.requestRow_tile own tile 3),
        answers_of_runIf_eq rfl named (State.requestRow_tile own tile 4),
        answers_of_runIf_eq rfl namedData (State.writeBackRow_tile own tile data)⟩
    case agent =>
      exact ⟨answers_of_runIf_eq rfl named (State.requestRow_agent own agent 2),
        answers_of_runIf_eq rfl named (State.requestRow_agent own agent 4),
        answers_of_runIf_eq rfl namedData (State.writeBackRow_agent own agent data)⟩
  case writeBacks =>
    intro s e line ws he hl hws other home src m acked
    have stored (u : State) : u.writtenBack m = acked u := u.writtenBack_row e line hws
    have lands {act : State → State} (acts : ∀ l, (s.withLinks l).writeBackAt m = act (s.withLinks l)) :
        Lands (.writeBack e line ws) s m e.head.flit act := writeBack_lands he hl hws other home acts
    refine ⟨fun absent => lands fun l => ?_, fun en entry => ⟨fun closed left => lands fun l => ?_,
      fun closed last => lands fun l => ?_, fun x opened waits => lands fun l => ?_⟩⟩ <;> rw [← stored]
    · exact State.writeBackAt_absent (m := m) home absent
    · exact State.writeBackAt_holdersLeft (m := m) home entry closed left
    · exact State.writeBackAt_lastHolder (m := m) home entry closed last
    · exact State.writeBackAt_awaited (m := m) home entry opened waits
  case answers =>
    intro s e line g ws dirty he hl hws hg hm src dst ack dat
    refine ⟨fun no => ⟨fun wbf => acknowledge_lands he hl hm fun l => State.ackHome_unawaited (m := ack wbf) no,
      data_lands_home he hl hm hws hg fun l => State.dataHome_unawaited (m := dat) no⟩,
      fun en x entry opened waits idle => ⟨?plain, ?wbf, fun first => ?data⟩⟩
    case plain =>
      exact acknowledge_lands he hl hm fun l =>
        State.ackHome_plain (m := ack false) entry opened waits (ackAux_wbf false)
    case wbf =>
      exact acknowledge_lands he hl hm fun l =>
        State.ackHome_wbf (m := ack true) entry opened waits (ackAux_wbf true) idle
    case data =>
      refine data_lands_home he hl hm hws hg fun l => ?_
      have kept := State.dataHome_first (s := s.withLinks l) (m := dat) entry opened waits first
      rwa [show (dat.aux / 256 % 2 == 1) = dirty from dataAux_dirty hg dirty] at kept

end Sys2Proof.Machine
end

section
/-! # Table 5.7 at a tile

What a tile of this module does with each message (R152, R153), the repeated request of a refused agent (R159), the
release of a held snoop (R153), and obligation O49. -/

namespace Sys2Proof.Machine
open Sys2Proof.Safety

/-! ## Snoops by the line's state -/

section Snoops
variable {s : State} {t line : Nat} {h : Held}

theorem State.snoop_absent (no : s.tile t line = none) : s.snoop t line h = s.tileAnswers t line 16 0 h [] := by
  simp [State.snoop, no, b2n]

theorem State.snoop_filling (fills : s.tile t line = some .isS ∨ s.tile t line = some .imS) :
    s.snoop t line h = s.holdSnoop t line h := by
  rcases fills with st | st <;> simp [State.snoop, st]

/-- While its write-back is in flight a tile answers a snoop with WBF, an invalidate without. -/
theorem State.snoop_writingBack
    (writes : s.tile t line = some .miS ∨ s.tile t line = some .eiS ∨ s.tile t line = some .siS) :
    s.snoop t line h = s.tileAnswers t line 16 (if h.kind = .invalidate then 0 else 32) h [] := by
  by_cases kind : h.kind = .invalidate <;> rcases writes with st | st | st <;> simp [State.snoop, st, kind, b2n]

/-- An open window of R120 puts off what would take the line away. -/
theorem State.snoop_deferred (has : s.tile t line = some .s ∨ s.tile t line = some .e ∨ s.tile t line = some .m)
    (takes : h.kind = .invalidate ∨ h.kind = .own) (deferred : s.deferred t line = true) :
    s.snoop t line h = (s.holdSnoop t line h).markDeferred t line := by
  rcases takes with kind | kind <;> rcases has with st | st | st <;> simp [State.snoop, st, kind, deferred]

section Undeferred
variable (deferred : s.deferred t line = false)
include deferred

theorem State.snoop_invalidate_shared (has : s.tile t line = some .s) (kind : h.kind = .invalidate) :
    s.snoop t line h = ((s.tileAnswers t line 16 0 h []).setTile t line none).loseLine t line none := by
  simp [State.snoop, has, kind, deferred, b2n]

theorem State.snoop_invalidate_upgrading (has : s.tile t line = some .smS) (kind : h.kind = .invalidate) :
    s.snoop t line h = ((s.tileAnswers t line 16 0 h []).setTile t line (some .imS)).loseLine t line none := by
  simp [State.snoop, has, kind, deferred, b2n]

end Undeferred

/-- The state of a line that a tile owns, modified or not. -/
def ownerState (dirty : Bool) : TileState := if dirty then .m else .e

/-- An owner's answer: its data, and the state that the line goes to. -/
def State.snoopData (s : State) (t line : Nat) (h : Held) (dirty : Bool) (next : Option TileState) : State :=
  (s.tileAnswers t line 19 (dataAux 4 dirty) h (s.rdLine line)).setTile t line next

section Owner
variable {dirty : Bool} (has : s.tile t line = some (ownerState dirty))
include has

theorem State.snoop_own_owner (deferred : s.deferred t line = false) (kind : h.kind = .own) :
    s.snoop t line h = (s.snoopData t line h dirty none).loseLine t line none := by
  cases dirty <;> simp [State.snoop, has, kind, deferred, ownerState, State.snoopData]

theorem State.snoop_share_owner (kind : h.kind = .share) : s.snoop t line h = s.snoopData t line h dirty (some .s) := by
  cases dirty <;> simp [State.snoop, has, kind, ownerState, State.snoopData]

theorem State.snoop_read_owner (kind : h.kind = .read) :
    s.snoop t line h = s.snoopData t line h dirty (some (ownerState dirty)) := by
  cases dirty <;> simp [State.snoop, has, kind, ownerState, State.snoopData]

end Owner

end Snoops

/-! ## Grants and data (R152, R178) -/

section Fills
variable {s : State} {t : Nat} {m : Msg} {x : TileLine}

theorem State.grantAt_upgrading (h : s.tileLine t m.line = some x) (upgrades : x.st = .smS) (tag : x.tag = m.tag) :
    s.grantAt t m = s.setTile t m.line (some .e) := by
  simp [State.grantAt, h, upgrades, tag]

theorem State.grantAt_other (h : s.tileLine t m.line = some x) (other : x.st ≠ .smS ∨ x.tag ≠ m.tag) :
    s.grantAt t m = s := by
  rcases other with other | other <;> simp [State.grantAt, h, other]

theorem State.grantAt_absent (h : s.tileLine t m.line = none) : s.grantAt t m = s := by
  simp [State.grantAt, h]

@[simp] theorem State.takeWords_dy (s : State) (line : Nat) (ws : List Word) : (s.takeWords line ws).dy = s.dy := by
  unfold State.takeWords
  dsimp only
  split
  · rfl
  · exact State.wrWords_dy ..

/-- The attempts of an agent for a line end once it is served (R159). -/
def State.endAttempts (s : State) (a line : Nat) : State :=
  { s with dy := { s.dy with attempts := tdel s.dy.attempts (attemptKey a line) } }

section Waiting
variable (h : s.tileLine t m.line = some x) (tag : x.tag = m.tag) (waits : x.st = .imS)
include h tag waits

theorem State.fillAt_poisoned (poison : m.poisoned = true) :
    s.fillAt t m =
      ((s.endAttempts (s.tileAgent t) m.line).putTile t m.line none).setPoison m.line true := by
  simp [State.fillAt, h, tag, waits, poison, TileState.filling, State.endAttempts]

/-- Data with grant M fills a line that waits to be owned: it is the youngest, and modified. -/
theorem State.fillAt_modified (clean : m.poisoned = false) (grant : m.aux / 32 % 8 = 2) (plain : x.keep = false) :
    s.fillAt t m =
      (let filled := (s.endAttempts (s.tileAgent t) m.line).takeWords m.line m.words
       let w := filled.putTile t m.line (some { x with st := .m, keep := false, age := filled.dy.uses })
       { w with dy := { w.dy with uses := w.dy.uses + 1 } }) := by
  simp [State.fillAt, h, tag, waits, clean, grant, plain, TileState.filling, State.endAttempts]

end Waiting

end Fills

theorem dataAux_grantM (dirty : Bool) : dataAux 2 dirty / 32 % 8 = 2 := by cases dirty <;> simp [dataAux, b2n]

/-! ## Repeated requests and held snoops (R153, R159) -/

section Repeats
variable {s : State} {t line : Nat} {x : TileLine}

/-- The type of the request that a line in a state waits for (Table 5.5). -/
def TileState.requestType : TileState → Nat
  | .isS => 1
  | .imS => 2
  | .smS => 3
  | _ => 0

theorem State.repeatRequest_tile (ht : t < 4) (h : s.tileLine t line = some x)
    (waits : x.st = .isS ∨ x.st = .imS ∨ x.st = .smS) :
    s.repeatRequest (64 * s.dy.modnum + t) line =
      s.sayHome (64 * s.dy.modnum + t) line x.st.requestType x.tag 0 0 [] [] false := by
  have tileNumber : (64 * s.dy.modnum + t) % 64 = t := by omega
  have here : (64 * s.dy.modnum + t) / 64 = s.dy.modnum := by omega
  rcases waits with st | st | st <;>
    simp [State.repeatRequest, here, isTile, tileNumber, ht, h, st, TileState.requestType]

theorem State.releaseHeld_none (no : s.dy.heldSnoops.find? (fun e => e.1 == tileKey t line) = none) :
    s.releaseHeld t line = s := by
  simp [State.releaseHeld, no]

section Held
variable {k : Held} (held : s.dy.heldSnoops.find? (fun e => e.1 == tileKey t line) = some (tileKey t line, k))
  (h : s.tileLine t line = some x)
include held h

theorem State.releaseHeld_filling (waits : x.st = .isS ∨ x.st = .imS ∨ x.st = .smS) : s.releaseHeld t line = s := by
  rcases waits with st | st | st <;> simp [State.releaseHeld, held, h, st, TileState.filling]

theorem State.releaseHeld_unserved (waits : s.served line x.waiter = false) : s.releaseHeld t line = s := by
  simp [State.releaseHeld, held, h, waits]

theorem State.releaseHeld_served (filled : x.st = .s ∨ x.st = .e ∨ x.st = .m)
    (done : s.served line x.waiter = true) :
    s.releaseHeld t line =
      ({ s with dy := { s.dy with heldSnoops := tdel s.dy.heldSnoops (tileKey t line) } }).snoop t line k := by
  rcases filled with st | st | st <;> simp [State.releaseHeld, held, h, st, done, TileState.filling]

end Held

end Repeats

/-! ## Rows for a tile -/

section Rows
variable {s : State} {e : MsgEnd} {t line : Nat} {act : State → State}

/-- The message of a line's home to a tile of this module. -/
def tileMsg (s : State) (e : MsgEnd) (t line type : Nat) : Msg :=
  rowMsg e type (homeAgent (lineHome line)) (64 * s.dy.modnum + t) line 0 [] []

/-- The rows of the four snoops, with the types of their messages (Table 5.5). -/
def snoopRows (e : MsgEnd) (line : Nat) : List (Instr × Nat × Snoop) :=
  [(.invalidate e line, 8, .invalidate), (.snoopShare e line, 9, .share), (.snoopOwn e line, 10, .own),
   (.snoopRead e line, 11, .read)]

theorem tile_mod (m : Nat) {t : Nat} (ht : t < 4) : (64 * m + t) % 64 = t := by omega

theorem tile_div (m : Nat) {t : Nat} (ht : t < 4) : (64 * m + t) / 64 = m := by omega

/-- A tile of this module takes what is neither a NAK nor an answer as a snoop. -/
theorem State.handleMsg_snoop (u : State) {m : Msg} (ht : t < 4) (dst : m.dst % 64 = t)
    (snoops : 8 ≤ m.type ∧ m.type ≤ 11) :
    u.handleMsg m = u.snoop t m.line { kind := snoopOf m.type, tag := m.tag, orig := m.orig } := by
  obtain ⟨low, high⟩ := snoops
  simp [State.handleMsg, dst, ht, show t ≠ 63 by omega, show m.type ≠ 17 by omega, show m.type ≠ 16 by omega,
    show m.type ≠ 18 by omega, show m.type ≠ 19 by omega]

theorem State.handleMsg_grant (u : State) {m : Msg} (ht : t < 4) (dst : m.dst % 64 = t) (type : m.type = 18) :
    u.handleMsg m = u.grantAt t m := by
  simp [State.handleMsg, dst, ht, show t ≠ 63 by omega, type]

theorem State.handleMsg_fill (u : State) {m : Msg} (ht : t < 4) (dst : m.dst % 64 = t) (type : m.type = 19) :
    u.handleMsg m = u.fillAt t m := by
  simp [State.handleMsg, dst, ht, show t ≠ 63 by omega, type]

theorem State.handleMsg_nak (u : State) {m : Msg} (ht : t < 4) (dst : m.dst % 64 = t) (type : m.type = 17) :
    u.handleMsg m = u.refusedAt m.dst m.line := by
  simp [State.handleMsg, dst, show t ≠ 63 by omega, type]

section FromHome
variable (he : wfMsg e = true) (ht : t < 4) (own : e.agent = 64 * s.dy.modnum + t) (hl : line < 2 ^ 36)
include he ht own hl

theorem fromHome_lands {i : Instr} {type : Nat}
    (hx : exec i s = s.runIf (wfMsg e && wfLine line) (s.fromHome e line type))
    (acts : ∀ l, (s.withLinks l).handleMsg (tileMsg s e t line type) = act (s.withLinks l)) :
    Lands i s (tileMsg s e t line type) e.head.flit act := by
  refine lands_of_receive (ok := wfMsg e && wfLine line) ?_ (wfMsg_and_line he hl) (tile_div _ ht) acts
  rw [hx, State.fromHome, own]
  rfl

theorem snoop_lands : ∀ r ∈ snoopRows e line,
    (∀ l, (s.withLinks l).snoop t line { kind := r.2.2, tag := e.head.tag, orig := e.head.orig } =
        act (s.withLinks l)) →
      Lands r.1 s (tileMsg s e t line r.2.1) e.head.flit act := by
  have row {i : Instr} {type : Nat} (hx : exec i s = s.runIf (wfMsg e && wfLine line) (s.fromHome e line type))
      (snoops : 8 ≤ type ∧ type ≤ 11)
      (acts : ∀ l, (s.withLinks l).snoop t line { kind := snoopOf type, tag := e.head.tag, orig := e.head.orig } =
        act (s.withLinks l)) : Lands i s (tileMsg s e t line type) e.head.flit act :=
    fromHome_lands he ht own hl hx fun l =>
      (State.handleMsg_snoop _ ht (tile_mod _ ht) (m := tileMsg s e t line type) snoops).trans (acts l)
  simp only [snoopRows, List.forall_mem_cons, List.not_mem_nil, false_implies, implies_true, and_true]
  exact ⟨row (type := 8) rfl (by decide), row (type := 9) rfl (by decide), row (type := 10) rfl (by decide),
    row (type := 11) rfl (by decide)⟩

end FromHome

theorem wfAgent_tile (he : wfMsg e = true) (own : e.agent = 64 * s.dy.modnum + t) :
    wfAgent (64 * s.dy.modnum + t) = true := by
  rw [wfMsg, Bool.and_eq_true, own] at he
  exact he.1

theorem data_lands_tile {src : MsgEnd} {ws : List Word} {g : Nat} {dirty : Bool} (ht : t < 4)
    (agent : wfAgent (64 * s.dy.modnum + t) = true) (hl : line < 2 ^ 36) (hsrc : wfMsgEnd src = true)
    (hws : wfLineWords ws = true) (hg : g < 5)
    (acts : ∀ l, (s.withLinks l).fillAt t
      (rowMsg src 19 src.agent (64 * s.dy.modnum + t) line (dataAux g dirty) ws []) = act (s.withLinks l)) :
    Lands (.data (64 * s.dy.modnum + t) src line ws g dirty) s
      (rowMsg src 19 src.agent (64 * s.dy.modnum + t) line (dataAux g dirty) ws []) src.head.flit act := by
  have named :
      (wfEnd (64 * s.dy.modnum + t) && wfMsgEnd src && wfLine line && wfLineWords ws && decide (g < 5)) = true := by
    rw [wfEnd, agent, hsrc, wfLine_of_lt hl, hws, decide_eq_true hg]
    rfl
  exact lands_of_receive rfl named (tile_div _ ht) fun l =>
    (State.handleMsg_fill _ ht (tile_mod _ ht) rfl).trans (acts l)

end Rows

/-- Settles O49: each row by the message that it brings and the line's state at the tile. -/
theorem tileSnoops : Obligations.TileSnoops := by
  unfold Obligations.TileSnoops
  intro s e t line src ws dirty acc v he ht own hl hsrc hws st a f msg held rows ack data
  have row {act : State → State} : ∀ r ∈ rows,
      (∀ l, (s.withLinks l).snoop t line (held r.2.2) = act (s.withLinks l)) → Lands r.1 s (msg r.2.1) f act :=
    snoop_lands he ht own hl
  have invalidate {act : State → State} := row (act := act) (.invalidate e line, 8, .invalidate) (by simp [rows])
  have share {act : State → State} := row (act := act) (.snoopShare e line, 9, .share) (by simp [rows])
  have takes {act : State → State} := row (act := act) (.snoopOwn e line, 10, .own) (by simp [rows])
  have reads {act : State → State} := row (act := act) (.snoopRead e line, 11, .read) (by simp [rows])
  have grant {act : State → State} (acts : ∀ l, (s.withLinks l).grantAt t (msg 18) = act (s.withLinks l)) :
      Lands (.grant e line) s (msg 18) f act :=
    fromHome_lands he ht own hl rfl fun l => (State.handleMsg_grant _ ht (tile_mod _ ht) rfl).trans (acts l)
  have agent : wfAgent a = true := wfAgent_tile he own
  have named : (wfAgent a && wfLine line) = true := by rw [agent, wfLine_of_lt hl]; rfl
  have released {u : State} (hu : s.releaseHeld t line = u) : Answers (.heldSnoopRelease t line) s u.pump := by
    have tileNamed : (wfTile t && wfLine line) = true := by rw [wfTile, decide_eq_true ht, wfLine_of_lt hl]; rfl
    exact answers_of_runIf_eq rfl tileNamed (congrArg State.pump hu)
  refine ⟨fun no r hr => row r hr fun l => State.snoop_absent no,
    fun fills r hr => row r hr fun l => State.snoop_filling fills,
    fun writes r hr => row r hr fun l => State.snoop_writingBack writes,
    fun free => ?undeferred, fun putOff => ?deferred, fun owned => ?exclusive, fun owned => ?modified,
    fun x h => ?grants, fun no => ?grantAbsent, fun x h tag waits plain => ?data, ?nak, fun k x held h => ?release,
    fun no => ?nothingHeld, fun hacc => ?probe⟩
  case undeferred =>
    exact ⟨fun has => invalidate fun l => State.snoop_invalidate_shared free has rfl,
      fun has => invalidate fun l => State.snoop_invalidate_upgrading free has rfl,
      fun has => takes fun l => State.snoop_own_owner (dirty := false) has free rfl,
      fun has => takes fun l => State.snoop_own_owner (dirty := true) has free rfl⟩
  case deferred =>
    exact ⟨fun has => invalidate fun l => State.snoop_deferred (.inl has) (.inl rfl) putOff,
      fun has => takes fun l => State.snoop_deferred (.inr has) (.inr rfl) putOff⟩
  case exclusive =>
    exact ⟨share fun l => State.snoop_share_owner (dirty := false) owned rfl,
      reads fun l => State.snoop_read_owner (dirty := false) owned rfl⟩
  case modified =>
    exact ⟨share fun l => State.snoop_share_owner (dirty := true) owned rfl,
      reads fun l => State.snoop_read_owner (dirty := true) owned rfl⟩
  case grants =>
    exact ⟨fun upgrades tag => grant fun l => State.grantAt_upgrading h upgrades tag,
      fun other => grant fun l => State.grantAt_other h other⟩
  case grantAbsent =>
    exact grant fun l => State.grantAt_absent (Option.map_eq_none_iff.1 no)
  case data =>
    intro m ended
    exact ⟨fun poison => data_lands_tile ht agent hl hsrc hws (by decide) fun l =>
        State.fillAt_poisoned (m := m) h tag waits poison,
      fun clean => data_lands_tile ht agent hl hsrc hws (by decide) fun l =>
        State.fillAt_modified (m := m) h tag waits clean (dataAux_grantM dirty) plain⟩
  case nak =>
    intro n
    refine ⟨fromHome_lands he ht own hl rfl fun l => State.handleMsg_nak _ ht (tile_mod _ ht) rfl,
      fun unrefused => answers_of_runIf_eq rfl named (if_pos (beq_iff_eq.2 unrefused)), fun x refused h => ?_⟩
    have again (waits : x.st = .isS ∨ x.st = .imS ∨ x.st = .smS) :
        Answers (.nakRetry a line) s (s.sayHome a line x.st.requestType x.tag 0 0 [] [] false).pump :=
      answers_of_runIf_eq rfl named
        ((if_neg (mt beq_iff_eq.1 refused)).trans (congrArg State.pump (State.repeatRequest_tile ht h waits)))
    exact ⟨fun st => by simpa only [st, TileState.requestType] using again (.inl st),
      fun st => by simpa only [st, TileState.requestType] using again (.inr (.inl st)),
      fun st => by simpa only [st, TileState.requestType] using again (.inr (.inr st))⟩
  case release =>
    exact ⟨fun waits => released (State.releaseHeld_filling held h waits),
      fun _ waits => released (State.releaseHeld_unserved held h waits),
      fun filled done => released (State.releaseHeld_served held h filled done)⟩
  case nothingHeld => exact released (State.releaseHeld_none no)
  case probe =>
    exact ⟨fun zenith => answers_of_runIf_eq rfl hacc (if_neg (by simp [zenith])),
      fun other => answers_of_runIf_eq rfl hacc (if_pos (by simpa using other))⟩

end Sys2Proof.Machine
end

section
/-! # The life of a link

What each event of a Jetstream link does in each of its states (Table 5.11, R171-R176), the Twin link in the same rows
(R407), the partition rule (R177, R178), and obligation O50. -/

namespace Sys2Proof.Machine
open Sys2Proof.Safety

/-! ## Writing an entry of a table twice -/

theorem tdel_absent {α : Type} {t : Tab α} {k : Nat} (h : ∀ e ∈ t, e.1 ≠ k) : tdel t k = t := by
  induction t with
  | nil => rfl
  | cons e r ih =>
    obtain ⟨head, rest⟩ := List.forall_mem_cons.1 h
    simp only [tdel, if_neg head, ih rest]

theorem tdel_tins {α : Type} (t : Tab α) (k : Nat) (v : α) : tdel (tins t k v) k = tdel t k := by
  induction t with
  | nil => simp [tins, tdel]
  | cons e r ih =>
    simp only [tins]
    split
    · simp [tdel]
    · simp only [tdel, ih]

theorem tput_tput {α : Type} [DecidableEq α] (t : Tab α) (d v w : α) (k : Nat) :
    tput (tput t d k v) d k w = tput t d k w := by
  have once : tdel (tput t d k v) k = tdel t k := by
    have twice : tdel (tdel t k) k = tdel t k := tdel_absent fun e he => (tdel_keys t k e he).2
    unfold tput
    split
    · exact twice
    · rw [tdel_tins, twice]
  change (if w = d then tdel (tput t d k v) k else tins (tdel (tput t d k v) k) k w) = _
  rw [once]
  rfl

theorem State.setLink_setLink (s : State) (k : Nat) (l l' : Link) : (s.setLink k l).setLink k l' = s.setLink k l' := by
  simp [State.setLink, tput_tput]

/-! ## Training, identification and failure (Table 5.11) -/

/-- A row that the Twin link shares, for a Jetstream link. -/
theorem answers_of_link {i : Instr} {s t u twin : State} {k : Nat} (hk : k < 15)
    (hx : exec i s = s.runIf (wfAnyLink k) (if k == 15 then twin else u)) (hu : u = t) : Answers i s t := by
  have named : wfAnyLink k = true := decide_eq_true (by omega)
  have notTwin : ¬ (k == 15) = true := by simpa using by omega
  exact answers_of_runIf_eq hx named ((if_neg notTwin).trans hu)

/-- The groups that are in use after a training: trained, permitted by ADMIN, and not fenced (R174). -/
def Link.trained (l : Link) (g0 g1 : Bool) : Link :=
  { l with g0 := g0 && l.admin != 2 && !l.fenced0, g1 := g1 && l.admin != 1 && !l.fenced1 }

section Life
variable {s : State} {k : Nat} (hk : k < 15)
include hk

theorem training_ends (g0 g1 : Bool) (st : (s.link k).st = .training) :
    Answers (.training k g0 g1) s
      (let v := (s.link k).trained g0 g1
       s.setLink k { v with st := if (v.g0 || v.g1) = true then .identify else .down }) :=
  answers_of_link hk rfl (by simp only [st]; rfl)

theorem training_detoured (g0 g1 : Bool) (st : (s.link k).st = .detoured) :
    Answers (.training k g0 g1) s (s.setLink k ((s.link k).trained g0 g1)) :=
  answers_of_link hk rfl (by simp only [st, Link.trained]; rfl)

theorem training_ignored (g0 g1 : Bool) (notTraining : (s.link k).st ≠ .training)
    (notDetoured : (s.link k).st ≠ .detoured) :
    Answers (.training k g0 g1) s s := by
  refine answers_of_link hk rfl ?_
  dsimp only
  split <;> simp_all

theorem trainingRetry_down (st : (s.link k).st = .down) :
    Answers (.trainingRetry k) s (s.setLink k { s.link k with st := .training }) :=
  answers_of_link hk rfl (by simp [st])

theorem trainingRetry_ignored (st : (s.link k).st ≠ .down) : Answers (.trainingRetry k) s s :=
  answers_of_link hk rfl (by simp [st])

theorem identify_matched (st : (s.link k).st = .identify) :
    Answers (.identify k true) s (((s.setLink k { s.link k with st := .active }).flood).transmit k) :=
  answers_of_link hk rfl (by simp [st])

theorem identify_mismatched (st : (s.link k).st = .identify) :
    Answers (.identify k false) s ((s.setLink k { s.link k with st := .mismatch }).report (982 + k) 2) :=
  answers_of_link hk rfl (by simp [st, linkSource])

theorem identify_detoured (st : (s.link k).st = .detoured) (up : ((s.link k).g0 || (s.link k).g1) = true)
    (inService : (s.link k).admin ≠ 3) :
    Answers (.identify k true) s
      ((s.setLink k { s.link k with drainSent := true }).sendFlit (linkTo s.dy.modnum (s.link k).via)
        (.control 5 [])) :=
  answers_of_link hk rfl (by simp [st, up, inService])

theorem identify_ignored (matched : Bool) (notIdentify : (s.link k).st ≠ .identify)
    (notDetoured : (s.link k).st ≠ .detoured) : Answers (.identify k matched) s s := by
  refine answers_of_link hk rfl ?_
  dsimp only
  split <;> simp_all

end Life

section Failure
variable {s : State} {k : Nat}

theorem State.linkFails_active (st : (s.link k).st = .active) :
    s.linkFails k = (s.setLink k { s.link k with st := .retraining }).flood := by
  simp [State.linkFails, st]

theorem State.linkFails_ignored (st : (s.link k).st ≠ .active) : s.linkFails k = s := by
  simp [State.linkFails, st]

theorem State.retrained_ignored (expected : Nat) (g0 g1 : Bool) (st : (s.link k).st ≠ .retraining) :
    s.retrained k expected g0 g1 = s := by
  simp [State.retrained, st]

/-- Both groups retrained: the link is ACTIVE at its full width, and the replay starts where the peer expects it. -/
theorem State.retrained_both (expected : Nat) (st : (s.link k).st = .retraining) (auto : (s.link k).admin = 0) :
    s.retrained k expected true true =
      (let v := s.setLink k { ((s.link k).expects expected) with
         st := .active, g0 := true, g1 := true, fenced0 := false, fenced1 := false, replayCount := 0 }
       (v.resend k).flood.transmit k) := by
  simp [State.retrained, st, auto, adminGroups]

theorem State.retrained_neither (expected : Nat) (st : (s.link k).st = .retraining) :
    s.retrained k expected false false = (s.detour k).flood := by
  simp [State.retrained, st]

/-- A fence takes its own group out and leaves the other as it was. -/
theorem State.fenceGroup_groups (s : State) (k g : Nat) :
    ((s.fenceGroup k g).link k).g0 = ((s.link k).g0 && g != 0) ∧
      ((s.fenceGroup k g).link k).g1 = ((s.link k).g1 && g != 1) := by
  have written : (s.fenceGroup k g).link k =
      { s.link k with fenced0 := (s.link k).fenced0 || g == 0, fenced1 := (s.link k).fenced1 || g == 1,
                      g0 := (s.link k).g0 && g != 0, g1 := (s.link k).g1 && g != 1,
                      fences := sat36 ((s.link k).fences + 1) } := State.link_setLink_same ..
  rw [written]
  exact ⟨rfl, rfl⟩

/-- Of a link that runs on both groups one is left. -/
theorem State.fenceGroup_one_left (g : Nat) (both : (s.link k).g0 = true ∧ (s.link k).g1 = true) :
    (((s.fenceGroup k g).link k).g0 || ((s.fenceGroup k g).link k).g1) = true := by
  obtain ⟨first, second⟩ := s.fenceGroup_groups k g
  rw [first, second, both.1, both.2]
  by_cases h : g = 0 <;> simp [h]

theorem laneGroupFence_answers {g : Nat} (hk : k < 15) (hg : g < 2) {t : State}
    (ht : (if (s.link k).st != .active then s else
      if ((s.fenceGroup k g).link k).g0 || ((s.fenceGroup k g).link k).g1 then s.fenceGroup k g
      else (s.fenceGroup k g).linkFails k) = t) : Answers (.laneGroupFence k g) s t := by
  have named : (wfLink k && wfTwo g) = true := by rw [wfLink, wfTwo, decide_eq_true hk, decide_eq_true hg]; rfl
  exact answers_of_runIf_eq rfl named ht

end Failure

/-! ## Replays, and what comes in from the peer (R171, R175, R176) -/

section Traffic
variable {s : State} {k : Nat}

/-- A replay request: it is counted, reported, and served; the eighth for one SEQ without progress fails the link. -/
theorem State.replayAsked_eq (s : State) (k seq : Nat) :
    s.replayAsked k seq =
      (let l := s.link k
       let n := if l.lastReplay = seq then l.replayCount + 1 else 1
       let v := ((s.setLink k { (l.expects seq) with
         lastReplay := seq, replayCount := n, replays := sat36 (l.replays + 1) }).report (982 + k) 1).resend k
       if 8 ≤ n then v.linkFails k else v) := by
  simp only [State.replayAsked, linkSource, beq_iff_eq]

theorem State.linkStateIn_old {origin bits link : Nat}
    (old : origin = s.dy.modnum ∨ tget s.dy.view 0 origin = bits % 2 ^ 15) : s.linkStateIn origin bits link = s := by
  rcases old with old | old <;> simp [State.linkStateIn, old]

theorem State.linkStateIn_news {origin bits link : Nat} (other : origin ≠ s.dy.modnum)
    (news : tget s.dy.view 0 origin ≠ bits % 2 ^ 15) :
    s.linkStateIn origin bits link =
      ({ s with dy := { s.dy with view := tput s.dy.view 0 origin (bits % 2 ^ 15) } }).floodOf origin (bits % 2 ^ 15)
        (some link) := by
  simp only [State.linkStateIn, beq_false_of_ne other, beq_false_of_ne news, Bool.or_self, Bool.false_eq_true, if_false]

theorem State.deliveredIn_ignored (seq : Nat) (h : (s.link k).st ≠ .detoured ∨ (s.link k).resent = true) :
    s.deliveredIn k seq = s := by
  rcases h with h | h <;> simp [State.deliveredIn, h]

/-- What the peer has not had delivered goes out again through the relay, before any new message. -/
theorem State.deliveredIn_first {seq i : Nat} (st : (s.link k).st = .detoured) (first : (s.link k).resent = false)
    (found : (s.link k).replayBuf.findIdx? (fun f => f.seq == seq) = some i) :
    s.deliveredIn k seq =
      ((s.setLink k { s.link k with
        replayBuf := [], queue := bufferedMsgs ((s.link k).replayBuf.drop (i + 1)) ++ (s.link k).queue,
        resent := true }).transmit k) := by
  simp [State.deliveredIn, st, first, found]

theorem State.markerIn_ignored (confirmed : Bool) (st : (s.link k).st ≠ .detoured) : s.markerIn k confirmed = s := by
  simp [State.markerIn, st]

theorem State.markerIn_unsent (st : (s.link k).st = .detoured) (unsent : (s.link k).drainSent = false) :
    s.markerIn k true = s := by
  simp [State.markerIn, st, unsent]

theorem State.markerIn_confirmed (st : (s.link k).st = .detoured) (sent : (s.link k).drainSent = true) :
    s.markerIn k true =
      (((s.setLink k { s.link k with st := .active, drainSent := false, drainSeen := false, resent := false,
                                     deliveredSent := false, credits := linkBuffers }).flood).transmit k) := by
  simp [State.markerIn, st, sent]

theorem State.markerIn_relayed (st : (s.link k).st = .detoured) :
    s.markerIn k false = (s.setLink k { s.link k with drainSeen := true }).sendFlit k (.control 5 [1]) := by
  simp [State.markerIn, st]

end Traffic

/-! ## ADMIN (Table 5.16) -/

section Admin
variable {s : State} {k : Nat} {acc : Accessor} {w : Word}

theorem State.adminWrite_noRight (notZ : acc.role ≠ .z) (notH : acc.role ≠ .h) : s.adminWrite acc k w = s := by
  simp [State.adminWrite, notZ, notH]

section Permitted
variable (role : acc.role = .z ∨ acc.role = .h) (member : s.isMember (s.linkPeer k) = true)
include role member

/-- A permitted write of a value that is not reserved is judged by the value and the link's state. -/
theorem State.adminWrite_permitted
    (valid : fld w 10 8 < 3 ∨ fld w 10 8 = 3 ∧ (s.relay (s.linkPeer k)).isSome = true) :
    s.adminWrite acc k w =
      (let l := s.link k
       let v := s.setLink k { l with admin := fld w 10 8 }
       if fld w 10 8 = 3 then (if l.st = .active ∨ l.st = .retraining then (v.detour k).flood else v)
       else if l.st = .active then (v.setLink k { v.link k with st := .retraining }).flood
       else v) := by
  have entitled : (acc.role == .z || acc.role == .h) = true := by simpa using role
  have accepted : (decide (4 ≤ fld w 10 8) || (fld w 10 8 == 3 && (s.relay (s.linkPeer k)).isNone)) = false := by
    rcases valid with low | ⟨out, relay⟩
    · simp [show ¬ 4 ≤ fld w 10 8 by omega, show fld w 10 8 ≠ 3 by omega]
    · simpa [out, Option.isSome_iff_ne_none] using relay
  simp only [State.adminWrite, entitled, member, accepted, Bool.not_true, Bool.or_self, Bool.false_eq_true, if_false,
    beq_iff_eq, Bool.or_eq_true]

theorem State.adminWrite_groups (low : fld w 10 8 < 3) (st : (s.link k).st ≠ .active) :
    s.adminWrite acc k w = s.setLink k { s.link k with admin := fld w 10 8 } := by
  rw [State.adminWrite_permitted role member (.inl low)]
  simp only [if_neg (show fld w 10 8 ≠ 3 by omega), if_neg st]

theorem State.adminWrite_retrains (low : fld w 10 8 < 3) (st : (s.link k).st = .active) :
    s.adminWrite acc k w = (s.setLink k { s.link k with admin := fld w 10 8, st := .retraining }).flood := by
  rw [State.adminWrite_permitted role member (.inl low)]
  simp only [if_neg (show fld w 10 8 ≠ 3 by omega), if_pos st, State.link_setLink_same, State.setLink_setLink]

theorem State.adminWrite_outOfService (out : fld w 10 8 = 3) (relay : (s.relay (s.linkPeer k)).isSome = true)
    (st : (s.link k).st = .active ∨ (s.link k).st = .retraining) :
    s.adminWrite acc k w = ((s.setLink k { s.link k with admin := 3 }).detour k).flood := by
  rw [State.adminWrite_permitted role member (.inr ⟨out, relay⟩)]
  simp only [if_pos st, out, if_true]

end Permitted

/-- A reserved value leaves the register as it was, and sets the writer's REJECT bit (R181). -/
theorem State.adminWrite_reserved (member : s.isMember (s.linkPeer k) = true)
    (reserved : 4 ≤ fld w 10 8 ∨ fld w 10 8 = 3 ∧ s.relay (s.linkPeer k) = none) :
    (acc.role = .z → s.adminWrite acc k w = { s with dy := { s.dy with rejectZ := true } }) ∧
    (acc.role = .h → s.adminWrite acc k w = { s with dy := { s.dy with rejectH := true } }) := by
  constructor <;> intro own <;> simp [State.adminWrite, own, member, reserved]

end Admin

/-! ## The Twin link (R407) and the partition rule (R177) -/

section Twin
variable {s : State}

theorem State.twinLinkFails_active (st : s.tw.linkSt = .active) :
    s.twinLinkFails = { s with tw := { s.tw with linkSt := .retraining } } := by
  simp [State.twinLinkFails, st]

theorem State.twinIdentified_matched (st : s.tw.linkSt = .identify) :
    s.twinIdentified true = { s with tw := { s.tw with linkSt := .active } } := by
  simp [State.twinIdentified, st]

theorem State.twinIdentified_mismatched (st : s.tw.linkSt = .identify) :
    s.twinIdentified false = ({ s with tw := { s.tw with linkSt := .mismatch } }).report 1001 2 := by
  simp [State.twinIdentified, st]

theorem State.twinRetrained_failed (expected : Nat) (st : s.tw.linkSt = .retraining) :
    s.twinRetrained expected false = { s with tw := { s.tw with linkSt := .down } } := by
  simp [State.twinRetrained, st]

theorem State.twinTrained_failed (st : s.tw.linkSt = .training) :
    s.twinTrained false = { s with tw := { s.tw with linkSt := .down } } := by
  simp [State.twinTrained, st]

end Twin

section Partition
variable {s : State} {reach : List Nat}

theorem State.partitionRule_notServing (h : s.md.st = .halted ∨ s.md.st = .off ∨ s.md.st = .standby) :
    s.partitionRule reach = s := by
  rcases h with h | h | h <;> simp [State.partitionRule, h]

theorem State.partitionRule_allReached (h : (s.reachSet reach).length = s.memberList.length) :
    s.partitionRule reach = s := by
  simp [State.partitionRule, h]

theorem State.partitionRule_minority (run : s.md.st = .run) (lost : (s.reachSet reach).length ≠ s.memberList.length)
    (minority : s.majority reach = false) : s.partitionRule reach = s.fatalFault 1202 := by
  simp [State.partitionRule, run, lost, minority, State.minorityFatal]

theorem State.partitionRule_majority (run : s.md.st = .run) (lost : (s.reachSet reach).length ≠ s.memberList.length)
    (majority : s.majority reach = true) :
    s.partitionRule reach =
      (let t := s.loseMembers (s.reachSet reach)
       t.cores.foldl (fun u e => u.failLost e.1) t) := by
  simp [State.partitionRule, run, lost, majority]

end Partition

/-- Settles O50: each row by the state of its link, a write of ADMIN by its value, the partition rule by the members
reached. -/
theorem linkRows : Obligations.LinkRows := by
  unfold Obligations.LinkRows
  intro s k g0 g1 n x acc w reach f hk hx l to_ failed u0 u1
  have link : wfLink k = true := decide_eq_true hk
  have retrained : (wfAnyLink k && decide (x < 1024)) = true := by
    rw [wfAnyLink, decide_eq_true (show k < 16 by omega), decide_eq_true hx]; rfl
  have notTwin : ¬ (k == 15) = true := by simpa using by omega
  have protocolFault : Answers (.linkProtocolFault k) s ((s.report (982 + k) 2).linkFails k) :=
    answers_of_link hk rfl rfl
  have written (hacc : wfAccessor acc = true) {t : State} (ht : s.adminWrite acc k w = t) :
      Answers (.admin acc k w) s t := answers_of_runIf_eq rfl (by rw [hacc, link]; rfl) ht
  refine ⟨training_ends hk g0 g1, training_detoured hk g0 g1, training_ignored hk g0 g1, trainingRetry_down hk,
    trainingRetry_ignored hk, fun st => ⟨identify_matched hk st, identify_mismatched hk st⟩, identify_detoured hk,
    identify_ignored hk g0, fun st => answers_of_link hk rfl (State.linkFails_active st),
    fun st => answers_of_link hk rfl (State.linkFails_ignored st), fun st => ?retrainIgnored,
    fun st auto => ?retrainBoth, fun st => ?retrainNeither,
    fun st both hn => ?fenceOne, fun st hn first second => ?fenceLast,
    fun st => answers_of_runIf_eq rfl link (if_pos (beq_iff_eq.2 st)),
    fun st => ⟨answers_of_runIf_eq rfl link (if_neg (mt beq_iff_eq.1 st)), fun hn => ?fenceIgnored⟩, ?replay,
    fun _ => protocolFault, fun hn hf bits => ?linkState, answers_of_runIf_true rfl rfl,
    fun st => ⟨answers_of_runIf_eq rfl link (State.deliveredIn_ignored n (.inl st)),
      answers_of_runIf_eq rfl link (State.markerIn_ignored g0 st)⟩,
    fun _ again => answers_of_runIf_eq rfl link (State.deliveredIn_ignored n (.inr again)),
    fun st first i found => answers_of_runIf_eq rfl link (State.deliveredIn_first st first found),
    fun st sent => answers_of_runIf_eq rfl link (State.markerIn_confirmed st sent),
    fun st unsent => answers_of_runIf_eq rfl link (State.markerIn_unsent st unsent),
    fun st => answers_of_runIf_eq rfl link (State.markerIn_relayed st), fun hacc role member => ?admin,
    fun hacc notZ notH => ?noRight, ?twin, fun hreach => ?partition⟩
  case retrainIgnored =>
    exact answers_of_runIf_eq rfl retrained ((if_neg notTwin).trans (State.retrained_ignored x g0 g1 st))
  case retrainBoth => exact answers_of_runIf_eq rfl retrained ((if_neg notTwin).trans (State.retrained_both x st auto))
  case retrainNeither => exact answers_of_runIf_eq rfl retrained ((if_neg notTwin).trans (State.retrained_neither x st))
  case fenceOne =>
    refine laneGroupFence_answers hk hn ?_
    rw [if_neg (by simpa using st), if_pos (State.fenceGroup_one_left n both)]
  case fenceLast =>
    refine laneGroupFence_answers hk hn ?_
    rw [if_neg (by simpa using st), if_neg (by simp [first, second])]
  case fenceIgnored => exact laneGroupFence_answers hk hn (if_pos (by simpa using st))
  case replay =>
    intro c v
    exact ⟨fun few => answers_of_link hk rfl ((s.replayAsked_eq k n).trans (if_neg (Nat.not_le.2 few))),
      fun eighth => answers_of_link hk rfl ((s.replayAsked_eq k n).trans (if_pos eighth))⟩
  case linkState =>
    intro u
    have named : (wfModule n && wfFlit f) = true := by rw [wfModule, decide_eq_true hn, hf]; rfl
    have heard {t : State} (ht : u.linkStateIn n bits f.link = t) :
        Answers (.linkState { module := n, flit := f } bits) s (t.serviceLink f.link) :=
      answers_of_runIf_eq rfl named (congrArg (State.serviceLink · f.link) ht)
    exact ⟨fun old => heard (State.linkStateIn_old old), fun other news => heard (State.linkStateIn_news other news)⟩
  case admin =>
    refine ⟨fun low st => written hacc (State.adminWrite_groups role member low st),
      fun low st => written hacc (State.adminWrite_retrains role member low st),
      fun out relay st => written hacc (State.adminWrite_outOfService role member out relay st), fun reserved => ?_⟩
    obtain ⟨byZenith, byHost⟩ := State.adminWrite_reserved (acc := acc) (w := w) member reserved
    exact ⟨fun z => written hacc (byZenith z), fun h => written hacc (byHost h)⟩
  case noRight => exact written hacc (State.adminWrite_noRight notZ notH)
  case twin =>
    have named : (wfAnyLink 15 && decide (x < 1024)) = true := decide_eq_true hx
    exact ⟨fun st => answers_of_runIf_eq rfl rfl (State.twinLinkFails_active st),
      fun st => answers_of_runIf_eq rfl rfl (if_pos (beq_iff_eq.2 st)),
      fun st => ⟨answers_of_runIf_eq rfl rfl (State.twinIdentified_matched st),
        answers_of_runIf_eq rfl rfl (State.twinIdentified_mismatched st)⟩,
      fun st => answers_of_runIf_eq rfl named (State.twinRetrained_failed x st),
      fun st => answers_of_runIf_eq rfl rfl (State.twinTrained_failed st), answers_of_runIf_eq rfl rfl rfl⟩
  case partition =>
    exact ⟨fun h => answers_of_runIf_eq rfl hreach (State.partitionRule_notServing h),
      fun h => answers_of_runIf_eq rfl hreach (State.partitionRule_allReached h),
      fun run lost =>
        ⟨fun minority => answers_of_runIf_eq rfl hreach (State.partitionRule_minority run lost minority),
        fun majority => answers_of_runIf_eq rfl hreach (State.partitionRule_majority run lost majority)⟩⟩

end Sys2Proof.Machine
end

section
/-! # Steps, clocks and firmware

What a step comes to (chapter 95), the counts that RCC and RTD deliver (R205, R251), the checks of staging, what an
activation leaves and the customer image's commands (R194, R449-R453); obligations O1, O15 and O60. -/

namespace Sys2Proof.Machine
open Sys2Proof.Safety

/-! ## Steps -/

/-- On an empty queue a step is what goes on without a command (R184, R392, R449). -/
theorem step_idle {s : State} (h : s.pending = []) : step s = .next s.coreCycles.sampleAll.stageBlock := by
  simp only [step, h]

/-- Settles O1: the queue's front decides. -/
theorem stepRunsFront : Obligations.StepRunsFront :=
  ⟨fun _ _ _ => rfl, fun _ => step_idle⟩

/-! ## Clocks (R205, R251) -/

/-- Below a floor that fits the count's 64 bits, a read of the time gives a count that has not gone back and stays below the
floor. -/
theorem State.now_below_floor {s : State} (below : s.tm.tod < s.tm.floor) (fits : s.tm.floor ≤ 2 ^ 64) :
    s.tm.tod ≤ s.now.1 ∧ s.now.1 < s.tm.floor := by
  have read : s.now.1 = max s.tm.tod (min (s.tm.tod + Config.elapsedNs s.fresh) (s.tm.floor - 1)) % 2 ^ 64 := rfl
  rw [read, Nat.mod_eq_of_lt (by omega)]
  omega

/-- Settles O15: RCC adds the cycles since its last read, RTD delivers a read of the time. -/
theorem clocks : Obligations.Clocks := by
  unfold Obligations.Clocks
  intro s core ins r h ran
  refine ⟨fun hw => ⟨(r.s.core core).cycles + Config.elapsedCycles r.s.fresh, Nat.le_add_right .., ?rcc⟩,
    fun hw below fits => ?rtd⟩
  case rcc =>
    refine completes_of_instr hw h rfl ?_
    simp only [State.core_modCore_same]
    rfl
  case rtd =>
    obtain ⟨forward, held⟩ := State.now_below_floor below fits
    exact ⟨r.s.now.1, forward, held, completes_of_instr hw h rfl rfl⟩

/-! ## Object writes -/

/-- A permitted write of a number that its object's rule refuses with a code is answered by that code alone. -/
theorem refuses_of_odWriteNum {i : Instr} {s : State} {route : Route} {index sub v more code : Nat} {f : State → State}
    (h : exec i s = s.runIf (wfRoute route) (s.odWriteNum route index sub v more f)) (hr : wfRoute route = true)
    (hw : MayWrite s route index sub v) (refused : more = code) (abort : code ≠ 0) :
    Answers i s (s.odAnswer code []) := by
  subst refused
  exact aborts_of_odWriteNum h hr hw abort

/-! ## Staging (R449, R450) -/

section Staging
variable {s : State} {m : MediumContents} {f : ImageFile}

/-- The machine in which a staging begins: no block has been staged. -/
def State.unstaged (s : State) : State := { s with sv := { s.sv with blocksStaged := 0 } }

/-- The status of the first check that an image's file fails, against the security version fused (Table 14.14). -/
def imageFailure (f : ImageFile) (fused : Nat) : Option Nat :=
  if !f.complete then some 9
  else if !f.formatOk then some 3
  else if !f.keysOk then some 4
  else if !f.signaturesOk then some 5
  else if f.secver < fused then some 6
  else none

theorem State.stage_noMedium (h : s.sv.medium ≠ 2 ∨ m.usable = false) :
    s.stage m = s.unstaged.stageFails 8 s.sv.inactive := by
  have unread : (s.sv.medium != 2 || !m.usable) = true := by simpa using h
  exact if_pos unread

section Readable
variable (present : s.sv.medium = 2) (usable : m.usable = true)
include present usable

theorem State.stage_noImage (h : m.image = none) : s.stage m = s.unstaged.stageFails 9 s.sv.inactive := by
  have read : ¬ (s.sv.medium != 2 || !m.usable) = true := by simp [present, usable]
  refine (if_neg read).trans ?_
  rw [h]
  rfl

/-- The checks of an image's file are made in the order of Table 14.14; the first that fails ends the staging. -/
theorem State.stage_image (h : m.image = some f) :
    s.stage m = (imageFailure f s.sv.fusedSecver).elim
      ((({ s.unstaged with sv := { s.unstaged.sv with staging := some f } }).setInactive
        { s.sv.inactive with st := .staging }).updateStatus 2)
      (fun status => s.unstaged.stageFails status s.sv.inactive) := by
  have read : ¬ (s.sv.medium != 2 || !m.usable) = true := by simp [present, usable]
  refine (if_neg read).trans ?_
  rw [h]
  unfold imageFailure
  dsimp only
  repeat' split
  all_goals rfl

theorem State.stage_fails {status : Nat} (h : m.image = some f) (fails : imageFailure f s.sv.fusedSecver = some status) :
    s.stage m = s.unstaged.stageFails status s.sv.inactive := by
  rw [State.stage_image present usable h, fails, Option.elim_some]

theorem State.stage_begins (h : m.image = some f) (passes : imageFailure f s.sv.fusedSecver = none) :
    s.stage m = (({ s.unstaged with sv := { s.unstaged.sv with staging := some f } }).setInactive
      { s.sv.inactive with st := .staging }).updateStatus 2 := by
  rw [State.stage_image present usable h, passes, Option.elim_none]

end Readable

/-- A running staging is abandoned, and its bank is INVALID. -/
theorem State.abandonStaging_running (h : s.sv.staging = some f) :
    s.abandonStaging = ({ s with sv := { s.sv with staging := none } }).stageFails 0x0B s.sv.inactive := by
  simp [State.abandonStaging, h]

/-! ## Blocks of a staging -/

theorem State.stageBlock_none (h : s.sv.staging = none) : s.stageBlock = s := by
  simp [State.stageBlock, h]

section Running
variable (h : s.sv.staging = some f)
include h

theorem State.stageBlock_bad (bad : f.badBlock = some s.sv.blocksStaged) (inside : s.sv.blocksStaged < f.nblocks) :
    s.stageBlock = ({ s with sv := { s.sv with staging := none } }).stageFails 7 (imageBank f .invalid) := by
  simp [State.stageBlock, h, bad, inside]

theorem State.stageBlock_more (good : f.badBlock ≠ some s.sv.blocksStaged)
    (more : s.sv.blocksStaged + 1 < f.nblocks) :
    s.stageBlock = { s with sv := { s.sv with blocksStaged := min (s.sv.blocksStaged + 1) f.nblocks } } := by
  simp [State.stageBlock, h, good, more]

theorem State.stageBlock_last (good : f.badBlock ≠ some s.sv.blocksStaged)
    (last : f.nblocks ≤ s.sv.blocksStaged + 1) :
    s.stageBlock =
      (({ s with sv := { s.sv with blocksStaged := min (s.sv.blocksStaged + 1) f.nblocks, staging := none } }).setInactive
        (imageBank f .staged)).updateStatus 0x0A := by
  simp [State.stageBlock, h, good, Nat.not_lt.2 last]

end Running

end Staging

/-! ## Activation (R451) -/

section Activation
variable {s : State} {live same : Bool}

theorem State.activateAbort_accepted (free : s.updateRefused = 0) (staged : s.sv.inactive.st = .staged)
    (alike : live = false ∨ same = true) : s.activateAbort live same = 0 := by
  rcases alike with rfl | rfl <;> simp [State.activateAbort, free, staged]

theorem State.activateAbort_refused (free : s.updateRefused = 0)
    (bad : s.sv.inactive.st ≠ .staged ∨ live = true ∧ same = false) : s.activateAbort live same = 8 := by
  rcases bad with bad | ⟨rfl, rfl⟩ <;> simp [State.activateAbort, *]

/-- The banks exchanged: the staged bank is the boot bank and active, the one before it is STAGED. -/
def State.exchanged (s : State) : State :=
  let chosen : State := { s with sv := { s.sv with selectedB := !s.sv.activeB } }
  let live := chosen.setInactive { s.sv.inactive with st := .active }
  ({ live with sv := { live.sv with activeB := !live.sv.activeB } }).setInactive { s.sv.active with st := .staged }

theorem State.activate_live (s : State) :
    s.activate true true = (s.exchanged.usePatch s.sv.inactive).updateStatus 1 := rfl

theorem State.exchanged_activeB (s : State) : s.exchanged.sv.activeB = !s.sv.activeB := by
  cases b : s.sv.activeB <;> simp [State.exchanged, State.setInactive, b]

theorem State.exchanged_active (s : State) : s.exchanged.sv.active = { s.sv.inactive with st := .active } := by
  cases b : s.sv.activeB <;> simp [State.exchanged, State.setInactive, Service.active, Service.inactive, b]

/-- Installing a patch set leaves the service state alone. -/
theorem State.usePatch_sv (s : State) (b : Bank) : (s.usePatch b).sv = s.sv := by
  unfold State.usePatch
  split <;> rfl

theorem State.activate_live_activeB (s : State) : (s.activate true true).sv.activeB = !s.sv.activeB := by
  simp only [State.activate_live, State.updateStatus, State.usePatch_sv, State.exchanged_activeB]

theorem State.activate_live_active (s : State) :
    (s.activate true true).sv.active = { s.sv.inactive with st := .active } := by
  rw [← s.exchanged_active, ← s.exchanged.usePatch_sv s.sv.inactive]
  rfl

/-- A patch set that the loader refuses is not installed (R186, R190). -/
theorem State.activate_live_refused (h : patchRefused s.sv.inactive.patch s.sv.inactive.matches_ = true) :
    (s.activate true true).sp = s.sp :=
  have kept : (s.exchanged.usePatch s.sv.inactive).sp = s.exchanged.sp := congrArg State.sp (if_pos h)
  kept

theorem State.activate_live_patched (h : patchRefused s.sv.inactive.patch s.sv.inactive.matches_ = false) :
    (s.activate true true).sp = { s.sp with
      patchVersion := s.sv.inactive.patchVersion, patch := s.sv.inactive.patch, matches_ := s.sv.inactive.matches_,
      fallBack := s.sv.inactive.fallBack } :=
  have installed := if_neg (Bool.eq_false_iff.1 h)
  congrArg State.sp installed

end Activation

/-! ## The customer image (R194) -/

/-- An image whose form fails step 1 leaves FORMAT-INVALID alone. -/
theorem State.loadImage_malformed {s : State} (h : parseImage s.sp.staged = none) :
    s.loadImage = { s with sp := { s.sp with loadStatus := 3 } } := by
  simp only [State.loadImage, h]

/-- Settles O60: each command by the abort that its object's rule adds, staging by its checks in order, a live activation
by the exchange of the banks. -/
theorem firmware : Obligations.Firmware := by
  unfold Obligations.Firmware
  intro s route m f hr b z file cmd block read ended
  refine ⟨fun hw free => ?stage, fun hw busy => aborts_of_odWriteNum rfl hr hw busy, State.stage_noMedium,
    State.stage_noImage, fun present usable image => ?image, State.stageBlock_none, fun running => ?block,
    fun hw free staged => ?atDawn, fun hw free other => ?notStaged, fun hw free staged => ?live,
    fun hw older => ?commit, fun hw newest => ?committed, fun hw => ?abandon, State.abandonStaging_running,
    fun hw here => ?load, fun hw absent => ?noZenith, State.loadImage_malformed, fun hw => ?unload⟩
  case stage => exact writes_of_odWriteNum rfl hr hw free rfl
  case image =>
    have fails {status : Nat} := State.stage_fails (s := s) (status := status) present usable image
    refine ⟨fun incomplete => fails ?_, fun complete badFormat => fails ?_, fun complete format badKeys => fails ?_,
      fun ⟨complete, format, keys⟩ unsigned => fails ?_, fun ⟨complete, format, keys⟩ signed old => fails ?_,
      fun ⟨complete, format, keys⟩ signed fresh => State.stage_begins present usable image ?_⟩
    all_goals simp [imageFailure, *]
  case block =>
    exact ⟨State.stageBlock_bad running, State.stageBlock_more running, State.stageBlock_last running⟩
  case atDawn => exact writes_of_odWriteNum rfl hr hw (State.activateAbort_accepted free staged (.inl rfl)) rfl
  case notStaged =>
    exact refuses_of_odWriteNum rfl hr hw (State.activateAbort_refused free (.inl other)) (by decide)
  case live =>
    exact ⟨writes_of_odWriteNum rfl hr hw (State.activateAbort_accepted free staged (.inr rfl)) rfl,
      s.activate_live_activeB, s.activate_live_active, State.activate_live_refused, State.activate_live_patched,
      refuses_of_odWriteNum rfl hr hw (State.activateAbort_refused free (.inr ⟨rfl, rfl⟩)) (by decide)⟩
  case commit => exact writes_of_odWriteNum rfl hr hw (by simp [rangeOnly, older]) rfl
  case committed =>
    exact refuses_of_odWriteNum rfl hr hw (by simp [rangeOnly, Nat.not_lt.2 newest]) (by decide)
  case abandon => exact writes_of_odWriteNum rfl hr hw rfl rfl
  case load => exact writes_of_odWriteNum rfl hr hw (by simp [here]) rfl
  case noZenith => exact refuses_of_odWriteNum rfl hr hw (if_pos absent) (by decide)
  case unload => exact writes_of_odWriteNum rfl hr hw rfl rfl

end Sys2Proof.Machine
end

section
/-! # What delivering coherence messages leaves alone

A message within the module changes lines, caches, links and doorbells. The module's control state keeps its value through
every operation of a message's delivery, in the order of the model's definitions. -/

namespace Sys2Proof.Machine

/-! ## Lines, doorbells and links -/

@[simp] theorem State.wrWords_md (s : State) (ra : Nat) (ws : List Word) : (s.wrWords ra ws).md = s.md := by
  induction ws generalizing s ra with
  | nil => rfl
  | cons w r ih => exact ih (s.wr ra w) (ra + 1)

@[simp] theorem State.wrLineMask_md (s : State) (line : Nat) (ws mask : List Word) :
    (s.wrLineMask line ws mask).md = s.md := by
  have written := foldl_unchanged State.md (f := fun (t : State) i => t.wrMask (line * 16 + i) (wordAt ws i) (wordAt mask i))
    (fun _ _ => rfl) (List.range 16) s
  unfold State.wrLineMask
  dsimp only
  split <;> exact written

@[simp] theorem State.loseLine_md (s : State) (t line : Nat) (except_ : Option Nat) :
    (s.loseLine t line except_).md = s.md := rfl

@[simp] theorem State.ringRaw_md (s : State) (o n : Nat) : (s.ringRaw o n).md = s.md := by simp [State.ringRaw]

@[simp] theorem State.gwaitRule_md (s : State) (o n : Nat) : (s.gwaitRule o n).md = s.md := by
  unfold State.gwaitRule
  dsimp only
  repeat' split
  all_goals simp

@[simp] theorem State.doorbell_md (s : State) (o n : Nat) : (s.doorbell o n).md = s.md := by simp [State.doorbell]

@[simp] theorem State.sendOn_md (s : State) (k pool : Nat) (m : Msg) : (s.sendOn k pool m).md = s.md :=
  foldl_unchanged State.md (f := fun s b => State.sendFlit s k b) (fun _ _ => rfl) _ _

@[simp] theorem State.transmitN_md (n k : Nat) (s : State) : (s.transmitN n k).md = s.md := by
  induction n generalizing s with
  | zero => rfl
  | succ n ih =>
    unfold State.transmitN
    dsimp only
    repeat' split
    all_goals simp [ih]

@[simp] theorem State.sendMsg_md (s : State) (m : Msg) : (s.sendMsg m).md = s.md := by
  simp [State.sendMsg, State.transmit]

/-! ## The home -/

@[simp] theorem State.homeSays_md (s : State) (w : DirWait) (dst type aux : Nat) (words : List Word) (poisoned : Bool) :
    (s.homeSays w dst type aux words poisoned).md = s.md := by
  simp [State.homeSays]

@[simp] theorem State.ask_md (s : State) (a line type : Nat) (words mask : List Word) :
    (s.ask a line type words mask).2.md = s.md := by
  simp [State.ask, State.sayHome, State.newTag]

@[simp] theorem State.dataTo_md (s : State) (w : DirWait) (grant : Nat) : (s.dataTo w grant).md = s.md := by
  simp [State.dataTo]

@[simp] theorem State.openTx_md (s : State) (w : DirWait) (e : DirEntry) (st : DirState) (type : Nat)
    (snoops awaits wbWait : List Nat) : (s.openTx w e st type snoops awaits wbWait).md = s.md :=
  foldl_unchanged State.md (f := fun (t : State) a => t.homeSays w a type 0 [] false)
    (fun t a => t.homeSays_md w a type 0 [] false) _ _

@[simp] theorem State.newEntry_md (s : State) (w : DirWait) : (s.newEntry w).md = s.md := by
  unfold State.newEntry
  dsimp only
  repeat' split
  all_goals simp [State.recall, State.requeue, State.unrefuse, State.own, State.touch]

@[simp] theorem State.mergeMasked_md (s : State) (w : DirWait) (ws mask : List Word) :
    (s.mergeMasked w ws mask).md = s.md := by
  simp [State.mergeMasked]

@[simp] theorem State.ownWithData_md (s : State) (w : DirWait) (way : Nat) : (s.ownWithData w way).md = s.md := by
  simp [State.ownWithData, State.own]

@[simp] theorem State.serve_md (s : State) (w : DirWait) : (s.serve w).md = s.md := by
  unfold State.serve
  dsimp only
  repeat' split
  all_goals simp [State.touch, State.unrefuse, State.own]

@[simp] theorem State.broadcastRecall_md (s : State) (line : Nat) (e : DirEntry) :
    (s.broadcastRecall line e).md = s.md := by
  simp [State.broadcastRecall, State.report]

@[simp] theorem State.takeRequest_md (s : State) (w : DirWait) : (s.takeRequest w).md = s.md := by
  unfold State.takeRequest
  dsimp only
  repeat' split
  all_goals simp [State.requeue]

@[simp] theorem State.request_md (s : State) (w : DirWait) : (s.request w).md = s.md := by
  simp [State.request, State.enqueue]

@[simp] theorem State.drainWaiting_md (n : Nat) (s : State) : (s.drainWaiting n).md = s.md := by
  induction n generalizing s with
  | zero => rfl
  | succ n ih =>
    simp only [State.drainWaiting]
    split <;> simp [ih]

@[simp] theorem State.drainHome_md (s : State) : s.drainHome.md = s.md := s.drainWaiting_md _

@[simp] theorem State.closeLost_md (s : State) (line : Nat) (e : DirEntry) (x : DirTx) :
    (s.closeLost line e x).md = s.md := by
  unfold State.closeLost
  split <;> simp

@[simp] theorem State.closeTx_md (s : State) (line : Nat) (e : DirEntry) (x : DirTx) :
    (s.closeTx line e x).md = s.md := by
  unfold State.closeTx
  rw [State.drainHome_md]
  rcases x.got with _ | ⟨ws, d⟩
  all_goals
    dsimp only
    repeat' split
    all_goals simp [State.own]

@[simp] theorem State.tryClose_md (s : State) (line : Nat) : (s.tryClose line).md = s.md := by
  unfold State.tryClose
  repeat' split
  all_goals simp

@[simp] theorem State.modTx_md (s : State) (line : Nat) (f : DirTx → DirTx) : (s.modTx line f).md = s.md := by
  unfold State.modTx
  split <;> simp

@[simp] theorem State.writeBackAt_md (s : State) (m : Msg) : (s.writeBackAt m).md = s.md := by
  unfold State.writeBackAt
  dsimp only
  repeat' split
  all_goals simp

@[simp] theorem State.ackHome_md (s : State) (m : Msg) : (s.ackHome m).md = s.md := by simp [State.ackHome]

@[simp] theorem State.dataHome_md (s : State) (m : Msg) : (s.dataHome m).md = s.md := by simp [State.dataHome]

/-! ## Tiles and agents -/

@[simp] theorem State.tileAnswers_md (s : State) (t line type aux : Nat) (h : Held) (words : List Word) :
    (s.tileAnswers t line type aux h words).md = s.md := by
  simp [State.tileAnswers, State.sayHome]

@[simp] theorem State.snoop_md (s : State) (t line : Nat) (h : Held) : (s.snoop t line h).md = s.md := by
  unfold State.snoop
  dsimp only
  repeat' split
  all_goals simp [State.holdSnoop, State.markDeferred]

@[simp] theorem State.grantAt_md (s : State) (t : Nat) (m : Msg) : (s.grantAt t m).md = s.md := by
  unfold State.grantAt
  split <;> simp

@[simp] theorem State.takeWords_md (s : State) (line : Nat) (ws : List Word) : (s.takeWords line ws).md = s.md := by
  simp [State.takeWords]

@[simp] theorem State.fillAt_md (s : State) (t : Nat) (m : Msg) : (s.fillAt t m).md = s.md := by
  unfold State.fillAt
  dsimp only
  split <;> simp

@[simp] theorem State.releaseHeld_md (s : State) (t line : Nat) : (s.releaseHeld t line).md = s.md := by
  unfold State.releaseHeld
  dsimp only
  repeat' split
  all_goals simp

@[simp] theorem State.agentReleases_md (s : State) (a line : Nat) (words : List Word) :
    (s.agentReleases a line words).md = s.md := by
  unfold State.agentReleases
  split <;> simp [State.putAgent]

@[simp] theorem State.ringKept_md (s : State) (a : Nat) : (s.ringKept a).md = s.md := by
  unfold State.ringKept
  split
  · rfl
  · exact foldl_unchanged State.md (f := fun (t : State) (e : Nat × Nat × Nat) => t.doorbell e.2.1 e.2.2)
      (fun t e => t.doorbell_md e.2.1 e.2.2) _ _

@[simp] theorem State.agentGets_md (s : State) (a : Nat) (m : Msg) : (s.agentGets a m).md = s.md := by
  simp [State.agentGets]

@[simp] theorem State.ackTile_md (s : State) (t : Nat) (m : Msg) : (s.ackTile t m).md = s.md := by
  unfold State.ackTile
  dsimp only
  repeat' split
  all_goals simp

/-! ## Delivery -/

@[simp] theorem State.handleMsg_md (s : State) (m : Msg) : (s.handleMsg m).md = s.md := by
  unfold State.handleMsg
  split <;> simp [State.refusedAt]

@[simp] theorem State.pumpN_md (n : Nat) (s : State) : (s.pumpN n).md = s.md := by
  induction n generalizing s with
  | zero => rfl
  | succ n ih =>
    simp only [State.pumpN]
    split <;> simp [ih]

@[simp] theorem State.pump_md (s : State) : s.pump.md = s.md := s.pumpN_md _

@[simp] theorem State.endReservation_md (s : State) (c : Nat) : (s.endReservation c).md = s.md := by
  unfold State.endReservation
  split <;> simp

/-- A window that shuts answers the snoop that waits, which leaves the module's control state alone. -/
@[simp] theorem State.shutWindow_md (s : State) (c : Nat) : (s.shutWindow c).md = s.md := by
  unfold State.shutWindow
  split <;> simp

end Sys2Proof.Machine
end

section
/-! # Instruction retry and Halo takeover

A core fault is retried from the checkpoint or ends in a takeover (R199, R206, R207), the steps of a takeover that finds
everything intact (R203, R204), and obligation O26. -/

namespace Sys2Proof.Machine
open Sys2Proof.Safety

/-! ## Instruction retry (R199, R206, R207) -/

section Retry
variable {s : State} {c detector who : Nat} {intact : Bool}

/-- A core fault that no check of a site names is, in lockstep, a miscompare of the pair (R206). -/
def State.miscompare (s : State) (who : Nat) : Bool := s.md.lockstep && decide (2 ≤ who)

/-- The core has gone back to its checkpoint, without its reservation, and the retry has been counted. -/
def State.wentBack (s : State) (c who : Nat) : State :=
  let u := (s.shutWindow c).modCore c (fun k => { k.retryNow with miscompares := k.pairFaults + b2n (s.miscompare who) })
  { u with sp := { u.sp with retries := u.sp.retries + 1 } }

/-- What a retry leaves: a corrected fault of its site, or of both sites of a pair that miscompares. -/
def State.retried (s : State) (c detector who : Nat) : State :=
  let site := s.siteOfCore c
  let v := s.wentBack c who
  if s.md.lockstep = false then v.report (8 * site + detector % 8) 1
  else if 2 ≤ who then (v.report (8 * site + 7) 1).report (8 * (site + 1) + 7) 1
  else v.report (8 * (site + who) + detector % 8) 1

variable (small : c < 100) (bound : s.bound c = true) (here : s.inTakeover c = false)
include small bound here

/-- A core fault with an intact copy of the checkpoint, and with less than two faults of the instruction and no miscompare
before a miscompare, is retried. -/
theorem State.coreFault_retried (few : (s.core c).faults < 2)
    (first : s.miscompare who = true → (s.core c).pairFaults = 0) :
    s.coreFault c true detector who = s.retried c detector who := by
  have again : ¬ (s.miscompare who = true ∧ 1 ≤ (s.core c).pairFaults) := fun h => by have := first h.1; omega
  have kept : (s.wentBack c who).md.lockstep = s.md.lockstep := congrArg ModuleCtl.lockstep (s.shutWindow_md c)
  have runs : ¬ (!(s.bound c && decide (c < 100)) || s.inTakeover c) = true := by simp [small, bound, here]
  have goesOn : ¬ (decide (2 ≤ (s.core c).faults) || !true ||
      (s.miscompare who && decide (1 ≤ (s.core c).pairFaults))) = true := by simpa [few] using again
  have reports : s.coreFault c true detector who =
      (let site := s.siteOfCore c
       let v := s.wentBack c who
       if (!v.md.lockstep) = true then v.report (8 * site + detector % 8) 1
       else if s.miscompare who = true then (v.report (8 * site + 7) 1).report (8 * (site + 1) + 7) 1
       else v.report (8 * (site + who) + detector % 8) 1) := (if_neg runs).trans (if_neg goesOn)
  rw [reports]
  dsimp only
  rw [kept]
  cases paired : s.md.lockstep <;> simp [State.retried, State.miscompare, paired]

/-- A third core fault of an instruction, one without a checkpoint, and a second miscompare fail the site. -/
theorem State.coreFault_fails
    (last : intact = false ∨ 2 ≤ (s.core c).faults ∨ (s.miscompare who = true ∧ 1 ≤ (s.core c).pairFaults)) :
    s.coreFault c intact detector who = s.takeoverDecided (s.siteOfCore c) := by
  have ends : (decide (2 ≤ (s.core c).faults) || !intact || (s.miscompare who && decide (1 ≤ (s.core c).pairFaults))) =
      true := by
    rcases last with h | h | ⟨h1, h2⟩ <;> simp [*]
  have runs : ¬ (!(s.bound c && decide (c < 100)) || s.inTakeover c) = true := by simp [small, bound, here]
  exact (if_neg runs).trans (if_pos ends)

end Retry

/-! ## Halo takeover (R203, R204) -/

section Takeover
variable {s u : State} {site c base : Nat} {k : Taking}

theorem State.takeover_empty {checkpoint lines entries : Bool} (h : s.coreAt site = none) :
    s.takeover site checkpoint lines entries = s := by
  simp only [State.takeover, h]

/-- A takeover that is the next of its tile begins, and ends once the core's older stores have been performed. -/
theorem State.takeover_drained (carried : s.coreAt site = some c) (at_ : s.siteOfCore c = base)
    (next : (s.takeoverDecided base).sp.taking.find? (fun k => k.site / 26 == base / 26) = some k)
    (own : k.site = base) (fresh : k.begun = false)
    (drained : ((s.takeoverDecided base).takeoverBegins c base true true true).drainCore c = (u, true)) :
    s.takeover site true true true =
      u.takeoverEnds c base ((u.sp.taking.find? (fun k => k.site == base)).getD k) := by
  subst at_
  simp [State.takeover, carried, next, own, fresh, drained]

theorem State.takeoverEnds_spare {x : Nat} (clean : k.sub = 0)
    (spare : (s.bindCore c none).chooseSpare (base / 26) = some x) : s.takeoverEnds c base k = s.resumeOn c base x := by
  simp [State.takeoverEnds, spare, clean]

theorem State.takeoverEnds_lost (clean : k.sub = 0) (none_left : (s.bindCore c none).chooseSpare (base / 26) = none) :
    s.takeoverEnds c base k =
      (s.loseCore c base).uncontainedAt (s.core c).owner (if s.md.lockstep then 5 else 4) c base := by
  simp only [State.takeoverEnds, none_left, clean, beq_self_eq_true, if_true]
  rfl

end Takeover

/-- Settles O26: a core fault by the count of its instruction, a takeover by whether a spare is left. -/
theorem retryAndTakeover : Obligations.RetryAndTakeover := by
  unfold Obligations.RetryAndTakeover
  refine ⟨fun s core a b small bound here => ?faults, fun s site core u inside => ⟨fun carried => ?taken,
    fun spare => ?spare, ?passed⟩⟩
  case faults =>
    intro site k who apart retried
    have hw : wfCore core = true := by simp [wfCore, small]
    refine ⟨fun intact few first => ?retry, fun last => ?fails, fun runs few => ?watchdog, fun runs many => ?third,
      fun waits => ?waits⟩
    case retry =>
      refine answers_of_runIf_eq rfl hw ?_
      rw [intact]
      exact State.coreFault_retried (s := s.tick.2) small bound here few first
    case fails =>
      exact answers_of_runIf_eq rfl hw (State.coreFault_fails (s := s.tick.2) small bound here last)
    case watchdog =>
      refine answers_of_runIf_eq rfl hw ?_
      rw [runs]
      exact State.coreFault_retried small bound here few (by simp [State.miscompare])
    case third =>
      refine answers_of_runIf_eq rfl hw ?_
      rw [runs]
      exact State.coreFault_fails small bound here (.inr (.inl many))
    case waits =>
      refine answers_of_runIf_eq rfl hw ?_
      rw [waits]
  case taken =>
    intro base d v k next own fresh drained clean present
    have hw : wfSite site = true := decide_eq_true inside
    obtain ⟨ends, found⟩ := Option.isSome_iff_exists.1 present
    have led := State.takeover_drained carried rfl next own fresh drained
    rw [found] at led
    exact ⟨fun x spare => answers_of_runIf_eq rfl hw (led.trans (State.takeoverEnds_spare (clean ends found) spare)),
      fun lost => answers_of_runIf_eq rfl hw (led.trans (State.takeoverEnds_lost (clean ends found) lost))⟩
  case spare =>
    have hw : wfSite site = true := decide_eq_true inside
    exact ⟨answers_of_runIf_eq rfl hw (State.takeover_empty spare),
      answers_of_runIf_eq rfl hw (by simp [spare])⟩
  case passed => exact answers_of_runIf_eq rfl (decide_eq_true inside) rfl

end Sys2Proof.Machine
end

section
/-! # Orders

How a channel's next order is read and started, gets its entry, is issued and completes (R219-R234), and obligation O43. -/

namespace Sys2Proof.Machine
open Sys2Proof.Safety

/-! ## Reads of an agent (R163) -/

section Reads
variable {s u : State} {a t : Nat} {ws lines : List Nat} {go : State → State}

/-- What follows a read of lines goes on once the agent has them. -/
theorem State.withLines_has (h : HasLines s a lines u) : s.withLines a lines go = go u := by
  simp only [State.withLines, show s.agentReads a lines = (u, true) from h, if_true]

theorem State.withReads_has (h : Has s a t ws u) : s.withReads a t ws go = go u := State.withLines_has h

/-- While the agent waits for a word, only its requests have gone out. -/
theorem State.withReads_awaits (h : Awaits s a t ws u) : s.withReads a t ws go = u := by
  simp only [State.withReads, State.withLines, show s.agentReads a (s.agentLines t ws) = (u, false) from h,
    Bool.false_eq_true, if_false]

end Reads

/-! ## Reading the next order (R219, R222, R223) -/

/-- The order `o` has been read from its slot: in the machine `v` the channel, as it was in `s`, counts it and holds it. -/
def State.tookOrder (s v : State) (m : Nat) (o : Order) : State :=
  v.setChan m { s.chan m with started := ((s.chan m).started + 1) % 2 ^ 48, orders := (s.chan m).orders ++ [o] }

theorem State.start_unable {s : State} {m : Nat} (h : s.canStart m = false) (code : OCode) : s.start m code = s := by
  simp [State.start, h]

section Start
variable {s w v : State} {m : Nat} {o : Order} {code : OCode} (able : s.canStart m = true)
include able

theorem State.start_awaits (h : Awaits s (procAgent (s.chan m).proc) (s.chan m).tenant
    ((s.chan m).slotWords (s.chan m).started) w) : s.start m code = w := by
  simp only [State.start, able, Bool.not_true, Bool.false_eq_true, if_false]
  exact State.withReads_awaits h

variable (read : Has s (procAgent (s.chan m).proc) (s.chan m).tenant ((s.chan m).slotWords (s.chan m).started) w)
include read

theorem State.start_unreadable (next : w.nextOrder m = (o, false)) :
    s.start m code = (s.tookOrder w m o).finishOrder m o.slot 0o006 := by
  simp only [State.start, able, Bool.not_true, Bool.false_eq_true, if_false]
  rw [State.withReads_has read]
  simp [next, State.tookOrder, countMod]

variable (next : w.nextOrder m = (o, true))
include next

/-- An order of another code is left to the row of its own. -/
theorem State.start_otherCode (other : o.code ≠ code) (known : o.code ≠ .reserved) : s.start m code = w := by
  simp only [State.start, able, Bool.not_true, Bool.false_eq_true, if_false]
  rw [State.withReads_has read]
  simp [next, other, known]

variable (own : o.code = code ∨ o.code = .reserved)
include own

theorem State.start_programAwaits (chain : o.chain = true)
    (waits : State.bringProgram (procAgent (s.chan m).proc) (s.chan m).tenant 256 (fld o.w6 50 0) w = (v, false)) :
    s.start m code = v := by
  simp only [State.start, able, Bool.not_true, Bool.false_eq_true, if_false]
  rw [State.withReads_has read]
  rcases own with rfl | own <;> simp [*]

/-- An order at hand with its channel program is started, unless it breaks R223. -/
theorem State.start_atHand
    (program : (o.chain = false ∧ v = w) ∨ (o.chain = true ∧
      State.bringProgram (procAgent (s.chan m).proc) (s.chan m).tenant 256 (fld o.w6 50 0) w = (v, true))) :
    s.start m code = if (s.tookOrder v m o).orderInvalid (s.chan m) o then (s.tookOrder v m o).finishOrder m o.slot 0o005
      else (s.tookOrder v m o).startRead m o := by
  simp only [State.start, able, Bool.not_true, Bool.false_eq_true, if_false]
  rw [State.withReads_has read]
  have mine : ¬ (true && o.code != code && o.code != .reserved) = true := by rcases own with h | h <;> simp [h]
  have brought : (if (true && o.chain) = true then
      State.bringProgram (procAgent (s.chan m).proc) (s.chan m).tenant 256 (fld o.w6 50 0) w else (w, true)) = (v, true) := by
    rcases program with ⟨chain, rfl⟩ | ⟨chain, brought⟩ <;> simp [*]
  simp only [next]
  rw [if_neg mine, brought]
  rfl

end Start

/-! ## Starting an order (R225-R230) -/

section StartRead
variable {u : State} {m : Nat} {o : Order} {e : LedgerEntry}

theorem State.startRead_close (close : o.code = .close) :
    u.startRead m o = (u.setChan m { u.chan m with closing := true }).finishOrder m o.slot 0 := by
  simp only [State.startRead, close]

/-- The twin's item of a RETIRE: the tenant's configuration with the new mark. -/
def State.retireItem (u : State) (m : Nat) (o : Order) : Option Nat × State :=
  let r := u.ownRecord 3 [BitVec.ofNat 36 m]
  r.mirrorOut (u.chan m).tenant (.config ((r.setChan m { u.chan m with retire := o.mark }).configOf (u.chan m).tenant))

theorem State.startRead_retire_alone (retire : o.code = .retire) (alone : (u.retireItem m o).1 = none) :
    u.startRead m o = (u.retireItem m o).2.applyRetire m o.slot o.mark := by
  unfold State.retireItem at alone ⊢
  simp only [State.startRead, retire, alone]

theorem State.startRead_retire_mirrored {i : Nat} (retire : o.code = .retire) (item : (u.retireItem m o).1 = some i) :
    u.startRead m o = (u.retireItem m o).2.modOrder m o.slot (fun o => { o with stage := .opened, item := some i }) := by
  unfold State.retireItem at item ⊢
  simp only [State.startRead, retire, item]

variable (notRetire : o.code ≠ .retire) (notClose : o.code ≠ .close)
include notRetire notClose

theorem State.startRead_stale (old : o.seq ≤ (u.chan m).retire) :
    u.startRead m o = ({ u with ch := { u.ch with stale := u.ch.stale + 1 } }).finishOrder m o.slot 0o001 := by
  simp [State.startRead, old]

variable (young : (u.chan m).retire < o.seq)
include young

section Known
variable (known : u.findEntry ownSource (o.opid (u.chan m).tenant) = some e)
include known

theorem State.startRead_conflict (differs : e.digest ≠ o.digest) :
    u.startRead m o = u.finishOrder m o.slot 0o004 := by
  simp [State.startRead, Nat.not_le.2 young, known, differs]

variable (same : e.digest = o.digest)
include same

theorem State.startRead_attached (running : e.st = .opened ∨ e.st = .issued) :
    u.startRead m o = u.countDup.modOrder m o.slot (fun o => { o with stage := .attached }) := by
  rcases running with st | st <;> simp [State.startRead, Nat.not_le.2 young, known, same, st]

theorem State.startRead_duplicate (ended : e.st = .done ∨ e.st = .resetAbandoned) :
    u.startRead m o = u.countDup.modOrder m o.slot (fun o => { o with
      stage := .done, dup := true, status := e.status, attempts := min 3 e.attempt, count := e.count, time := e.time,
      detail := e.detail }) := by
  rcases ended with st | st <;> simp [State.startRead, Nat.not_le.2 young, known, same, st]

/-- A duplicate of an order in doubt is attached to the re-drive that another duplicate started, or starts it. -/
theorem State.startRead_inDoubt (st : e.st = .inDoubt) :
    u.startRead m o =
      if (u.chan m).orders.any (fun p => p.slot != o.slot && p.stage == .opened && !p.isControl &&
          p.opid (u.chan m).tenant == o.opid (u.chan m).tenant) then
        u.countDup.modOrder m o.slot (fun o => { o with stage := .attached })
      else u.duplicateInDoubt m o.slot := by
  simp [State.startRead, Nat.not_le.2 young, known, same, st]

end Known

section New
variable (new : u.findEntry ownSource (o.opid (u.chan m).tenant) = none)
include new

theorem State.startRead_waits (full : (u.chT (u.chan m).tenant).quota ≤ u.ledgerUsed (u.chan m).tenant) :
    u.startRead m o = u.modOrder m o.slot (fun o => { o with stage := .waitAlloc }) := by
  simp [State.startRead, Nat.not_le.2 young, new, full]

theorem State.startRead_opens (room : u.ledgerUsed (u.chan m).tenant < (u.chT (u.chan m).tenant).quota) :
    u.startRead m o = u.openEntry m o.slot := by
  simp [State.startRead, Nat.not_le.2 young, new, Nat.not_le.2 room]

end New

end StartRead

/-! ## Allocation (R229) -/

section Allocate
variable {s : State} {m : Nat} {o : Order}

theorem State.allocate_none (h : (s.chan m).orders.find? (fun o => o.stage == .waitAlloc) = none) : s.allocate m = s := by
  simp only [State.allocate, h]

theorem State.allocate_some (h : (s.chan m).orders.find? (fun o => o.stage == .waitAlloc) = some o) :
    s.allocate m = if (s.chT (s.chan m).tenant).quota ≤ s.ledgerUsed (s.chan m).tenant then s else s.openEntry m o.slot := by
  simp only [State.allocate, h]

end Allocate

/-! ## Issue (R234) -/

/-- An opened order may be issued: the twin has its OPEN record. -/
def State.issuable (s : State) (c : Chan) (o : Order) : Bool :=
  o.stage == .opened && !o.isControl && ((s.findEntry ownSource (o.opid c.tenant)).elim true (·.item.isNone))

/-- The entry and the order are ISSUED. -/
def State.markIssued (u : State) (m : Nat) (id : DWord) (slot : Nat) : State :=
  (u.modEntry ownSource id (fun e => { e with st := .issued, series := e.series + 1 })).modOrder m slot
    (fun o => { o with stage := .issued, lostAnswer := false })

section Issue
variable {s u : State} {m : Nat} {o : Order}

theorem State.issueNext_none (h : (s.chan m).orders.find? (s.issuable (s.chan m)) = none) : s.issueNext m = s := by
  unfold State.issuable at h
  unfold State.issueNext
  dsimp only
  split
  · rfl
  · rw [h]

variable (powered : s.md.st = .run ∨ s.md.st = .extracting)
  (first : (s.chan m).orders.find? (s.issuable (s.chan m)) = some o) (free : s.fencedTenant (s.chan m).tenant = false)
include powered first free

/-- What issuing comes to once an order has been found. -/
theorem State.issueNext_some :
    s.issueNext m =
      (let c := s.chan m
       let id := o.opid c.tenant
       if c.noTarget then
         (if (s.findEntry ownSource id).any (fun e => e.st == .inDoubt) then (s.closeGrant o).finishOrder m o.slot 0o010
          else s.outcome m o.slot 0o010 0 0)
       else if o.code == .nop && c.cls != .c then
         (s.modEntry ownSource id (fun e => { e with st := .issued })).outcome m o.slot 0 0 0
       else if !s.targetUp c || ((c.cls == .c || c.cls == .n) && !s.queueRoom c) then s
       else s.withLines (procAgent c.proc) (s.deliverLines c o) (fun u =>
         (u.markIssued m id o.slot).deliver m o.slot ((u.findEntry ownSource id).elim 0 (·.attempt)))) := by
  have works : ¬ (s.md.st != .run && s.md.st != .extracting) = true := by rcases powered with h | h <;> simp [h]
  unfold State.issuable at first
  unfold State.issueNext
  dsimp only
  rw [if_neg works, first]
  dsimp only
  rw [free]
  rfl

theorem State.issueNext_noTarget (lost : (s.chan m).noTarget = true) :
    s.issueNext m =
      if (s.findEntry ownSource (o.opid (s.chan m).tenant)).any (fun e => e.st == .inDoubt) then
        (s.closeGrant o).finishOrder m o.slot 0o010
      else s.outcome m o.slot 0o010 0 0 := by
  rw [State.issueNext_some powered first free]
  exact if_pos lost

variable (kept : (s.chan m).noTarget = false)
include kept

/-- A NOP of a class without a device is done at once. -/
theorem State.issueNext_nop (nop : o.code = .nop) (cls : (s.chan m).cls ≠ .c) :
    s.issueNext m = (s.modEntry ownSource (o.opid (s.chan m).tenant) (fun e => { e with st := .issued })).outcome m o.slot
      0 0 0 := by
  rw [State.issueNext_some powered first free]
  simp [kept, nop, cls]

variable (sent : o.code ≠ .nop ∨ (s.chan m).cls = .c)
include sent

theorem State.issueNext_waits (unready : s.targetUp (s.chan m) = false ∨
    (((s.chan m).cls = .c ∨ (s.chan m).cls = .n) ∧ s.queueRoom (s.chan m) = false)) : s.issueNext m = s := by
  rw [State.issueNext_some powered first free]
  rcases sent with sent | sent <;> rcases unready with down | ⟨cls, full⟩ <;> simp [*]

theorem State.issueNext_delivers (up : s.targetUp (s.chan m) = true)
    (room : (s.chan m).cls = .c ∨ (s.chan m).cls = .n → s.queueRoom (s.chan m) = true)
    (read : HasLines s (procAgent (s.chan m).proc) (s.deliverLines (s.chan m) o) u) :
    s.issueNext m = (u.markIssued m (o.opid (s.chan m).tenant) o.slot).deliver m o.slot
      ((u.findEntry ownSource (o.opid (s.chan m).tenant)).elim 0 (·.attempt)) := by
  have notNop : ¬ (o.code == .nop && (s.chan m).cls != .c) = true := by rcases sent with h | h <;> simp [h]
  have ready : ¬ (!s.targetUp (s.chan m) || (((s.chan m).cls == .c || (s.chan m).cls == .n) && !s.queueRoom (s.chan m))) =
      true := by simpa [up] using room
  rw [State.issueNext_some powered first free]
  dsimp only
  rw [kept, if_neg Bool.false_ne_true, if_neg notNop, if_neg ready, State.withLines_has read]

end Issue

/-! ## Completion records (R231-R233) -/

section Complete
variable {s u : State} {m : Nat} {o : Order}

/-- The DONE record of an order that still lacks one is written first. -/
def State.noted (s : State) (m : Nat) (o : Order) : State := if o.unrecorded then s.recordDone m o.slot else s

theorem State.completeNext_none (h : (s.chan m).orders.find? (fun o => o.slot == (s.chan m).completed) = none) :
    s.completeNext m = s := by
  simp only [State.completeNext, h]

variable (next : (s.chan m).orders.find? (fun o => o.slot == (s.chan m).completed) = some o)
include next

theorem State.completeNext_unready (h : o.stage ≠ .done ∨ s.agentQuiet (s.chan m).dataAgent = false) :
    s.completeNext m = s := by
  rcases h with h | h <;> simp [State.completeNext, next, h]

variable (done : o.stage = .done) (quiet : s.agentQuiet (s.chan m).dataAgent = true)
include done quiet

theorem State.completeNext_recordWaits (waits : (s.noted m o).recordWaits m o = true) : s.completeNext m = s.noted m o := by
  unfold State.noted at waits ⊢
  simp only [State.completeNext, next, done, quiet, waits]
  rfl

variable (recorded : (s.noted m o).recordWaits m o = false)
  (read : Has (s.noted m o) (procAgent (s.chan m).proc) (s.chan m).tenant ((s.chan m).restWords o) u)
include recorded read

theorem State.completeNext_own (own : o.sender = none) :
    s.completeNext m = ((u.writeCompletion m o).afterRecord m o).finishStop := by
  unfold State.noted at recorded read
  simp only [State.completeNext, next, done, quiet, recorded, own, bne_self_eq_false, Bool.not_true, Bool.or_self,
    Bool.false_eq_true, if_false]
  exact State.withReads_has read

/-- A RECEIVE's record is followed by the COMPLETION to the sender (R250). -/
theorem State.completeNext_received {src : Nat} {id : DWord} (sender : o.sender = some (src, id)) :
    s.completeNext m = ((u.writeCompletion m o).afterRecord m o).sendCompletion src id
      ((u.findEntry src id).elim 0 (·.attempt)) 0 o.count o.time := by
  unfold State.noted at recorded read
  simp only [State.completeNext, next, done, quiet, recorded, sender, bne_self_eq_false, Bool.not_true, Bool.or_self,
    Bool.false_eq_true, if_false]
  exact State.withReads_has read

end Complete

/-- Settles O43: every row of an order's code is `start` on its code, read by the cases above; the rows of the ledger, of
issue and of completion by the order that is next. -/
theorem orders : Obligations.Orders := by
  unfold Obligations.Orders
  refine ⟨?rows, ?start, ?issue⟩
  case rows =>
    intro s w v m o readable hm c a started row
    have chan : wfChan m = true := decide_eq_true hm
    have each (i : Instr) (code : OCode) (hx : exec i s = s.runIf (wfChan m) (s.start m code)) : row i code := by
      have becomes {t : State} (ht : s.start m code = t) : Answers i s t := answers_of_runIf_eq hx chan ht
      refine ⟨fun unable => becomes (State.start_unable unable code), fun able waits => becomes (State.start_awaits able waits),
        fun able read next => ⟨?_, ?_, ?_⟩⟩
      · rintro rfl other known
        exact becomes (State.start_otherCode able read next other known)
      · rintro rfl
        exact becomes (State.start_unreadable able read next)
      · rintro rfl own
        refine ⟨fun chain waits => becomes (State.start_programAwaits able read next own chain waits),
          fun program => ⟨fun bad => ?_, fun good => ?_⟩⟩
        · exact becomes ((State.start_atHand able read next own program).trans (if_pos bad))
        · exact becomes ((State.start_atHand able read next own program).trans (if_neg (Bool.eq_false_iff.1 good)))
    exact ⟨each _ _ rfl, each _ _ rfl, each _ _ rfl, each _ _ rfl, each _ _ rfl, each _ _ rfl, each _ _ rfl, each _ _ rfl,
      each _ _ rfl, each _ _ rfl, each _ _ rfl, each _ _ rfl⟩
  case start =>
    intro u m o c id e plain
    refine ⟨fun ⟨notRetire, notClose⟩ => State.startRead_stale notRetire notClose, fun ⟨notRetire, notClose⟩ young =>
      ⟨fun x => State.startRead_conflict notRetire notClose young, fun x => State.startRead_attached notRetire notClose young,
       fun x => State.startRead_duplicate notRetire notClose young, fun x known same st => ?_,
       State.startRead_waits notRetire notClose young, State.startRead_opens notRetire notClose young⟩,
      fun retire => ⟨State.startRead_retire_alone retire, fun i => State.startRead_retire_mirrored retire⟩,
      State.startRead_close⟩
    have found := State.startRead_inDoubt notRetire notClose young known same st
    exact ⟨fun other => found.trans (if_pos other), fun only => found.trans (if_neg (Bool.eq_false_iff.1 only))⟩
  case issue =>
    intro s u m o hm c id e a ready issued function noted d wrote shown
    have chan : wfChan m = true := decide_eq_true hm
    have allocates {t : State} (ht : s.allocate m = t) : Answers (.ledgerAllocation m) s t := answers_of_runIf_eq rfl chan ht
    have issues {t : State} (ht : s.issueNext m = t) : Answers (.issue m) s t := answers_of_runIf_eq rfl chan ht
    have completes {t : State} (ht : s.completeNext m = t) : Answers (.completionRecord m) s t :=
      answers_of_runIf_eq rfl chan ht
    refine ⟨fun waiting => ⟨fun room => ?_, fun full => ?_⟩, fun none_ => allocates (State.allocate_none none_),
      fun none_ => issues (State.issueNext_none none_), fun powered first free => ⟨fun lost => ⟨fun sure => ?_, fun doubt => ?_⟩,
        fun kept nop cls => issues (State.issueNext_nop powered first free kept nop cls),
        fun kept sent => ⟨fun unready => issues (State.issueNext_waits powered first free kept sent unready),
          fun up room read => issues (State.issueNext_delivers powered first free kept sent up room read)⟩⟩,
      fun next => ⟨fun unready => completes (State.completeNext_unready next unready), fun done quiet =>
        ⟨fun waits => completes (State.completeNext_recordWaits next done quiet waits), fun recorded read =>
          ⟨fun own => completes (State.completeNext_own next done quiet recorded read own), fun src id sender =>
            completes (State.completeNext_received next done quiet recorded read sender)⟩⟩⟩,
      fun none_ => completes (State.completeNext_none none_)⟩
    · exact allocates ((State.allocate_some waiting).trans (if_neg (Nat.not_le.2 room)))
    · exact allocates ((State.allocate_some waiting).trans (if_pos full))
    · exact issues ((State.issueNext_noTarget powered first free lost).trans (if_neg (Bool.eq_false_iff.1 sure)))
    · exact issues ((State.issueNext_noTarget powered first free lost).trans (if_pos doubt))

end Sys2Proof.Machine
end

section
/-! # Answers to orders and device accesses

What the targets' answers, timeouts and the loss of a link do to issued orders (R124, R234-R240), what a device reads and
writes (R213, R241, R242), and how a channel is configured (R227, R253); obligations O44 and O45. -/

namespace Sys2Proof.Machine
open Sys2Proof.Safety

/-! ## Answers of class C adapters (R235, R238) -/

section CompletionBlock
variable {s : State} {id : DWord} {m : Nat} {o : Order} {result att count : Nat} {d : BitVec 64}

/-- The attempt that an identifier's entry is at. -/
def State.attemptOf (s : State) (id : DWord) : Nat := (s.findEntry ownSource id).elim 0 (·.attempt)

theorem State.completionBlock_unknown (h : s.issuedOrder id = none) :
    s.completionBlock id result att count d = s.countLate := by
  simp only [State.completionBlock, h]

variable (issued : s.issuedOrder id = some (m, o))
include issued

theorem State.completionBlock_late (h : (s.chan m).cls ≠ .c ∨ s.attemptOf id ≠ att % 256) :
    s.completionBlock id result att count d = s.countLate := by
  unfold State.attemptOf at h
  rcases h with h | h
  · simp [State.completionBlock, issued, h]
  · simp [State.completionBlock, issued, Ne.symm h]

variable (cls : (s.chan m).cls = .c) (current : s.attemptOf id = att % 256)
include cls current

theorem State.completionBlock_notIssued :
    s.completionBlock id 2 att count d = (s.completionOut (s.chan m)).outcome m o.slot 0o010 0 0 := by
  unfold State.attemptOf at current
  simp [State.completionBlock, issued, cls, current]

theorem State.completionBlock_error :
    s.completionBlock id 1 att count d =
      (s.completionOut (s.chan m)).outcome m o.slot 0o007 (if o.code.data then count else 0) (d.setWidth 72) := by
  unfold State.attemptOf at current
  simp [State.completionBlock, issued, cls, current]

theorem State.completionBlock_done (notQuery : o.code ≠ .query) :
    s.completionBlock id 0 att count d =
      (s.completionOut (s.chan m)).outcome m o.slot 0 (if o.code.data then count else 0) (d.setWidth 72) := by
  unfold State.attemptOf at current
  simp [State.completionBlock, issued, cls, current, notQuery]

/-- A QUERY about an operation that the adapter does not know. -/
theorem State.completionBlock_queryUnknown (query : o.code = .query) :
    s.completionBlock id 0 att 0 d = (s.completionOut (s.chan m)).outcome m o.slot 0o013 0 0 := by
  unfold State.attemptOf at current
  simp [State.completionBlock, issued, cls, current, query]

end CompletionBlock

/-! ## Completions of NVM Express controllers (R240) -/

section Nvme
variable {s : State} {port rid cid m : Nat} {o : Order} {count detail : Nat}

theorem State.nvmeCompletion_unknown {status : Nat} (h : s.issuedCid port rid cid = none) :
    s.nvmeCompletion port rid cid status count detail = s.countLate := by
  simp only [State.nvmeCompletion, h]

/-- The detail of an NVM Express completion: the status field of double word 3 above double word 0. -/
def nvmeDetail (count detail : Nat) : DWord := BitVec.ofNat 72 ((detail / 2 ^ 17 * 2 % 2 ^ 16) * 2 ^ 32 + count % 2 ^ 32)

variable (issued : s.issuedCid port rid cid = some (m, o))
include issued

theorem State.nvmeCompletion_done :
    s.nvmeCompletion port rid cid 0 count detail =
      (s.completionOut (s.chan m)).outcome m o.slot 0 (if o.code = .read ∨ o.code = .write then o.len else 0)
        (nvmeDetail count detail) := by
  simp [State.nvmeCompletion, issued, nvmeDetail, nfld]

theorem State.nvmeCompletion_error :
    s.nvmeCompletion port rid cid 1 count detail =
      (s.completionOut (s.chan m)).outcome m o.slot 0o007 0 (nvmeDetail count detail) := by
  simp [State.nvmeCompletion, issued, nvmeDetail, nfld]

theorem State.nvmeCompletion_transfer :
    s.nvmeCompletion port rid cid 4 count detail = (s.completionOut (s.chan m)).noAnswer m o.slot := by
  simp [State.nvmeCompletion, issued, nfld]

end Nvme

/-! ## Orders without an answer (Table 7.10) -/

section NoAnswer
variable {s : State} {m slot : Nat} {o : Order}

theorem State.noAnswer_none (h : (s.chan m).orders.find? (fun o => o.slot == slot && o.stage == .issued) = none) :
    s.noAnswer m slot = s := by
  simp only [State.noAnswer, h]

variable (issued : (s.chan m).orders.find? (fun o => o.slot == slot && o.stage == .issued) = some o)
include issued

theorem State.noAnswer_receive (cls : (s.chan m).cls = .receive) : s.noAnswer m slot = s := by
  simp [State.noAnswer, issued, cls]

theorem State.noAnswer_unknown (cls : (s.chan m).cls = .n) (once : o.idem = false) :
    s.noAnswer m slot = s.outcome m slot 0o002 0 0 := by
  simp [State.noAnswer, issued, cls, once]

theorem State.noAnswer_redriven
    (cls : (s.chan m).cls = .c ∨ (s.chan m).cls = .send ∨ ((s.chan m).cls = .n ∧ o.idem = true)) :
    s.noAnswer m slot = s.redrive m slot := by
  rcases cls with cls | cls | ⟨cls, idem⟩ <;> simp [State.noAnswer, *]

end NoAnswer

/-! ## Links of the root ports (R124, R234, R236) -/

/-- A link comes up: Table 7.10's orders aside, its state and the reports of its port start anew. -/
theorem State.pcieUpEvent_noChannels {s : State} (h : s.ch.chans = []) {port link : Nat} (quad : link < 4) (rate width : Nat) :
    s.pcieUpEvent (4 * port + link) rate width = { s with ch := { s.ch with
      links := tput s.ch.links PcieLink.init (4 * port + link)
        { up := true, rate := rate % 16, width := width % 32, ide := Config.ideActive port link },
      ioReported := s.ch.ioReported.filter (· % 8 != port) } } := by
  have portOf : (4 * port + link) / 4 = port := by omega
  have linkOf : (4 * port + link) % 4 = link := by omega
  simp only [State.pcieUpEvent, h, List.foldl_nil, portOf, linkOf]

/-- A link that goes down while its port holds no store for it discards none. -/
theorem State.linkDown_noneHeld {s : State} {port link : Nat} (h : s.heldFor (4 * port + link) = []) :
    s.linkDown port link =
      (let k := 4 * port + link
       let fell := (s.pcieDown k).tick
       let told := if Config.ownRequestLost fell.1 k then fell.2.report (1160 + k) 2 else fell.2
       { told with ch := { told.ch with
         ioQueued := told.ch.ioQueued.filter (fun x => x.link != k),
         ioReported := told.ch.ioReported.filter (· % 8 != port) } }) := by
  simp only [State.linkDown, h, List.foldl_nil]

/-- Settles O44: each answer by the order that it names, each loss by what the port holds. -/
theorem orderAnswers : Obligations.OrderAnswers := by
  unfold Obligations.OrderAnswers
  intro s m o id att count detail port rid link cid d dup c late size cur taken
  refine ⟨fun unknown => ?unknown, fun issued old => ?late, fun issued cls current => ?block, fun hp unknown => ?cidUnknown,
    fun hp issued => ?nvme, fun hm slot none_ => ?notIssued, fun hm slot issued => ?timeout, fun hp hl => ?links⟩
  case unknown => exact answers_of_runIf_true rfl (State.completionBlock_unknown unknown)
  case late => exact answers_of_runIf_true rfl (State.completionBlock_late issued old)
  case block =>
    exact ⟨fun notQuery => answers_of_runIf_true rfl (State.completionBlock_done issued cls current notQuery),
      answers_of_runIf_true rfl (State.completionBlock_error issued cls current),
      answers_of_runIf_true rfl (State.completionBlock_notIssued issued cls current),
      fun query => answers_of_runIf_true rfl (State.completionBlock_queryUnknown issued cls current query)⟩
  case cidUnknown => exact answers_of_runIf_eq rfl (decide_eq_true hp) (State.nvmeCompletion_unknown unknown)
  case nvme =>
    have named : wfPort port = true := decide_eq_true hp
    exact ⟨answers_of_runIf_eq rfl named (State.nvmeCompletion_done issued),
      answers_of_runIf_eq rfl named (State.nvmeCompletion_error issued),
      answers_of_runIf_eq rfl named (State.nvmeCompletion_transfer issued)⟩
  case notIssued => exact answers_of_runIf_eq rfl (decide_eq_true hm) (State.noAnswer_none none_)
  case timeout =>
    have named : wfChan m = true := decide_eq_true hm
    exact ⟨fun cls once => answers_of_runIf_eq rfl named (State.noAnswer_unknown issued cls once),
      fun cls => answers_of_runIf_eq rfl named (State.noAnswer_redriven issued cls),
      fun cls => answers_of_runIf_eq rfl named (State.noAnswer_receive issued cls)⟩
  case links =>
    intro k fell told
    have port_ : wfPort port = true := decide_eq_true hp
    have named : (wfPort port && wfQuad link) = true := by simp [port_, wfQuad, hl]
    exact ⟨fun rate width none_ => answers_of_runIf_eq rfl named (State.pcieUpEvent_noChannels none_ hl rate width),
      fun rate width => answers_of_runIf_eq rfl named rfl,
      fun none_ => answers_of_runIf_eq rfl named (State.linkDown_noneHeld none_), answers_of_runIf_eq rfl named rfl,
      answers_of_runIf_eq rfl named (by rw [Nat.add_assoc]), answers_of_runIf_eq rfl port_ rfl⟩

/-! ## Device accesses (R237, R241, R242) -/

section Device
variable {s u : State} {port rid addr n t x : Nat} {octets : List Octet} {l : List Nat}

theorem State.device_linkDown (down : s.pcieUp port rid = false) :
    s.deviceWrite port rid addr octets = s ∧ s.deviceRead port rid addr n = s := by
  simp [State.deviceWrite, State.deviceRead, down]

variable (up : s.pcieUp port rid = true)
include up

section Own
variable (own : Config.classDTenant port rid = none)
include own

section Grant
variable (granted : 0x8000000000000000 ≤ addr)
include granted

/-- A write through a grant reaches the octets of its segments; without one it is counted late. -/
theorem State.deviceWrite_grant :
    s.deviceWrite port rid addr octets =
      (s.grantOctets port rid addr octets.length).elim s.countLate
        (fun l => s.wrRealOctets (portAgentOf port) (l.zip octets)) := by
  simp only [State.deviceWrite, up, own, granted, if_true, Option.map_none, Bool.not_true, Bool.false_eq_true, if_false]
  cases s.grantOctets port rid addr octets.length <;> rfl

theorem State.deviceRead_grant (open_ : s.grantOctets port rid addr n = some l)
    (read : HasLines s (portAgentOf port) ((l.flatMap (fun k => octetLines k 1)).eraseDups) u) :
    s.deviceRead port rid addr n = u.emit (.devRead port rid (some (l.map (octetOf u.rd)))) := by
  simp only [State.deviceRead, up, own, granted, open_, if_true, Option.map_none, Bool.not_true, Bool.false_eq_true, if_false]
  exact State.withLines_has read

theorem State.deviceRead_noGrant (none_ : s.grantOctets port rid addr n = none) :
    s.deviceRead port rid addr n = s.countLate.emit (.devRead port rid none) := by
  simp [State.deviceRead, up, own, granted, none_]

end Grant

section Private
variable (low : addr < 0x8000000000000000)
include low

theorem State.deviceWrite_private :
    s.deviceWrite port rid addr octets =
      if s.privateOf port rid addr octets.length then s.putPriv addr octets else s.countLate := by
  simp [State.deviceWrite, up, own, Nat.not_le.2 low]

theorem State.deviceRead_private :
    s.deviceRead port rid addr n =
      if s.privateOf port rid addr n then s.emit (.devRead port rid (some (s.getPriv addr n)))
      else s.countLate.emit (.devRead port rid none) := by
  simp [State.deviceRead, up, own, Nat.not_le.2 low]

end Private

end Own

section ClassD
variable (tenant : Config.classDTenant port rid = some t) (serves : s.drainingT (t % 512) = false)
include tenant serves

/-- A class D function writes in its tenant's octet space where stage 2 permits it. -/
theorem State.deviceWrite_classD (inside : addr + octets.length ≤ 2 ^ 51) :
    s.deviceWrite port rid addr octets =
      (s.dmaCause (t % 512) Need.store (octetWords addr octets.length)).elim
        (s.agentWrOctets (portAgentOf port) (t % 512) addr octets) (fun x => s.ioFault (t % 512) true x rid addr) := by
  simp only [State.deviceWrite, up, tenant, serves, inside, if_true, Option.map_some, Bool.not_true, Bool.false_eq_true,
    if_false]
  cases s.dmaCause (t % 512) Need.store (octetWords addr octets.length) <;> rfl

theorem State.deviceRead_classD (inside : addr + n ≤ 2 ^ 51)
    (permitted : s.dmaCause (t % 512) Need.load (octetWords addr n) = none)
    (read : Has s (portAgentOf port) (t % 512) (octetWords addr n) u) :
    s.deviceRead port rid addr n = u.emit (.devRead port rid (some (u.agentOctets (t % 512) addr n))) := by
  simp only [State.deviceRead, up, tenant, serves, inside, permitted, if_true, Option.map_some, Bool.not_true,
    Bool.false_eq_true, if_false]
  exact State.withReads_has read

end ClassD

end Device

/-! ## Configuration (R213, R227, R253) -/

section Configure
variable {s : State} {form : List Octet}

theorem State.configure_alone (h : ((s.persist 0x1310 1).configItem form).1 = none) :
    s.configure form = ((s.persist 0x1310 1).configItem form).2.configured form := by
  simp only [State.configure]
  rcases q : (s.persist 0x1310 1).configItem form with ⟨i, u⟩
  rw [q] at h
  cases h
  rfl

/-- A configuration that the twin is asked for waits for it. -/
theorem State.configure_mirrored {i : Nat} (h : ((s.persist 0x1310 1).configItem form).1 = some i) :
    s.configure form =
      (let u := ((s.persist 0x1310 1).configItem form).2
       { u with ch := { u.ch with configs := u.ch.configs ++ [(i, form)] } }) := by
  simp only [State.configure]
  rcases q : (s.persist 0x1310 1).configItem form with ⟨i, u⟩
  rw [q] at h
  cases h
  rfl

/-- A record that takes an open channel away is refused. -/
theorem State.configAbort_open (named : octNat (form.take 2) < 32768) (away : octNat ((form.drop 2).take 2) = 0xFFFF)
    (open_ : (s.chan (octNat (form.take 2))).opened = true) : s.configAbort form = 0x0B := by
  simp [State.configAbort, Nat.not_le.2 named, away, open_]

section Write
variable {i : Instr} {t : State} {route : Route} {index sub more : Nat} {f : State → State}

/-- A permitted write of octets that its object's rule accepts has its effect. -/
theorem writes_of_odWriteOct (h : exec i s = s.runIf (wfRoute route) (s.odWriteOct route index sub form more f))
    (hr : wfRoute route = true) (hw : MayWriteOctets s route index sub form) (accepted : more = 0) (hf : f s = t) :
    Writes i s t :=
  answers_of_runIf_eq h hr (by rw [odWriteOct_of_mayWrite hw, if_pos accepted, hf])

/-- A permitted write of octets that its object's rule refuses is answered by the rule's abort alone. -/
theorem aborts_of_odWriteOct (h : exec i s = s.runIf (wfRoute route) (s.odWriteOct route index sub form more f))
    (hr : wfRoute route = true) (hw : MayWriteOctets s route index sub form) (refused : more ≠ 0) :
    Answers i s (s.odAnswer more []) :=
  answers_of_runIf_eq h hr (by rw [odWriteOct_of_mayWrite hw, if_neg refused])

end Write

end Configure

/-- Settles O45: an access by where its address lies and who owns the function, a configuration by its record's abort. -/
theorem deviceAccess : Obligations.DeviceAccess := by
  unfold Obligations.DeviceAccess
  intro s u port rid addr n octets l t route form hp a late told
  have named : wfPort port = true := decide_eq_true hp
  have writes {v : State} (hv : s.deviceWrite port rid addr octets = v) : Answers (.deviceWrite port rid addr octets) s v :=
    answers_of_runIf_eq rfl named hv
  have reads {v : State} (hv : s.deviceRead port rid addr n = v) : Answers (.deviceRead port rid addr n) s v :=
    answers_of_runIf_eq rfl named hv
  refine ⟨fun down => ?down, fun up own high => ?grant, fun up own low => ?priv, fun up tenant serves => ?classD,
    fun hr hw => ?configure, ?openChannel⟩
  case down =>
    obtain ⟨written, read⟩ := State.device_linkDown (s := s) (addr := addr) (octets := octets) (n := n) down
    exact ⟨writes written, reads read⟩
  case grant =>
    have written := State.deviceWrite_grant (octets := octets) up own high
    refine ⟨fun open_ => writes ?_, fun none_ => writes ?_, fun open_ read => reads (State.deviceRead_grant up own high open_ read),
      fun none_ => reads (State.deviceRead_noGrant up own high none_)⟩
    · rw [written, open_]
      rfl
    · rw [written, none_]
      rfl
  case priv =>
    have written := State.deviceWrite_private (octets := octets) up own low
    have read := State.deviceRead_private (n := n) up own low
    exact ⟨fun mine => writes (written.trans (if_pos mine)),
      fun other => writes (written.trans (if_neg (Bool.eq_false_iff.1 other))), fun mine => reads (read.trans (if_pos mine)),
      fun other => reads (read.trans (if_neg (Bool.eq_false_iff.1 other)))⟩
  case classD =>
    refine ⟨fun inside permitted => writes ?_, fun x inside refused => writes ?_,
      fun inside permitted read => reads (State.deviceRead_classD up tenant serves inside permitted read)⟩
    · rw [State.deviceWrite_classD up tenant serves inside, permitted]
      rfl
    · rw [State.deviceWrite_classD up tenant serves inside, refused]
      rfl
  case configure =>
    intro q
    exact ⟨fun accepted => ⟨fun alone => writes_of_odWriteOct rfl hr hw accepted (State.configure_alone alone),
        fun i item => writes_of_odWriteOct rfl hr hw accepted (State.configure_mirrored item)⟩,
      fun refused => aborts_of_odWriteOct rfl hr hw refused⟩
  case openChannel =>
    rintro m rfl hm away open_
    exact State.configAbort_open hm away open_

end Sys2Proof.Machine
end

section
/-! # I/O-space loads, the time of day and constellation frames

What ends the wait of an I/O-space load (R244, R245), how the time of day is set (R251, R252), and which frames are taken
and sent (R247-R250); obligations O31, O46 and O47. -/

namespace Sys2Proof.Machine
open Sys2Proof.Safety

/-! ## I/O-space loads (R198, R244, R245, R395) -/

theorem State.setCore_setCore (s : State) (c : Nat) (v w : Core) : (s.setCore c v).setCore c w = s.setCore c w := by
  simp [State.setCore, tput_tput]

/-- The machine check of a load without data carries the load's address (Table 13.3). -/
def IoLoad.check (l : IoLoad) (k : Core) : Check :=
  { cls := 0o40, level := min k.pl 2, tenant := k.tenant, sub := 2, info := l.vaddr % 2 ^ 48 }

/-- The load has ended without data, and its check waits. -/
def State.ioFailed (s : State) (c : Nat) (l : IoLoad) : State :=
  s.modCore c (fun k => { k with run := .running, ioHeld := [], checks := [l.check (s.core c)] })

/-- A load that ends without data takes its check where no other waits. -/
theorem State.ioFails_taken {s : State} {c : Nat} {l : IoLoad} (clear : (s.core c).checks = [])
    (takes : (s.ioFailed c l).takes c = true) :
    s.ioFails c l =
      (let w := s.ioFailed c l
       let u := w.takeAsync c (min (s.core c).pl 2) 0o40 2 (l.vaddr % 2 ^ 48)
       if (u.core c).seq = (w.core c).seq then u
       else u.modCore c (fun k => { k with checks := k.checks.erase (l.check (s.core c)) })) := by
  let v := s.modCore c (fun k => { k with run := .running, ioHeld := [] })
  have core : v.core c = { s.core c with run := .running, ioHeld := [] } := State.core_modCore_same ..
  have level : (v.core c).pl = (s.core c).pl := by rw [core]; rfl
  have tenant : (v.core c).tenant = (s.core c).tenant := by rw [core]
  have failed : v.modCore c (fun k => { k with checks := [l.check (s.core c)] }) = s.ioFailed c l := by
    simp only [State.modCore, core, State.ioFailed]
    exact State.setCore_setCore ..
  have vTakes : v.takes c = true := by rw [← v.takes_withChecks c [l.check (s.core c)], failed, takes]
  have taken := State.contained_taken (sub := 2) (info := l.vaddr % 2 ^ 48) vTakes (by rw [core]; exact clear)
  have check : ({ cls := 0o40, level := min (v.core c).pl 2, tenant := (v.core c).tenant, sub := 2,
                  info := l.vaddr % 2 ^ 48 } : Check) = l.check (s.core c) := by rw [level, tenant]; rfl
  dsimp only at taken
  refine taken.trans ?_
  rw [check, failed, level]

section Outcomes
variable {s : State} {core status : Nat} {data : DWord} {l : IoLoad}

theorem State.resumeIo_eq (s : State) (c : Nat) (l : IoLoad) (data : DWord) :
    s.resumeIo c l data =
      (let held := s.modCore c (fun k => { k with run := .running, ioHeld := k.ioHeld ++ [(l.addr, data)] })
       if opcOf l.ins = 0o20 then held.mvn c l.ins none else held.mvw c l.ins) := by
  simp only [State.resumeIo, beq_iff_eq]

theorem exec_ioLoadTimeout_waiting (waits : (s.core core).run = .ioLoad l) :
    exec (.ioLoadTimeout core) s = s.runIf (wfCore core) (s.ioFails core l) := by
  change execIoLoadTimeout core s = _
  simp only [execIoLoadTimeout, waits]

theorem exec_ioLoadCompletion_waiting (waits : (s.core core).run = .ioLoad l) :
    exec (.ioLoadCompletion core status data) s = s.runIf (wfCore core)
      (if status ≠ 0 then s.ioFails core l
       else if s.inTakeover core then
         s.modCore core (fun k => { k with run := .running, ioHeld := k.ioHeld ++ [(l.addr, data)] })
       else s.resumeIo core l data) := by
  change execIoLoadCompletion core status data s = _
  simp only [execIoLoadCompletion, waits, bne_iff_ne]

theorem exec_ioLoad_running (runs : (s.core core).run = .running) :
    exec (.ioLoadCompletion core status data) s = s.runIf (wfCore core) s ∧
      exec (.ioLoadTimeout core) s = s.runIf (wfCore core) s := by
  change execIoLoadCompletion core status data s = _ ∧ execIoLoadTimeout core s = _
  simp only [execIoLoadCompletion, execIoLoadTimeout, runs, and_self]

end Outcomes

/-- Settles O31: each answer by what the core waits for, a load without data by the check that it takes. -/
theorem ioLoads : Obligations.IoLoads := by
  unfold Obligations.IoLoads
  intro s core status data l hw k held check failed u checked
  refine ⟨fun waits given runs => ?resumes, fun waits given taken => ?holds, fun waits clear takes => ⟨fun lost => ?lost, ?late⟩,
    fun runs => ?idle⟩
  case resumes =>
    refine answers_of_runIf_eq (exec_ioLoadCompletion_waiting waits) hw ?_
    rw [if_neg (not_not.2 given), runs, if_neg Bool.false_ne_true]
    exact s.resumeIo_eq core l data
  case holds =>
    exact answers_of_runIf_eq (exec_ioLoadCompletion_waiting waits) hw ((if_neg (not_not.2 given)).trans (if_pos taken))
  case lost =>
    exact answers_of_runIf_eq (exec_ioLoadCompletion_waiting waits) hw
      ((if_pos lost).trans (State.ioFails_taken clear takes))
  case late => exact answers_of_runIf_eq (exec_ioLoadTimeout_waiting waits) hw (State.ioFails_taken clear takes)
  case idle =>
    obtain ⟨completion, timeout⟩ := exec_ioLoad_running (status := status) (data := data) runs
    exact ⟨answers_of_runIf_eq completion hw rfl, answers_of_runIf_eq timeout hw rfl⟩

/-! ## The time of day (R251, R252)

A new floor's record leaves the clocks alone, in the order of the journal's definitions. -/

@[simp] theorem State.refill_tm (n : Nat) (s : State) : (s.refill n).tm = s.tm := by
  induction n generalizing s with
  | zero => rfl
  | succ n ih =>
    by_cases full : 256 ≤ s.jn.spares.length
    · rw [show s.refill (n + 1) = s from if_pos full]
    · rw [show s.refill (n + 1) = _ from if_neg full]
      split
      · exact ih _
      · rfl

@[simp] theorem State.intoSegment_tm (s : State) (g size : Nat) : (s.intoSegment g size).tm = s.tm := by
  unfold State.intoSegment
  dsimp only
  split <;> simp

@[simp] theorem State.sealNonce_tm (s : State) (t blocks : Nat) : (s.sealNonce t blocks).2.2.tm = s.tm := by
  unfold State.sealNonce
  dsimp only
  split <;> simp [State.loadEpoch]

@[simp] theorem State.sealOf_tm (s : State) (p : Pend) (n : Nat) : (s.sealOf p n).2.2.tm = s.tm := by
  unfold State.sealOf
  dsimp only
  repeat' split
  all_goals simp

@[simp] theorem State.writeRecord_tm (s : State) (p : Pend) (compress : Bool) (seg : Nat) :
    (s.writeRecord p compress seg).tm = s.tm := by
  unfold State.writeRecord
  dsimp only
  split <;> simp [State.updateWritten]

@[simp] theorem State.ownRecord_tm (s : State) (type : Nat) (ws : List Word) : (s.ownRecord type ws).tm = s.tm := by
  obtain ⟨p, -, -, -, -, waits | lost | ⟨g, written⟩⟩ := s.ownRecord_cases type ws
  · rw [waits]
  · rw [lost]
  · rw [written]
    exact State.writeRecord_tm ..

@[simp] theorem State.newFloor_tod (s : State) : s.newFloor.tm.tod = s.tm.tod := by simp [State.newFloor]

/-- A step sets the count to the later of its value and the time given, in 64 bits. -/
theorem State.stepTime_tod (s : State) (n : Nat) : (s.stepTime n).tm.tod = max s.tm.tod n % 2 ^ 64 := by
  unfold State.stepTime
  dsimp only
  split
  · exact State.newFloor_tod _
  · rfl

/-- Settles O47: each row by its condition; a step takes the later of two times, and fits the count unless that does not. -/
theorem timeOfDay : Obligations.TimeOfDay := by
  unfold Obligations.TimeOfDay
  intro s offset lock route v t
  refine ⟨fun run near => ?floor, fun far => ?noFloor, fun off => ?ignored,
    fun on run => ⟨fun locked ahead => ?stepped, fun small => ?slewed⟩,
    fun hr hw => ⟨fun on => ?refused, fun off ahead => ?set, fun off behind => ?setBack⟩, fun n => ?forward⟩
  case floor => exact answers_of_runIf_true rfl (if_pos (by simp [run, near]))
  case noFloor => exact answers_of_runIf_true rfl (if_neg (by simp [far]))
  case ignored => exact answers_of_runIf_true rfl (if_pos (by simpa using off))
  case stepped =>
    exact answers_of_runIf_true rfl ((if_neg (by simp [on, run])).trans (if_pos (by simp [locked, ahead])))
  case slewed =>
    have slews : ¬ (lock && decide (10000000 < offset)) = true := by rcases small with h | h <;> simp [h]
    exact answers_of_runIf_true rfl ((if_neg (by simp [on, run])).trans (if_neg slews))
  case refused => exact refuses_of_odWriteNum rfl hr hw (by simp [rangeOnly, on]) (by decide)
  case set => exact writes_of_odWriteNum rfl hr hw (by simp [rangeOnly, off]) (if_pos ahead)
  case setBack => exact writes_of_odWriteNum rfl hr hw (by simp [rangeOnly, off]) (if_neg (Nat.not_le.2 behind))
  case forward =>
    rcases Nat.lt_or_ge (max s.tm.tod n) (2 ^ 64) with fits | beyond
    · rw [State.stepTime_tod, Nat.mod_eq_of_lt fits]
      exact .inl (Nat.le_max_left ..)
    · exact .inr beyond

/-! ## Frames received (R247-R250) -/

section Receive
variable {s : State} {h : CHeader} {payload : List Octet} {status count : Nat}

/-- A frame is the next of its pair's sequence, once its FACK has been taken. -/
def State.inOrder (s : State) (h : CHeader) : Prop :=
  h.fseq.toNat = (((s.takeFack h).peer h.srcMod).rxFseq + 1) % 2 ^ 32

/-- The next frame of its pair has been taken: its number and one more to acknowledge. -/
def State.accepted (s : State) (h : CHeader) : State :=
  let w := (s.takeFack h).peer h.srcMod
  (s.takeFack h).setPeer h.srcMod { w with rxFseq := h.fseq.toNat, sinceAck := w.sinceAck + 1 }

theorem State.acceptSeq_next (next : s.inOrder h) : s.acceptSeq h = (true, s.accepted h) :=
  if_pos (beq_iff_eq.2 next)

theorem State.acceptSeq_other (other : ¬ s.inOrder h) : s.acceptSeq h = (false, s.takeFack h) :=
  if_neg (mt beq_iff_eq.1 other)

theorem State.consData_dropped (bad : s.frameOk h = false ∨ 8192 < payload.length) :
    s.consData h payload = s.dropFrame :=
  if_pos (by rcases bad with bad | long <;> simp [*])

theorem State.consCompletion_dropped (bad : s.frameOk h = false) : s.consCompletion h status count = s.dropFrame :=
  if_pos (by simp [bad])

/-- What a message's frames have brought, with this one at its offset. -/
def State.assembled (s : State) (h : CHeader) (payload : List Octet) : List Octet :=
  (((s.ch.rx.find? (fun r => r.src == h.srcMod && r.opid == h.opid)).map (·.octets)).getD []).take h.offset ++ payload

/-- The machine without the message that is being put together. -/
def State.withoutMessage (s : State) (h : CHeader) : State :=
  { s with ch := { s.ch with rx := s.ch.rx.filter (fun r => !(r.src == h.srcMod && r.opid == h.opid)) } }

variable (good : s.frameOk h = true)
include good

theorem State.consData_other (short : payload.length ≤ 8192) (other : ¬ s.inOrder h) :
    s.consData h payload = s.takeFack h := by
  simp [State.consData, good, Nat.not_lt.2 short, State.acceptSeq_other other]

theorem State.consData_more (short : payload.length ≤ 8192) (next : s.inOrder h) (more : h.last = false) :
    s.consData h payload =
      (let u := s.accepted h
       { u with ch := { u.ch with rx := (u.withoutMessage h).ch.rx ++
          [{ src := h.srcMod, opid := h.opid, octets := u.assembled h payload }] } }) := by
  simp only [State.consData, good, Nat.not_lt.2 short, State.acceptSeq_next next, more]
  rfl

/-- A message is handled once its last frame has come and nothing is missing. -/
theorem State.consData_last (short : payload.length ≤ 8192) (next : s.inOrder h) (last : h.last = true) :
    s.consData h payload =
      (let u := s.accepted h
       if (u.assembled h payload).length = h.total then (u.withoutMessage h).message h (u.assembled h payload)
       else u.withoutMessage h) := by
  simp only [State.consData, good, Nat.not_lt.2 short, State.acceptSeq_next next, last, beq_iff_eq]
  rfl

theorem State.consCompletion_other (other : ¬ s.inOrder h) : s.consCompletion h status count = s.takeFack h := by
  simp [State.consCompletion, good, State.acceptSeq_other other]

section Next
variable (next : s.inOrder h)
include next

theorem State.consCompletion_unknown (unknown : (s.accepted h).issuedOrder h.opid = none) :
    s.consCompletion h status count = (s.accepted h).countLate := by
  simp [State.consCompletion, good, State.acceptSeq_next next, unknown]

/-- The answer to a SEND in flight to this peer counts where it answers the present attempt (R235, R250). -/
theorem State.consCompletion_send {m : Nat} {o : Order} (found : (s.accepted h).issuedOrder h.opid = some (m, o))
    (send : ((s.accepted h).chan m).cls = .send) (target : ((s.accepted h).chan m).target = h.srcMod) :
    s.consCompletion h status count =
      if ((s.accepted h).findEntry ownSource h.opid).any (fun e => h.attempt % 256 == e.attempt) then
        (s.accepted h).outcome m o.slot status count 0
      else (s.accepted h).countLate := by
  simp [State.consCompletion, good, State.acceptSeq_next next, found, send, target]

end Next

end Receive

/-! ## Frames sent (R247, R249) -/

section Send
variable {s : State} {p : Nat}

/-- A port is up. -/
def State.portUp (s : State) : Prop := s.ch.portUp0 = true ∨ s.ch.portUp1 = true

theorem State.consPort_up (up : s.portUp) : s.consPort = some (if s.ch.portUp0 then 0 else 1) := by
  unfold State.consPort
  split
  · rfl
  · next down => exact if_pos (up.resolve_left down)

theorem State.setPeer_setPeer (s : State) (p : Nat) (v w : Peer) : (s.setPeer p v).setPeer p w = s.setPeer p w := by
  simp [State.setPeer, tput_tput]

/-- The header under which a kept frame is sent again (R249). -/
def Sent.again (x : Sent) (fack : BitVec 32) : CHeader := { x.hdr with retransmit := true, fack := fack }

section Port
variable {port : Nat} (up : s.consPort = some port)
include up

theorem State.emitFrame_up (type : Nat) (h : CHeader) (payload : List Octet) :
    s.emitFrame type h payload = s.emit (.frame port type h payload) := by
  simp only [State.emitFrame, up]

theorem State.sendPlain_up (p type : Nat) :
    s.sendPlain p type = (s.setPeer p { s.peer p with sinceAck := 0, used := true }).emit
      (.frame port type (s.frameHeader p) []) :=
  State.emitFrame_up (s := s.setPeer p { s.peer p with sinceAck := 0, used := true }) up ..

/-- The frames kept of a pair leave again by the same port, in order. -/
theorem State.resendKept (p : Nat) (l : List Sent) :
    l.foldl (fun s x => s.emitFrame x.type (x.again (BitVec.ofNat 32 (s.peer p).rxFseq)) x.payload) s =
      { s with out := s.out ++
          l.map (fun x => .frame port x.type (x.again (BitVec.ofNat 32 (s.peer p).rxFseq)) x.payload) } := by
  induction l generalizing s with
  | nil => simp
  | cons x r ih =>
    rw [List.foldl_cons, State.emitFrame_up up, ih (s := s.emit _) up]
    simp [State.emit, State.peer]

/-- A frame that need not wait takes the pair's next sequence number and is kept until it is acknowledged. -/
theorem State.sendFrame_free {p : Nat} (empty : (s.peer p).queue = []) (room : (s.peer p).retained.length < 256)
    (type : Nat) (h : CHeader) (payload : List Octet) :
    s.sendFrame p type h payload =
      (let v := s.peer p
       let x : Sent := { hdr := { h with fseq := BitVec.ofNat 32 v.nextFseq, fack := BitVec.ofNat 32 v.rxFseq },
                         type := type, payload := payload }
       (s.setPeer p { v with nextFseq := (v.nextFseq + 1) % 2 ^ 32, retained := v.retained ++ [x], sinceAck := 0 }).emit
         (.frame port type x.hdr payload)) := by
  have portAfter (w : Peer) : (s.setPeer p w).consPort = some port := up
  simp only [State.sendFrame, State.servePeer, State.servePeerN, empty, List.nil_append, State.peer_setPeer_same,
    List.length_singleton, portAfter, Nat.not_le.2 room, Option.isNone_some, Bool.or_false, decide_false,
    Bool.false_eq_true, if_false, State.setPeer_setPeer, State.emitFrame_up (portAfter _)]

end Port

end Send

/-! ## Rows that need a port -/

section Rows
variable {s : State} {p : Nat}

/-- A HELLO counts on a port that is up. -/
theorem exec_hello {port : Nat} {h : CHeader} {up : Bool}
    (state : (if port = 0 then s.ch.portUp0 else s.ch.portUp1) = up) :
    exec (.hello port h) s = s.runIf (wfTwo port)
      (if up then if s.frameOk h then (s.takeFack h).peerAlive h.srcMod else s.dropFrame else s) := by
  change execHello port h s = _
  simp only [execHello, beq_iff_eq, state]
  cases up <;> rfl

theorem State.anyPort_iff : (s.ch.portUp0 || s.ch.portUp1) = true ↔ s.portUp := by
  simp [State.portUp]

end Rows

/-- Settles O46: a received frame by whether it is for this module, the next of its pair, and complete; a sent one by the
port that is up. -/
theorem constellationFrames : Obligations.ConstellationFrames := by
  unfold Obligations.ConstellationFrames
  refine ⟨?received, ?sent, fun s => ⟨answers_of_runIf rfl rfl rfl, answers_of_runIf rfl rfl rfl⟩⟩
  case received =>
    intro s h payload status count port time p v dropped freed w next took key got rest
    have data {t : State} (ht : s.consData h payload = t) : Answers (.constellationData h payload) s t :=
      answers_of_runIf_true rfl ht
    have completion {t : State} (ht : s.consCompletion h status count = t) : Answers (.completion h status count time) s t :=
      answers_of_runIf_true rfl ht
    refine ⟨fun bad => ⟨data (State.consData_dropped (.inl bad)), answers_of_runIf_true rfl (if_neg (Bool.eq_false_iff.1 bad)),
        completion (State.consCompletion_dropped bad), answers_of_runIf_true rfl (if_neg (Bool.eq_false_iff.1 bad))⟩,
      fun hp up => ?helloUp, fun hp down => ?helloDown, fun long => data (State.consData_dropped (.inr long)),
      fun good => ⟨answers_of_runIf_true rfl (if_pos good), fun other short => ?outOfOrder, fun inOrder => ?inOrder⟩⟩
    case helloUp =>
      have named : wfTwo port = true := decide_eq_true hp
      exact ⟨fun bad => answers_of_runIf_eq (exec_hello up) named (if_neg (Bool.eq_false_iff.1 bad)),
        fun good => answers_of_runIf_eq (exec_hello up) named (if_pos good)⟩
    case helloDown => exact answers_of_runIf_eq (exec_hello down) (decide_eq_true hp) rfl
    case outOfOrder =>
      exact ⟨data (State.consData_other good short other), completion (State.consCompletion_other good other),
        answers_of_runIf_true rfl ((if_pos good).trans (congrArg Prod.snd (State.acceptSeq_other other)))⟩
    case inOrder =>
      refine ⟨answers_of_runIf_true rfl ((if_pos good).trans (congrArg Prod.snd (State.acceptSeq_next inOrder))),
        fun short more => data (State.consData_more good short inOrder more), fun short last whole => ?_,
        fun short last part => ?_, fun unknown => completion (State.consCompletion_unknown good inOrder unknown),
        fun m o found send target => ⟨fun this => ?_, fun other => ?_⟩⟩
      · exact data ((State.consData_last good short inOrder last).trans (if_pos whole))
      · exact data ((State.consData_last good short inOrder last).trans (if_neg part))
      · exact completion ((State.consCompletion_send good inOrder found send target).trans (if_pos this))
      · exact completion ((State.consCompletion_send good inOrder found send target).trans
          (if_neg (Bool.eq_false_iff.1 other)))
  case sent =>
    intro s p type h payload hp v up port hdr plain
    have named : wfPeer p = true := decide_eq_true hp
    refine ⟨⟨rfl, rfl, rfl, rfl⟩, fun isUp => ?hello, fun isUp used => ?fack, fun isUp => ?retransmit,
      fun isUp empty room => State.sendFrame_free (State.consPort_up isUp) empty room type h payload, fun down => ?down,
      answers_of_runIf_eq rfl named rfl⟩
    case hello =>
      exact answers_of_runIf_eq rfl named
        ((if_pos (State.anyPort_iff.2 isUp)).trans (State.sendPlain_up (State.consPort_up isUp) p 5))
    case fack =>
      have wanted : ((s.ch.portUp0 || s.ch.portUp1) && (s.peer p).used) = true :=
        Bool.and_eq_true_iff.2 ⟨State.anyPort_iff.2 isUp, used⟩
      exact answers_of_runIf_eq rfl named ((if_pos wanted).trans (State.sendPlain_up (State.consPort_up isUp) p 2))
    case retransmit =>
      exact answers_of_runIf_eq rfl named
        ((if_pos (State.anyPort_iff.2 isUp)).trans (State.resendKept (State.consPort_up isUp) p v.retained))
    case down =>
      have noPort : ¬ (s.ch.portUp0 || s.ch.portUp1) = true := mt State.anyPort_iff.1 down
      have unsent : ¬ ((s.ch.portUp0 || s.ch.portUp1) && (s.peer p).used) = true := fun h => noPort (Bool.and_elim_left h)
      exact ⟨answers_of_runIf_eq rfl named (if_neg noPort), answers_of_runIf_eq rfl named (if_neg unsent),
        answers_of_runIf_eq rfl named (if_neg noPort)⟩

end Sys2Proof.Machine
end

section
/-! # Instructions of a block: COMMIT and OBJECT ACCESS

How an instruction of a block ends behind the older accesses of its core (R121, R256), what COM and ODA leave for what was
prepared, and obligation O21. -/

namespace Sys2Proof.Machine
open Sys2Proof.Safety

/-! ## Behind the older accesses -/

section Blocks
variable {α : Type} {i : Instr} {s t u : State} {core : Nat} {ins : Insn} {o : OpCode} {ok : Bool}
  {check : State → List Word → Except Stop α} {r0 r1 r : Run} {d : α}

theorem State.tryBlocks_ok {f : Run → α → Except Stop State} (n : Nat)
    (tried : s.tryBlock core ins o check f = .ok u) : State.tryBlocks core ins o check f (n + 1) s = u := by
  simp only [State.tryBlocks, tried]

/-- An instruction of a block that is prepared, with its lines in the caches, ends with its meaning's state. -/
theorem State.blockInsn_ok {f : Run → α → Except Stop State} (hd : Drains s core t)
    (first : (t.beforeInstr core).2 = true)
    (prepared : (before t core).prepareBlock core ins o check = .ok (r0, d)) (cached : r0.useCaches = .ok r1)
    (hf : f r1 d = .ok u) : s.blockInsn core ins o check f = u.deliverChecks core := by
  have tried : (before t core).tryBlock core ins o check f = .ok u := by
    simp only [State.tryBlock, prepared, cached, hf]
  have ended := State.tryBlocks_ok 127 tried
  unfold before at ended
  rw [State.blockInsn, State.drained_of_drains hd]
  simp only [first, Bool.not_true, Bool.false_eq_true, if_false, ended]

/-- A command whose unit has read its lines as well ends with what it does then. -/
theorem ends_of_readBlock {agent : Nat} {lines : α → List Nat} {act : Run → α → State} (hw : ok = true)
    (hx : exec i s =
      s.runIf ok (s.blockInsn core ins o check (fun r d => (r.reads agent (lines d)).map (fun r => act r d))))
    (hd : Drains s core t) (first : (t.beforeInstr core).2 = true)
    (prepared : (before t core).prepareBlock core ins o check = .ok (r0, d))
    (read : r0.useCaches = .ok r1 ∧ r1.reads agent (lines d) = .ok r) (hu : act r d = u) : Ends i s core u := by
  obtain ⟨cached, has⟩ := read
  exact answers_of_runIf_eq hx hw (State.blockInsn_ok hd first prepared cached (by rw [has, ← hu]; rfl))

end Blocks

/-! ## COMMIT (R255, R256, R475) -/

theorem Run.commit_invalid {r : Run} {d : ComDesc} (bad : d.valid = false) : r.commit d = r.status r.s (comWord 6 0) := by
  simp only [Run.commit, bad, Bool.not_false, if_true]

theorem Run.commit_closed {r : Run} {d : ComDesc} (good : d.valid = true) (level : r.start.pl < 2) :
    r.commit d = r.status r.s (comWord 8 0) := by
  simp only [Run.commit, good, Bool.not_true, Bool.false_eq_true, if_false, level, if_true]

/-! ## OBJECT ACCESS (R430, R431) -/

section Access
variable {s : State} {r : Run} {c : Nat} {p : OdaPlan} {ty : OType}

/-- A formed read of an object that the role sees, whose answer the buffer holds, is the object's read. -/
theorem State.odaAccess_read (role : (s.routeRole (.inBand c)).isSome = true) (typed : p.ty = some ty)
    (formed : p.req.formed (some ty) = true) (op : p.req.op = 1)
    (holds : ty.buffer = true → (s.odRead (.inBand c) p.req.index p.req.sub).sv.answer.length ≤ p.req.length) :
    s.odaAccess c p = s.odRead (.inBand c) p.req.index p.req.sub := by
  obtain ⟨role, known⟩ := Option.isSome_iff_exists.1 role
  simp only [State.odaAccess, known, typed, formed, op]
  cases buffer : ty.buffer with
  | false => simp
  | true => simp [Nat.not_lt.2 (holds buffer)]

/-- A formed write of an object that the role sees is the object's write. -/
theorem State.odaAccess_write (role : (s.routeRole (.inBand c)).isSome = true) (typed : p.ty = some ty)
    (formed : p.req.formed (some ty) = true) (op : p.req.op = 2) :
    s.odaAccess c p = s.odWrite (.inBand c) p.req.index p.req.sub (s.odaValue p ty) := by
  obtain ⟨role, known⟩ := Option.isSome_iff_exists.1 role
  simp [State.odaAccess, known, typed, formed, op]

/-- A read that succeeds and leaves the core running delivers the answer and its length. -/
theorem Run.oda_read {u : State} (access : r.s.odaAccess r.c p = u) (typed : p.ty = some ty) (op : p.req.op = 1)
    (accepted : u.sv.answerAbort = 0) (goes : (u.odaResult p ty u.sv.answer).goes r.c = true) :
    r.oda p = r.status (u.odaResult p ty u.sv.answer) (odaWord 0 u.sv.answer.length) := by
  simp [Run.oda, access, typed, op, accepted, goes]

/-- A write that succeeds and leaves the core running tells the length of what it carried. -/
theorem Run.oda_write {u : State} (access : r.s.odaAccess r.c p = u) (typed : p.ty = some ty) (op : p.req.op = 2)
    (accepted : u.sv.answerAbort = 0) (goes : u.goes r.c = true) :
    r.oda p = r.status u (odaWord 0 (r.s.odaValue p ty).length) := by
  simp [Run.oda, access, typed, op, accepted, goes]

end Access

/-- Settles O21: COM by what its descriptor comes to, ODA by its access. -/
theorem commitAndObjectAccess : Obligations.CommitAndObjectAccess := by
  unfold Obligations.CommitAndObjectAccess
  intro s t core ins r0 r1 r hd first u reads
  refine ⟨fun d hw prepared read => ?com, fun p ty hw prepared read hc typed formed role => ?oda⟩
  case com =>
    have ends {v : State} (hv : r.commit d = v) : Ends (.com core ins) s core v :=
      ends_of_readBlock hw rfl hd first prepared read hv
    exact ⟨fun bad => ends (Run.commit_invalid bad), fun good level => ends (Run.commit_closed good level),
      fun _ _ => ends rfl⟩
  case oda =>
    subst hc
    exact ⟨fun op accepted holds goes => ends_of_readBlock hw rfl hd first prepared read
        (Run.oda_read (State.odaAccess_read role typed formed op holds) typed op accepted goes),
      fun op goes accepted => ends_of_readBlock hw rfl hd first prepared read
        (Run.oda_write (State.odaAccess_write role typed formed op) typed op accepted goes)⟩

end Sys2Proof.Machine
end

section
/-! # Commits and the journal

How a tenant's first commit is decided (R256-R263), what a record's write, sealing, a journal read and a release do
(R275-R280, R343), and obligations O41 and O42. -/

namespace Sys2Proof.Machine
open Sys2Proof.Safety

/-! ## The journal behind an answer -/

@[simp] theorem State.answerCore_jn (s : State) (c : Nat) (w : Word) : (s.answerCore c w).jn = s.jn := by
  unfold State.answerCore
  split
  · split <;> rfl
  · rfl

@[simp] theorem State.acceptEntry_jt (s : State) (t : Nat) (c : Commit) :
    (s.acceptEntry t c).jt t = { s.jt t with committed := ((s.jt t).committed + 1) % 2 ^ 48 } :=
  State.jt_setJt_same ..

theorem State.finishCommit_jn (s : State) (t : Nat) (c : Commit) (status seq : Nat) :
    (s.finishCommit t c status seq).jn = (s.setJt t { s.jt t with waiting := (s.jt t).waiting.drop 1 }).jn :=
  State.answerCore_jn ..

@[simp] theorem State.finishCommit_jt (s : State) (t : Nat) (c : Commit) (status seq : Nat) :
    (s.finishCommit t c status seq).jt t = { s.jt t with waiting := (s.jt t).waiting.drop 1 } := by
  rw [← State.jt_setJt_same s t { s.jt t with waiting := (s.jt t).waiting.drop 1 }]
  exact congrArg (fun j : Journal => tget j.tenants JnTenant.init t) (s.finishCommit_jn t c status seq)

/-! ## Admission (R262, R263) -/

theorem State.regionAdmits_iff (s : State) (extra : Nat) :
    s.regionAdmits extra = true ↔ s.es.short = false ∧
      (s.pendingTotal + extra) * 200 + 250000 * MiB ≤ s.es.reserve * (100 - s.md.margin) * MiB ∧
      s.pendingTotal + extra ≤ s.md.ceiling * MiB := by
  simp [State.regionAdmits, State.ruleHolds, and_assoc]

/-- An entry is admitted when the region admits its charge and it exceeds neither quota of its tenant. -/
theorem State.admission_eq_yes_iff (s : State) (t w : Nat) :
    s.admission t w = .yes ↔ s.regionAdmits (regionCharge w) = true ∧
      s.pendingOf t + regionCharge w ≤ (s.jt t).energyQuota * MiB ∧
      s.anvilUse t + recordSize (wordOctets w) ≤ (s.jt t).anvilQuota * (2 * MiB) := by
  unfold State.admission
  dsimp only
  split
  next low =>
    simp only [Bool.or_eq_true, Bool.not_eq_true', decide_eq_true_eq] at low
    simp only [reduceCtorEq, false_iff]
    rintro ⟨region, energy, -⟩
    rcases low with full | beyond
    · rw [region] at full
      cases full
    · omega
  next low =>
    simp only [Bool.or_eq_true, Bool.not_eq_true', decide_eq_true_eq, not_or, Bool.not_eq_false, Nat.not_lt] at low
    obtain ⟨region, energy⟩ := low
    simp only [region, energy, true_and]
    split
    next beyond => simp [Nat.not_le.2 beyond]
    next within => simp [Nat.not_lt.1 within]

/-! ## The decision (R256-R260) -/

/-- Neither its tenant, nor the module, nor its sealing keeps a commit from being admitted, and the twin is not asked. -/
def State.opensTo (s : State) (t : Nat) (c : Commit) : Prop :=
  s.drainingT t = false ∧ (s.tenant t).st ≠ .stopped ∧ s.md.st = .run ∧ (s.jt t).energyQuota ≠ 0 ∧
    (s.jt t).anvilQuota ≠ 0 ∧ s.ackTwin t = false ∧ s.md.stopping = none ∧
    (c.toSeal = true → s.sealSpent t c.words.length = false)

section Decision
variable {s : State} {t : Nat} {c : Commit}

theorem State.opensTo.unspent (live : s.opensTo t c) : (c.toSeal && s.sealSpent t c.words.length) = false := by
  obtain ⟨-, -, -, -, -, -, -, spent⟩ := live
  cases sealing : c.toSeal with
  | false => rfl
  | true => exact spent sealing

/-- Such a commit, once admitted, is durable under the next number unless its data are poisoned. -/
theorem State.decide1_admitted (live : s.opensTo t c) (admitted : s.admission t c.words.length = .yes) (expired : Bool) :
    s.decide1 t c expired =
      if c.poisoned then .answer 9 0 else .answer 0 (((s.jt t).committed + 1) % 2 ^ 48) := by
  have unspent := live.unspent
  obtain ⟨stays, starts, runs, energy, anvil, alone, on, -⟩ := live
  unfold State.tenant at starts
  simp [State.decide1, stays, starts, runs, energy, anvil, alone, on, unspent, admitted]

/-- One that is not admitted fails for what it lacks under its tenant's policy or past its limit, and waits otherwise. -/
theorem State.decide1_short (live : s.opensTo t c) (short : s.admission t c.words.length ≠ .yes) (expired : Bool) :
    s.decide1 t c expired =
      if (s.jt t).failPolicy || expired then .answer (if s.admission t c.words.length = .energyLow then 2 else 3) 0
      else .wait := by
  have unspent := live.unspent
  obtain ⟨stays, starts, runs, energy, anvil, alone, on, -⟩ := live
  unfold State.tenant at starts
  cases lacks : s.admission t c.words.length with
  | yes => exact absurd lacks short
  | energyLow => simp [State.decide1, stays, starts, runs, energy, anvil, alone, on, unspent, lacks]
  | journalFull => simp [State.decide1, stays, starts, runs, energy, anvil, alone, on, unspent, lacks]

/-- A tenant without a waiting commit has nothing to decide. -/
theorem State.decideTenant_idle (idle : (s.jt t).waiting = []) (expired : Bool) : s.decideTenant t expired = s := by
  simp only [State.decideTenant, State.decideAll, idle]

section Only
variable (only : (s.jt t).waiting = [c]) (own : c.mirrored = none)
include only own

/-- A tenant's only commit waits on. -/
theorem State.decideTenant_waits {expired : Bool} (waits : s.decide1 t c expired = .wait) :
    s.decideTenant t expired = s := by
  simp [State.decideTenant, State.decideAll, only, own, waits]

/-- A tenant's only commit is refused with a status other than the two durable ones and the spent epoch's. -/
theorem State.decideTenant_refuses {expired : Bool} {status n : Nat} (decided : s.decide1 t c expired = .answer status n)
    (refused : status ≠ 0 ∧ status ≠ 1 ∧ status ≠ 4) : s.decideTenant t expired = s.finishCommit t c status n := by
  obtain ⟨durable, localOnly, spent⟩ := refused
  simp [State.decideTenant, State.decideAll, only, own, decided, durable, localOnly, spent]

/-- A tenant's only commit is durable: it enters the region, and its core is answered. -/
theorem State.decideTenant_durable {expired : Bool} {n : Nat} (decided : s.decide1 t c expired = .answer 0 n) :
    s.decideTenant t expired = (s.acceptEntry t c).finishCommit t c 0 n := by
  simp [State.decideTenant, State.decideAll, only, own, decided, State.markLocal]

end Only

end Decision

/-- Settles O41: a commit that nothing but admission decides is durable, refused, or waits. -/
theorem commitDecisions : Obligations.CommitDecisions := by
  unfold Obligations.CommitDecisions
  intro s t c ht j w k live n p done low
  have named : wfTenant t = true := decide_eq_true ht
  have admission {u : State} (hu : s.decideTenant t false = u) : Answers (.commitAdmission t) s u :=
    answers_of_runIf_eq rfl named hu
  have limit {u : State} (hu : s.decideTenant t true = u) : Answers (.waitLimit t) s u :=
    answers_of_runIf_eq rfl named hu
  refine ⟨?admits, fun idle => ⟨admission (State.decideTenant_idle idle false), limit (State.decideTenant_idle idle true)⟩,
    fun only own hlive => ?only⟩
  case admits => rw [State.admission_eq_yes_iff, State.regionAdmits_iff, and_assoc, and_assoc]
  case only =>
    have live : s.opensTo t c := hlive
    have refusable : low ≠ 0 ∧ low ≠ 1 ∧ low ≠ 4 := by
      unfold low
      split <;> decide
    refine ⟨fun yes sound => ⟨?durable, congrArg Journal.pending (State.finishCommit_jn ..), ?committed, ?answered⟩,
      fun yes poisoned => ?poisoned, fun no fails => ?fails, fun no waits => ⟨?waits, ?expires⟩⟩
    case durable =>
      exact admission (State.decideTenant_durable only own
        ((State.decide1_admitted live yes false).trans (if_neg (Bool.eq_false_iff.1 sound))))
    case committed => rw [State.finishCommit_jt, State.acceptEntry_jt]
    case answered =>
      rw [State.finishCommit_jt, State.acceptEntry_jt]
      exact congrArg (List.drop 1) only
    case poisoned =>
      exact admission (State.decideTenant_refuses only own
        ((State.decide1_admitted live yes false).trans (if_pos poisoned)) (by decide))
    case fails =>
      exact admission (State.decideTenant_refuses only own
        ((State.decide1_short live no false).trans (if_pos (Bool.or_eq_true_iff.2 (.inl fails)))) refusable)
    case waits =>
      exact admission (State.decideTenant_waits only own
        ((State.decide1_short live no false).trans (if_neg (Bool.eq_false_iff.1 ((Bool.or_false _).trans waits)))))
    case expires =>
      exact limit (State.decideTenant_refuses only own
        ((State.decide1_short live no true).trans (if_pos (Bool.or_true _))) refusable)

/-! ## What a record's write leaves of the journal (R273, R276-R278)

Sealing and the segment's filling keep the records and the region, in the order of the model's definitions. -/

@[simp] theorem State.setJt_held (s : State) (t : Nat) (v : JnTenant) :
    (s.setJt t v).jn.records = s.jn.records ∧ (s.setJt t v).jn.pending = s.jn.pending := ⟨rfl, rfl⟩

@[simp] theorem State.refill_held (n : Nat) (s : State) :
    (s.refill n).jn.records = s.jn.records ∧ (s.refill n).jn.pending = s.jn.pending := by
  induction n generalizing s with
  | zero => exact ⟨rfl, rfl⟩
  | succ n ih =>
    by_cases full : 256 ≤ s.jn.spares.length
    · rw [show s.refill (n + 1) = s from if_pos full]
      exact ⟨rfl, rfl⟩
    · rw [show s.refill (n + 1) = _ from if_neg full]
      split
      · exact ih _
      · exact ⟨rfl, rfl⟩

@[simp] theorem State.intoSegment_held (s : State) (g size : Nat) :
    (s.intoSegment g size).jn.records = s.jn.records ∧ (s.intoSegment g size).jn.pending = s.jn.pending := by
  unfold State.intoSegment
  dsimp only
  split <;> simp

@[simp] theorem State.loadEpoch_held (s : State) (t : Nat) :
    (s.loadEpoch t).jn.records = s.jn.records ∧ (s.loadEpoch t).jn.pending = s.jn.pending := ⟨rfl, rfl⟩

@[simp] theorem State.sealNonce_held (s : State) (t blocks : Nat) :
    (s.sealNonce t blocks).2.2.jn.records = s.jn.records ∧ (s.sealNonce t blocks).2.2.jn.pending = s.jn.pending := by
  unfold State.sealNonce
  dsimp only
  split <;> exact ⟨rfl, rfl⟩

@[simp] theorem State.sealOf_held (s : State) (p : Pend) (n : Nat) :
    (s.sealOf p n).2.2.jn.records = s.jn.records ∧ (s.sealOf p n).2.2.jn.pending = s.jn.pending := by
  unfold State.sealOf
  dsimp only
  split
  · exact ⟨rfl, rfl⟩
  · split
    · exact s.sealNonce_held ..
    · exact ⟨rfl, rfl⟩

@[simp] theorem State.updateWritten_held (s : State) (t : Nat) :
    (s.updateWritten t).jn.records = s.jn.records ∧ (s.updateWritten t).jn.pending = s.jn.pending := ⟨rfl, rfl⟩

/-- The record that an item becomes: its body as stored, in a segment, under the nonce of its sealing. -/
def State.recordOf (s : State) (p : Pend) (compress : Bool) (seg : Nat) : Rec :=
  let (n, cmp) := s.bodyOf p compress
  let (ep, ctr, _) := s.sealOf p n
  { stream := p.stream, seq := p.seq, type := p.type, user := p.user, words := p.words, sealedRec := p.toSeal,
    compressed := cmp, epoch := ep, counter := ctr, stored := n, segment := seg, time := p.time, damaged := false }

/-- Writing an item appends its record and takes the item out of the region. -/
theorem State.writeRecord_held (s : State) (p : Pend) (compress : Bool) (seg : Nat) :
    (s.writeRecord p compress seg).jn.records = s.jn.records ++ [s.recordOf p compress seg] ∧
      (s.writeRecord p compress seg).jn.pending = s.jn.pending.erase p := by
  unfold State.writeRecord
  dsimp only
  split <;> simp [State.recordOf]

/-! ## The background flush (R275, R276) -/

section Flush
variable {s : State} {stream g x : Nat} {p : Pend}

theorem State.retireFor_spare (spare : s.jn.spares.head? = some x) :
    s.retireFor g = some (x, { s with jn := { s.jn with
      retired := s.jn.retired ++ [g], rewrites := s.jn.rewrites + 1,
      lastSeg := if s.segNew g then g else s.jn.lastSeg } }) := by
  simp only [State.retireFor, spare, Option.map_some]

theorem State.retireFor_spent (spent : s.jn.spares = []) : s.retireFor g = none := by
  simp only [State.retireFor, spent, List.head?_nil, Option.map_none]

theorem State.entryWrite_idle (idle : s.jn.pending.find? (fun p => p.stream == stream) = none) (b : Bool) :
    s.entryWrite stream b = s := by
  simp only [State.entryWrite, idle]

section Oldest
variable (oldest : s.jn.pending.find? (fun p => p.stream == stream) = some p)
include oldest

/-- An entry for which there is no segment stays. -/
theorem State.entryWrite_unplaced (full : s.place stream (recordSize (s.bodyOf p true).1) = none) (b : Bool) :
    s.entryWrite stream b = s := by
  simp only [State.entryWrite, oldest, full]

variable (placed : s.place stream (recordSize (s.bodyOf p true).1) = some g)
include placed

theorem State.entryWrite_verified : s.entryWrite stream true = s.writeRecord p true g := by
  simp only [State.entryWrite, oldest, placed, if_true]

/-- A write that does not verify goes into the spare segment that replaces the retired one. -/
theorem State.entryWrite_rewritten {u : State} (retired : s.retireFor g = some (x, u)) :
    s.entryWrite stream false = u.writeRecord p true x := by
  simp only [State.entryWrite, oldest, placed, Bool.false_eq_true, if_false, retired]

theorem State.entryWrite_unspared (spent : s.retireFor g = none) : s.entryWrite stream false = s.report 1217 2 := by
  simp only [State.entryWrite, oldest, placed, Bool.false_eq_true, if_false, spent]

end Oldest

end Flush

/-! ## Reading and releasing (R279, R280, R287) -/

/-- What a read tells: its result, the entries and words copied, damage seen, and the lines still being written. -/
def State.jnTells (s : State) (t result entries words : Nat) (damaged : Bool) : State :=
  s.setJt t { s.jt t with
    rdResult := result, rdEntries := entries, rdWords := words, damaged := (s.jt t).damaged || damaged,
    rdLines := (s.dy.agents.filter (fun e => e.1 / 2 ^ 36 == journalAgent && e.2.st == .writing)).map (·.1 % 2 ^ 36) }

/-- Bit 35 of a write by a role that may write it starts a read. -/
theorem State.jnCtrlWrite_go {s : State} {a : Accessor} {t v : Nat} (role : roleZHG a.role = true)
    (go : v.testBit 35 = true) : s.jnCtrlWrite a t (BitVec.ofNat 36 v) = s.jnRead t := by
  simp only [State.jnCtrlWrite, role, bit, BitVec.getLsbD_ofNat, go, decide_true, Bool.and_self, if_true, Nat.lt_succ_self]

/-- A read by its checks in order: BUSY, the first entry, the range, and what is copied. -/
theorem State.jnRead_eq (s : State) (t : Nat) :
    s.jnRead t =
      if s.jnBusy t then s
      else if (s.jt t).rdFrom ≤ (s.jt t).released || (s.jt t).committed < (s.jt t).rdFrom ||
          (s.entry t (s.jt t).rdFrom).isNone then s.jnTells t 2 0 0 false
      else if !s.agentOk t Need.store (rangePages (s.jt t).rdBase (s.jt t).rdSize) then s.jnTells t 4 0 0 false
      else
        let u := s.readFailures t
        let q := State.jnCopy t (s.jt t).rdBase (s.jt t).rdSize 32767 u (s.jt t).rdFrom 0 0 false
        if q.2.2.1 == 0 then u.jnTells t 3 0 0 false else q.1.jnTells t 1 q.2.2.1 q.2.1 q.2.2.2 := rfl

section Read
variable {s : State} {t : Nat}

/-- A read is not begun again while the last one is BUSY. -/
theorem State.jnRead_busy (busy : s.jnBusy t = true) : s.jnRead t = s := by
  rw [State.jnRead_eq, if_pos busy]

variable (idle : s.jnBusy t = false)
include idle

/-- A read from a released entry, or past the last one. -/
theorem State.jnRead_outside (outside : (s.jt t).rdFrom ≤ (s.jt t).released ∨ (s.jt t).committed < (s.jt t).rdFrom) :
    s.jnRead t = s.jnTells t 2 0 0 false := by
  simp [State.jnRead_eq, idle, outside]

section Held
variable (fresh : (s.jt t).released < (s.jt t).rdFrom) (taken : (s.jt t).rdFrom ≤ (s.jt t).committed)
  (held : (s.entry t (s.jt t).rdFrom).isSome = true)
include fresh taken held

/-- A read into a range that the tenant may not store to. -/
theorem State.jnRead_unwritable
    (closed : s.agentOk t Need.store (rangePages (s.jt t).rdBase (s.jt t).rdSize) = false) :
    s.jnRead t = s.jnTells t 4 0 0 false := by
  simp [State.jnRead_eq, idle, Nat.not_le.2 fresh, Nat.not_lt.2 taken, Option.isNone_eq_false_iff.2 held, closed]

/-- A read into a range that it may store to copies entries, or finds the range too small for the first. -/
theorem State.jnRead_copied {u : State} {w e : Nat} {d : Bool}
    (opened : s.agentOk t Need.store (rangePages (s.jt t).rdBase (s.jt t).rdSize) = true)
    (copied : State.jnCopy t (s.jt t).rdBase (s.jt t).rdSize 32767 (s.readFailures t) (s.jt t).rdFrom 0 0 false =
      (u, w, e, d)) :
    s.jnRead t = if e = 0 then (s.readFailures t).jnTells t 3 0 0 false else u.jnTells t 1 e w d := by
  simp [State.jnRead_eq, idle, Nat.not_le.2 fresh, Nat.not_lt.2 taken, Option.isNone_eq_false_iff.2 held, opened, copied]

end Held

end Read

section Release
variable {s : State} {a : Accessor} {t v : Nat} (role : roleZHG a.role = true)
include role

theorem State.jnReleaseWrite_rejected (outside : v < (s.jt t).released ∨ (s.jt t).committed < v) :
    s.jnReleaseWrite a t v = s.jnReject t a.role := by
  simp [State.jnReleaseWrite, role, outside]

theorem State.jnReleaseWrite_released (ahead : (s.jt t).released ≤ v) (taken : v ≤ (s.jt t).committed) :
    s.jnReleaseWrite a t v = s.jnRelease t v := by
  simp [State.jnReleaseWrite, role, Nat.not_lt.2 ahead, Nat.not_lt.2 taken]

end Release

/-- Settles O42: each row by the branch of its command that the hypotheses choose. -/
theorem journalRows : Obligations.JournalRows := by
  unfold Obligations.JournalRows
  refine ⟨?flush, fun s p b g => ⟨s.recordOf p b g, rfl, rfl, rfl, rfl, rfl, rfl, rfl, s.writeRecord_held p b g⟩, ?sealing,
    ?reading⟩
  case flush =>
    intro s stream g x p size again
    have writes {b : Bool} {u : State} (hu : s.entryWrite stream b = u) : Answers (.entryWrite stream b) s u :=
      answers_of_runIf_true rfl hu
    refine ⟨fun idle b => writes (State.entryWrite_idle idle b),
      fun oldest full b => writes (State.entryWrite_unplaced oldest full b),
      fun oldest placed => ⟨writes (State.entryWrite_verified oldest placed),
        fun spare => writes (State.entryWrite_rewritten oldest placed (State.retireFor_spare spare)),
        fun spent => writes (State.entryWrite_unspared oldest placed (State.retireFor_spent spent))⟩⟩
  case sealing =>
    intro s route v hr
    dsimp only
    refine ⟨fun hw => ⟨?on, ?absent, ?off, ?held⟩, fun hw => ⟨fun absent => ?renewAbsent, fun here free => ?renew,
      fun here held => ?renewHeld⟩⟩
    case on =>
      rintro rfl here
      exact writes_of_odWriteNum rfl hr hw (by simp [sealAbort, here]) rfl
    case absent =>
      rintro rfl absent
      exact refuses_of_odWriteNum rfl hr hw (by simp [sealAbort, absent]) (by decide)
    case off =>
      rintro rfl free
      exact writes_of_odWriteNum rfl hr hw (by simp [sealAbort, free]) rfl
    case held =>
      rintro rfl held
      exact refuses_of_odWriteNum rfl hr hw (by simp [sealAbort, held]) (by decide)
    case renewAbsent => exact refuses_of_odWriteNum rfl hr hw (by simp [sealAbort, absent]) (by decide)
    case renew => exact writes_of_odWriteNum rfl hr hw (by simp [sealAbort, here, free]) rfl
    case renewHeld => exact refuses_of_odWriteNum rfl hr hw (by simp [sealAbort, here, held]) (by decide)
  case reading =>
    intro s u acc t v e w d ha ht role reach j pages tell
    have named : (wfAccessor acc && wfTenant t) = true := Bool.and_eq_true_iff.2 ⟨ha, decide_eq_true ht⟩
    have reads {x : State} (hv : v < 2 ^ 36) (go : v.testBit 35 = true) (hx : s.jnRead t = x) :
        Answers (.jnRd acc t v) s x :=
      answers_of_runIf_eq rfl (Bool.and_eq_true_iff.2 ⟨named, decide_eq_true hv⟩)
        ((if_pos reach).trans ((State.jnCtrlWrite_go role go).trans hx))
    have releases {x : State} (hv : v < 2 ^ 48) (hx : s.jnReleaseWrite acc t v = x) :
        Answers (.jnRelease acc t v) s x :=
      answers_of_runIf_eq rfl (Bool.and_eq_true_iff.2 ⟨named, decide_eq_true hv⟩)
        ((if_pos reach).trans hx)
    refine ⟨fun hv go busy => reads hv go (State.jnRead_busy busy), fun hv go idle =>
      ⟨fun outside => reads hv go (State.jnRead_outside idle outside), fun fresh taken held =>
        ⟨fun closed => reads hv go (State.jnRead_unwritable idle fresh taken held closed), fun opened copied => ?copied⟩⟩,
      fun hv => ⟨fun outside => releases hv (State.jnReleaseWrite_rejected role outside),
        fun ahead taken => releases hv (State.jnReleaseWrite_released role ahead taken)⟩⟩
    case copied =>
      have copies := State.jnRead_copied idle fresh taken held opened copied
      exact ⟨fun short => reads hv go (copies.trans (if_pos short)), fun fits => reads hv go (copies.trans (if_neg fits))⟩

end Sys2Proof.Machine
end

section
/-! # Posts and polls: ENGINE SUBMIT, ENGINE POLL and SIGNAL CHANNEL

How a post or a poll behind the older accesses of its core completes (R109, R198, R475), what it finds of a ring or a
channel (R303, R304, R323, Table 7.3), and obligation O20. -/

namespace Sys2Proof.Machine
open Sys2Proof.Safety

/-! ## Behind the older accesses -/

/-- The instruction delivers a status word to its last operand, in the machine that the unit has left. -/
def Run.tells (r : Run) (opn : Nat) (w : Word) (v : State) : State :=
  ({ r with s := v } : Run).finish { writes := [(opn, w.toNat)], sw := r.sw, ic := r.nextIC }

@[simp] theorem State.agentReads_nil (s : State) (agent : Nat) : s.agentReads agent [] = (s, true) := rfl

section Posts
variable {i : Instr} {s t u v : State} {core opn agent : Nat} {ins : Insn} {o : OpCode} {ok : Bool} {r : Run}
  {ws : List Nat} {w : Word} {reads : State → Nat → Nat → Nat × List Nat}
  {f : State → Nat → Nat → Nat → Nat → Word × State}
  (hw : ok = true) (hd : Drains s core t) (h : Begins t core ins o r)
  (hx : exec i s = s.runIf ok (s.post core ins o opn reads f))
include hw hd h hx

/-- Below level 2 the unit reads nothing for a tenant. -/
theorem post_belowTenants (low : r.start.pl < 2)
    (told : f r.s r.start.tenant r.start.pl (r.val 0) (r.val 1) = (w, v)) : Completes i s core (r.tells opn w v) :=
  completes_of_drained hw hd h hx (by
    simp only [low, if_true, State.agentReads_nil, told]
    rfl)

/-- At the tenant's levels the unit has the tenant's words that it reads. -/
theorem post_forTenant (high : 2 ≤ r.start.pl) (named : reads r.s r.start.tenant (r.val 0) = (agent, ws))
    (has : Has r.s agent r.start.tenant ws u) (told : f u r.start.tenant r.start.pl (r.val 0) (r.val 1) = (w, v)) :
    Completes i s core (r.tells opn w v) := by
  unfold Has at has
  refine completes_of_drained hw hd h hx ?_
  simp only [named, Nat.not_lt.2 high, if_false, has, told]
  rfl

end Posts

/-! ## Rings (R303, R304, R323) -/

theorem postWord_accepted (n : Nat) : postWord 0 n = packW [(0, 33), (n % 2 ^ 17, 0)] := rfl

/-- A post that is not accepted counts no request. -/
theorem postWord_belowTenants (n : Nat) : postWord 1 n = packW [(1, 33), (0, 0)] := rfl

/-- A level sees a ring or a channel when it is the tenant's own level or the ring is for the problem level. -/
theorem level_admitted {level : Nat} {problem : Bool} (sees : level = 2 ∨ problem = true) :
    (level == 3 && !problem) = false := by
  rcases sees with rfl | rfl
  · rfl
  · simp

/-- An open ring with room for them takes all the requests. -/
theorem Ring.post_accepted {q : Ring} {level n : Nat} (entry : Option (Bool × Nat × Nat × Nat × Nat))
    (opened : q.opened = true) (stays : q.closing = false) (room : (q.sub + 2 ^ 48 - q.comp) % 2 ^ 48 + n ≤ 2 ^ q.k)
    (sees : level = 2 ∨ q.problem = true) :
    q.post entry false level n = (0, { q with sub := (q.sub + n) % 2 ^ 48 }) := by
  have fits : ¬ 2 ^ q.k < q.backlog + n := Nat.not_lt.2 room
  simp [Ring.post, opened, stays, fits, level_admitted sees, countMod]

/-- A poll tells what has completed since the last one, and counts it as told. -/
theorem Ring.poll_accepted {q : Ring} {level : Nat} (sees : level = 2 ∨ q.problem = true) :
    q.poll level = (0, (q.comp + 2 ^ 48 - q.cons) % 2 ^ 48, { q with cons := q.comp }) := by
  simp only [Ring.poll, level_admitted sees, Bool.false_eq_true, if_false]
  rfl

section Hands
variable {s : State} {x level a n : Nat}

theorem State.esbCx_belowTenants (low : level < 2) : s.esbCx x level a n = (packW [(1, 33), (0, 0)], s) := by
  simp [State.esbCx, low, postWord_belowTenants]

theorem State.esbCi_belowTenants (low : level < 2) : s.esbCi x level a n = (packW [(1, 33), (0, 0)], s) := by
  simp [State.esbCi, low, postWord_belowTenants]

theorem State.eplCx_belowTenants (low : level < 2) : s.eplCx x level a = (packW [(1, 33), (0, 0)], s) := by
  simp [State.eplCx, low, postWord_belowTenants]

theorem State.eplCi_belowTenants (low : level < 2) : s.eplCi x level a = (packW [(1, 33), (0, 0)], s) := by
  simp [State.eplCi, low, postWord_belowTenants]

theorem State.schPost_belowTenants (low : level < 2) : s.schPost x level a n = (1, s) := by
  simp [State.schPost, low]

section Tenants
variable (high : 2 ≤ level)
include high

theorem State.esbCx_accepted (slice : a < (s.cxT x).slice) (stays : s.sliceDraining x = false) {q : Ring}
    (posted : (s.cxRing x a).post (s.ringEntry x (s.cxT x).table a) false level n = (0, q)) :
    s.esbCx x level a n = (packW [(0, 33), (n % 2 ^ 17, 0)], s.setCxRing x a q) := by
  simp [State.esbCx, Nat.not_lt.2 high, Nat.not_le.2 slice, stays, posted, postWord_accepted]

/-- A cipher ring that was open keeps the marks of its keys. -/
theorem State.esbCi_accepted (slice : a < (s.ciT x).ringSlice) (stays : s.sliceDraining x = false)
    (opened : (s.ciRing x a).opened = true) {q : Ring}
    (posted : (s.ciRing x a).post (s.ringEntry x (s.ciT x).table a) false level n = (0, q)) :
    s.esbCi x level a n = (packW [(0, 33), (n % 2 ^ 17, 0)], s.setCiRing x a q) := by
  simp [State.esbCi, Nat.not_lt.2 high, Nat.not_le.2 slice, stays, opened, posted, postWord_accepted]

theorem State.eplCx_accepted (slice : a < (s.cxT x).slice) {q : Ring} (polled : (s.cxRing x a).poll level = (0, n, q)) :
    s.eplCx x level a = (packW [(0, 33), (n % 2 ^ 17, 0)], s.setCxRing x a q) := by
  simp [State.eplCx, Nat.not_lt.2 high, Nat.not_le.2 slice, polled, postWord_accepted]

theorem State.eplCi_accepted (slice : a < (s.ciT x).ringSlice) {q : Ring}
    (polled : (s.ciRing x a).poll level = (0, n, q)) :
    s.eplCi x level a = (packW [(0, 33), (n % 2 ^ 17, 0)], s.setCiRing x a q) := by
  simp [State.eplCi, Nat.not_lt.2 high, Nat.not_le.2 slice, polled, postWord_accepted]

/-- An open channel with room for them takes all the orders (R216). -/
theorem State.schPost_accepted {m : Nat} (slice : a < (s.chT x).slice) (found : s.findChan x a = some m)
    (stays : s.sliceDraining x = false) (opened : (s.chan m).opened = true)
    (room : ((s.chan m).submitted + 2 ^ 48 - (s.chan m).completed) % 2 ^ 48 + n ≤ 2 ^ (s.chan m).k)
    (sees : level = 2 ∨ (s.chan m).problem = true) :
    s.schPost x level a n =
      (0, s.setChan m { s.chan m with submitted := ((s.chan m).submitted + n) % 2 ^ 48 }) := by
  have fits : ¬ 2 ^ (s.chan m).k < (s.chan m).backlog + n := Nat.not_lt.2 room
  simp [State.schPost, Nat.not_lt.2 high, Nat.not_le.2 slice, found, stays, opened, fits, level_admitted sees, countMod]

end Tenants

end Hands

/-- Settles O20: each command behind the older accesses, by its level and what it finds of its ring or channel. -/
theorem postsAndPolls : Obligations.PostsAndPolls := by
  unfold Obligations.PostsAndPolls
  intro s t u core ins r hd x a n level tells three two four okWord has g c pg pc room sees since
  refine ⟨fun hw h => ⟨fun low => ?esbCxLow, fun high _ read slice ready => ?esbCx⟩,
    fun hw h => ⟨fun low => ?esbCiLow, fun high _ read slice ready => ?esbCi⟩,
    fun hw h => ⟨fun low => ?eplCxLow, fun high _ slice seen => ?eplCx⟩,
    fun hw h => ⟨fun low => ?eplCiLow, fun high _ slice seen => ?eplCi⟩,
    fun hw h => ⟨fun low => ?schLow, fun m high _ _ named read slice found stays => ?sch⟩⟩
  case esbCxLow => exact post_belowTenants hw hd h rfl low (State.esbCx_belowTenants low)
  case esbCx =>
    obtain ⟨opened, lasting, fits, stays, seen⟩ := ready
    exact post_forTenant hw hd h rfl high rfl read
      (State.esbCx_accepted high slice stays (Ring.post_accepted _ opened lasting fits seen))
  case esbCiLow => exact post_belowTenants hw hd h rfl low (State.esbCi_belowTenants low)
  case esbCi =>
    obtain ⟨opened, lasting, fits, stays, seen⟩ := ready
    exact post_forTenant hw hd h rfl high rfl read
      (State.esbCi_accepted high slice stays opened (Ring.post_accepted _ opened lasting fits seen))
  case eplCxLow => exact post_belowTenants hw hd h rfl low (State.eplCx_belowTenants low)
  case eplCx =>
    exact post_forTenant hw hd h rfl high rfl (State.agentReads_nil ..)
      (State.eplCx_accepted high slice (Ring.poll_accepted seen))
  case eplCiLow => exact post_belowTenants hw hd h rfl low (State.eplCi_belowTenants low)
  case eplCi =>
    exact post_forTenant hw hd h rfl high rfl (State.agentReads_nil ..)
      (State.eplCi_accepted high slice (Ring.poll_accepted seen))
  case schLow =>
    exact post_belowTenants hw hd h rfl low
      (by rw [State.schPost_belowTenants low]; exact congrArg (·, r.s) (postWord_belowTenants _))
  case sch =>
    intro q opened fits seen
    have unit := congrArg (fun o => (procAgent (o.elim 0 fun m => (r.s.chan m).proc), r.s.schReads x a)) named
    exact post_forTenant hw hd h rfl high unit read
      (by rw [State.schPost_accepted high slice found stays opened fits seen]; exact congrArg (·, _) (postWord_accepted n))

end Sys2Proof.Machine
end

section
/-! # The compression engine

How a lane starts a ring's next request (R302, R307, R310, R313), what the request comes to (R301, R306-R308), what a
completion and a close leave of the ring (R302, R309, R310, R314), and obligation O51. -/

namespace Sys2Proof.Machine
open Sys2Proof.Safety

/-! ## Starting a request (R307, R310, R313) -/

/-- A request of a ring waits for no earlier one when it is NEW or none in flight names its context area (R310). -/
def CxReq.free (q : CxReq) (g : Ring) : Prop := q.fresh = true ∨ g.ran.all (fun y => y.handle != q.ctx + 1) = true

section Start
variable {s w u : State} {t r lane op : Nat}

theorem State.cxMay_iff (s : State) (t r lane : Nat) :
    s.cxMay t r lane = true ↔ (s.cxRing t r).opened = true ∧ (s.cxRing t r).squash = false ∧
      0 < (s.cxRing t r).waiting ∧ s.laneEnabled lane = true ∧ s.blockOpen lane = true ∧
      s.cx.busy.contains lane = false ∧ (s.cxT t).lanesHeld < (s.cxT t).laneLimit ∧ s.worksNow = true := by
  simp only [State.cxMay, Bool.and_eq_true, Bool.not_eq_true', decide_eq_true_eq, and_assoc]

/-- A request that begins occupies the lane with what it comes to, and the ring counts it as started. -/
theorem State.cxBegin_eq (u : State) (t r lane : Nat) (q : CxReq) :
    u.cxBegin t r lane q =
      let x := (u.cxRun t q).2
      let res := (u.cxRun t q).1
      let h := x.cxRing t r
      let slot := (u.cxRing t r).started
      let ran : Ran := { slot := slot, words := res.words, irq := q.intr, unit := lane,
                         handle := if q.usesCtx then q.ctx + 1 else 0 }
      let y := x.setCxRing t r { h with started := (slot + 1) % 2 ^ 48, ran := h.ran ++ [ran] }
      { y with cx := { y.cx with busy := y.cx.busy ++ [lane],
                                 noGain := if res.status = 1 then y.cx.noGain + 1 else y.cx.noGain } } := by
  unfold State.cxBegin countMod
  generalize u.cxRun t q = p
  simp only [beq_iff_eq]

theorem State.cxStart_unable (unable : ¬ s.cxMay t r lane = true) : s.cxStart t r lane op = s := by
  simp [State.cxStart, unable]

section Able
variable (able : s.cxMay t r lane = true)
include able

theorem State.cxStart_slotAwaits
    (waits : Awaits s compressionAgent t ((s.cxRing t r).slotWords (s.cxRing t r).started) w) :
    s.cxStart t r lane op = w := by
  simp only [State.cxStart, able, Bool.not_true, Bool.false_eq_true, if_false]
  exact State.withReads_awaits waits

variable (slot : Has s compressionAgent t ((s.cxRing t r).slotWords (s.cxRing t r).started) w)
include slot

/-- A request of the other operation is left to the row of its own. -/
theorem State.cxStart_otherOp {n : Nat} (code : (w.cxNext t r).op = n) (other : n ≠ op) (known : n ≤ 1) :
    s.cxStart t r lane op = w := by
  simp only [State.cxStart, able, Bool.not_true, Bool.false_eq_true, if_false]
  rw [State.withReads_has slot]
  simp [code, other, Nat.not_lt.2 known]

/-- A request stays while an earlier one of the ring has its context area. -/
theorem State.cxStart_held (held : ¬ (w.cxNext t r).free (s.cxRing t r)) : s.cxStart t r lane op = w := by
  simp only [State.cxStart, able, Bool.not_true, Bool.false_eq_true, if_false]
  rw [State.withReads_has slot]
  have taken : ((w.cxNext t r).fresh ||
      (s.cxRing t r).ran.all (fun y => y.handle != (w.cxNext t r).ctx + 1)) = false :=
    Bool.eq_false_iff.2 fun free => held (Bool.or_eq_true_iff.1 free)
  simp only [taken, Bool.not_false, Bool.or_true, if_true]

/-- A free request of the row's operation goes on to its data. -/
theorem State.cxStart_read (own : (w.cxNext t r).op = op) (free : (w.cxNext t r).free (s.cxRing t r)) :
    s.cxStart t r lane op =
      w.withReads compressionAgent t (w.cxReads t (w.cxNext t r)) (fun u => u.cxBegin t r lane (w.cxNext t r)) := by
  simp only [State.cxStart, able, Bool.not_true, Bool.false_eq_true, if_false]
  rw [State.withReads_has slot]
  have clear : ((w.cxNext t r).fresh ||
      (s.cxRing t r).ran.all (fun y => y.handle != (w.cxNext t r).ctx + 1)) = true := Bool.or_eq_true_iff.2 free
  simp only [own, clear, beq_self_eq_true, Bool.true_or, Bool.not_true, Bool.or_self, Bool.false_eq_true, if_false]

end Able

end Start

/-- A command of either operation answers what starting a request of it leaves. -/
theorem answers_of_cxStart {s v : State} {t r lane op : Nat} {i : Instr} (ht : t < 512) (hr : r < 16) (hl : lane < 48)
    (hx : exec i s = s.runIf (wfTenant t && wfRing r && wfLane lane) (s.cxStart t r lane op))
    (hv : s.cxStart t r lane op = v) : Answers i s v :=
  answers_of_runIf_eq hx (by simp [wfTenant, wfRing, wfLane, ht, hr, hl]) hv

/-! ## What a request comes to (R301, R306-R308) -/

section Run
variable {s : State} {t : Nat} {q : CxReq}

theorem State.cxRun_invalid (invalid : q.invalid = true) : s.cxRun t q = (cxFail 7, s) := by
  simp only [State.cxRun, invalid, if_true]

variable (valid : q.invalid = false)
include valid

theorem State.cxRun_untranslated (refused : s.cxTranslates t q = false) : s.cxRun t q = (cxFail 6, s) := by
  simp only [State.cxRun, valid, refused, Bool.not_false, Bool.false_eq_true, if_false, if_true]

variable (translates : s.cxTranslates t q = true)
include translates

theorem State.cxRun_noContext (continues : q.fresh = false) (unusable : s.restore t q = none) :
    s.cxRun t q = (cxFail 5, s) := by
  simp [State.cxRun, valid, translates, continues, unusable]

/-- A request that begins a dictionary runs on the roots alone (R290). -/
theorem State.cxRun_fresh (fresh : q.fresh = true) :
    s.cxRun t q = if q.op = 0 then s.cxCompress t q ⟨q.q, q.maxbits, []⟩ 0 else s.cxDecompress t q ⟨q.q, q.maxbits, []⟩ 0 := by
  simp [State.cxRun, valid, translates, fresh]

/-- One that continues a stream runs on what its context area holds. -/
theorem State.cxRun_continued {d : Dict} {b : Nat} (continues : q.fresh = false) (restored : s.restore t q = some (d, b)) :
    s.cxRun t q = if q.op = 0 then s.cxCompress t q d b else s.cxDecompress t q d b := by
  simp [State.cxRun, valid, translates, continues, restored]

end Run

/-! ## Completion records (R309, R310, R314) -/

section Completion
variable {s : State} {t r : Nat} {x : Ran}

theorem State.cxComplete_unacknowledged (busy : s.agentQuiet compressionAgent = false) : s.cxComplete t r = s := by
  simp only [State.cxComplete, busy, Bool.not_false, if_true]

/-- A ring that does not drain waits for its next request to run. -/
theorem State.cxComplete_notRun
    (next : (s.cxRing t r).ran.find? (fun y => y.slot == (s.cxRing t r).comp) = none)
    (serves : (s.cxRing t r).squash = false) : s.cxComplete t r = s := by
  simp [State.cxComplete, next, serves]

/-- A draining ring's next request, not started, completes SQUASHED. -/
theorem State.cxComplete_squashed (quiet : s.agentQuiet compressionAgent = true)
    (next : (s.cxRing t r).ran.find? (fun y => y.slot == (s.cxRing t r).comp) = none)
    (drains : (s.cxRing t r).squash = true) (waits : 0 < (s.cxRing t r).waiting)
    (inOrder : (s.cxRing t r).comp = (s.cxRing t r).started) :
    s.cxComplete t r =
      let g := s.cxRing t r
      let n := (g.comp + 1) % 2 ^ 48
      let u := (s.ringComplete t g g.comp [packW [(8, 0)], 0, 0, 0, 0, 0] false).setCxRing t r
        ({ g with comp := n, started := n }).settle
      { u with cx := { u.cx with completed := u.cx.completed + 1 } } := by
  have due : (!(s.cxRing t r).squash || (s.cxRing t r).waiting == 0 ||
      (s.cxRing t r).comp != (s.cxRing t r).started) = false := by
    simp [drains, waits.ne', inOrder]
  simp only [State.cxComplete, quiet, next, due, Bool.not_true, Bool.false_eq_true, if_false, countMod]

variable (next : (s.cxRing t r).ran.find? (fun y => y.slot == (s.cxRing t r).comp) = some x)
include next

theorem State.cxComplete_noLane (fenced : s.cxHasLane x = false) : s.cxComplete t r = s := by
  simp [State.cxComplete, next, fenced]

/-- A request that has run has its record written, and gives its lane back. -/
theorem State.cxComplete_ran (quiet : s.agentQuiet compressionAgent = true) (lane : s.cxHasLane x = true) :
    s.cxComplete t r =
      let g := s.cxRing t r
      let u := (s.ringComplete t g x.slot x.words x.irq).setCxRing t r
        ({ g with comp := (g.comp + 1) % 2 ^ 48, ran := g.ran.filter (fun y => y.slot != x.slot) }).settle
      ({ u with cx := { u.cx with busy := u.cx.busy.filter (· != x.unit),
                                  completed := u.cx.completed + 1 } }).finishChange := by
  simp only [State.cxComplete, quiet, next, lane, Bool.not_true, Bool.false_eq_true, if_false, countMod]

end Completion

/-! ## Closes (R302, Table 9.11) -/

section Close
variable {s : State} {acc : Accessor} {t : Nat} {v : Word}

theorem State.cxCloseWrite_readOnly (role : roleZHG acc.role = false) : s.cxCloseWrite acc t v = s := by
  simp only [State.cxCloseWrite, role, Bool.not_false, if_true]

variable (role : roleZHG acc.role = true)
include role

/-- A write within the slice closes each open ring that it names, at once where the ring's requests are done. -/
theorem State.cxCloseWrite_within (within : fld v 15 0 < 2 ^ (s.cxT t).slice) :
    s.cxCloseWrite acc t v = (List.range 16).foldl (fun u n =>
      if bit v n && (u.cxRing t n).opened then u.setCxRing t n ({ u.cxRing t n with closing := true }).settle else u) s := by
  simp only [State.cxCloseWrite, role, Bool.not_true, Bool.false_eq_true, if_false, ge_iff_le, Nat.not_le.2 within]

end Close

/-- A write past the slice by the Supervisor is rejected. -/
theorem State.cxCloseWrite_beyond {s : State} {acc : Accessor} {t : Nat} {v : Word}
    (beyond : 2 ^ (s.cxT t).slice ≤ fld v 15 0) (supervisor : acc.role = .g) :
    s.cxCloseWrite acc t v = s.setCxT t { s.cxT t with rejectG := true } := by
  simp [State.cxCloseWrite, supervisor, roleZHG, beyond]

/-- Settles O51: a start by the guards that it passes, a request by the first check that it fails, a completion by the
ring's next request, a close by the role and the slice. -/
theorem compressionRows : Obligations.CompressionRows := by
  unfold Obligations.CompressionRows
  refine ⟨?start, ?request, ?finish⟩
  case start =>
    intro s w u t r lane ht hr hl g q can free ends
    have compresses {v : State} (hv : s.cxStart t r lane 0 = v) : Answers (.compress t r lane) s v :=
      answers_of_cxStart ht hr hl rfl hv
    have decompresses {v : State} (hv : s.cxStart t r lane 1 = v) : Answers (.decompress t r lane) s v :=
      answers_of_cxStart ht hr hl rfl hv
    have able : can → s.cxMay t r lane = true := (State.cxMay_iff s t r lane).2
    have unable (not : ¬ can) {op : Nat} : s.cxStart t r lane op = s :=
      State.cxStart_unable (fun may => not ((State.cxMay_iff s t r lane).1 may))
    refine ⟨fun c slot => ⟨fun op => ?compressOnly, fun op => ?decompressOnly, fun free data => ?runs,
      fun free waits => ?dataAwaits, fun held => ?held⟩, fun c waits => ?slotAwaits, fun not => ?unable⟩
    case compressOnly => exact decompresses (State.cxStart_otherOp (able c) slot op (by decide) (by decide))
    case decompressOnly => exact compresses (State.cxStart_otherOp (able c) slot op (by decide) (by decide))
    case runs =>
      have begun {op : Nat} (own : q.op = op) : s.cxStart t r lane op = u.cxBegin t r lane q :=
        (State.cxStart_read (able c) slot own free).trans (State.withReads_has data)
      rw [State.cxBegin_eq] at begun
      exact ⟨fun op => compresses (begun op), fun op => decompresses (begun op)⟩
    case dataAwaits =>
      have waiting {op : Nat} (own : q.op = op) : s.cxStart t r lane op = u :=
        (State.cxStart_read (able c) slot own free).trans (State.withReads_awaits waits)
      exact ⟨fun op => compresses (waiting op), fun op => decompresses (waiting op)⟩
    case held =>
      exact ⟨compresses (State.cxStart_held (able c) slot held), decompresses (State.cxStart_held (able c) slot held)⟩
    case slotAwaits =>
      exact ⟨compresses (State.cxStart_slotAwaits (able c) waits), decompresses (State.cxStart_slotAwaits (able c) waits)⟩
    case unable => exact ⟨compresses (unable not), decompresses (unable not)⟩
  case request =>
    intro s t q
    refine ⟨State.cxRun_invalid, State.cxRun_untranslated, fun valid translates =>
      ⟨State.cxRun_noContext valid translates, fun fresh op => ?compressNew, fun fresh op => ?decompressNew,
        fun d b continues restored => ⟨fun op => ?compress, fun op => ?decompress⟩⟩⟩
    case compressNew => exact (State.cxRun_fresh valid translates fresh).trans (if_pos op)
    case decompressNew => exact (State.cxRun_fresh valid translates fresh).trans (if_neg (by omega))
    case compress => exact (State.cxRun_continued valid translates continues restored).trans (if_pos op)
    case decompress => exact (State.cxRun_continued valid translates continues restored).trans (if_neg (by omega))
  case finish =>
    intro s t r acc v x ht hr g
    have completes {u : State} (hu : s.cxComplete t r = u) : Answers (.compressionCompletion t r) s u :=
      answers_of_runIf_eq rfl (by simp [wfTenant, wfRing, ht, hr]) hu
    have closes {u : State} (ha : wfAccessor acc = true)
        (hu : (if s.reach acc t then s.cxCloseWrite acc t v else s) = u) : Answers (.cxClose acc t v) s u :=
      answers_of_runIf_eq rfl (by simp [wfTenant, ha, ht]) hu
    refine ⟨fun busy => completes (State.cxComplete_unacknowledged busy),
      fun next serves => completes (State.cxComplete_notRun next serves),
      fun quiet next drains waits inOrder => completes (State.cxComplete_squashed quiet next drains waits inOrder),
      fun quiet next => ⟨fun fenced => completes (State.cxComplete_noLane next fenced),
        fun lane => completes (State.cxComplete_ran next quiet lane)⟩,
      fun ha reach => ⟨fun role => ?readOnly, fun role => ⟨fun within => ?within, fun beyond supervisor => ?beyond⟩⟩,
      fun ha unreached => closes ha (if_neg (Bool.eq_false_iff.1 unreached))⟩
    case readOnly => exact closes ha ((if_pos reach).trans (State.cxCloseWrite_readOnly role))
    case within => exact closes ha ((if_pos reach).trans (State.cxCloseWrite_within role within))
    case beyond => exact closes ha ((if_pos reach).trans (State.cxCloseWrite_beyond beyond supervisor))

end Sys2Proof.Machine
end

section
/-! # What an agent's reads leave alone

Lines that an agent asks for change caches, links and doorbells; the cipher's slots and the tenants keep their values
through every operation of a message's delivery, in the order of the model's definitions. -/

namespace Sys2Proof.Machine

/-! ## Lines, doorbells and links -/

@[simp] theorem State.ci_tn_ite (c : Prop) [Decidable c] (s t : State) :
    (if c then s else t).ci = (if c then s.ci else t.ci) ∧ (if c then s else t).tn = (if c then s.tn else t.tn) :=
  ⟨apply_ite .., apply_ite ..⟩

/-- What each step of a loop leaves alone, the loop leaves alone. -/
theorem foldl_ci_tn {α : Type} {f : State → α → State} (hf : ∀ s x, (f s x).ci = s.ci ∧ (f s x).tn = s.tn) (l : List α)
    (s : State) : (l.foldl f s).ci = s.ci ∧ (l.foldl f s).tn = s.tn :=
  ⟨foldl_unchanged State.ci (fun s x => (hf s x).1) l s, foldl_unchanged State.tn (fun s x => (hf s x).2) l s⟩

@[simp] theorem State.wrWords_ci_tn (s : State) (ra : Nat) (ws : List Word) :
    (s.wrWords ra ws).ci = s.ci ∧ (s.wrWords ra ws).tn = s.tn := by
  induction ws generalizing s ra with
  | nil => exact ⟨rfl, rfl⟩
  | cons w r ih => exact ih (s.wr ra w) (ra + 1)

@[simp] theorem State.wrLineMask_ci_tn (s : State) (line : Nat) (ws mask : List Word) :
    (s.wrLineMask line ws mask).ci = s.ci ∧ (s.wrLineMask line ws mask).tn = s.tn := by
  have written := foldl_ci_tn (f := fun (t : State) i => t.wrMask (line * 16 + i) (wordAt ws i) (wordAt mask i))
    (fun _ _ => ⟨rfl, rfl⟩) (List.range 16) s
  unfold State.wrLineMask
  dsimp only
  split <;> exact written

@[simp] theorem State.loseLine_ci_tn (s : State) (t line : Nat) (except_ : Option Nat) :
    (s.loseLine t line except_).ci = s.ci ∧ (s.loseLine t line except_).tn = s.tn := ⟨rfl, rfl⟩

@[simp] theorem State.ringRaw_ci_tn (s : State) (o n : Nat) : (s.ringRaw o n).ci = s.ci ∧ (s.ringRaw o n).tn = s.tn := by
  simp [State.ringRaw]

@[simp] theorem State.gwaitRule_ci_tn (s : State) (o n : Nat) :
    (s.gwaitRule o n).ci = s.ci ∧ (s.gwaitRule o n).tn = s.tn := by
  unfold State.gwaitRule
  dsimp only
  repeat' split
  all_goals simp

@[simp] theorem State.doorbell_ci_tn (s : State) (o n : Nat) : (s.doorbell o n).ci = s.ci ∧ (s.doorbell o n).tn = s.tn := by
  simp [State.doorbell]

@[simp] theorem State.sendOn_ci_tn (s : State) (k pool : Nat) (m : Msg) :
    (s.sendOn k pool m).ci = s.ci ∧ (s.sendOn k pool m).tn = s.tn :=
  foldl_ci_tn (f := fun s b => State.sendFlit s k b) (fun _ _ => ⟨rfl, rfl⟩) _ _

@[simp] theorem State.transmitN_ci_tn (n k : Nat) (s : State) :
    (s.transmitN n k).ci = s.ci ∧ (s.transmitN n k).tn = s.tn := by
  induction n generalizing s with
  | zero => exact ⟨rfl, rfl⟩
  | succ n ih =>
    unfold State.transmitN
    dsimp only
    repeat' split
    all_goals simp [ih]

@[simp] theorem State.sendMsg_ci_tn (s : State) (m : Msg) : (s.sendMsg m).ci = s.ci ∧ (s.sendMsg m).tn = s.tn := by
  simp [State.sendMsg, State.transmit]

/-! ## The home -/

@[simp] theorem State.homeSays_ci_tn (s : State) (w : DirWait) (dst type aux : Nat) (words : List Word) (poisoned : Bool) :
    (s.homeSays w dst type aux words poisoned).ci = s.ci ∧ (s.homeSays w dst type aux words poisoned).tn = s.tn := by
  simp [State.homeSays]

@[simp] theorem State.ask_ci_tn (s : State) (a line type : Nat) (words mask : List Word) :
    (s.ask a line type words mask).2.ci = s.ci ∧ (s.ask a line type words mask).2.tn = s.tn := by
  simp [State.ask, State.sayHome, State.newTag]

@[simp] theorem State.dataTo_ci_tn (s : State) (w : DirWait) (grant : Nat) :
    (s.dataTo w grant).ci = s.ci ∧ (s.dataTo w grant).tn = s.tn := by
  simp [State.dataTo]

@[simp] theorem State.openTx_ci_tn (s : State) (w : DirWait) (e : DirEntry) (st : DirState) (type : Nat)
    (snoops awaits wbWait : List Nat) :
    (s.openTx w e st type snoops awaits wbWait).ci = s.ci ∧ (s.openTx w e st type snoops awaits wbWait).tn = s.tn :=
  foldl_ci_tn (f := fun (t : State) a => t.homeSays w a type 0 [] false) (fun t a => t.homeSays_ci_tn w a type 0 [] false) _ _

@[simp] theorem State.newEntry_ci_tn (s : State) (w : DirWait) : (s.newEntry w).ci = s.ci ∧ (s.newEntry w).tn = s.tn := by
  unfold State.newEntry
  dsimp only
  repeat' split
  all_goals simp [State.recall, State.requeue, State.unrefuse, State.own, State.touch]

@[simp] theorem State.mergeMasked_ci_tn (s : State) (w : DirWait) (ws mask : List Word) :
    (s.mergeMasked w ws mask).ci = s.ci ∧ (s.mergeMasked w ws mask).tn = s.tn := by
  simp [State.mergeMasked]

@[simp] theorem State.ownWithData_ci_tn (s : State) (w : DirWait) (way : Nat) :
    (s.ownWithData w way).ci = s.ci ∧ (s.ownWithData w way).tn = s.tn := by
  simp [State.ownWithData, State.own]

@[simp] theorem State.serve_ci_tn (s : State) (w : DirWait) : (s.serve w).ci = s.ci ∧ (s.serve w).tn = s.tn := by
  unfold State.serve
  dsimp only
  repeat' split
  all_goals simp [State.touch, State.unrefuse, State.own]

@[simp] theorem State.broadcastRecall_ci_tn (s : State) (line : Nat) (e : DirEntry) :
    (s.broadcastRecall line e).ci = s.ci ∧ (s.broadcastRecall line e).tn = s.tn := by
  simp [State.broadcastRecall, State.report]

@[simp] theorem State.takeRequest_ci_tn (s : State) (w : DirWait) :
    (s.takeRequest w).ci = s.ci ∧ (s.takeRequest w).tn = s.tn := by
  unfold State.takeRequest
  dsimp only
  repeat' split
  all_goals simp [State.requeue]

@[simp] theorem State.request_ci_tn (s : State) (w : DirWait) : (s.request w).ci = s.ci ∧ (s.request w).tn = s.tn := by
  simp [State.request, State.enqueue]

@[simp] theorem State.drainWaiting_ci_tn (n : Nat) (s : State) :
    (s.drainWaiting n).ci = s.ci ∧ (s.drainWaiting n).tn = s.tn := by
  induction n generalizing s with
  | zero => exact ⟨rfl, rfl⟩
  | succ n ih =>
    simp only [State.drainWaiting]
    split <;> simp [ih]

@[simp] theorem State.drainHome_ci_tn (s : State) : s.drainHome.ci = s.ci ∧ s.drainHome.tn = s.tn := s.drainWaiting_ci_tn _

@[simp] theorem State.closeLost_ci_tn (s : State) (line : Nat) (e : DirEntry) (x : DirTx) :
    (s.closeLost line e x).ci = s.ci ∧ (s.closeLost line e x).tn = s.tn := by
  unfold State.closeLost
  split <;> simp

@[simp] theorem State.closeTx_ci_tn (s : State) (line : Nat) (e : DirEntry) (x : DirTx) :
    (s.closeTx line e x).ci = s.ci ∧ (s.closeTx line e x).tn = s.tn := by
  unfold State.closeTx
  rw [(State.drainHome_ci_tn _).1, (State.drainHome_ci_tn _).2]
  rcases x.got with _ | ⟨ws, d⟩
  all_goals
    dsimp only
    repeat' split
    all_goals simp [State.own]

@[simp] theorem State.tryClose_ci_tn (s : State) (line : Nat) : (s.tryClose line).ci = s.ci ∧ (s.tryClose line).tn = s.tn := by
  unfold State.tryClose
  repeat' split
  all_goals simp

@[simp] theorem State.modTx_ci_tn (s : State) (line : Nat) (f : DirTx → DirTx) :
    (s.modTx line f).ci = s.ci ∧ (s.modTx line f).tn = s.tn := by
  unfold State.modTx
  split <;> simp

@[simp] theorem State.writeBackAt_ci_tn (s : State) (m : Msg) : (s.writeBackAt m).ci = s.ci ∧ (s.writeBackAt m).tn = s.tn := by
  unfold State.writeBackAt
  dsimp only
  repeat' split
  all_goals simp

@[simp] theorem State.ackHome_ci_tn (s : State) (m : Msg) : (s.ackHome m).ci = s.ci ∧ (s.ackHome m).tn = s.tn := by
  simp [State.ackHome]

@[simp] theorem State.dataHome_ci_tn (s : State) (m : Msg) : (s.dataHome m).ci = s.ci ∧ (s.dataHome m).tn = s.tn := by
  simp [State.dataHome]

/-! ## Tiles and agents -/

@[simp] theorem State.tileAnswers_ci_tn (s : State) (t line type aux : Nat) (h : Held) (words : List Word) :
    (s.tileAnswers t line type aux h words).ci = s.ci ∧ (s.tileAnswers t line type aux h words).tn = s.tn := by
  simp [State.tileAnswers, State.sayHome]

@[simp] theorem State.snoop_ci_tn (s : State) (t line : Nat) (h : Held) :
    (s.snoop t line h).ci = s.ci ∧ (s.snoop t line h).tn = s.tn := by
  unfold State.snoop
  dsimp only
  repeat' split
  all_goals simp [State.holdSnoop, State.markDeferred]

@[simp] theorem State.grantAt_ci_tn (s : State) (t : Nat) (m : Msg) : (s.grantAt t m).ci = s.ci ∧ (s.grantAt t m).tn = s.tn := by
  unfold State.grantAt
  split <;> simp

@[simp] theorem State.takeWords_ci_tn (s : State) (line : Nat) (ws : List Word) :
    (s.takeWords line ws).ci = s.ci ∧ (s.takeWords line ws).tn = s.tn := by
  simp [State.takeWords]

@[simp] theorem State.fillAt_ci_tn (s : State) (t : Nat) (m : Msg) : (s.fillAt t m).ci = s.ci ∧ (s.fillAt t m).tn = s.tn := by
  unfold State.fillAt
  dsimp only
  split <;> simp

@[simp] theorem State.agentReleases_ci_tn (s : State) (a line : Nat) (words : List Word) :
    (s.agentReleases a line words).ci = s.ci ∧ (s.agentReleases a line words).tn = s.tn := by
  unfold State.agentReleases
  split <;> simp [State.putAgent]

@[simp] theorem State.ringKept_ci_tn (s : State) (a : Nat) : (s.ringKept a).ci = s.ci ∧ (s.ringKept a).tn = s.tn := by
  unfold State.ringKept
  split
  · exact ⟨rfl, rfl⟩
  · exact foldl_ci_tn (f := fun (t : State) (e : Nat × Nat × Nat) => t.doorbell e.2.1 e.2.2)
      (fun t e => t.doorbell_ci_tn e.2.1 e.2.2) _ _

@[simp] theorem State.agentGets_ci_tn (s : State) (a : Nat) (m : Msg) :
    (s.agentGets a m).ci = s.ci ∧ (s.agentGets a m).tn = s.tn := by
  simp [State.agentGets]

@[simp] theorem State.ackTile_ci_tn (s : State) (t : Nat) (m : Msg) : (s.ackTile t m).ci = s.ci ∧ (s.ackTile t m).tn = s.tn := by
  unfold State.ackTile
  dsimp only
  repeat' split
  all_goals simp

/-! ## Delivery and reads -/

@[simp] theorem State.handleMsg_ci_tn (s : State) (m : Msg) : (s.handleMsg m).ci = s.ci ∧ (s.handleMsg m).tn = s.tn := by
  unfold State.handleMsg
  split <;> simp [State.refusedAt]

@[simp] theorem State.pumpN_ci_tn (n : Nat) (s : State) : (s.pumpN n).ci = s.ci ∧ (s.pumpN n).tn = s.tn := by
  induction n generalizing s with
  | zero => exact ⟨rfl, rfl⟩
  | succ n ih =>
    simp only [State.pumpN]
    split <;> simp [ih]

@[simp] theorem State.pump_ci_tn (s : State) : s.pump.ci = s.ci ∧ s.pump.tn = s.tn := s.pumpN_ci_tn _

@[simp] theorem State.copyAsks_ci_tn (s : State) (src key line : Nat) :
    (s.copyAsks src key line).ci = s.ci ∧ (s.copyAsks src key line).tn = s.tn := by
  simp [State.copyAsks]

@[simp] theorem State.agentFetch_ci_tn (s : State) (a : Nat) (lines : List Nat) :
    (s.agentFetch a lines).1.ci = s.ci ∧ (s.agentFetch a lines).1.tn = s.tn := by
  have asked := foldl_ci_tn (f := fun (s : State) x => s.copyAsks (64 * s.dy.modnum + a) (tileKey a x) x)
    (fun s x => s.copyAsks_ci_tn _ _ x)
  simp [State.agentFetch, asked]

@[simp] theorem State.agentReads_ci_tn (s : State) (a : Nat) (lines : List Nat) :
    (s.agentReads a lines).1.ci = s.ci ∧ (s.agentReads a lines).1.tn = s.tn := by
  unfold State.agentReads
  dsimp only
  split
  · exact ⟨rfl, rfl⟩
  · split
    · refine (foldl_ci_tn (fun u x => ?_) _ _).imp (Eq.trans · ?_) (Eq.trans · ?_)
      · split <;> simp
      · simp
      · simp
    · simp

end Sys2Proof.Machine
end

section
/-! # The key commands

How a write of CI_KEY_CMD comes to a key command (R334, Table 10.9), what each command of level 2 leaves (R333, R335,
R336), the effect point of a change (R337, R338), and obligation O53. -/

namespace Sys2Proof.Machine
open Sys2Proof.Safety

/-! ## Reads of the cipher (R163) -/

section Reads
variable {s u : State} {a t : Nat} {ws : List Nat}

/-- An agent that reads nothing has it. -/
theorem Has.nothing (s : State) (a t : Nat) : Has s a t [] s := rfl

theorem Has.ci_tn (read : Has s a t ws u) : u.ci = s.ci ∧ u.tn = s.tn := by
  have kept := s.agentReads_ci_tn a (s.agentLines t ws)
  rwa [show s.agentReads a (s.agentLines t ws) = (u, true) from read] at kept

theorem Has.ciT (read : Has s a t ws u) (x : Nat) : u.ciT x = s.ciT x := by
  simp only [State.ciT, Has.ci_tn read]

theorem Has.drainingT (read : Has s a t ws u) (x : Nat) : u.drainingT x = s.drainingT x := by
  simp only [State.drainingT, Has.ci_tn read]

end Reads

/-! ## The register (R334, Table 10.9) -/

/-- A write of CI_KEY_CMD has set the fields of the register. -/
def State.keyFields (s : State) (t : Nat) (w : Word) : State :=
  s.setCiT t { s.ciT t with cmdOp := fld w 33 30, cmdSize := fld w 29 28, cmdEnc := bit w 27, cmdDec := bit w 26,
                            cmdExport := bit w 25, cmdHandle := fld w 9 0 }

/-- Where a key command reads or writes its key. -/
def State.keyAddr (s : State) (t : Nat) : Nat := (s.ciT t).addrHi * 2 ^ 36 + (s.ciT t).addrLo

/-- What the fields are written and the command's words are read for stands as before the write. -/
theorem State.keyFields_read {s u : State} {a t : Nat} {w : Word} {ws : List Nat} (read : Has (s.keyFields t w) a t ws u) :
    u.drainingT t = s.drainingT t ∧ (u.ciT t).handleSlice = (s.ciT t).handleSlice ∧ (u.ciT t).kek = (s.ciT t).kek ∧
      u.keyAddr t = s.keyAddr t := by
  refine ⟨Has.drainingT read t, ?_, ?_, ?_⟩ <;> simp [State.keyAddr, Has.ciT read, State.keyFields]

section Register
variable {s u : State} {acc : Accessor} {t op : Nat} {w : Word}

theorem State.keyRow_reached (code : fld w 33 30 = op) (reach : s.reach acc t = true) :
    s.keyRow acc t op w = s.keyCmdWrite acc t w := by
  simp [State.keyRow, code, reach]

/-- A role that may give the command writes its fields, and GO runs it on what it reads. -/
theorem State.keyCmdWrite_go (may : acc.role = .g ∨ acc.role = .h ∧ fld w 33 30 = 0) (known : fld w 33 30 ≤ 4)
    (size : fld w 29 28 < 3) (go : bit w 35 = true) (idle : (s.ciT t).busy = false)
    (read : Has (s.keyFields t w) cipherAgent t ((s.keyFields t w).keyReads t (fld w 33 30) (fld w 29 28)) u) :
    s.keyCmdWrite acc t w =
      u.keyRun t (fld w 33 30) (fld w 29 28) (bit w 27) (bit w 26) (bit w 25) (fld w 9 0) := by
  have role : (acc.role == .h || acc.role == .g) = true := by rcases may with h | ⟨h, -⟩ <;> simp [h]
  have valid : (decide (4 < fld w 33 30) || fld w 29 28 == 3 || (acc.role == .h && fld w 33 30 != 0)) = false := by
    rcases may with h | ⟨h, erase⟩
    · simp [h, Nat.not_lt.2 known, Nat.ne_of_lt size]
    · rw [erase]
      simp [Nat.ne_of_lt size]
  rw [← State.withReads_has (go := fun x => x.keyRun t (fld w 33 30) (fld w 29 28) (bit w 27) (bit w 26) (bit w 25)
    (fld w 9 0)) read]
  simp only [State.keyCmdWrite, role, valid, go, idle, Bool.not_true, Bool.not_false, Bool.and_self, Bool.false_eq_true,
    if_false, if_true, State.keyFields]

/-- Level 1 may erase only. -/
theorem State.keyCmdWrite_hostRejected (role : acc.role = .h) (other : fld w 33 30 ≠ 0) :
    s.keyCmdWrite acc t w = s.setCiT t { s.ciT t with rejectH := true } := by
  simp [State.keyCmdWrite, role, other]

theorem State.keyCmdWrite_readOnly (role : acc.role = .u) : s.keyCmdWrite acc t w = s := by
  simp [State.keyCmdWrite, role]

end Register

/-! ## What each command leaves (R333, R335, R336) -/

/-- The slot that holds a key as LOAD_PLAIN and GENERATE give it. -/
def keyGiven (size : Nat) (enc dec ex origin : Bool) (key : List Octet) : KeySlot :=
  { KeySlot.init with loaded := true, size := size, enc := enc, dec := dec, exportOk := ex, origin := origin, key := key }

section Commands
variable {s : State} {t size h : Nat} {enc dec ex : Bool} (serves : s.drainingT t = false)
  (inSlice : h < (s.ciT t).handleSlice)
include serves inSlice

theorem State.keyRun_erase : s.keyRun t 0 size enc dec ex h = s.keyPersist t h KeySlot.init := by
  simp [State.keyRun, serves, inSlice]

theorem State.keyRun_unreadable (refused : s.octetsOk t Need.load (s.keyAddr t) (keyOctets size) = false) :
    s.keyRun t 1 size enc dec ex h = s.keyResult t 6 := by
  rw [State.keyAddr] at refused
  simp only [State.keyRun, serves, Nat.not_le.2 inSlice, refused, Nat.reduceBEq, Bool.not_false, Bool.false_eq_true,
    if_false, if_true]

theorem State.keyRun_loadPlain (readable : s.octetsOk t Need.load (s.keyAddr t) (keyOctets size) = true) :
    s.keyRun t 1 size enc dec ex h =
      s.keyPersist t h (keyGiven size enc dec ex false (s.agentOctets t (s.keyAddr t) (keyOctets size))) := by
  rw [State.keyAddr] at *
  simp only [State.keyRun, serves, Nat.not_le.2 inSlice, readable, Nat.reduceBEq, Bool.not_true, Bool.false_eq_true,
    if_false, if_true]
  rfl

/-- A wrapped key is loaded when it unwraps to a well-formed plaintext. -/
theorem State.keyRun_loadWrapped {kek : List Octet} (holds : (s.ciT t).kek = some kek)
    (readable : s.octetsOk t Need.load (s.keyAddr t) 48 = true) :
    s.keyRun t 2 0 false false false h =
      ((kwUnwrap kek (s.agentOctets t (s.keyAddr t) 48)).bind keyOfPlain).elim
        (s.keyResult t 10) (fun n => s.keyPersist t h n) := by
  rw [State.keyAddr] at *
  simp only [State.keyRun, serves, Nat.not_le.2 inSlice, readable, holds, Option.bind_some, Nat.reduceBEq, bne_self_eq_false,
    Bool.or_self, Bool.not_true, Bool.false_eq_true, if_false, if_true]
  cases (kwUnwrap kek _).bind keyOfPlain <;> rfl

/-- The random bit generator fails its health tests at the draw. -/
theorem State.keyRun_noEntropy (fails : Config.entropyFails s.fresh = true) :
    s.keyRun t 3 size enc dec ex h = s.tick.2.keyResult t 11 := by
  simp [State.keyRun, serves, inSlice, State.tick, fails]

theorem State.keyRun_generate (drawn : Config.entropyFails s.fresh = false) :
    s.keyRun t 3 size enc dec ex h = s.tick.2.keyPersist t h
      (keyGiven size enc dec ex true (natOct (keyOctets size) (Config.randomBits s.fresh).toNat)) := by
  simp [State.keyRun, serves, inSlice, State.tick, drawn, keyGiven]

theorem State.keyRun_exportEmpty (empty : (s.keySlot t h).loaded = false) :
    s.keyRun t 4 size enc dec ex h = s.keyResult t 1 := by
  simp [State.keyRun, serves, inSlice, empty]

theorem State.keyRun_exportBarred (loaded : (s.keySlot t h).loaded = true) (barred : (s.keySlot t h).exportOk = false) :
    s.keyRun t 4 size enc dec ex h = s.keyResult t 9 := by
  simp [State.keyRun, serves, inSlice, loaded, barred]

/-- A key that may leave is written wrapped under the tenant's key-wrapping key. -/
theorem State.keyRun_export {kek : List Octet} (loaded : (s.keySlot t h).loaded = true)
    (allowed : (s.keySlot t h).exportOk = true) (writable : s.octetsOk t Need.store (s.keyAddr t) 48 = true)
    (holds : (s.ciT t).kek = some kek) :
    s.keyRun t 4 size enc dec ex h =
      (s.agentWrOctets cipherAgent t (s.keyAddr t) (kwWrap kek (keyPlain (s.keySlot t h)))).keyResult t 0 := by
  rw [State.keyAddr] at *
  simp only [State.keyRun, serves, Nat.not_le.2 inSlice, loaded, allowed, writable, holds, Option.getD_some, Nat.reduceBEq,
    Bool.not_true, Bool.false_eq_true, if_false]

end Commands

/-! ## The effect point (R333, R337, R338) -/

section Effect
variable {s : State} {t : Nat} {d : KeyChange}

theorem State.effectPoint_unchanged (idle : (s.ciT t).change = none) : s.effectPoint t = s := by
  simp only [State.effectPoint, idle]

/-- A change that the twin has, or that no twin awaits, takes effect. -/
theorem State.effectPoint_ready (waits : (s.ciT t).change = some d) (ready : d.item = none ∨ s.twinServes = false) :
    s.effectPoint t = (s.keyEffect t d.handle d.slot).keyResult t 0 := by
  have due : (d.item.isSome && s.twinServes) = false := by rcases ready with h | h <;> simp [h]
  simp only [State.effectPoint, waits, due, Bool.false_eq_true, if_false]

theorem State.effectPoint_mirrored (waits : (s.ciT t).change = some d) (sent : d.item.isSome = true)
    (twin : s.twinServes = true) : s.effectPoint t = s := by
  simp only [State.effectPoint, waits, sent, twin, Bool.and_self, if_true]

/-- The slot holds the changed key. -/
theorem State.keyEffect_key (s : State) (t h : Nat) (k : KeySlot) : ((s.keyEffect t h k).keySlot t h).key = k.key := by
  simp only [State.keyEffect, State.keySlot_setKeySlot_same]

end Effect

/-- Settles O53: a command by its register's fields and then by its checks, the effect point by the change that waits. -/
theorem keyCommands : Obligations.KeyCommands := by
  unfold Obligations.KeyCommands
  intro s w t acc v ht ha reach c op size h u addr ready key
  have row {i : Instr} {n : Nat} {z : State}
      (hx : exec i s = s.runIf (wfAccessor acc && wfTenant t) (s.keyRow acc t n v)) (code : op = n)
      (hz : s.keyCmdWrite acc t v = z) : Answers i s z :=
    answers_of_runIf_eq hx (by simp [wfTenant, ha, ht]) ((State.keyRow_reached code reach).trans hz)
  have runs {i : Instr} {n : Nat} {x z : State}
      (hx : exec i s = s.runIf (wfAccessor acc && wfTenant t) (s.keyRow acc t n v)) (code : op = n) (known : n ≤ 4)
      (may : acc.role = .g ∨ acc.role = .h ∧ n = 0) (go : bit v 35 = true) (idle : c.busy = false) (valid : size < 3)
      (read : Has u cipherAgent t (u.keyReads t n size) x)
      (hz : x.keyRun t n size (bit v 27) (bit v 26) (bit v 25) h = z) : Answers i s z := by
    subst code
    exact row hx rfl ((State.keyCmdWrite_go may known valid go idle read).trans hz)
  have supervised {i : Instr} {n : Nat} {x z : State}
      (hx : exec i s = s.runIf (wfAccessor acc && wfTenant t) (s.keyRow acc t n v)) (code : op = n) (known : n ≤ 4)
      (r : ready) (read : Has u cipherAgent t (u.keyReads t n size) x)
      (hz : x.drainingT t = false → h < (x.ciT t).handleSlice →
        x.keyRun t n size (bit v 27) (bit v 26) (bit v 25) h = z) : Answers i s z := by
    obtain ⟨role, go, idle, valid, serves, inSlice⟩ := r
    obtain ⟨drainX, sliceX, -, -⟩ := State.keyFields_read read
    exact runs hx code known (.inl role) go idle valid read (hz (drainX.trans serves) (inSlice.trans_eq sliceX.symm))
  have effects {z : State} (hz : s.effectPoint t = z) : Answers (.effectPoint t) s z :=
    answers_of_runIf_eq rfl (decide_eq_true ht) hz
  refine ⟨fun code r => ?erase, fun code host go idle valid serves inSlice => ?hostErase, fun code r read => ?loadPlain,
    fun code r size0 noEnc noDec noExport read readable kek holds => ?loadWrapped,
    fun code r => ⟨fun fails => ?noEntropy, fun drawn => ?generate⟩,
    fun code r => ⟨fun empty => ?exportEmpty, fun loaded barred => ?exportBarred,
      fun loaded allowed writable kek holds => ?exportKey⟩,
    fun host code => row rfl code (State.keyCmdWrite_hostRejected host (code.trans_ne (by decide))),
    fun user code => row rfl code (State.keyCmdWrite_readOnly user), fun idle => effects (State.effectPoint_unchanged idle),
    fun d waits => ⟨fun due => ⟨effects (State.effectPoint_ready waits due), State.keyEffect_key ..⟩,
      fun sent twin => effects (State.effectPoint_mirrored waits sent twin)⟩⟩
  case erase => exact supervised rfl code (by decide) r (Has.nothing ..) State.keyRun_erase
  case hostErase =>
    obtain ⟨-, sliceU, -, -⟩ := State.keyFields_read (Has.nothing u cipherAgent t)
    exact runs rfl code (by decide) (.inr ⟨host, rfl⟩) go idle valid (Has.nothing ..)
      (State.keyRun_erase serves (inSlice.trans_eq sliceU.symm))
  case loadPlain =>
    obtain ⟨-, -, -, (addrW : w.keyAddr t = addr)⟩ := State.keyFields_read read
    rw [← addrW]
    exact ⟨
      fun readable => supervised rfl code (by decide) r (code ▸ read) fun serves inSlice =>
        State.keyRun_loadPlain serves inSlice readable,
      fun refused => supervised rfl code (by decide) r (code ▸ read) fun serves inSlice =>
        State.keyRun_unreadable serves inSlice refused⟩
  case loadWrapped =>
    obtain ⟨-, -, kekW, (addrW : w.keyAddr t = addr)⟩ := State.keyFields_read read
    rw [← addrW] at readable ⊢
    refine supervised rfl code (by decide) r (code ▸ read) fun serves inSlice => ?_
    rw [size0, noEnc, noDec, noExport]
    exact State.keyRun_loadWrapped serves inSlice (kekW.trans holds) readable
  case noEntropy =>
    exact supervised rfl code (by decide) r (Has.nothing ..) fun serves inSlice =>
      State.keyRun_noEntropy serves inSlice fails
  case generate =>
    exact supervised rfl code (by decide) r (Has.nothing ..) fun serves inSlice =>
      State.keyRun_generate serves inSlice drawn
  case exportEmpty =>
    exact supervised rfl code (by decide) r (Has.nothing ..) fun serves inSlice =>
      State.keyRun_exportEmpty serves inSlice empty
  case exportBarred =>
    exact supervised rfl code (by decide) r (Has.nothing ..) fun serves inSlice =>
      State.keyRun_exportBarred serves inSlice loaded barred
  case exportKey =>
    obtain ⟨-, -, kekU, (addrU : u.keyAddr t = addr)⟩ := State.keyFields_read (Has.nothing u cipherAgent t)
    rw [← addrU] at writable ⊢
    exact supervised rfl code (by decide) r (Has.nothing ..) fun serves inSlice =>
      State.keyRun_export serves inSlice loaded allowed writable (kekU.trans holds)

end Sys2Proof.Machine
end

section
/-! # The cipher engine

How a cipher core starts a ring's next request (R321, R324, R326), the status that it starts or ends with (R325, R326,
R337), what a completion and a close leave of the ring (R323, R327, R340), and obligation O52. -/

namespace Sys2Proof.Machine
open Sys2Proof.Safety

/-! ## Starting a request (R321, R324, R326) -/

section Start
variable {s w : State} {t r aes op : Nat}

theorem State.ciMay_iff (s : State) (t r aes : Nat) :
    s.ciMay t r aes = true ↔ (s.ciRing t r).opened = true ∧ (s.ciRing t r).squash = false ∧
      0 < (s.ciRing t r).waiting ∧ s.aesEnabled aes = true ∧ s.blockOpen (48 + aes) = true ∧
      s.ci.busy.contains aes = false ∧ (s.ciT t).coresHeld < (s.ciT t).coreLimit ∧ s.worksNow = true := by
  simp only [State.ciMay, Bool.and_eq_true, Bool.not_eq_true', decide_eq_true_eq, and_assoc]

/-- In the machine `u` the request `q`, read in `w`, occupies a core with the status that its checks gave, and the ring
counts it as started. -/
def State.ciStarted (w u : State) (t r aes : Nat) (q : CiReq) (st : Nat) : State :=
  let h := u.ciRing t r
  let n := if st = 0 then q.blocks else 0
  let ran : Ran := { slot := (w.ciRing t r).started, words := ciWords st 0 q.tag, irq := q.intr, unit := aes,
                     handle := q.handle, dec := q.op == 1, left := n, total := n, src := q.src, dst := q.dst }
  let y := u.setCiRing t r { h with started := (h.started + 1) % 2 ^ 48, ran := h.ran ++ [ran] }
  { y with ci := { y.ci with busy := y.ci.busy ++ [aes] } }

/-- A request that passes its checks has its blocks counted on the slot. -/
theorem State.ciBegin_passed {q : CiReq} (passes : w.ciCheck t r q = 0) :
    w.ciBegin t r aes q = w.ciStarted (w.ciCount t q.handle q.blocks) t r aes q 0 := by
  simp only [State.ciBegin, State.ciStarted, passes, beq_self_eq_true, if_true, countMod]

/-- One that fails a check occupies the core with nothing to do. -/
theorem State.ciBegin_failed {q : CiReq} (fails : w.ciCheck t r q ≠ 0) :
    w.ciBegin t r aes q = w.ciStarted w t r aes q (w.ciCheck t r q) := by
  simp only [State.ciBegin, State.ciStarted, beq_iff_eq, fails, if_false, countMod]

theorem State.ciStart_unable (unable : ¬ s.ciMay t r aes = true) : s.ciStart t r aes op = s := by
  simp [State.ciStart, unable]

section Able
variable (able : s.ciMay t r aes = true)
include able

theorem State.ciStart_awaits
    (waits : Awaits s cipherAgent t ((s.ciRing t r).slotWords (s.ciRing t r).started) w) :
    s.ciStart t r aes op = w := by
  simp only [State.ciStart, able, Bool.not_true, Bool.false_eq_true, if_false]
  exact State.withReads_awaits waits

variable (slot : Has s cipherAgent t ((s.ciRing t r).slotWords (s.ciRing t r).started) w)
include slot

/-- A request of the other operation is left to the row of its own. -/
theorem State.ciStart_otherOp {n : Nat} (code : (w.ciNext t r).op = n) (other : n ≠ op) (known : n ≤ 1) :
    s.ciStart t r aes op = w := by
  simp only [State.ciStart, able, Bool.not_true, Bool.false_eq_true, if_false]
  rw [State.withReads_has slot]
  simp [code, other, Nat.not_lt.2 known]

theorem State.ciStart_own (own : (w.ciNext t r).op = op) :
    s.ciStart t r aes op = w.ciBegin t r aes (w.ciNext t r) := by
  simp only [State.ciStart, able, Bool.not_true, Bool.false_eq_true, if_false]
  rw [State.withReads_has slot]
  simp only [own, beq_self_eq_true, Bool.true_or, Bool.not_true, Bool.false_eq_true, if_false]

end Able

end Start

/-! ## The status of a request (R325, R326, R337) -/

section Check
variable {s : State} {t r : Nat} {q : CiReq}

/-- The ring has taken the request before the last change of its key (R337). -/
def State.ciStale (s : State) (t r : Nat) (q : CiReq) : Bool :=
  (s.keySlot t q.handle).before.any (fun e => e.1 == r && countBefore (s.ciRing t r).started e.2)

theorem State.ciCheck_invalid (invalid : q.invalid (s.ciT t).handleSlice = true) : s.ciCheck t r q = 7 := by
  simp only [State.ciCheck, invalid, if_true]

variable (valid : q.invalid (s.ciT t).handleSlice = false)
include valid

theorem State.ciCheck_stale (stale : s.ciStale t r q = true) : s.ciCheck t r q = 4 := by
  rw [State.ciStale] at stale
  simp only [State.ciCheck, valid, stale, Bool.false_eq_true, if_false, if_true]

variable (fresh : s.ciStale t r q = false)
include fresh

theorem State.ciCheck_empty (empty : (s.keySlot t q.handle).loaded = false) : s.ciCheck t r q = 1 := by
  rw [State.ciStale] at fresh
  simp only [State.ciCheck, valid, fresh, empty, Bool.not_false, Bool.false_eq_true, if_false, if_true]

variable (loaded : (s.keySlot t q.handle).loaded = true)
include loaded

theorem State.ciCheck_barred
    (barred : (if q.op = 0 then (s.keySlot t q.handle).enc else (s.keySlot t q.handle).dec) = false) :
    s.ciCheck t r q = 2 := by
  rw [State.ciStale] at fresh
  simp only [State.ciCheck, valid, fresh, loaded, beq_iff_eq, barred, Bool.not_true, Bool.not_false, Bool.false_eq_true,
    if_false, if_true]

/-- A key that allows the operation is checked for its limit, and then the request for its translations. -/
theorem State.ciCheck_allowed
    (allowed : (if q.op = 0 then (s.keySlot t q.handle).enc else (s.keySlot t q.handle).dec) = true) :
    s.ciCheck t r q = if 2 ^ 40 < (s.keySlot t q.handle).used + q.blocks then 3 else if !s.ciTranslates t q then 6 else 0 := by
  rw [State.ciStale] at fresh
  simp only [State.ciCheck, valid, fresh, loaded, beq_iff_eq, allowed, Bool.not_true, Bool.false_eq_true, if_false]

end Check

/-! ## Completion records (R322, R327, R340) -/

/-- A request that has run to its end: no block is left, and its record counts them all. -/
def Ran.ended (x : Ran) : Ran := { x with left := 0, words := x.words.set 1 (packW [(x.total, 0)]) }

/-- The completion record of the request `x` has been written in the machine `u`: the ring, as `g` stands, is past it, and
its core is free. -/
def State.ciRecorded (u : State) (t r : Nat) (g : Ring) (x : Ran) : State :=
  let z := (u.ciRecord t g x.slot x.ended.words x.irq).setCiRing t r
    ({ g with comp := (g.comp + 1) % 2 ^ 48, ran := g.ran.filter (fun y => y.slot != x.slot) }).settle
  { z with ci := { z.ci with busy := z.ci.busy.filter (· != x.unit), completed := z.ci.completed + 1 } }

/-- All blocks of the request `x` have been written from their source, in ascending order, and the ring holds it as
ended. -/
def State.ciRanOut (w : State) (t r : Nat) (x : Ran) : State :=
  let u := State.ciBlocks t (w.keySlot t x.handle).key x.dec x.src x.dst x.left 0 w
  u.setCiRing t r { w.ciRing t r with
    ran := (w.ciRing t r).ran.map (fun z => if z.slot == x.slot then x.ended else z) }

section Completion
variable {s w : State} {t r : Nat} {x : Ran}

/-- A ring that does not drain waits for its next request to run. -/
theorem State.ciComplete_notRun
    (next : (s.ciRing t r).ran.find? (fun y => y.slot == (s.ciRing t r).comp) = none)
    (serves : (s.ciRing t r).squash = false) : s.ciComplete t r = s := by
  simp [State.ciComplete, next, serves]

/-- A draining ring's next request, not started, completes SQUASHED. -/
theorem State.ciComplete_squashed
    (next : (s.ciRing t r).ran.find? (fun y => y.slot == (s.ciRing t r).comp) = none)
    (drains : (s.ciRing t r).squash = true) (waits : 0 < (s.ciRing t r).waiting)
    (inOrder : (s.ciRing t r).comp = (s.ciRing t r).started)
    (slot : Has s cipherAgent t ((s.ciRing t r).slotWords (s.ciRing t r).started) w) :
    s.ciComplete t r =
      let g := s.ciRing t r
      let q := w.ciNext t r
      let n := (g.comp + 1) % 2 ^ 48
      let u := (w.ciRecord t g g.comp (ciWords 8 0 q.tag) q.intr).setCiRing t r ({ g with comp := n, started := n }).settle
      { u with ci := { u.ci with completed := u.ci.completed + 1 } } := by
  have due : (!(s.ciRing t r).squash || (s.ciRing t r).waiting == 0 ||
      (s.ciRing t r).comp != (s.ciRing t r).started) = false := by
    simp [drains, waits.ne', inOrder]
  simp only [State.ciComplete, next, due, Bool.false_eq_true, if_false, countMod]
  exact State.withReads_has slot

/-- A request none of whose blocks has been written ends with all of them. -/
theorem State.ciFinish_all (remain : 0 < x.left) (all : x.left = x.total) :
    w.ciFinish t r x = (w.ciRanOut t r x, x.ended) := by
  simp only [State.ciFinish, State.ciDispatch, State.ciRanOut, Ran.ended, remain, if_true, Nat.min_self, Nat.sub_self,
    ← all]

variable (next : (s.ciRing t r).ran.find? (fun y => y.slot == (s.ciRing t r).comp) = some x)
include next

theorem State.ciComplete_noCore (fenced : s.ciHasCore x = false) : s.ciComplete t r = s := by
  simp [State.ciComplete, next, fenced]

variable (core : s.ciHasCore x = true) (remain : 0 < x.left) (all : x.left = x.total)
  (source : Has s cipherAgent t (x.blockWords x.left) w)
include core remain all source

theorem State.ciComplete_unacknowledged (writing : (w.ciRanOut t r x).agentQuiet cipherAgent = false) :
    s.ciComplete t r = w.ciRanOut t r x := by
  simp only [State.ciComplete, next, core, Bool.not_true, Bool.false_eq_true, if_false]
  rw [State.withReads_has source]
  simp only [State.ciFinish_all remain all, writing, Bool.not_false, if_true]

/-- The record follows the blocks once the home has acknowledged them. -/
theorem State.ciComplete_ran (quiet : (w.ciRanOut t r x).agentQuiet cipherAgent = true) :
    s.ciComplete t r = (w.ciRanOut t r x).ciRecorded t r (s.ciRing t r) x := by
  simp only [State.ciComplete, next, core, Bool.not_true, Bool.false_eq_true, if_false]
  rw [State.withReads_has source]
  simp only [State.ciFinish_all remain all, quiet, Bool.not_true, Bool.false_eq_true, if_false]
  rfl

end Completion

/-! ## Closes (R323, Table 10.8) -/

section Close
variable {s : State} {acc : Accessor} {t : Nat} {v : Word}

theorem State.ciCloseWrite_readOnly (role : roleZHG acc.role = false) : s.ciCloseWrite acc t v = s := by
  simp only [State.ciCloseWrite, role, Bool.not_false, if_true]

/-- A write within the slice closes each open ring that it names, at once where the ring's requests are done. -/
theorem State.ciCloseWrite_within (role : roleZHG acc.role = true) (within : fld v 15 0 < 2 ^ (s.ciT t).ringSlice) :
    s.ciCloseWrite acc t v = (List.range 16).foldl (fun u n =>
      if bit v n && (u.ciRing t n).opened then u.setCiRing t n ({ u.ciRing t n with closing := true }).settle else u) s := by
  simp only [State.ciCloseWrite, role, Bool.not_true, Bool.false_eq_true, if_false, ge_iff_le, Nat.not_le.2 within]

end Close

/-- Settles O52: a start by the guards that it passes, a status by the first check that fails, a completion by the ring's
next request, a close by the role and the slice. -/
theorem cipherRows : Obligations.CipherRows := by
  unfold Obligations.CipherRows
  refine ⟨?start, ?status, ?finish⟩
  case start =>
    intro s w t r aes ht hr hc g q can starts row
    have encrypts {v : State} (hv : s.ciStart t r aes 0 = v) : Answers (.encrypt t r aes) s v :=
      answers_of_runIf_eq rfl (by simp [wfTenant, wfRing, wfAes, ht, hr, hc]) hv
    have decrypts {v : State} (hv : s.ciStart t r aes 1 = v) : Answers (.decrypt t r aes) s v :=
      answers_of_runIf_eq rfl (by simp [wfTenant, wfRing, wfAes, ht, hr, hc]) hv
    have able : can → s.ciMay t r aes = true := (State.ciMay_iff s t r aes).2
    have unable (not : ¬ can) {op : Nat} : s.ciStart t r aes op = s :=
      State.ciStart_unable (fun may => not ((State.ciMay_iff s t r aes).1 may))
    refine ⟨fun c slot => ⟨fun op => ⟨?encrypts, ?encryptOnly⟩, fun op => ⟨?decrypts, ?decryptOnly⟩⟩, fun c waits => ?slotAwaits,
      fun not => ⟨encrypts (unable not), decrypts (unable not)⟩⟩
    case encryptOnly => exact decrypts (State.ciStart_otherOp (able c) slot op (by decide) (by decide))
    case decryptOnly => exact encrypts (State.ciStart_otherOp (able c) slot op (by decide) (by decide))
    case encrypts =>
      have begun := State.ciStart_own (able c) slot op
      exact ⟨fun passes => encrypts (begun.trans (State.ciBegin_passed passes)),
        fun fails => encrypts (begun.trans (State.ciBegin_failed fails))⟩
    case decrypts =>
      have begun := State.ciStart_own (able c) slot op
      exact ⟨fun passes => decrypts (begun.trans (State.ciBegin_passed passes)),
        fun fails => decrypts (begun.trans (State.ciBegin_failed fails))⟩
    case slotAwaits =>
      exact ⟨encrypts (State.ciStart_awaits (able c) waits), decrypts (State.ciStart_awaits (able c) waits)⟩
  case status =>
    intro s t r q k fresh room
    refine ⟨State.ciCheck_invalid, fun valid => ⟨fun stale => State.ciCheck_stale valid (Bool.eq_true_of_not_eq_false stale),
      fun new => State.ciCheck_empty valid new, fun new loaded => State.ciCheck_barred valid new loaded,
      fun new loaded allowed => ?_⟩⟩
    rw [State.ciCheck_allowed valid new loaded allowed]
    exact ⟨fun full => if_pos (Nat.lt_of_not_le full),
      fun fits refused => (if_neg (Nat.not_lt.2 fits)).trans (by simp [refused]),
      fun fits translates => (if_neg (Nat.not_lt.2 fits)).trans (by simp [translates])⟩
  case finish =>
    intro s w t r acc v x ht hr g y
    have completes {u : State} (hu : s.ciComplete t r = u) : Answers (.cipherCompletion t r) s u :=
      answers_of_runIf_eq rfl (by simp [wfTenant, wfRing, ht, hr]) hu
    have closes {u : State} (ha : wfAccessor acc = true)
        (hu : (if s.reach acc t then s.ciCloseWrite acc t v else s) = u) : Answers (.ciClose acc t v) s u :=
      answers_of_runIf_eq rfl (by simp [wfTenant, ha, ht]) hu
    exact ⟨fun next serves => completes (State.ciComplete_notRun next serves),
      fun next drains waits inOrder slot => completes (State.ciComplete_squashed next drains waits inOrder slot),
      fun next fenced => completes (State.ciComplete_noCore next fenced),
      fun next core remain all source =>
        ⟨fun writing => completes (State.ciComplete_unacknowledged next core remain all source writing),
          fun quiet => completes (State.ciComplete_ran next core remain all source quiet)⟩,
      fun ha reach => ⟨fun role => closes ha ((if_pos reach).trans (State.ciCloseWrite_readOnly role)),
        fun role within => closes ha ((if_pos reach).trans (State.ciCloseWrite_within role within))⟩,
      fun ha unreached => closes ha (if_neg (Bool.eq_false_iff.1 unreached))⟩

end Sys2Proof.Machine
end

section
/-! # Commands and their queue

What reset leaves (R370), which commands are refused, and that neither a command nor a step on an empty queue changes the
queue: one lemma for each operation that a step on an empty queue reaches, in the order of the model's definitions, where
those of the journal change the journal alone. Obligations O2, O3 and O5. -/

namespace Sys2Proof.Machine
open Sys2Proof.Safety

/-! ## Conditionals and folds -/

@[simp] theorem State.pending_ite (c : Prop) [Decidable c] (s t : State) :
    (if c then s else t).pending = if c then s.pending else t.pending := apply_ite ..

@[simp] theorem State.fst_pending_ite {α : Type} (c : Prop) [Decidable c] (p q : State × α) :
    (if c then p else q).1.pending = if c then p.1.pending else q.1.pending := by split <;> rfl

@[simp] theorem State.snd_pending_ite {α : Type} (c : Prop) [Decidable c] (p q : α × State) :
    (if c then p else q).2.pending = if c then p.2.pending else q.2.pending := by split <;> rfl

@[simp] theorem foldl_pending {α : Type} {f : State → α → State} (hf : ∀ s a, (f s a).pending = s.pending) (l : List α)
    (s : State) : (l.foldl f s).pending = s.pending :=
  foldl_unchanged State.pending hf l s

/-! ## Memory -/

@[simp] theorem State.wrWords_pending (s : State) (ra : Nat) (ws : List Word) :
    (s.wrWords ra ws).pending = s.pending := by
  induction ws generalizing s ra with
  | nil => rfl
  | cons w r ih => exact ih (s.wr ra w) (ra + 1)

@[simp] theorem State.wrMask_pending (s : State) (a : Nat) (w m : Word) : (s.wrMask a w m).pending = s.pending := rfl

@[simp] theorem State.wrLineMask_pending (s : State) (line : Nat) (ws mask : List Word) :
    (s.wrLineMask line ws mask).pending = s.pending := by
  have written := foldl_pending (f := fun (t : State) i => t.wrMask (line * 16 + i) (wordAt ws i) (wordAt mask i))
    (fun _ _ => rfl) (List.range 16) s
  unfold State.wrLineMask
  dsimp only
  split <;> exact written

/-! ## Table -/

@[simp] theorem State.now_pending (s : State) : s.now.2.pending = s.pending := rfl

/-! ## Lines -/

@[simp] theorem State.invalidateAt_pending (s : State) (tile p : Nat → Bool) (except_ : Option Nat) :
    (s.invalidateAt tile p except_).pending = s.pending := rfl

@[simp] theorem State.loseLine_pending (s : State) (t line : Nat) (except_ : Option Nat) :
    (s.loseLine t line except_).pending = s.pending := rfl

/-! ## Router -/

@[simp] theorem State.ringRaw_pending (s : State) (o n : Nat) : (s.ringRaw o n).pending = s.pending := by
  simp [State.ringRaw]

@[simp] theorem State.gwaitRule_pending (s : State) (o n : Nat) : (s.gwaitRule o n).pending = s.pending := by
  unfold State.gwaitRule
  dsimp only
  repeat' split
  all_goals simp

@[simp] theorem State.doorbell_pending (s : State) (o n : Nat) : (s.doorbell o n).pending = s.pending := by
  simp [State.doorbell]

@[simp] theorem State.ringHost_pending (s : State) : s.ringHost.pending = s.pending := by simp [State.ringHost]

/-! ## Rails -/

@[simp] theorem State.report_pending (s : State) (source cls : Nat) : (s.report source cls).pending = s.pending := rfl

@[simp] theorem State.logEntry_pending (s : State) (e : LogEntry) : (s.logEntry e).pending = s.pending := rfl

@[simp] theorem State.emitTwin_pending (s : State) (m : TwinMsg) : (s.emitTwin m).pending = s.pending := by
  simp [State.emitTwin]

@[simp] theorem State.mirrorOut_pending (s : State) (t : Nat) (m : MirrorItem) :
    (s.mirrorOut t m).2.pending = s.pending := by
  simp [State.mirrorOut]

@[simp] theorem State.handOverResult_pending (s : State) (status : Nat) (notice : Bool) :
    (s.handOverResult status notice).pending = s.pending := rfl

@[simp] theorem State.fenceBlock_pending (s : State) (b : Nat) : (s.fenceBlock b).pending = s.pending := by
  simp [State.fenceBlock]

/-! ## Jetstream -/

@[simp] theorem State.sendFlit_pending (s : State) (k : Nat) (b : FlitBody) : (s.sendFlit k b).pending = s.pending := rfl

@[simp] theorem State.sendOn_pending (s : State) (k pool : Nat) (m : Msg) : (s.sendOn k pool m).pending = s.pending :=
  foldl_pending (fun s b => State.sendFlit_pending s k b) _ _

@[simp] theorem State.transmitN_pending (n k : Nat) (s : State) : (s.transmitN n k).pending = s.pending := by
  induction n generalizing s with
  | zero => rfl
  | succ n ih =>
    unfold State.transmitN
    dsimp only
    repeat' split
    all_goals simp [ih]

@[simp] theorem State.transmit_pending (s : State) (k : Nat) : (s.transmit k).pending = s.pending := by
  simp [State.transmit]

@[simp] theorem State.sendMsg_pending (s : State) (m : Msg) : (s.sendMsg m).pending = s.pending := by simp [State.sendMsg]

@[simp] theorem State.newTag_pending (s : State) : s.newTag.2.pending = s.pending := rfl

/-! ## Directory -/

@[simp] theorem State.touch_pending (s : State) (line : Nat) : (s.touch line).pending = s.pending := rfl

@[simp] theorem State.homeSays_pending (s : State) (w : DirWait) (dst type aux : Nat) (words : List Word)
    (poisoned : Bool) : (s.homeSays w dst type aux words poisoned).pending = s.pending := by
  simp [State.homeSays]

@[simp] theorem State.sayHome_pending (s : State) (a line type tag orig aux : Nat) (words mask : List Word)
    (poisoned : Bool) : (s.sayHome a line type tag orig aux words mask poisoned).pending = s.pending := by
  simp [State.sayHome]

@[simp] theorem State.ask_pending (s : State) (a line type : Nat) (words mask : List Word) :
    (s.ask a line type words mask).2.pending = s.pending := by
  simp [State.ask]

@[simp] theorem State.dataTo_pending (s : State) (w : DirWait) (grant : Nat) :
    (s.dataTo w grant).pending = s.pending := by
  simp [State.dataTo]

@[simp] theorem State.snoopAll_pending (s : State) (w : DirWait) (type : Nat) (l : List Nat) :
    (s.snoopAll w type l).pending = s.pending := by
  simp [State.snoopAll]

@[simp] theorem State.openTx_pending (s : State) (w : DirWait) (e : DirEntry) (st : DirState) (type : Nat)
    (snoops awaits wbWait : List Nat) : (s.openTx w e st type snoops awaits wbWait).pending = s.pending := by
  simp [State.openTx]

@[simp] theorem State.own_pending (s : State) (src line way : Nat) : (s.own src line way).pending = s.pending := rfl

@[simp] theorem State.enqueue_pending (s : State) (w : DirWait) : (s.enqueue w).pending = s.pending := rfl

@[simp] theorem State.requeue_pending (s : State) (w : DirWait) : (s.requeue w).pending = s.pending := rfl

@[simp] theorem State.unrefuse_pending (s : State) (src line : Nat) : (s.unrefuse src line).pending = s.pending := rfl

@[simp] theorem State.recall_pending (s : State) (line : Nat) (e : DirEntry) : (s.recall line e).pending = s.pending := by
  simp [State.recall]

@[simp] theorem State.newEntry_pending (s : State) (w : DirWait) : (s.newEntry w).pending = s.pending := by
  unfold State.newEntry
  dsimp only
  repeat' split
  all_goals simp

@[simp] theorem State.mergeMasked_pending (s : State) (w : DirWait) (ws mask : List Word) :
    (s.mergeMasked w ws mask).pending = s.pending := by
  simp [State.mergeMasked]

@[simp] theorem State.ownWithData_pending (s : State) (w : DirWait) (way : Nat) :
    (s.ownWithData w way).pending = s.pending := by
  simp [State.ownWithData]

@[simp] theorem State.serve_pending (s : State) (w : DirWait) : (s.serve w).pending = s.pending := by
  unfold State.serve
  dsimp only
  repeat' split
  all_goals simp

@[simp] theorem State.broadcastRecall_pending (s : State) (line : Nat) (e : DirEntry) :
    (s.broadcastRecall line e).pending = s.pending := by
  simp [State.broadcastRecall]

@[simp] theorem State.takeRequest_pending (s : State) (w : DirWait) :
    (s.takeRequest w).pending = s.pending := by
  unfold State.takeRequest
  dsimp only
  repeat' split
  all_goals simp

@[simp] theorem State.request_pending (s : State) (w : DirWait) : (s.request w).pending = s.pending := by
  simp [State.request]

@[simp] theorem State.drainWaiting_pending (n : Nat) (s : State) :
    (s.drainWaiting n).pending = s.pending := by
  induction n generalizing s with
  | zero => rfl
  | succ n ih =>
    simp only [State.drainWaiting]
    split <;> simp [ih]

@[simp] theorem State.drainHome_pending (s : State) : s.drainHome.pending = s.pending := by
  simp [State.drainHome]

@[simp] theorem State.closeLost_pending (s : State) (line : Nat) (e : DirEntry) (x : DirTx) :
    (s.closeLost line e x).pending = s.pending := by
  unfold State.closeLost
  split <;> simp

@[simp] theorem State.closeTx_pending (s : State) (line : Nat) (e : DirEntry) (x : DirTx) :
    (s.closeTx line e x).pending = s.pending := by
  unfold State.closeTx
  rw [State.drainHome_pending]
  rcases x.got with _ | ⟨ws, d⟩
  all_goals
    dsimp only
    repeat' split
    all_goals simp

@[simp] theorem State.tryClose_pending (s : State) (line : Nat) :
    (s.tryClose line).pending = s.pending := by
  unfold State.tryClose
  split
  · split
    · split <;> simp
    · rfl
  · rfl

@[simp] theorem State.modTx_pending (s : State) (line : Nat) (f : DirTx → DirTx) :
    (s.modTx line f).pending = s.pending := by
  unfold State.modTx
  split <;> simp

@[simp] theorem State.writeBackAt_pending (s : State) (m : Msg) :
    (s.writeBackAt m).pending = s.pending := by
  unfold State.writeBackAt
  dsimp only
  repeat' split
  all_goals simp [State.wrWords_pending]

@[simp] theorem State.ackHome_pending (s : State) (m : Msg) : (s.ackHome m).pending = s.pending := by
  simp [State.ackHome]

@[simp] theorem State.dataHome_pending (s : State) (m : Msg) : (s.dataHome m).pending = s.pending := by
  simp [State.dataHome]

@[simp] theorem State.tileAnswers_pending (s : State) (t line type aux : Nat) (h : Held) (words : List Word) :
    (s.tileAnswers t line type aux h words).pending = s.pending := by
  simp [State.tileAnswers]

@[simp] theorem State.holdSnoop_pending (s : State) (t line : Nat) (h : Held) :
    (s.holdSnoop t line h).pending = s.pending := rfl

@[simp] theorem State.markDeferred_pending (s : State) (t line : Nat) : (s.markDeferred t line).pending = s.pending := rfl

@[simp] theorem State.snoop_pending (s : State) (t line : Nat) (h : Held) : (s.snoop t line h).pending = s.pending := by
  unfold State.snoop
  dsimp only
  repeat' split
  all_goals simp

@[simp] theorem State.grantAt_pending (s : State) (t : Nat) (m : Msg) : (s.grantAt t m).pending = s.pending := by
  unfold State.grantAt
  split <;> simp

@[simp] theorem State.takeWords_pending (s : State) (line : Nat) (ws : List Word) :
    (s.takeWords line ws).pending = s.pending := by
  simp [State.takeWords, State.wrWords_pending]

@[simp] theorem State.fillAt_pending (s : State) (t : Nat) (m : Msg) :
    (s.fillAt t m).pending = s.pending := by
  unfold State.fillAt
  dsimp only
  split <;> simp [State.setPoison_pending]

@[simp] theorem State.releaseHeld_pending (s : State) (t line : Nat) : (s.releaseHeld t line).pending = s.pending := by
  unfold State.releaseHeld
  dsimp only
  repeat' split
  all_goals simp

@[simp] theorem State.evict_pending (s : State) (t line : Nat) : (s.evict t line).pending = s.pending := by
  unfold State.evict
  dsimp only
  repeat' split
  all_goals simp

@[simp] theorem State.fillRequest_pending (s : State) (t cls line : Nat) (own : Bool)
    (waiter : Option (Nat × Nat × Bool)) :
    (s.fillRequest t cls line own waiter).pending = s.pending := by
  unfold State.fillRequest
  dsimp only
  repeat' split
  all_goals simp

@[simp] theorem State.tileRequest_pending (s : State) (t cls line : Nat) (own : Bool)
    (waiter : Option (Nat × Nat × Bool)) :
    (s.tileRequest t cls line own waiter).pending = s.pending := by
  unfold State.tileRequest
  split <;> simp

@[simp] theorem State.agentReleases_pending (s : State) (a line : Nat) (words : List Word) :
    (s.agentReleases a line words).pending = s.pending := by
  unfold State.agentReleases
  split <;> simp

@[simp] theorem State.copyAsks_pending (s : State) (src key line : Nat) :
    (s.copyAsks src key line).pending = s.pending := by
  simp [State.copyAsks]

@[simp] theorem State.agentMerges_pending (s : State) (a line : Nat) (words mask : List Word) :
    (s.agentMerges a line words mask).pending = s.pending := by
  simp [State.agentMerges]

@[simp] theorem State.ringKept_pending (s : State) (a : Nat) : (s.ringKept a).pending = s.pending := by
  simp [State.ringKept]

@[simp] theorem State.agentGets_pending (s : State) (a : Nat) (m : Msg) :
    (s.agentGets a m).pending = s.pending := by
  simp [State.agentGets, State.setPoison_pending]

@[simp] theorem State.ackTile_pending (s : State) (t : Nat) (m : Msg) :
    (s.ackTile t m).pending = s.pending := by
  unfold State.ackTile
  dsimp only
  repeat' split
  all_goals simp [State.setPoison_pending]

@[simp] theorem State.refusedAt_pending (s : State) (a line : Nat) : (s.refusedAt a line).pending = s.pending := rfl

@[simp] theorem State.handleMsg_pending (s : State) (m : Msg) : (s.handleMsg m).pending = s.pending := by
  unfold State.handleMsg
  split <;> simp

@[simp] theorem State.pumpN_pending (n : Nat) (s : State) : (s.pumpN n).pending = s.pending := by
  induction n generalizing s with
  | zero => rfl
  | succ n ih =>
    simp only [State.pumpN]
    split <;> simp [ih]

@[simp] theorem State.pump_pending (s : State) : s.pump.pending = s.pending := by simp [State.pump]

@[simp] theorem State.missRequest_pending (s : State) (c line : Nat) (own : Bool) (store : Option Nat) :
    (s.missRequest c line own store).pending = s.pending := by
  simp [State.missRequest]

@[simp] theorem State.bring_pending (s : State) (c line : Nat) (own : Bool) (store : Option Nat) :
    (s.bring c line own store).pending = s.pending := by
  simp [State.bring]

@[simp] theorem State.agentFetch_pending (s : State) (a : Nat) (lines : List Nat) :
    (s.agentFetch a lines).1.pending = s.pending := by
  simp [State.agentFetch]

@[simp] theorem State.agentReads_pending (s : State) (a : Nat) (lines : List Nat) :
    (s.agentReads a lines).1.pending = s.pending := by
  unfold State.agentReads
  dsimp only
  split
  · rfl
  · split
    · exact (foldl_pending (fun t x => by split <;> simp) _ _).trans (State.agentFetch_pending ..)
    · exact State.agentFetch_pending ..

/-! ## Agents -/

@[simp] theorem State.agentPut_pending (s : State) (a : Nat) (l : List BitsAt) :
    (s.agentPut a l).pending = s.pending := foldl_pending (fun t g => by simp) _ _

@[simp] theorem State.agentWrOctets_pending (s : State) (a t k : Nat) (l : List Octet) :
    (s.agentWrOctets a t k l).pending = s.pending := by
  simp [State.agentWrOctets]

@[simp] theorem State.withLines_pending (s : State) (a : Nat) (lines : List Nat) (go : State → State)
    (hgo : (go (s.agentReads a lines).1).pending = s.pending) : (s.withLines a lines go).pending = s.pending := by
  unfold State.withLines
  dsimp only
  split <;> simp [hgo]

/-! ## Journal -/

/-- A state that differs from another in the journal and the counter of free values alone. -/
def State.JournalOnly (s t : State) : Prop := ∃ jn n, t = { s with jn := jn, fresh := n }

theorem State.JournalOnly.refl (s : State) : s.JournalOnly s := ⟨s.jn, s.fresh, rfl⟩

theorem State.JournalOnly.trans {s t u : State} (first : s.JournalOnly t) (second : t.JournalOnly u) : s.JournalOnly u := by
  obtain ⟨_, _, rfl⟩ := first
  obtain ⟨jn, n, rfl⟩ := second
  exact ⟨jn, n, rfl⟩

theorem State.JournalOnly.ite {s t u : State} {c : Prop} [Decidable c] (yes : s.JournalOnly t) (no : s.JournalOnly u) :
    s.JournalOnly (if c then t else u) := by
  split
  · exact yes
  · exact no

theorem State.JournalOnly.pending {s t : State} (h : s.JournalOnly t) : t.pending = s.pending := by
  obtain ⟨_, _, rfl⟩ := h
  rfl

theorem State.JournalOnly.tn {s t : State} (h : s.JournalOnly t) : t.tn = s.tn := by
  obtain ⟨_, _, rfl⟩ := h
  rfl

theorem State.tick_journalOnly (s : State) : s.JournalOnly s.tick.2 := ⟨_, _, rfl⟩

theorem State.refill_journalOnly (n : Nat) (s : State) : s.JournalOnly (s.refill n) := by
  induction n generalizing s with
  | zero => exact .refl s
  | succ n ih =>
    refine State.JournalOnly.ite (.refl s) ?_
    split
    · exact .trans ⟨_, _, rfl⟩ (ih _)
    · exact .refl s

theorem State.intoSegment_journalOnly (s : State) (g size : Nat) : s.JournalOnly (s.intoSegment g size) :=
  .trans ⟨_, _, rfl⟩ (.ite (State.refill_journalOnly _ _) (.refl _))

theorem State.sealNonce_journalOnly (s : State) (t blocks : Nat) : s.JournalOnly (s.sealNonce t blocks).2.2 :=
  .trans (.ite ⟨_, _, rfl⟩ (.refl s)) ⟨_, _, rfl⟩

theorem State.sealOf_journalOnly (s : State) (p : Pend) (n : Nat) : s.JournalOnly (s.sealOf p n).2.2 := by
  unfold State.sealOf
  split
  · exact .refl s
  · split
    · exact State.sealNonce_journalOnly ..
    · exact ⟨_, _, rfl⟩

theorem State.writeRecord_journalOnly (s : State) (p : Pend) (compress : Bool) (seg : Nat) :
    s.JournalOnly (s.writeRecord p compress seg) :=
  ((s.sealOf_journalOnly p _).trans ((State.intoSegment_journalOnly ..).trans ⟨_, _, rfl⟩)).trans
    (.ite ⟨_, _, rfl⟩ (.refl _))

theorem State.ownRecord_journalOnly (s : State) (type : Nat) (ws : List Word) : s.JournalOnly (s.ownRecord type ws) := by
  obtain ⟨p, -, -, -, -, waits | lost | ⟨g, written⟩⟩ := s.ownRecord_cases type ws
  · exact ⟨_, _, waits⟩
  · exact ⟨_, _, lost⟩
  · rw [written]
    exact .trans ⟨_, _, rfl⟩ (State.writeRecord_journalOnly ..)

theorem State.retireFor_journalOnly {s t : State} {g x : Nat} (h : s.retireFor g = some (x, t)) : s.JournalOnly t := by
  simp only [State.retireFor, Option.map_eq_some_iff, Prod.mk.injEq] at h
  obtain ⟨_, _, _, rfl⟩ := h
  exact ⟨_, _, rfl⟩

theorem State.flushItem_journalOnly (s : State) (p : Pend) (left : Nat) : s.JournalOnly (s.flushItem p left).1 := by
  unfold State.flushItem
  dsimp only
  split
  · exact ⟨_, _, rfl⟩
  · split
    · exact s.tick_journalOnly.trans (s.tick.2.writeRecord_journalOnly p false _)
    · split
      · exact ⟨_, _, rfl⟩
      · split
        next spare =>
          exact s.tick_journalOnly.trans ((State.retireFor_journalOnly spare).trans (State.writeRecord_journalOnly _ p false _))
        next => exact ⟨_, _, rfl⟩

theorem State.flushRegion_journalOnly (s : State) : s.JournalOnly s.flushRegion := by
  have flushed : s.JournalOnly (s.jn.pending.foldl (fun (a : State × Nat) p => a.1.flushItem p a.2) (s, 500 * MiB)).1 :=
    List.foldlRecOn (motive := fun q : State × Nat => s.JournalOnly q.1) _ _ (.refl s)
      (fun q kept p _ => kept.trans (q.1.flushItem_journalOnly p q.2))
  exact flushed.trans ⟨_, _, rfl⟩

@[simp] theorem State.ownRecord_pending (s : State) (type : Nat) (ws : List Word) :
    (s.ownRecord type ws).pending = s.pending := (s.ownRecord_journalOnly type ws).pending

@[simp] theorem State.flushRegion_pending (s : State) : s.flushRegion.pending = s.pending := s.flushRegion_journalOnly.pending

/-! ## Access -/

@[simp] theorem State.endSession_pending (s : State) (x : Session) (reason : Option Nat) :
    (s.endSession x reason).pending = s.pending := by
  unfold State.endSession
  split <;> simp

@[simp] theorem State.endSessions_pending (s : State) (p : Session → Bool) (reason : Option Nat) :
    (s.endSessions p reason).pending = s.pending := by
  simp [State.endSessions]

/-! ## Links -/

@[simp] theorem State.fenceGroup_pending (s : State) (k g : Nat) : (s.fenceGroup k g).pending = s.pending := rfl

/-! ## Power -/

@[simp] theorem State.setInactive_pending (s : State) (b : Bank) : (s.setInactive b).pending = s.pending := rfl

@[simp] theorem State.updateStatus_pending (s : State) (n : Nat) : (s.updateStatus n).pending = s.pending := rfl

@[simp] theorem State.stageFails_pending (s : State) (status : Nat) (b : Bank) :
    (s.stageFails status b).pending = s.pending := rfl

@[simp] theorem State.haltRecord_pending (s : State) (source : Nat) : (s.haltRecord source).pending = s.pending := rfl

@[simp] theorem State.haltFlush_pending (s : State) (source : Nat) : (s.haltFlush source).pending = s.pending := by
  simp [State.haltFlush]

@[simp] theorem State.powerDown_pending (s : State) : s.powerDown.pending = s.pending := rfl

@[simp] theorem State.halt_pending (s : State) (source : Nat) : (s.halt source).pending = s.pending := by
  simp [State.halt]

/-! ## Channels -/

@[simp] theorem State.ledgerRecord_pending (s : State) (src : Nat) (id : DWord) :
    (s.ledgerRecord src id).pending = s.pending := by
  unfold State.ledgerRecord
  dsimp only
  split <;> simp

@[simp] theorem State.closeGrant_pending (s : State) (o : Order) : (s.closeGrant o).pending = s.pending := by
  unfold State.closeGrant
  split <;> simp

@[simp] theorem State.recordDone_pending (s : State) (m slot : Nat) : (s.recordDone m slot).pending = s.pending := by
  unfold State.recordDone
  dsimp only
  split <;> simp

@[simp] theorem State.outcome_pending (s : State) (m slot st count : Nat) (detail : DWord) :
    (s.outcome m slot st count detail).pending = s.pending := by
  unfold State.outcome
  dsimp only
  split <;> simp

@[simp] theorem State.emitFrame_pending (s : State) (type : Nat) (h : CHeader) (payload : List Octet) :
    (s.emitFrame type h payload).pending = s.pending := by
  unfold State.emitFrame
  split <;> simp

@[simp] theorem State.servePeerN_pending (n p : Nat) (s : State) : (s.servePeerN n p).pending = s.pending := by
  induction n generalizing s with
  | zero => rfl
  | succ n ih =>
    simp only [State.servePeerN]
    repeat' split
    all_goals simp [ih]

@[simp] theorem State.servePeer_pending (s : State) (p : Nat) : (s.servePeer p).pending = s.pending := by
  simp [State.servePeer]

@[simp] theorem State.sendFrame_pending (s : State) (p type : Nat) (h : CHeader) (payload : List Octet) :
    (s.sendFrame p type h payload).pending = s.pending := by
  simp [State.sendFrame]

@[simp] theorem State.sendMessage_pending (s : State) (c : Chan) (id : DWord) (attempt : Nat) (data : List Octet) :
    (s.sendMessage c id attempt data).pending = s.pending := by
  simp [State.sendMessage]

@[simp] theorem State.placeOrder_pending (s : State) (c : Chan) (l : List Octet) :
    (s.placeOrder c l).pending = s.pending := rfl

@[simp] theorem State.dataPointer_pending (s : State) (c : Chan) (cid addr len : Nat) :
    (s.dataPointer c cid addr len).2.2.pending = s.pending := by
  unfold State.dataPointer
  dsimp only
  repeat' split
  all_goals simp

@[simp] theorem State.nvmeCommand_pending (s : State) (c : Chan) (o : Order) (cid grant : Nat) :
    (s.nvmeCommand c o cid grant).2.pending = s.pending := by
  unfold State.nvmeCommand
  dsimp only
  split <;> simp

@[simp] theorem State.deliver_pending (s : State) (m slot attempt : Nat) :
    (s.deliver m slot attempt).pending = s.pending := by
  unfold State.deliver
  dsimp only
  repeat' split
  all_goals simp

@[simp] theorem State.redrive_pending (s : State) (m slot : Nat) :
    (s.redrive m slot).pending = s.pending := by
  unfold State.redrive
  dsimp only
  repeat' split
  all_goals simp

@[simp] theorem State.noAnswer_pending (s : State) (m slot : Nat) :
    (s.noAnswer m slot).pending = s.pending := by
  unfold State.noAnswer
  dsimp only
  split <;> simp

@[simp] theorem State.fenceProc_pending (s : State) (p : Nat) : (s.fenceProc p).pending = s.pending := by
  unfold State.fenceProc
  dsimp only
  refine (foldl_pending (fun t e => ?_) _ _).trans (by simp)
  split
  · split
    · split <;> simp
    · exact (foldl_pending (fun u o => by simp) _ _).trans (by split <;> simp)
  · rfl

/-! ## Compress -/

@[simp] theorem State.fenceLane_pending (s : State) (l : Nat) : (s.fenceLane l).pending = s.pending := by
  simp [State.fenceLane]

/-! ## Cipher -/

@[simp] theorem State.ciBlocks_pending (t : Nat) (key : List Octet) (dec : Bool) (src dst n j : Nat) (s : State) :
    (s.ciBlocks t key dec src dst n j).pending = s.pending := by
  simp [State.ciBlocks]

@[simp] theorem State.ciDispatch_pending (s : State) (t : Nat) (x : Ran) (n : Nat) :
    (s.ciDispatch t x n).1.pending = s.pending := by
  simp [State.ciDispatch]

@[simp] theorem State.fenceAes_pending (s : State) (c : Nat) : (s.fenceAes c).pending = s.pending :=
  (foldl_pending (fun t e => foldl_pending (fun u re => by split <;> simp) _ t) _ _).trans (by simp)

/-! ## Tenants -/

@[simp] theorem State.moveSrc_pending (s : State) (o n : Nat) : (s.moveSrc o n).pending = s.pending := by
  simp [State.moveSrc]

@[simp] theorem State.worldsOpen_pending (s : State) : s.worldsOpen.pending = s.pending := by
  unfold State.worldsOpen
  dsimp only
  rw [foldl_pending (fun t p => foldl_pending (fun u e => by simp) _ _)]
  exact foldl_pending (fun u e => State.setBlock_pending u _ _) _ _

/-! ## Ops -/

@[simp] theorem State.endReservation_pending (s : State) (c : Nat) :
    (s.endReservation c).pending = s.pending := by
  unfold State.endReservation
  split <;> simp

@[simp] theorem State.shutWindow_pending (s : State) (c : Nat) : (s.shutWindow c).pending = s.pending := by
  unfold State.shutWindow
  split <;> simp

@[simp] theorem State.enterBlock_pending (s : State) (c ra : Nat) (i : Intr) (sw : DWord) (ic : Nat) :
    (s.enterBlock c ra i sw ic).pending = s.pending := by
  simp [State.enterBlock]

@[simp] theorem State.fatalFault_pending (s : State) (source : Nat) :
    (s.fatalFault source).pending = s.pending := by
  simp [State.fatalFault]

@[simp] theorem State.blockFatal_pending (s : State) (c : Nat) : (s.blockFatal c).pending = s.pending := by
  simp [State.blockFatal]

@[simp] theorem State.blockReady_pending (s : State) (c lvl : Nat) :
    (s.blockReady c lvl).pending = s.pending := by
  unfold State.blockReady
  split <;> simp

@[simp] theorem State.takeAt_pending (s : State) (c fuel lvl : Nat) (i : Intr) :
    (s.takeAt c fuel lvl i).pending = s.pending := by
  induction fuel generalizing s lvl i with
  | zero => rfl
  | succ n ih =>
    unfold State.takeAt
    dsimp only
    split <;> simp [ih]

@[simp] theorem State.take_pending (s : State) (c lvl : Nat) (i : Intr) :
    (s.take c lvl i).pending = s.pending := by
  simp [State.take]

@[simp] theorem State.leaveZenith_pending (s : State) (c : Nat) :
    (s.leaveZenith c).pending = s.pending := by
  unfold State.leaveZenith
  split <;> simp

@[simp] theorem State.zenithAbsent_pending (s : State) : s.zenithAbsent.pending = s.pending := by
  unfold State.zenithAbsent
  dsimp only
  split
  · rfl
  · exact (foldl_pending (fun t e => by simp) _ _).trans (by simp)

/-! ## Faults -/

@[simp] theorem State.fenceWays_pending (s : State) (t g : Nat) : (s.fenceWays t g).pending = s.pending := by
  simp [State.fenceWays]

@[simp] theorem State.fenceTwinLane_pending (s : State) (n : Nat) : (s.fenceTwinLane n).pending = s.pending := rfl

@[simp] theorem State.useSpare_pending (s : State) (region : Nat) : (s.useSpare region).pending = s.pending := by
  simp [State.useSpare]

@[simp] theorem State.siteFails_pending (s : State) (site : Nat) : (s.siteFails site).pending = s.pending := by
  simp [State.siteFails]

@[simp] theorem State.takeoverDecided_pending (s : State) (site : Nat) :
    (s.takeoverDecided site).pending = s.pending := by
  unfold State.takeoverDecided
  split <;> simp

@[simp] theorem State.squallReaction_pending (s : State) (n : Nat) (forced : Bool) :
    (s.squallReaction n forced).pending = s.pending := by
  simp [State.squallReaction]

@[simp] theorem State.logSample_pending (s : State) (now : Nat) (x : Sample) (v : FSrc) (squall fenced : Bool)
    (count : Nat) : (s.logSample now x v squall fenced count).pending = s.pending :=
  rfl

@[simp] theorem State.collect_pending (s : State) (x : Sample) : (s.collect x).pending = s.pending := by
  simp [State.collect]

@[simp] theorem State.sampleAll_pending (s : State) : s.sampleAll.pending = s.pending :=
  foldl_pending (fun t e => by simp) _ _

/-! ## Sparing -/

@[simp] theorem State.coreFault_pending (s : State) (c : Nat) (intact : Bool) (detector who : Nat) :
    (s.coreFault c intact detector who).pending = s.pending := by
  simp [State.coreFault]

/-! ## Horizontal -/

@[simp] theorem State.coreCycle_pending (s : State) (c : Nat) : (s.coreCycle c).pending = s.pending := by
  unfold State.coreCycle
  dsimp only
  repeat' split
  all_goals simp

@[simp] theorem State.coreCycles_pending (s : State) : s.coreCycles.pending = s.pending :=
  foldl_pending (fun t e => by simp) _ _

/-! ## Firmware -/

@[simp] theorem State.stageBlock_pending (s : State) : s.stageBlock.pending = s.pending := by
  unfold State.stageBlock
  split <;> simp

/-! ## Commands and steps -/

/-- A command answers the state of its meaning where it is well formed, and is refused where it is not. -/
theorem exec_runIf (c : Instr) (s : State) : ∃ t, exec c s = s.runIf c.wf t := by
  cases c <;> exact ⟨_, rfl⟩

theorem State.runIf_next {s t u : State} {ok : Bool} (h : s.runIf ok t = .next u) : u.pending = s.pending := by
  unfold State.runIf at h
  split at h
  · cases h
    rfl
  · cases h

theorem exec_pending {c : Instr} {s t : State} (h : exec c s = .next t) : t.pending = s.pending := by
  obtain ⟨u, hu⟩ := exec_runIf c s
  exact State.runIf_next (hu.symm.trans h)

theorem exec_illFormed {c : Instr} (h : c.wf = false) (s : State) : exec c s = .refused .illFormed := by
  obtain ⟨u, hu⟩ := exec_runIf c s
  rw [hu, h]
  rfl

theorem exec_wellFormed {c : Instr} (h : c.wf = true) (s : State) : ∃ t, exec c s = .next t := by
  obtain ⟨u, hu⟩ := exec_runIf c s
  exact ⟨u.withQueue s, by rw [hu, h]; rfl⟩

/-- Settles O5: nothing has been written in the state after reset. -/
theorem resetLeaves : Obligations.ResetLeaves := by
  unfold Obligations.ResetLeaves
  exact ⟨rfl, rfl, rfl, fun _ none => absurd none List.not_mem_nil, fun _ => rfl, fun _ => rfl, fun _ => rfl⟩

/-- Settles O3: every command's meaning is guarded by its form alone. -/
theorem refusedExactlyIllFormed : Obligations.RefusedExactlyIllFormed := by
  unfold Obligations.RefusedExactlyIllFormed
  exact fun c s => ⟨fun ill => exec_illFormed ill s, fun well => exec_wellFormed well s⟩

/-- Settles O2: the queue's front is removed and its command runs on the rest, which it keeps; an empty queue stays empty. -/
theorem wellFormedQueueRuns : Obligations.WellFormedQueueRuns := by
  unfold Obligations.WellFormedQueueRuns
  refine ⟨fun s well => ?step, fun c s t => exec_pending⟩
  cases queue : s.pending with
  | nil =>
    have empty : s.coreCycles.sampleAll.stageBlock.pending = [] := by simp [queue]
    exact ⟨_, step_idle queue, empty, fun c waits => absurd (empty ▸ waits) List.not_mem_nil⟩
  | cons c rest =>
    have front : c ∈ s.pending := queue ▸ List.mem_cons_self
    obtain ⟨t, ran⟩ := exec_wellFormed (well c front) { s with pending := rest }
    have kept : t.pending = rest := exec_pending ran
    refine ⟨t, by simp only [step, queue, ran], kept, fun d waits => well d ?_⟩
    rw [queue]
    exact List.mem_cons_of_mem c (kept ▸ waits)

end Sys2Proof.Machine
end

section
/-! # Tenant life

Tenant commands by the state of the tenant (R359, R360, Table 11.12), and obligation O54. -/

namespace Sys2Proof.Machine
open Sys2Proof.Safety

section Commands
variable {s : State} {t : Nat} {states : List TenSt} {needsZenith idle : Bool}

theorem State.tenantAbort_absent (absent : s.tn.absent = true) : s.tenantAbort t true states idle = 6 := by
  simp [State.tenantAbort, absent]

variable (present : (needsZenith && s.tn.absent) = false)
include present

theorem State.tenantAbort_none (known : states.contains (s.tenant t).st = true)
    (free : (idle && s.coreRuns t) = false) : s.tenantAbort t needsZenith states idle = 0 := by
  simp only [State.tenantAbort, present, known, free, Bool.not_true, Bool.or_self, Bool.false_eq_true, if_false]

theorem State.tenantAbort_busy
    (busy : states.contains (s.tenant t).st = false ∨ (idle && s.coreRuns t) = true) :
    s.tenantAbort t needsZenith states idle = 0x0B := by
  have refused : (!states.contains (s.tenant t).st || (idle && s.coreRuns t)) = true := by
    rcases busy with h | h <;> rw [h]
    · rfl
    · exact Bool.or_true _
  simp only [State.tenantAbort, present, refused, Bool.false_eq_true, if_false, if_true]

end Commands

/-- A tenant may be drained (R359): it is ACTIVE or STOPPED, and no core runs for it. -/
def State.drainable (s : State) (t : Nat) : Prop :=
  ((s.tenant t).st = .active ∨ (s.tenant t).st = .stopped) ∧ s.coreRuns t = false

section Drain
variable {s : State} {t : Nat} {needsZenith : Bool} (present : (needsZenith && s.tn.absent) = false)
include present

theorem State.tenantAbort_drainable (may : s.drainable t) :
    s.tenantAbort t needsZenith [.active, .stopped] true = 0 := by
  obtain ⟨known, free⟩ := may
  refine State.tenantAbort_none present ?_ free
  rcases known with h | h <;> rw [h] <;> rfl

theorem State.tenantAbort_notDrainable (not : ¬ s.drainable t) :
    s.tenantAbort t needsZenith [.active, .stopped] true = 0x0B := by
  refine State.tenantAbort_busy present ?_
  simp only [State.drainable, not_and_or, not_or, Bool.not_eq_false] at not
  exact not.imp (fun ⟨a, b⟩ => by simp [a, b]) id

end Drain

section Rows
variable {i : Instr} {s u : State} {route : Route} {v : Nat} {needsZenith idle : Bool} {states : List TenSt}
  {f : State → Nat → State}
  (row : exec i s = s.runIf (wfRoute route) (s.tenantCommand route v needsZenith states idle f))
  (hr : wfRoute route = true) (hw : MayWrite s route 0x1500 2 v)
include row hr hw

/-- A tenant command without an abort does what it is given to the tenant selected. -/
theorem writes_of_tenantCommand (free : s.tenantAbort (s.select route 0x1500 1) needsZenith states idle = 0)
    (hu : f s (s.select route 0x1500 1) = u) : Writes i s u := by
  rw [State.tenantCommand] at row
  exact writes_of_odWriteNum row hr hw free hu

theorem refuses_of_tenantCommand {code : Nat}
    (refused : s.tenantAbort (s.select route 0x1500 1) needsZenith states idle = code) (abort : code ≠ 0) :
    Answers i s (s.odAnswer code []) := by
  rw [State.tenantCommand] at row
  exact refuses_of_odWriteNum row hr hw refused abort

end Rows

/-- A tenant that does not drain has no drain to end. -/
theorem State.drainEnds_unchanged {s : State} {t : Nat} (not : (s.tenant t).st ≠ .draining) : s.drainEnds t = s := by
  simp [State.drainEnds, not]

/-- Without an orderly stop no drain timeout counts. -/
theorem State.stopTimeout_unchanged {s : State} (none : s.md.stopping = none) (t : Nat) : s.stopTimeout t = s := by
  have same : { s with md := { s.md with stopping := Option.none } } = s := by rw [← none]
  simp only [State.stopTimeout, none, Option.map_none, same, State.finishStop]

@[simp] theorem State.emitTwin_tn (s : State) (m : TwinMsg) : (s.emitTwin m).tn = s.tn := by
  unfold State.emitTwin
  dsimp only
  split <;> rfl

@[simp] theorem State.mirrorOut_tn (s : State) (t : Nat) (m : MirrorItem) : (s.mirrorOut t m).2.tn = s.tn := by
  unfold State.mirrorOut
  split <;> simp

theorem State.create_active (s : State) (t : Nat) : ((s.create t).tenant t).st = .active := by
  simp only [State.create, State.mirrorConfig, State.tenant, State.mirrorOut_tn, (State.ownRecord_journalOnly ..).tn,
    State.setTenant, tget_tput_same]

/-- Settles O54: each command by the abort that the tenant's state gives. -/
theorem tenantLife : Obligations.TenantLife := by
  unfold Obligations.TenantLife
  intro s route hr t st idle
  refine ⟨fun hw here alone => ⟨fun absent => ?create, fun known => ?known⟩, fun hw absent _ => ?createWithoutZenith,
    fun hw => ⟨fun may => ?reset, fun not => ?resetBusy⟩, fun hw here => ⟨fun may => ?delete, fun not => ?deleteBusy⟩,
    fun n hn => ⟨fun serves runs => ?notDraining, ?drainTimeout⟩, s.create_active t⟩
  case create =>
    have creates : (s.tenant (s.select route 0x1500 1)).st = .absent := absent
    exact writes_of_tenantCommand rfl hr hw (State.tenantAbort_none (by simp [here]) (by simp [alone, creates]) rfl) rfl
  case known =>
    have held : (s.tenant (s.select route 0x1500 1)).st ≠ .absent := known
    exact refuses_of_tenantCommand rfl hr hw
      (State.tenantAbort_busy (by simp [here]) (.inl (by simp [alone, held]))) (by decide)
  case createWithoutZenith => exact refuses_of_tenantCommand rfl hr hw (State.tenantAbort_absent absent) (by decide)
  case reset => exact writes_of_tenantCommand rfl hr hw (State.tenantAbort_drainable (needsZenith := false) rfl may) rfl
  case resetBusy => exact refuses_of_tenantCommand rfl hr hw (State.tenantAbort_notDrainable (needsZenith := false) rfl not) (by decide)
  case delete => exact writes_of_tenantCommand rfl hr hw (State.tenantAbort_drainable (by simp [here]) may) rfl
  case deleteBusy =>
    exact refuses_of_tenantCommand rfl hr hw (State.tenantAbort_notDrainable (by simp [here]) not) (by decide)
  case notDraining =>
    exact answers_of_runIf_eq rfl (decide_eq_true hn)
      ((State.stopTimeout_unchanged (by rwa [State.drainEnds_unchanged serves]) n).trans (State.drainEnds_unchanged serves))
  case drainTimeout => exact answers_of_runIf_eq rfl (decide_eq_true hn) rfl

end Sys2Proof.Machine
end

section
/-! # The hand-over between the worlds

What a write of SV_HANDOVER, the end of a move, a gating request and Zenith's watchdog come to by the state of the block
(R365-R369), and obligation O55. -/

namespace Sys2Proof.Machine
open Sys2Proof.Safety

/-! ## The register (Table 11.21) -/

/-- The word that starts operation `op` on block or source `n`. -/
def handOverWord (op n : Nat) : Word := packW [(1, 35), (op, 32), (n, 0)]

section Word
variable {op n : Nat} (code : op < 4) (target : n < 8192)
include code target

theorem handOverWord_toNat : (handOverWord op n).toNat = 2 ^ 35 + op * 2 ^ 32 + n := by
  simp only [handOverWord, packW, List.foldl_cons, List.foldl_nil, Nat.shiftLeft_eq, BitVec.toNat_ofNat]
  omega

theorem handOverWord_op : fld (handOverWord op n) 33 32 = op := by
  rw [fld, handOverWord_toNat code target, Nat.shiftRight_eq_div_pow]
  omega

theorem handOverWord_target : fld (handOverWord op n) 12 0 = n := by
  rw [fld, handOverWord_toNat code target, Nat.shiftRight_eq_div_pow]
  omega

theorem handOverWord_go : bit (handOverWord op n) 35 = true := by
  rw [bit, BitVec.getLsbD, handOverWord_toNat code target, Nat.testBit_eq_decide_div_mod_eq, decide_eq_true_eq]
  omega

end Word

/-- The register holds the operation and its target. -/
def State.handOverAsked (s : State) (op target : Nat) : State := { s with tn := { s.tn with hoOp := op, hoTarget := target } }

/-- A move runs. -/
def State.handOverBusy (s : State) : State := { s with tn := { s.tn with hoBusy := true } }

section Start
variable {s : State} {acc : Accessor}

theorem State.handOverWrite_ignored (w : Word) (role : acc.role ≠ .z) : s.handOverWrite acc w = s := by
  simp [State.handOverWrite, role]

theorem State.handOverWrite_starts {op n : Nat} (role : acc.role = .z) (here : s.tn.absent = false)
    (idle : s.tn.hoBusy = false) (code : 1 ≤ op ∧ op ≤ 3) (target : n < 8192) (known : op = 3 ∨ n < 107) :
    s.handOverWrite acc (handOverWord op n) = s.handOverStart op n := by
  have field : op < 4 := by omega
  have inside : (op == 0 || (op != 3 && decide (106 < n)) || decide (8191 < n)) = false := by
    rcases known with rfl | inside
    · simp [show ¬ 8191 < n by omega]
    · simp [show op ≠ 0 by omega, show ¬ 106 < n by omega, show ¬ 8191 < n by omega]
  simp only [State.handOverWrite, handOverWord_op field target, handOverWord_target field target,
    handOverWord_go field target, role, here, idle, inside, bne_self_eq_false, Bool.or_self, Bool.false_eq_true, if_false,
    if_true]

theorem State.handOverStart_move (n : Nat) : s.handOverStart 3 n = (s.handOverAsked 3 n).handOverBusy := rfl

/-- A claim is checked for the block's state, then for the loan, then for a channel on the block. -/
theorem State.handOverStart_claim (b : Nat) : s.handOverStart 1 b =
    if (s.block b).revoked then (s.handOverAsked 1 b).handOverResult 4 false
    else if (s.block b).st != .opened then
      (s.handOverAsked 1 b).handOverResult (if (s.block b).st == .fenced then 4 else 5) false
    else if (s.loanOf b).2.2 ≤ s.heldBlocks b then (s.handOverAsked 1 b).handOverResult 6 false
    else if 72 ≤ b && b < 104 && s.ch.chans.any (fun e => e.2.proc == b - 72) then
      (s.handOverAsked 1 b).handOverResult 5 false
    else ((s.handOverAsked 1 b).setBlock b { s.block b with st := .claiming }).handOverBusy := rfl

theorem State.handOverStart_release (b : Nat) : s.handOverStart 2 b =
    if (s.block b).revoked then (s.handOverAsked 2 b).handOverResult 4 false
    else if (s.block b).st != .sealed then
      (s.handOverAsked 2 b).handOverResult (if (s.block b).st == .fenced then 4 else 5) false
    else ((s.handOverAsked 2 b).setBlock b { s.block b with st := .releasing }).handOverBusy := rfl

variable {b : Nat} (free : (s.block b).revoked = false)
include free

theorem State.handOverStart_claims (opened : (s.block b).st = .opened) (loan : s.heldBlocks b < (s.loanOf b).2.2)
    (unbound : ¬ (72 ≤ b ∧ b < 104 ∧ (s.ch.chans.any fun e => e.2.proc == b - 72) = true)) :
    s.handOverStart 1 b = ((s.handOverAsked 1 b).setBlock b { s.block b with st := .claiming }).handOverBusy := by
  have noChannel : ¬ (72 ≤ b && b < 104 && s.ch.chans.any (fun e => e.2.proc == b - 72)) = true := by
    simpa only [Bool.and_eq_true, decide_eq_true_eq, and_assoc] using unbound
  rw [State.handOverStart_claim, if_neg (by simp [free]), if_neg (by simp [opened]), if_neg (Nat.not_le.2 loan),
    if_neg noChannel]

theorem State.handOverStart_overLoan (opened : (s.block b).st = .opened) (loan : (s.loanOf b).2.2 ≤ s.heldBlocks b) :
    s.handOverStart 1 b = (s.handOverAsked 1 b).handOverResult 6 false := by
  rw [State.handOverStart_claim, if_neg (by simp [free]), if_neg (by simp [opened]), if_pos loan]

theorem State.handOverStart_fenced (fenced : (s.block b).st = .fenced) :
    s.handOverStart 1 b = (s.handOverAsked 1 b).handOverResult 4 false := by
  simp [State.handOverStart_claim, free, fenced]

theorem State.handOverStart_releases (sealed : (s.block b).st = .sealed) :
    s.handOverStart 2 b = ((s.handOverAsked 2 b).setBlock b { s.block b with st := .releasing }).handOverBusy := by
  simp [State.handOverStart_release, free, sealed]

theorem State.handOverStart_notSealed (opened : (s.block b).st = .opened) :
    s.handOverStart 2 b = (s.handOverAsked 2 b).handOverResult 5 false := by
  simp [State.handOverStart_release, free, opened]

end Start

/-! ## The end of a move (Table 11.15) -/

section Done
variable {s : State} {p : Bool}

theorem State.handOverDone_idle (idle : s.tn.hoBusy = false) : s.handOverDone p = s := by
  simp [State.handOverDone, idle]

variable (moves : s.tn.hoBusy = true) (quiet : s.blockBusy s.tn.hoTarget = false)
include moves quiet

theorem State.handOverDone_failed (block : s.tn.hoOp ≠ 3) : s.handOverDone false = s.fenceBlock s.tn.hoTarget := by
  simp [State.handOverDone, moves, quiet, block]

theorem State.handOverDone_claimed (claim : s.tn.hoOp = 1) (unheld : (s.block s.tn.hoTarget).gateHeld = false) :
    s.handOverDone true =
      (s.setBlock s.tn.hoTarget { s.block s.tn.hoTarget with st := .sealed }).handOverResult 0 true := by
  simp [State.handOverDone, moves, quiet, claim, unheld]

theorem State.handOverDone_released (release : s.tn.hoOp = 2) :
    s.handOverDone true = (s.setBlock s.tn.hoTarget (s.block s.tn.hoTarget).openNow).handOverResult 0 true := by
  simp [State.handOverDone, moves, quiet, release]

end Done

/-! ## Gating requests and the watchdog (R366, R367) -/

section Gating
variable {s : State} {b : Nat}

theorem State.gate_open (reached : (s.block b).st = .opened ∨ (s.block b).st = .fenced) :
    s.gate b = s.setBlock b { s.block b with gated := true } := by
  rcases reached with h | h <;> simp only [State.gate, h]

theorem State.gate_sealed (sealed : (s.block b).st = .sealed) :
    s.gate b =
      let u := s.setBlock b { s.block b with gateHeld := true }
      { u with tn := { u.tn with notices := u.tn.notices ++ [b] } } := by
  simp only [State.gate, sealed]

/-- A request held for too long revokes the block (R366). -/
theorem State.gateTimeout_revokes (sealed : (s.block b).st = .sealed) (held : (s.block b).gateHeld = true) :
    s.gateTimeout b = s.setBlock b { s.block b with st := .opened, gated := true, gateHeld := false, revoked := true } := by
  simp [State.gateTimeout, sealed, held, Block.openNow]

theorem State.gateTimeout_none (unheld : (s.block b).gateHeld = false) : s.gateTimeout b = s := by
  simp [State.gateTimeout, unheld]

end Gating

theorem State.kick_ignored {s : State} {acc : Accessor} (v : Word) (role : acc.role ≠ .z) : s.kick acc v = s := by
  simp [State.kick, role]

theorem State.kick_restarts {s : State} {acc : Accessor} {v : Word} (role : acc.role = .z) (go : bit v 35 = true)
    (here : s.tn.absent = false) : s.kick acc v = { s with tn := { s.tn with wdogKick := s.tm.tod } } := by
  simp [State.kick, role, go, here]

/-- Settles O55: a hand-over by the checks that a claim or a release makes of the block, its end by the operation that
runs, a gating request by the block's state, Zenith's return by the abort of its object. -/
theorem worldsHandOver : Obligations.WorldsHandOver := by
  unfold Obligations.WorldsHandOver
  intro s acc b src v route hb hsrc k z asked busy bus
  have target : b < 8192 := by omega
  have starts {i : Instr} {op n : Nat} {u : State} {ok : Bool}
      (row : exec i s = s.runIf ok (s.handOverWrite acc (handOverWord op n))) (hok : ok = true) (world : z)
      (code : 1 ≤ op ∧ op ≤ 3) (hn : n < 8192) (known : op = 3 ∨ n < 107) (hu : s.handOverStart op n = u) :
      Answers i s u := by
    obtain ⟨-, role, here, idle⟩ := world
    exact answers_of_runIf_eq row hok ((State.handOverWrite_starts role here idle code hn known).trans hu)
  have claims {u : State} (world : z) (hu : s.handOverStart 1 b = u) : Answers (.claim acc b) s u :=
    starts rfl (by simp [world.1, wfBlock, hb]) world (by decide) target (.inr hb) hu
  have releases {u : State} (world : z) (hu : s.handOverStart 2 b = u) : Answers (.release acc b) s u :=
    starts rfl (by simp [world.1, wfBlock, hb]) world (by decide) target (.inr hb) hu
  refine ⟨fun world free => ⟨fun opened loan unbound => claims world (State.handOverStart_claims free opened loan unbound),
      fun opened loan => claims world (State.handOverStart_overLoan free opened loan),
      fun fenced => claims world (State.handOverStart_fenced free fenced),
      fun sealed => releases world (State.handOverStart_releases free sealed),
      fun opened => releases world (State.handOverStart_notSealed free opened)⟩,
    fun world => starts rfl (by simp [world.1, hsrc]) world (by decide) hsrc (.inl rfl) (State.handOverStart_move src),
    fun ha role => ?otherRoles, fun p idle => answers_of_runIf_true rfl (State.handOverDone_idle idle),
    fun moves at_ quiet => ?done, fun reached => ?gates, fun sealed => ?holds, fun sealed held => ?revokes,
    fun unheld => ?notHeld, fun ha role here go => ?kicks, fun here runs => ?expires, fun absent => ?gone,
    fun hr hw => ⟨fun here => ?present, fun absent => ?restarts, fun absent => ?notVerified⟩⟩
  case otherRoles =>
    have ignored (w : Word) : s.handOverWrite acc w = s := State.handOverWrite_ignored w role
    exact ⟨answers_of_runIf_eq rfl (by simp [ha, wfBlock, hb]) (ignored _),
      answers_of_runIf_eq rfl (by simp [ha, wfBlock, hb]) (ignored _),
      answers_of_runIf_eq rfl (by simp [ha, hsrc]) (ignored _), answers_of_runIf_eq rfl ha (State.kick_ignored v role)⟩
  case done =>
    subst at_
    exact ⟨fun claim unheld => answers_of_runIf_true rfl (State.handOverDone_claimed moves quiet claim unheld),
      fun release => answers_of_runIf_true rfl (State.handOverDone_released moves quiet release),
      fun block => answers_of_runIf_true rfl (State.handOverDone_failed moves quiet block)⟩
  case gates => exact answers_of_runIf_eq rfl (decide_eq_true hb) (State.gate_open reached)
  case holds => exact answers_of_runIf_eq rfl (decide_eq_true hb) (State.gate_sealed sealed)
  case revokes => exact answers_of_runIf_eq rfl (decide_eq_true hb) (State.gateTimeout_revokes sealed held)
  case notHeld => exact answers_of_runIf_eq rfl (decide_eq_true hb) (State.gateTimeout_none unheld)
  case kicks => exact answers_of_runIf_eq rfl ha (State.kick_restarts role go here)
  case expires => exact answers_of_runIf_true rfl (if_neg (by simp [here, runs]))
  case gone => exact answers_of_runIf_true rfl (if_pos (by simp [absent]))
  case present => exact refuses_of_odWriteNum rfl hr hw (by simp [here]) (by decide)
  case restarts => exact writes_of_odWriteNum rfl hr hw (by simp [absent]) rfl
  case notVerified => exact writes_of_odWriteNum rfl hr hw (by simp [absent]) rfl

end Sys2Proof.Machine
end

section
/-! # Zenith's services

What delivering coherence messages leaves of the tags of pages, what a retag leaves (R357), how a service that Zenith serves
ends (R358, R371), and obligation O22. -/

namespace Sys2Proof.Machine
open Sys2Proof.Safety

/-! ## Tags of pages

A message within the module writes words and poison; of what it reaches, in the order of the model's definitions, only what
writes to memory is named here, since the rest leaves memory alone. -/

@[simp] theorem State.tags_ite (c : Prop) [Decidable c] (m n : Mem) :
    (if c then m else n).tags = if c then m.tags else n.tags := apply_ite ..

@[simp] theorem State.wrWords_tags (s : State) (ra : Nat) (ws : List Word) :
    (s.wrWords ra ws).mem.tags = s.mem.tags := by
  induction ws generalizing s ra with
  | nil => rfl
  | cons w r ih => exact ih (s.wr ra w) (ra + 1)

@[simp] theorem State.setPoison_tags (s : State) (line : Nat) (b : Bool) :
    (s.setPoison line b).mem.tags = s.mem.tags := rfl

@[simp] theorem State.wrLineMask_tags (s : State) (line : Nat) (ws mask : List Word) :
    (s.wrLineMask line ws mask).mem.tags = s.mem.tags := by
  have written := foldl_unchanged (fun t : State => t.mem.tags)
    (f := fun (t : State) i => t.wrMask (line * 16 + i) (wordAt ws i) (wordAt mask i)) (fun _ _ => rfl) (List.range 16) s
  unfold State.wrLineMask
  dsimp only
  split <;> exact written

@[simp] theorem State.mergeMasked_tags (s : State) (w : DirWait) (ws mask : List Word) :
    (s.mergeMasked w ws mask).mem.tags = s.mem.tags := by
  simp [State.mergeMasked]

@[simp] theorem State.serve_tags (s : State) (w : DirWait) : (s.serve w).mem.tags = s.mem.tags := by
  unfold State.serve
  dsimp only
  repeat' split
  all_goals simp

@[simp] theorem State.takeRequest_tags (s : State) (w : DirWait) : (s.takeRequest w).mem.tags = s.mem.tags := by
  unfold State.takeRequest
  dsimp only
  repeat' split
  all_goals simp

@[simp] theorem State.request_tags (s : State) (w : DirWait) : (s.request w).mem.tags = s.mem.tags := by
  simp [State.request]

@[simp] theorem State.drainWaiting_tags (n : Nat) (s : State) : (s.drainWaiting n).mem.tags = s.mem.tags := by
  induction n generalizing s with
  | zero => rfl
  | succ n ih =>
    simp only [State.drainWaiting]
    split <;> simp [ih]

@[simp] theorem State.drainHome_tags (s : State) : s.drainHome.mem.tags = s.mem.tags := s.drainWaiting_tags _

@[simp] theorem State.closeTx_tags (s : State) (line : Nat) (e : DirEntry) (x : DirTx) :
    (s.closeTx line e x).mem.tags = s.mem.tags := by
  unfold State.closeTx
  rw [State.drainHome_tags]
  rcases x.got with _ | ⟨ws, d⟩
  all_goals
    dsimp only
    repeat' split
    all_goals simp

@[simp] theorem State.tryClose_tags (s : State) (line : Nat) : (s.tryClose line).mem.tags = s.mem.tags := by
  unfold State.tryClose
  repeat' split
  all_goals simp

@[simp] theorem State.writeBackAt_tags (s : State) (m : Msg) : (s.writeBackAt m).mem.tags = s.mem.tags := by
  unfold State.writeBackAt
  dsimp only
  repeat' split
  all_goals simp

@[simp] theorem State.ackHome_tags (s : State) (m : Msg) : (s.ackHome m).mem.tags = s.mem.tags := by simp [State.ackHome]

@[simp] theorem State.dataHome_tags (s : State) (m : Msg) : (s.dataHome m).mem.tags = s.mem.tags := by
  simp [State.dataHome]

@[simp] theorem State.takeWords_tags (s : State) (line : Nat) (ws : List Word) :
    (s.takeWords line ws).mem.tags = s.mem.tags := by
  simp [State.takeWords]

@[simp] theorem State.fillAt_tags (s : State) (t : Nat) (m : Msg) : (s.fillAt t m).mem.tags = s.mem.tags := by
  unfold State.fillAt
  dsimp only
  split <;> simp

@[simp] theorem State.agentReleases_tags (s : State) (a line : Nat) (words : List Word) :
    (s.agentReleases a line words).mem.tags = s.mem.tags := by
  unfold State.agentReleases
  split <;> simp

@[simp] theorem State.agentGets_tags (s : State) (a : Nat) (m : Msg) : (s.agentGets a m).mem.tags = s.mem.tags := by
  simp [State.agentGets]

@[simp] theorem State.ackTile_tags (s : State) (t : Nat) (m : Msg) : (s.ackTile t m).mem.tags = s.mem.tags := by
  unfold State.ackTile
  dsimp only
  repeat' split
  all_goals simp

@[simp] theorem State.handleMsg_tags (s : State) (m : Msg) : (s.handleMsg m).mem.tags = s.mem.tags := by
  unfold State.handleMsg
  split <;> simp

@[simp] theorem State.pumpN_tags (n : Nat) (s : State) : (s.pumpN n).mem.tags = s.mem.tags := by
  induction n generalizing s with
  | zero => rfl
  | succ n ih =>
    simp only [State.pumpN]
    split <;> simp [ih]

@[simp] theorem State.pump_tags (s : State) : s.pump.mem.tags = s.mem.tags := s.pumpN_tags _

/-! ## Retagging (R357) -/

@[simp] theorem State.dropPage_tags (s : State) (page : Nat) : (s.dropPage page).mem.tags = s.mem.tags := by
  simp [State.dropPage]

theorem State.tag_congr {s t : State} (h : s.mem.tags = t.mem.tags) (ra : Nat) : s.tag ra = t.tag ra := by
  simp only [State.tag, h]

/-- A retagged page has the new tag, and every other page the tag it had. -/
theorem State.tag_retagPage (s : State) (page ra : Nat) (new : BitVec 16) :
    (s.retagPage page new).tag ra = if ra / 4096 = page then new else s.tag ra := by
  have dropped : (((s.dropTc (fun e => e.maps page)).dropPage page).zeroPage page).mem.tags = s.mem.tags :=
    State.dropPage_tags ..
  unfold State.retagPage
  dsimp only
  split
  · rw [State.tag_setTag]
    rfl
  · rw [State.tag_setTag, State.tag_congr (t := s) dropped]

theorem State.tag_retagPages (s : State) (first n : Nat) (new : BitVec 16) {i : Nat} (hi : i < n) :
    ((List.range n).foldl (fun t j => t.retagPage (first + j) new) s).tag ((first + i) * 4096) = new := by
  induction n with
  | zero => omega
  | succ n ih =>
    rw [List.range_succ, List.foldl_append, List.foldl_cons, List.foldl_nil, State.tag_retagPage]
    split
    · rfl
    · exact ih (by omega)

/-! ## Services (R358) -/

section Service
variable {s u : State} {c code : Nat} {ins : Insn} {sw : DWord} {ic cls n : Nat}

/-- A call that has been made is served once the core's accesses are performed, and the caller goes on. -/
theorem State.service_served (call : s.serving c code = true) (drained : s.drainCore c = (u, true))
    (saved : u.zenithSaved c = some (sw, ic, cls, n)) (f : State → Nat → State × Nat) :
    s.service c ins code f = ((f u (swPL sw)).1.zenithReturn c (f u (swPL sw)).2).deliverChecks c := by
  simp only [State.service, call, drained, saved, Bool.not_true, Bool.false_eq_true, if_true, if_false]

/-- The return gives the caller its state word and IC and the status in X1, and leaves its other registers. -/
theorem State.zenithReturn_core (saved : u.zenithSaved c = some (sw, ic, cls, n)) (status : Nat) :
    ((u.zenithReturn c status).core c).sw = sw ∧ ((u.zenithReturn c status).core c).ic = BitVec.ofNat 48 ic ∧
      ((u.zenithReturn c status).core c).x = setReg (u.core c).x 1 status := by
  simp only [State.zenithReturn, saved, State.core_setCore_same]
  obtain ⟨_, _, _, _, _, retired⟩ :=
    ({ u.core c with sw := sw, ic := BitVec.ofNat 48 ic, run := .running, res := none,
                     x := setReg (u.core c).x 1 status } : Core).retire_frame (u.core c).checkpoint []
  rw [retired]
  exact ⟨rfl, rfl, rfl⟩

/-- What the call saved stands whatever the core's registers hold. -/
theorem State.zenithSaved_modRegs (u : State) (c : Nat) (f : Vector DWord 16 → Vector DWord 16) :
    (u.modCore c (fun k => { k with x := f k.x })).zenithSaved c = u.zenithSaved c := by
  have block : (u.modCore c (fun k => { k with x := f k.x })).blockAt c 0 = u.blockAt c 0 := rfl
  unfold State.zenithSaved
  rw [block]
  cases u.blockAt c 0 with
  | error a => rfl
  | ok ra => simp only [State.core_modCore_same]; rfl

end Service

/-! ## Their arguments (R358, R371) -/

/-- The argument that the caller has put into register `i`. -/
def State.serviceArg (u : State) (c i : Nat) : Nat := regOf (u.core c).x i

section Arguments
variable {u : State} {c pl : Nat}

theorem State.attest_succeeds (level : pl = 1 ∨ pl = 2) (nonce : u.serviceArg c 2 < 2 ^ 48)
    (report : u.serviceArg c 3 < 2 ^ 48) (reads : u.argOk c pl Need.load (u.serviceArg c 2) 64 = true)
    (writes : u.argOk c pl Need.store (u.serviceArg c 3) 5059 = true) : (u.attest c pl).2 = 0 := by
  have accepted : (!(pl == 1 || pl == 2) || decide (2 ^ 48 ≤ u.serviceArg c 2) || decide (2 ^ 48 ≤ u.serviceArg c 3) ||
      !u.argOk c pl Need.load (u.serviceArg c 2) 64 || !u.argOk c pl Need.store (u.serviceArg c 3) 5059) = false := by
    rw [decide_eq_false (Nat.not_le.2 nonce), decide_eq_false (Nat.not_le.2 report), reads, writes]
    rcases level with rfl | rfl <;> rfl
  have served : u.attest c pl = _ := if_neg (Bool.eq_false_iff.1 accepted)
  rw [served]

/-- Page `i` of an aligned range, by number and by its first word. -/
theorem page_place {a : Nat} (aligned : a % 4096 = 0) (i : Nat) : (a / 4096 + i) * 4096 = a + 4096 * i := by omega

/-- Pages that may be assigned are retagged one by one. -/
theorem State.assign_retags (level : pl = 1) (aligned : u.serviceArg c 2 % 4096 = 0) (some_ : 1 ≤ u.serviceArg c 3)
    (most : u.serviceArg c 3 ≤ 262144) (inside : u.serviceArg c 2 + 4096 * u.serviceArg c 3 ≤ 2 ^ 40)
    (tag : u.serviceArg c 4 < 2 ^ 16) (valid : u.assignable (BitVec.ofNat 16 (u.serviceArg c 4)) = true)
    (own : ∀ i, i < u.serviceArg c 3 → tagKind (u.tag (u.serviceArg c 2 + 4096 * i)) ≠ 3 ∧
      fld (u.tag (u.serviceArg c 2 + 4096 * i)) 12 9 = u.dy.modnum ∧
      u.homeServes (u.serviceArg c 2 + 4096 * i) = true) :
    u.assign c pl = ((List.range (u.serviceArg c 3)).foldl
      (fun t i => t.retagPage (u.serviceArg c 2 / 4096 + i) (BitVec.ofNat 16 (u.serviceArg c 4))) u, 0) := by
  have accepted : (pl != 1 || u.serviceArg c 2 % 4096 != 0 || decide (u.serviceArg c 3 < 1) ||
      decide (262144 < u.serviceArg c 3) || decide (2 ^ 40 < u.serviceArg c 2 + 4096 * u.serviceArg c 3) ||
      decide (2 ^ 16 ≤ u.serviceArg c 4) || !u.assignable (BitVec.ofNat 16 (u.serviceArg c 4))) = false := by
    rw [decide_eq_false (Nat.not_lt.2 some_), decide_eq_false (Nat.not_lt.2 most), decide_eq_false (Nat.not_lt.2 inside),
      decide_eq_false (Nat.not_le.2 tag), level, aligned, valid]
    rfl
  have pages : (List.range (u.serviceArg c 3)).all (fun i =>
      tagKind (u.tag ((u.serviceArg c 2 / 4096 + i) * 4096)) != 3 &&
        fld (u.tag ((u.serviceArg c 2 / 4096 + i) * 4096)) 12 9 == u.dy.modnum &&
        u.homeServes ((u.serviceArg c 2 / 4096 + i) * 4096)) = true := by
    rw [List.all_eq_true]
    intro i hi
    obtain ⟨kind, home, serves⟩ := own i (List.mem_range.1 hi)
    simp only [page_place aligned, bne_iff_ne.2 kind, beq_iff_eq.2 home, serves, Bool.and_self]
  exact (if_neg (Bool.eq_false_iff.1 accepted)).trans (if_pos pages)

end Arguments

/-- Settles O22: each service by what it does with arguments that it accepts, and its end by the return to the caller. -/
theorem zenithServices : Obligations.ZenithServices := by
  unfold Obligations.ZenithServices
  intro s u core ins sw ic cls n drained saved hw x pl returns
  have serves {i : Instr} {code : Nat} {f : State → Nat → State × Nat}
      (row : exec i s = s.runIf (wfIns core ins 0o4012) (s.service core ins code f)) (call : s.serving core code = true)
      (success : (f u pl).2 = 0) : returns i (f u pl).1 :=
    answers_of_runIf_eq row hw (by rw [State.service_served call drained saved f, success])
  refine ⟨fun call level nonce report reads writes => ?attest,
    fun call level aligned some_ most inside tag valid own => ?assign, fun call level => ?notice⟩
  case attest =>
    have success := State.attest_succeeds level nonce report reads writes
    exact ⟨success, serves (f := fun s pl => s.attest core pl) rfl call success⟩
  case assign =>
    have retags := State.assign_retags level aligned some_ most inside tag valid own
    refine ⟨by rw [retags], serves (f := fun s pl => s.assign core pl) rfl call (by rw [retags]), fun _ i hi => ?_⟩
    rw [retags, ← page_place aligned]
    exact State.tag_retagPages u (x 2 / 4096) (x 3) _ hi
  case notice =>
    have told : u.deleteNotice core pl = (u.modCore core (fun k => { k with
        x := setReg k.x 2 (b2n ((u.tenant (u.core core).tenant).st == .draining)) }), 0) :=
      if_neg (by simp [level])
    obtain ⟨word, counter, registers⟩ := State.zenithReturn_core
      ((State.zenithSaved_modRegs u core (fun r => setReg r 2 (b2n ((u.tenant (u.core core).tenant).st == .draining)))).trans
        saved) 0
    have returned := serves (i := .deleteNotice core ins) (f := fun s pl => s.deleteNotice core pl) rfl call (congrArg Prod.snd told)
    rw [told] at returned
    refine ⟨returned, word, counter, ?_, ?_⟩
    · rw [registers, regOf_setReg]
      rfl
    · rw [registers, regOf_setReg, State.core_modCore_same, regOf_setReg]
      exact Nat.mod_eq_of_lt (Nat.lt_of_le_of_lt (b2n_le_one _) (by decide))

end Sys2Proof.Machine
end

section
/-! # Dawn

How the sequence ends (Table 11.17, R370) and its last step (R403), and obligation O35. -/

namespace Sys2Proof.Machine
open Sys2Proof.Safety

/-! ## What starts it (Table 1.12) -/

section Starts
variable {s : State}

theorem State.dawnStarts_of
    (may : (s.md.st = .standby ∧ s.md.vin48 = true ∧ s.md.porstHigh = true ∧ s.md.startPermit = true ∧
      s.md.lever = .closed ∧ s.es.held = true ∧ s.md.sysclk = true) ∨ (s.md.st = .dawn ∧ s.md.porstHigh = true)) :
    s.dawnStarts = true := by
  rcases may with ⟨st, power, high, permit, lever, held, clock⟩ | ⟨st, high⟩
  · simp [State.dawnStarts, *]
  · simp [State.dawnStarts, *]

theorem State.dawnStarts_other (standby : s.md.st ≠ .standby) (dawn : s.md.st ≠ .dawn) : s.dawnStarts = false := by
  unfold State.dawnStarts
  split
  · exact absurd ‹_› standby
  · exact absurd ‹_› dawn
  · rfl

end Starts

/-! ## The sequence (Table 11.17) -/

/-- Dawn with the boot bank's patch set, behind the measurements. -/
def State.dawnBooted (s : State) (f : DawnInput) : State :=
  let booted := (s.bootBank f.bankAOk f.bankBOk).2
  (booted.measured f.m0).usePatch booted.sv.active

/-- Dawn behind step 7: units returned, sites tested, Anvil and the ledger recovered, the configuration taken, links
trained. -/
def State.dawnReached (p : State) (f : DawnInput) : State :=
  ((((p.returnUnits.refence).dawnSites f.failedSites).dawnAnvil f.badRecords).dawnLedger.dawnConfig).dawnLinks f

section Sequence
variable {s : State} {f : DawnInput}

theorem State.dawn_rails (bad : f.railsOk = false) : s.dawn f = s.dawnBegin.dawnFatal 1219 := by
  simp [State.dawn, bad]

variable (rails : f.railsOk = true)
include rails

theorem State.dawn_identity (bad : s.dawnBegin.identityOk = false) : s.dawn f = s.dawnBegin.toSafe := by
  simp [State.dawn, rails, bad]

variable (own : s.dawnBegin.identityOk = true)
include own

theorem State.dawn_noBank (none_ : (s.dawnBegin.bootBank f.bankAOk f.bankBOk).1 = none) :
    s.dawn f = (s.dawnBegin.bootBank f.bankAOk f.bankBOk).2.toSafe := by
  simp [State.dawn, rails, own, none_]

variable (bank : (s.dawnBegin.bootBank f.bankAOk f.bankBOk).1 ≠ none)
include bank

/-- With a boot bank the sequence is the checks of step 5 and then those of step 7. -/
theorem State.dawn_booted :
    s.dawn f =
      let p := s.dawnBegin.dawnBooted f
      let q := p.dawnReached f
      if (!p.sp.custEntries.isEmpty && !f.customerOk) || !f.configOk then p.toSafe
      else if !q.majority f.reachable then q.dawnFatal 1202
      else q.dawnTwin.dawnEnd := by
  have picked : (s.dawnBegin.bootBank f.bankAOk f.bankBOk).1.isNone = false :=
    Bool.eq_false_iff.2 (fun h => bank (Option.isNone_iff_eq_none.1 h))
  simp only [State.dawn, rails, own, picked, Bool.not_true, Bool.false_eq_true, if_false]
  rfl

theorem State.dawn_badConfig
    (bad : ¬ (((s.dawnBegin.dawnBooted f).sp.custEntries = [] ∨ f.customerOk = true) ∧ f.configOk = true)) :
    s.dawn f = (s.dawnBegin.dawnBooted f).toSafe := by
  rw [State.dawn_booted rails own bank]
  refine if_pos ?_
  simp only [not_and_or, not_or, Bool.not_eq_true] at bad
  rcases bad with ⟨customer, bad⟩ | bad <;> simp [*]

variable (good : ((s.dawnBegin.dawnBooted f).sp.custEntries = [] ∨ f.customerOk = true) ∧ f.configOk = true)
include good

theorem State.dawn_configured :
    s.dawn f =
      let q := (s.dawnBegin.dawnBooted f).dawnReached f
      if !q.majority f.reachable then q.dawnFatal 1202 else q.dawnTwin.dawnEnd := by
  rw [State.dawn_booted rails own bank]
  refine if_neg ?_
  obtain ⟨customer, config⟩ := good
  rcases customer with h | h <;> simp [h, config]

theorem State.dawn_minority (few : ((s.dawnBegin.dawnBooted f).dawnReached f).majority f.reachable = false) :
    s.dawn f = ((s.dawnBegin.dawnBooted f).dawnReached f).dawnFatal 1202 := by
  rw [State.dawn_configured rails own bank good]
  exact if_pos (by rw [few]; rfl)

theorem State.dawn_majority (most : ((s.dawnBegin.dawnBooted f).dawnReached f).majority f.reachable = true) :
    s.dawn f = ((s.dawnBegin.dawnBooted f).dawnReached f).dawnTwin.dawnEnd := by
  rw [State.dawn_configured rails own bank good]
  exact if_neg (by rw [most]; decide)

end Sequence

/-! ## The last step (R403) -/

/-- A Dawn behind a reset has cleared the record of a halt. -/
def State.haltCleared (s : State) : State :=
  if s.md.resetDawn then { s with fc := { s.fc with haltRecorded := false, haltSeqs := [], haltInAnvil := false } } else s

/-- The profile that RUN begins with, read from the state before the record was cleared. -/
theorem State.targetProfile_eq {s t : State} (h : s.md.selected = t.md.selected) :
    s.targetProfile = if s.causes ≠ 0 then 3 else t.md.selected := by
  simp only [State.targetProfile, bne_iff_ne, h]

/-- RUN with the selected profile, or with Overcast by cause. -/
def State.dawnRuns (s : State) : State :=
  let run := { s with md := { s.md with st := .run, resetDawn := false, customLimit := 5600 } }
  run.applyProfile run.targetProfile

theorem State.haltCleared_srcs (s : State) : s.haltCleared.fc.srcs = s.fc.srcs := by
  unfold State.haltCleared
  split <;> rfl

theorem State.haltCleared_md (s : State) : s.haltCleared.md = s.md := by
  unfold State.haltCleared
  split <;> rfl

theorem State.dawnEnd_eq (s : State) :
    s.dawnEnd =
      if s.haltCleared.fc.haltRecorded || s.fc.srcs.any (fun e => e.2.squall && fatalSource e.1) then s.haltCleared.toSafe
      else if s.haltCleared.dawnRuns.tm.floor ≤ s.haltCleared.dawnRuns.tm.tod + 1000000000 then
        s.haltCleared.dawnRuns.newFloor
      else s.haltCleared.dawnRuns := by
  rw [← s.haltCleared_srcs]
  rfl

theorem State.dawnEnd_safe (s : State)
    (stays : s.haltCleared.fc.haltRecorded = true ∨ ∃ e ∈ s.fc.srcs, e.2.squall = true ∧ fatalSource e.1 = true) :
    s.dawnEnd = s.haltCleared.toSafe := by
  rw [State.dawnEnd_eq]
  refine if_pos ?_
  simpa only [Bool.or_eq_true, List.any_eq_true, Bool.and_eq_true] using stays

theorem State.dawnEnd_run (s : State) (cleared : s.haltCleared.fc.haltRecorded = false)
    (calm : ∀ e ∈ s.fc.srcs, e.2.squall = true → fatalSource e.1 = false) :
    s.dawnEnd =
      if s.haltCleared.dawnRuns.tm.floor ≤ s.haltCleared.dawnRuns.tm.tod + 1000000000 then
        s.haltCleared.dawnRuns.newFloor
      else s.haltCleared.dawnRuns := by
  rw [State.dawnEnd_eq]
  refine if_neg ?_
  simp only [cleared, Bool.false_or, List.any_eq_true, Bool.and_eq_true, not_exists, not_and, Bool.not_eq_true]
  exact calm

/-- Settles O35: the sequence by the first of its checks that fails, its end by what keeps the module from RUN. -/
theorem dawn : Obligations.Dawn := by
  unfold Obligations.Dawn
  refine ⟨fun s f => ⟨fun may => ?sequence, fun standby dawn => ?other⟩, ?last⟩
  case sequence =>
    have starts {u : State} (hu : s.dawn f = u) : Answers (.dawnStart f) s u :=
      answers_of_runIf_true rfl ((if_pos (State.dawnStarts_of may)).trans hu)
    exact ⟨fun bad => starts (State.dawn_rails bad), fun rails bad => starts (State.dawn_identity rails bad),
      fun rails own none_ => starts (State.dawn_noBank rails own none_),
      fun rails own bank => ⟨fun bad => starts (State.dawn_badConfig rails own bank bad),
        fun good few => starts (State.dawn_minority rails own bank good few),
        fun good most => starts (State.dawn_majority rails own bank good most)⟩⟩
  case other =>
    exact answers_of_runIf_true rfl (if_neg (Bool.eq_false_iff.1 (State.dawnStarts_other standby dawn)))
  case last =>
    intro s b run t
    have cleared : s.haltCleared.md.selected = s.md.selected := congrArg ModuleCtl.selected s.haltCleared_md
    have selected : run.md.selected = s.md.selected := cleared
    have reached : t = s.haltCleared.dawnRuns := congrArg run.applyProfile (State.targetProfile_eq selected).symm
    rw [reached]
    exact ⟨s.dawnEnd_safe, s.dawnEnd_run⟩

end Sys2Proof.Machine
end

section
/-! # The interrupt router

What a doorbell, a claim and a completion make of a source (Table 12.1), what the registers of a source page do by role
(Table 12.6, R376-R390), and obligation O56. -/

namespace Sys2Proof.Machine
open Sys2Proof.Safety

/-! ## A source's state (Table 12.1) -/

section Source
variable {x : Src}

theorem Src.ring_defers (off : x.prio = 0) : x.ring = { x with defer := true } := by
  simp [Src.ring, off]

theorem Src.ring_pending (on : x.prio ≠ 0) (st : x.st = .inactive) : x.ring = { x with st := .pending } := by
  simp [Src.ring, on, st]

theorem Src.ring_activePending (on : x.prio ≠ 0) (st : x.st = .active) : x.ring = { x with st := .activePending } := by
  simp [Src.ring, on, st]

theorem Src.ring_unchanged (on : x.prio ≠ 0) (st : x.st = .pending ∨ x.st = .activePending) : x.ring = x := by
  rcases st with h | h <;> simp [Src.ring, on, h]

end Source

/-! ## The registers of a page (Table 12.6) -/

/-- Source `n` of a page becomes `y`, and the GWAIT rule is applied to it (R384). -/
def State.srcBecomes (s : State) (p n : Nat) (y : Src) : State := (s.setSrc p n y).gwaitRule p n

/-- The machine that a read of a register leaves, with the value read as the answer. -/
def registerAnswer (read : Word × State) : State := { read.2 with sv := { read.2.sv with regAnswer := read.1 } }

section Reached
variable {s : State} {acc : Accessor} {p n : Nat} {v : Word} (inside : n < (s.page p).slice) (own : (s.src p n).away = false)
include inside own

theorem State.srcHere_of : s.srcHere p n = true := by
  simp [State.srcHere, inside, own]

theorem State.doorbell_here : s.doorbell p n = s.srcBecomes p n (s.src p n).ring := by
  simp [State.doorbell, State.ringRaw, State.srcBecomes, inside, own]

theorem State.irtSend_here (may : pageRight p acc.role true true true false = true) (code : fld v 9 0 = n) :
    s.irtSend acc p v = s.doorbell p n := by
  simp [State.irtSend, may, code, Nat.not_le.2 inside, own]

theorem State.irtTgt_accepted (may : pageRight p acc.role true true false false = true)
    (valid : tgtOk p (fld v 6 0) = true) :
    s.irtTgt acc p (some n) v = s.srcBecomes p n { s.src p n with tgt := fld v 6 0 } := by
  simp [State.irtTgt, may, State.srcHere_of inside own, valid, State.srcBecomes]

theorem State.irtTgt_rejected (may : pageRight p acc.role true true false false = true)
    (bad : tgtOk p (fld v 6 0) = false) : s.irtTgt acc p (some n) v = s.irtReject p acc.role := by
  simp [State.irtTgt, may, State.srcHere_of inside own, bad]

variable (may : pageRight p acc.role true true true false = true)
include may

theorem State.irtSrc_here :
    s.irtSrc acc p n v = s.srcBecomes p n { (s.src p n).writePending (bit v 35) with enable := bit v 34 } := by
  simp [State.irtSrc, State.srcHere_of inside own, may, State.srcBecomes]

theorem State.irtSrc_sets (set : bit v 35 = true) (st : (s.src p n).st = .inactive) :
    s.irtSrc acc p n v = s.srcBecomes p n { s.src p n with st := .pending, enable := bit v 34 } := by
  simp [State.irtSrc_here inside own may, Src.writePending, set, st]

theorem State.irtSrc_clears (clear : bit v 35 = false) (st : (s.src p n).st = .pending) :
    s.irtSrc acc p n v = s.srcBecomes p n { s.src p n with st := .inactive, enable := bit v 34 } := by
  simp [State.irtSrc_here inside own may, Src.writePending, clear, st]

theorem State.irtPrio_undeferred (prompt : (s.src p n).defer = false) :
    s.irtPrio acc p n v = s.srcBecomes p n { s.src p n with prio := fld v 5 0 } := by
  simp [State.irtPrio, State.srcHere_of inside own, may, prompt, State.srcBecomes]

/-- A deferred doorbell rings once the source has a priority (R378). -/
theorem State.irtPrio_deferred (deferred : (s.src p n).defer = true) (on : fld v 5 0 ≠ 0)
    (st : (s.src p n).st = .inactive) :
    s.irtPrio acc p n v = s.srcBecomes p n { s.src p n with st := .pending, defer := false, prio := fld v 5 0 } := by
  simp [State.irtPrio, State.srcHere_of inside own, may, deferred, on, Src.ring, st, State.srcBecomes]

end Reached

section Page
variable {s : State} {acc : Accessor} {p n : Nat} {v : Word}

theorem State.doorbell_outside (outside : (s.page p).slice ≤ n) : s.doorbell p n = s := by
  simp [State.doorbell, Nat.not_lt.2 outside]

theorem State.irtSend_outside (may : pageRight p acc.role true true true false = true)
    (outside : (s.page p).slice ≤ fld v 9 0) : s.irtSend acc p v = s.irtReject p acc.role := by
  simp [State.irtSend, may, outside]

/-- A role without the right writes neither doorbells nor sources nor priorities. -/
theorem State.irt_noRight (none_ : ¬ pageRight p acc.role true true true false = true) :
    s.irtSend acc p v = s ∧ s.irtSrc acc p n v = s ∧ s.irtPrio acc p n v = s := by
  simp [State.irtSend, State.irtSrc, State.irtPrio, none_]

theorem State.irtTgt_noRight (none_ : ¬ pageRight p acc.role true true false false = true) (m : Option Nat) :
    s.irtTgt acc p m v = s := by
  simp [State.irtTgt, none_]

theorem State.irtDefault_rejected (may : pageRight p acc.role true true false false = true)
    (bad : tgtOk p (fld v 6 0) = false) : s.irtTgt acc p none v = s.irtReject p acc.role := by
  simp [State.irtTgt, may, bad]

/-- In a page without sources the default alone changes. -/
theorem State.irtDefault_accepted (may : pageRight p acc.role true true false false = true)
    (valid : tgtOk p (fld v 6 0) = true) (empty : (s.page p).srcs = []) :
    s.irtTgt acc p none v = s.setPage p { s.page p with dflt := fld v 6 0 } := by
  simp [State.irtTgt, may, valid, empty]

theorem State.irtClaim_barred (barred : s.ownWindow acc p = false) : s.irtClaim acc p = (0, s) := by
  simp [State.irtClaim, barred]

theorem State.irtComplete_barred (barred : s.ownWindow acc p = false) : s.irtComplete acc p v = s := by
  simp [State.irtComplete, barred]

variable (window : s.ownWindow acc p = true)
include window

theorem State.irtClaim_best {y : Src} (best : s.best p acc.core = some (n, y)) :
    s.irtClaim acc p =
      (BitVec.ofNat 36 n, s.setSrc p n { y with st := .active, acore := acc.core, apri := y.prio }) := by
  simp [State.irtClaim, window, best]

theorem State.irtClaim_none (none_ : s.best p acc.core = none) : s.irtClaim acc p = (8191, s) := by
  simp [State.irtClaim, window, none_]

variable (code : fld v 9 0 = n) (inside : n < (s.page p).slice) (mine : (s.src p n).acore = acc.core)
include code inside mine

theorem State.irtComplete_ends (st : (s.src p n).st = .active) :
    s.irtComplete acc p v = (s.setSrc p n { s.src p n with st := .inactive }).gwaitAll := by
  simp [State.irtComplete, window, code, inside, mine, st, Src.complete]

theorem State.irtComplete_pendsAgain (st : (s.src p n).st = .activePending) :
    s.irtComplete acc p v = (s.setSrc p n { s.src p n with st := .pending }).gwaitAll := by
  simp [State.irtComplete, window, code, inside, mine, st, Src.complete]

theorem State.irtComplete_inactive (st : (s.src p n).st = .inactive) :
    s.irtComplete acc p v = s.irtReject p acc.role := by
  simp [State.irtComplete, window, code, inside, mine, st]

end Page

/-- Settles O56: a doorbell by the source's state, each register by the role's right and what the page holds. -/
theorem interruptRouter : Obligations.InterruptRouter := by
  unfold Obligations.InterruptRouter
  intro s acc o n v ha ho reach p x here put may host
  have rings {u : State} (hu : s.doorbell p n = u) : Answers (.doorbell o n) s u := answers_of_runIf_eq rfl ho hu
  have register {i : Instr} {t u : State}
      (row : exec i s = s.runIf (wfAccessor acc && wfOwner o) (if s.reach acc p then t else s)) (hu : t = u) :
      Answers i s u :=
    answers_of_runIf_eq row (by simp [ha, ho]) ((if_pos reach).trans hu)
  have claims {w : Word} {u : State} (hu : s.irtClaim acc p = (w, u)) :
      Answers (.irtClaim acc o) s { u with sv := { u.sv with regAnswer := w } } :=
    answers_of_runIf_eq rfl (by simp [ha, ho]) (congrArg registerAnswer hu)
  refine ⟨fun ⟨inside, own⟩ off => ?defers, fun ⟨inside, own⟩ on st => ?pending, fun ⟨inside, own⟩ on st => ?activePending,
    fun ⟨inside, own⟩ on st => ?stays, fun outside => rings (State.doorbell_outside outside),
    fun right code ⟨inside, own⟩ => register rfl (State.irtSend_here inside own right code),
    fun right outside => register rfl (State.irtSend_outside right outside), fun none_ => ?noRight,
    fun window => ⟨fun y best => claims (State.irtClaim_best window best),
      fun none_ => claims (State.irtClaim_none window none_), fun code inside mine => ?complete⟩,
    fun barred => ⟨register rfl (State.irtComplete_barred barred), claims (State.irtClaim_barred barred)⟩,
    fun ⟨inside, own⟩ right => ?writes, fun right ⟨inside, own⟩ valid => ?target, fun right ⟨inside, own⟩ bad => ?badTarget,
    fun right bad => register rfl (State.irtDefault_rejected right bad),
    fun right valid empty => register rfl (State.irtDefault_accepted right valid empty),
    fun none_ => ⟨register rfl (State.irtTgt_noRight none_ _), register rfl (State.irtTgt_noRight none_ _)⟩⟩
  case defers => exact rings ((State.doorbell_here inside own).trans (by rw [Src.ring_defers off]; rfl))
  case pending => exact rings ((State.doorbell_here inside own).trans (by rw [Src.ring_pending on st]; rfl))
  case activePending => exact rings ((State.doorbell_here inside own).trans (by rw [Src.ring_activePending on st]; rfl))
  case stays => exact rings ((State.doorbell_here inside own).trans (by rw [Src.ring_unchanged on st]; rfl))
  case noRight =>
    obtain ⟨send, src, prio⟩ := State.irt_noRight (s := s) (n := n) (v := v) none_
    exact ⟨register rfl send, register rfl src, register rfl prio⟩
  case complete =>
    exact ⟨fun st => register rfl (State.irtComplete_ends window code inside mine st),
      fun st => register rfl (State.irtComplete_pendsAgain window code inside mine st),
      fun st => register rfl (State.irtComplete_inactive window code inside mine st)⟩
  case writes =>
    exact ⟨fun set st => register rfl (State.irtSrc_sets inside own right set st),
      fun clear st => register rfl (State.irtSrc_clears inside own right clear st),
      fun prompt => register rfl (State.irtPrio_undeferred inside own right prompt),
      fun deferred on st => register rfl (State.irtPrio_deferred inside own right deferred on st)⟩
  case target => exact register rfl (State.irtTgt_accepted inside own right valid)
  case badTarget => exact register rfl (State.irtTgt_rejected inside own right bad)

end Sys2Proof.Machine
end

section
/-! # Fault reports, injection and recovery

Reports and injected reports at the collector, the end of Squall (R392, R393, R397, R404), the recovery commands (R400),
and obligation O38. -/

namespace Sys2Proof.Machine
open Sys2Proof.Safety

section Reports
variable {s : State} {n : Nat}

theorem State.squallExit_leaves (in_ : (s.fsrc n).squall = true) (only : reportOnly n = true)
    (path : (s.fsrc n).rail = false) :
    s.squallExit n = s.setFsrc n { s.fsrc n with squall := false, events := [] } := by
  simp [State.squallExit, in_, only, path]

theorem State.squallExit_calm (calm : (s.fsrc n).squall = false) : s.squallExit n = s := by
  simp [State.squallExit, calm]

theorem State.forcedReport_none (none_ : (s.fsrc n).forceLeft = 0) : s.forcedReport n = s := by
  simp [State.forcedReport, none_]

/-- An injected report has been counted down, and counted. -/
def State.forcedCounted (s : State) (n : Nat) : State :=
  let t := s.setFsrc n { s.fsrc n with forceLeft := (s.fsrc n).forceLeft - 1 }
  { t with fc := { t.fc with forced := t.fc.forced + 1 } }

/-- What an injected report of the source says: of class 0 it is a fault of the reporting path. -/
def forcedSample (v : FSrc) (n : Nat) : Sample :=
  { source := n, cls := if v.forceCls = 0 then 2 else v.forceCls, rail := v.forceCls == 0, forced := true, detail := 0 }

theorem State.forcedReport_collects (left : (s.fsrc n).forceLeft ≠ 0) :
    s.forcedReport n = (s.forcedCounted n).collect (forcedSample (s.fsrc n) n) := by
  have counts : s.forcedReport n = if (s.fsrc n).forceCls == 0 then (s.forcedCounted n).railFault n true
      else (s.forcedCounted n).collect
        { source := n, cls := (s.fsrc n).forceCls, rail := false, forced := true, detail := 0 } :=
    if_neg (by simp [left])
  rw [counts]
  by_cases path : (s.fsrc n).forceCls = 0
  · simp [path, forcedSample, State.railFault]
  · simp [path, forcedSample, beq_eq_false_iff_ne.2 path]

end Reports

/-- The fields of an injection's word (Table 13.6). -/
theorem State.force_fields (s : State) (w : Nat) :
    s.force w = s.setFsrc (w % 2 ^ 11)
      { s.fsrc (w % 2 ^ 11) with forceLeft := w / 2 ^ 16 % 256, forceCls := w / 2 ^ 12 % 4 } := by
  simp only [State.force, nfld, Nat.shiftRight_eq_div_pow, Nat.pow_zero, Nat.div_one]
  rfl

/-- Settles O38: a report by what its source holds, a command by the value that its object takes. -/
theorem faultReportsAndRecovery : Obligations.FaultReportsAndRecovery := by
  unfold Obligations.FaultReportsAndRecovery
  refine ⟨fun s n detail c known => ⟨answers_of_runIf_eq rfl known rfl, answers_of_runIf_eq rfl known rfl,
      fun in_ only path => answers_of_runIf_eq rfl known (State.squallExit_leaves in_ only path),
      fun calm => answers_of_runIf_eq rfl known (State.squallExit_calm calm),
      fun none_ => answers_of_runIf_eq rfl known (State.forcedReport_none none_),
      fun left => answers_of_runIf_eq rfl known (State.forcedReport_collects left)⟩,
    fun s route w region hr => ⟨fun hw free => ?force, fun hw => ?unit, fun hw => ?sites, fun inside => ?rebuilt⟩⟩
  case force => exact writes_of_odWriteNum rfl hr hw free (s.force_fields w)
  case unit => exact writes_of_odWriteNum rfl hr hw rfl rfl
  case sites => exact writes_of_odWriteNum rfl hr hw rfl rfl
  case rebuilt => exact answers_of_runIf_eq rfl (decide_eq_true inside) rfl

end Sys2Proof.Machine
end

section
/-! # The panel and the medium

The key switch, REQUEST, IDENTIFY, the card and the owner's enrollment (R438-R445), and obligation O59. -/

namespace Sys2Proof.Machine
open Sys2Proof.Safety

@[simp] theorem State.endSession_fc (s : State) (x : Session) (reason : Option Nat) : (s.endSession x reason).fc = s.fc := by
  unfold State.endSession
  cases reason with
  | none => rfl
  | some r => dsimp only; split <;> rfl

@[simp] theorem State.endSessions_fc (s : State) (p : Session → Bool) (reason : Option Nat) :
    (s.endSessions p reason).fc = s.fc :=
  foldl_unchanged State.fc (fun t x => t.endSession_fc x reason) _ s

section KeySwitch
variable {s : State}

theorem State.turnKey_service : s.turnKey .service = { s with sv := { s.sv with key := .service } } := rfl

theorem State.turnKey_run :
    s.turnKey .run = ({ s with sv := { s.sv with key := .run } }).endSessions (fun x => x.role == 3) (some 5) := rfl

/-- Without a source set up there is none to lose its injection. -/
theorem Faults.srcs_filterMap_nil {fc : Faults} (f : Nat × FSrc → Option (Nat × FSrc)) (none_ : fc.srcs = []) :
    { fc with injection := 0, srcs := fc.srcs.filterMap f } = { fc with injection := 0 } := by
  cases fc
  cases none_
  rfl

/-- At LOCKED the Service sessions end, and injection and staging with them; with no source set up, nothing else of the
collector changes. -/
theorem State.turnKey_locked (calm : s.fc.srcs = []) :
    s.turnKey .locked =
      (let t := ({ s with sv := { s.sv with key := .locked } }).endSessions (fun x => x.role == 3) (some 5)
       ({ t with fc := { t.fc with injection := 0 } }).abandonStaging) := by
  have none_ : (State.endSessions { s with sv := { s.sv with key := .locked } } (fun x => x.role == 3) (some 5)).fc.srcs
      = [] := (congrArg Faults.srcs (State.endSessions_fc _ _ _)).trans calm
  exact congrArg (fun fc =>
    ({ State.endSessions { s with sv := { s.sv with key := .locked } } (fun x => x.role == 3) (some 5) with
       fc := fc }).abandonStaging) (Faults.srcs_filterMap_nil _ none_)

end KeySwitch

section Medium
variable {s : State} {m : MediumContents} {l cred : List Octet}

/-- What an action from the medium needs: the key at SERVICE, no lock of the owner, the medium enabled, and a module that
serves it. -/
def State.MediumServed (s : State) : Prop :=
  s.sv.key = .service ∧ s.ownerLocked = false ∧ s.sv.mediumEnable = true ∧
    (s.md.st = .run ∨ s.md.st = .safe ∨ s.md.st = .halted ∨ s.md.st = .extracting)

/-- The states in which the module serves the medium. -/
def servesMedium : ModState → Bool
  | .run | .safe | .halted | .extracting => true
  | _ => false

theorem servesMedium_iff (st : ModState) :
    servesMedium st = true ↔ st = .run ∨ st = .safe ∨ st = .halted ∨ st = .extracting := by
  cases st <;> simp [servesMedium]

/-- What the medium's contents then do: an enrollment, or a staging. -/
def State.mediumServes (s : State) (m : MediumContents) : State :=
  match (if s.sv.medium == 2 && m.usable then m.enrollment else none) with
  | some l => s.enroll l
  | none => if s.updateRefused != 0 then s.logEvent 1229 else s.stage m

theorem State.mediumAction_eq (s : State) (m : MediumContents) :
    s.mediumAction m = if s.sv.key != .service || s.ownerLocked || !s.sv.mediumEnable || !servesMedium s.md.st then s
      else s.mediumServes m := by
  unfold State.mediumAction servesMedium State.mediumServes
  cases s.md.st <;> rfl

theorem State.mediumAction_unserved (no : ¬ s.MediumServed) : s.mediumAction m = s := by
  rw [State.mediumAction_eq]
  refine if_pos ?_
  by_contra open_
  simp only [Bool.or_eq_true, bne_iff_ne, ne_eq, Bool.not_eq_true', not_or, not_not, Bool.not_eq_true,
    Bool.not_eq_false] at open_
  obtain ⟨⟨⟨key, free⟩, enabled⟩, serves⟩ := open_
  exact no ⟨key, free, enabled, (servesMedium_iff _).1 serves⟩

theorem State.mediumAction_served (may : s.MediumServed) : s.mediumAction m = s.mediumServes m := by
  obtain ⟨key, free, enabled, serves⟩ := may
  rw [State.mediumAction_eq]
  exact if_neg (by simp [key, free, enabled, (servesMedium_iff _).2 serves])

theorem State.mediumServes_enrolls (card : s.sv.medium = 2) (ok : m.usable = true) (letter : m.enrollment = some l) :
    s.mediumServes m = s.enroll l := by
  simp [State.mediumServes, card, ok, letter]

theorem State.mediumServes_noEnrollment (none_ : m.enrollment = none) :
    s.mediumServes m = if s.updateRefused != 0 then s.logEvent 1229 else s.stage m := by
  simp [State.mediumServes, none_]

theorem State.mediumServes_stages (none_ : m.enrollment = none) (ok : s.updateRefused = 0) :
    s.mediumServes m = s.stage m := by
  simp [State.mediumServes_noEnrollment none_, ok]

theorem State.mediumServes_refused (none_ : m.enrollment = none) (no : s.updateRefused ≠ 0) :
    s.mediumServes m = s.logEvent 1229 := by
  simp [State.mediumServes_noEnrollment none_, no]

theorem State.enroll_installs (open_ : noCredential s.sv.credOwner = true ∨ s.sv.reenroll = true)
    (letter : s.enrollment l = some cred) :
    s.enroll l = ({ s with sv := { s.sv with reenroll := false } }).setCredential 1 cred := by
  have open_ : (noCredential s.sv.credOwner || s.sv.reenroll) = true := by simpa using open_
  simp [State.enroll, open_, letter]

theorem State.enroll_refused (held : noCredential s.sv.credOwner = false) (closed : s.sv.reenroll = false) :
    s.enroll l = s.logEvent 1229 := by
  simp [State.enroll, held, closed]

end Medium

section Request
variable {s : State} {m : MediumContents} {ms : Nat}

/-- REQUEST held for less than two seconds puts out the contained light. -/
theorem requestPress_short (short : ms < 2000) :
    Answers (.requestPress ms m) s { s with fc := { s.fc with lightContained := false } } :=
  answers_of_runIf_true rfl (if_pos short)

theorem requestPress_middle (long : 2000 ≤ ms) (short : ms < 3000) : Answers (.requestPress ms m) s s :=
  answers_of_runIf_true rfl ((if_neg (Nat.not_lt.2 long)).trans (if_pos short))

theorem requestPress_long (long : 3000 ≤ ms) : Answers (.requestPress ms m) s (s.mediumAction m) :=
  answers_of_runIf_true rfl ((if_neg (by omega)).trans (if_neg (Nat.not_lt.2 long)))

/-- What an action from the medium leaves is left by the command and by REQUEST held long. -/
theorem mediumAction_answers {t : State} (h : s.mediumAction m = t) :
    (3000 ≤ ms → Answers (.requestPress ms m) s t) ∧ Answers (.mediumAction m) s t :=
  ⟨fun long => h ▸ requestPress_long long, answers_of_runIf_true rfl h⟩

end Request

/-- Settles O59: the key by its position, REQUEST by how long it was held, the medium by what it holds. -/
theorem panelAndMedium : Obligations.PanelAndMedium := by
  unfold Obligations.PanelAndMedium
  intro s m ms n l cred at_ may locked
  refine ⟨answers_of_runIf_true rfl State.turnKey_service, answers_of_runIf_true rfl State.turnKey_run, fun calm => ?locks,
    requestPress_short, requestPress_middle, fun no => mediumAction_answers (State.mediumAction_unserved no),
    fun serves card ok letter => ?enrolls, fun serves none_ ok => ?stages, fun serves none_ no => ?refuses,
    State.enroll_installs, State.enroll_refused, fun on => ?identifies, fun off => ?dark,
    answers_of_runIf_eq rfl rfl rfl, fun gone => ?changes⟩
  case locks =>
    exact ⟨answers_of_runIf_true rfl (State.turnKey_locked calm),
      answers_of_runIf_true rfl (congrArg (State.report · 1229 2) (State.turnKey_locked calm))⟩
  case enrolls =>
    exact mediumAction_answers ((State.mediumAction_served serves).trans (State.mediumServes_enrolls card ok letter))
  case stages => exact mediumAction_answers ((State.mediumAction_served serves).trans (State.mediumServes_stages none_ ok))
  case refuses =>
    exact (mediumAction_answers (ms := ms)
      ((State.mediumAction_served serves).trans (State.mediumServes_refused none_ no))).2
  case identifies => exact answers_of_runIf_true rfl (if_neg (by simpa using on))
  case dark => exact answers_of_runIf_true rfl (if_pos (by simpa using off))
  case changes =>
    exact answers_of_runIf_eq rfl (decide_eq_true (by omega)) (if_pos (by simpa using Nat.ne_of_lt gone))

end Sys2Proof.Machine
end

section
/-! # The twin

Messages on the Twin link, the pair's state by its rows, and heartbeats (R407-R419), and obligation O40. -/

namespace Sys2Proof.Machine
open Sys2Proof.Safety

section Messages
variable {s : State} {m : TwinMsg}

/-- The next frame of the Twin link, carrying a message. -/
def State.nextFrame (s : State) (m : TwinMsg) : TwinFrame :=
  { seq := s.tw.seq, epoch := s.tw.keyEpoch, count := s.tw.sent, msg := m }

theorem State.emitTwin_sent (active : s.tw.linkSt = .active) :
    (s.emitTwin m).out = s.out ++ [.twin (s.nextFrame m)] ∧ (s.emitTwin m).tw.seq = (s.tw.seq + 1) % 1024 ∧
      (s.emitTwin m).tw.sent = (s.tw.sent + 1) % 2 ^ 64 := by
  simp [State.emitTwin, State.nextFrame, active]

/-- The last 256 of a list with an element after it hold that element. -/
theorem mem_newest_append {α : Type} (l : List α) (a : α) : a ∈ (l ++ [a]).drop ((l ++ [a]).length - 256) := by
  have short : (l ++ [a]).length - 256 ≤ l.length := by simp
  rw [List.drop_append_of_le_length short]
  exact List.mem_append_right _ (List.mem_singleton_self a)

theorem State.emitTwin_waits (down : s.tw.linkSt ≠ .active) :
    (s.emitTwin m).out = s.out ∧ s.nextFrame m ∈ (s.emitTwin m).tw.replayBuf := by
  obtain ⟨f, seq, epoch, count, msg, _, kept⟩ := s.emitTwin_cases m
  have next : s.nextFrame m = f := by
    cases f
    simp_all [State.nextFrame]
  rw [kept down, next]
  exact ⟨rfl, by simpa only using mem_newest_append s.tw.replayBuf f⟩

end Messages

section Rows
variable {s : State}

theorem State.mayDeclare_heard (witness : s.tw.witness = true) (near : (s.now.1 - s.tw.witnessAt) / 1000000 < 50)
    (silent : s.tw.lastHb.isSome = true ∨ 2000000000 ≤ s.now.1 - max s.tw.heardLink s.tw.heardSvc) :
    s.mayDeclare s.now.1 = true := by
  rw [State.mayDeclare, State.witnessHeard, witness, decide_eq_true near, Bool.and_self, Bool.true_and, Bool.or_eq_true,
    decide_eq_true_iff]
  exact silent

theorem State.mayDeclare_unheard (no : s.tw.witness = false ∨ 50 ≤ (s.now.1 - s.tw.witnessAt) / 1000000) :
    s.mayDeclare s.now.1 = false := by
  have unheard : s.witnessHeard s.now.1 = false := by
    rw [State.witnessHeard, Bool.and_eq_false_iff, decide_eq_false_iff_not, Nat.not_lt]
    exact no
  rw [State.mayDeclare, unheard, Bool.false_and]

theorem takeover_taken (fenced : s.tw.st = .selfFenced) (may : s.mayDeclare s.now.1 = true) :
    Answers .takeover s s.now.2.takeOver :=
  answers_of_runIf_true rfl (if_pos (Bool.and_eq_true_iff.2 ⟨beq_iff_eq.2 fenced, may⟩))

theorem takeover_denied (no : s.mayDeclare s.now.1 = false) : Answers .takeover s s.now.2 :=
  answers_of_runIf_true rfl (if_neg (fun h => Bool.false_ne_true (no.symm.trans (Bool.and_eq_true_iff.1 h).2)))

theorem State.selfFenceNow_detached (st : s.tw.st = .detached) :
    s.selfFenceNow = (({ s with tw := { s.tw with st := .selfFenced, selfFence := true } }).decideEvery).ringHost := by
  simp [State.selfFenceNow, State.twinServes, st]

theorem State.selfFenceNow_solo (st : s.tw.st = .solo) : s.selfFenceNow = s := by
  simp [State.selfFenceNow, st]

end Rows

section Pairing
variable {s : State} {serial : BitVec 64} {id att : Bool}

theorem State.reconcile_kept (kept : s.tw.takenOver = false) : s.reconcile = s := by
  simp [State.reconcile, kept]

theorem State.pair_resync (on : s.tw.enabled = true) (st : s.tw.st = .pairing) (known : s.tw.expected = serial)
    (named : serial ≠ 0) (other : id ≠ s.md.twinId) (ok : att = true) (kept : s.tw.takenOver = false) :
    s.pair serial id att =
      { s with tw := { s.tw with st := .resync, peer := serial, keysAgreed := true,
                                 keyEpoch := (s.tw.keyEpoch + 1) % 2 ^ 32, sent := 0, seq := 1, replayBuf := [],
                                 replayCount := 0, resyncs := s.tw.resyncs + 1, takenOver := false, iTookOver := false,
                                 linkSt := if s.tw.lanes = 0 then .down else .active } } := by
  have named : serial ≠ 0#64 := named
  simp [State.pair, State.reconcile_kept kept, on, st, known, named, other, ok]

theorem State.pair_unattested (on : s.tw.enabled = true) (st : s.tw.st = .pairing) (no : att = false) :
    s.pair serial id att = ({ s with tw := { s.tw with st := .unpaired, mismatch := true } }).report 1001 2 := by
  simp [State.pair, on, st, no]

end Pairing

section Items
variable {s : State} {item t h : Nat} {got : Bool}

theorem State.mirrorReceipt_unknown (no : s.tw.unacked.contains item = false) : s.mirrorReceipt item got = s :=
  if_pos (by rw [no]; rfl)

/-- The receipt of a commit's item is the receipt of its entry. -/
theorem State.mirrorReceipt_entry (due : item ∈ s.tw.unacked)
    (commit : ({ s with tw := { s.tw with unacked := s.tw.unacked.filter (· != item) } } : State).itemCommit item = some t) :
    s.mirrorReceipt item got =
      ({ s with tw := { s.tw with unacked := s.tw.unacked.filter (· != item) } } : State).entryReceipt t got :=
  (if_neg (by simpa using due)).trans (by simp only [commit])

theorem State.mirrored_keyGone (run : s.md.st = .run) (st : s.tw.st = .inService) :
    s.mirrored (.key t h false) =
      ({ s with tw := { s.tw with mKeys := s.tw.mKeys.filter (fun k => !(k.1 == t && k.2 == h)) } }).emitTwin
        (.receipt 1027 t true) := by
  simp [State.mirrored, run, st]

end Items

section Heartbeats
variable {s : State} {hb : Heartbeat} {path : Nat}

/-- A heartbeat authenticates and is new on its path. -/
def State.SoundBeat (s : State) (hb : Heartbeat) (path : Nat) : Prop :=
  hb.authentic = true ∧ tget s.tw.rxCount 0 path < hb.count

/-- A heartbeat is sound and the twin's own. -/
def State.OwnBeat (s : State) (hb : Heartbeat) (path : Nat) : Prop :=
  s.SoundBeat hb path ∧ s.tw.serial ≠ 0 ∧ hb.serial = s.tw.serial

/-- The twin's record after a heartbeat heard. -/
def State.heardBeat (s : State) (hb : Heartbeat) (path : Nat) : Twin :=
  { s.tw with rxCount := tput s.tw.rxCount 0 path hb.count, lastHb := some hb,
              heardLink := if path = 0 then s.tm.tod else s.tw.heardLink,
              heardSvc := if path = 0 then s.tw.heardSvc else s.tm.tod }

theorem State.hears_iff : s.hears hb path = true ↔ s.OwnBeat hb path := by
  simp only [State.hears, State.OwnBeat, State.SoundBeat, Bool.and_eq_true, bne_iff_ne, beq_iff_eq, decide_eq_true_eq]
  tauto

theorem State.heartbeat_unheard (no : ¬ s.OwnBeat hb path) :
    s.heartbeat hb path = if path != 0 && !(hb.authentic && decide (tget s.tw.rxCount 0 path < hb.count)) then
      { s with sv := { s.sv with discarded := s.sv.discarded + 1 } } else s :=
  if_pos (by rw [Bool.eq_false_iff.2 (State.hears_iff.not.2 no)]; rfl)

theorem State.heartbeat_ignored (no : ¬ s.OwnBeat hb path) (calm : path = 0 ∨ s.SoundBeat hb path) :
    s.heartbeat hb path = s := by
  rw [State.heartbeat_unheard no]
  exact if_neg (by
    rcases calm with rfl | ⟨ok, new⟩
    · simp
    · simp [ok, new])

theorem State.heartbeat_discarded (no : ¬ s.OwnBeat hb path) (service : path ≠ 0) (bad : ¬ s.SoundBeat hb path) :
    s.heartbeat hb path = { s with sv := { s.sv with discarded := s.sv.discarded + 1 } } := by
  rw [State.heartbeat_unheard no]
  refine if_pos ?_
  have unsound : (hb.authentic && decide (tget s.tw.rxCount 0 path < hb.count)) = false :=
    Bool.eq_false_iff.2 (by simpa [State.SoundBeat] using bad)
  simp [service, unsound]

/-- The pair's state after a heartbeat heard in it. -/
def State.beatMoves (s : State) (hb : Heartbeat) (path : Nat) : State :=
  match s.tw.st with
  | .detached =>
    if path == 0 && s.tw.linkSt == .active then ({ s with tw := { s.tw with resyncs := s.tw.resyncs + 1 } }).setPair .resync else s
  | .selfFenced =>
    if hb.takenOver then { s with tw := { s.tw with st := .pairing, takenOver := true } }
    else { s with tw := { s.tw with st := .resync, selfFence := false, resyncs := s.tw.resyncs + 1 } }
  | .inService => if s.tw.plannedFence && s.tw.relinquishSent && hb.takenOver then s.becomeStandby else s
  | .solo => s.setPair .pairing
  | _ => s

theorem State.heartbeat_heard (own : s.OwnBeat hb path) :
    s.heartbeat hb path = ({ s with tw := s.heardBeat hb path }).beatMoves hb path := by
  refine (if_neg (by rw [State.hears_iff.2 own]; decide)).trans ?_
  simp only [State.beatMoves, State.heardBeat, beq_iff_eq] <;> rfl

theorem State.heartbeat_solo (own : s.OwnBeat hb path) (st : s.tw.st = .solo) :
    s.heartbeat hb path = { s with tw := { s.heardBeat hb path with st := .pairing } } := by
  rw [State.heartbeat_heard own]
  simp [State.beatMoves, State.heardBeat, State.setPair, st]

theorem State.heartbeat_fencedTaken (own : s.OwnBeat hb path) (st : s.tw.st = .selfFenced) (taken : hb.takenOver = true) :
    s.heartbeat hb path = { s with tw := { s.heardBeat hb path with st := .pairing, takenOver := true } } := by
  rw [State.heartbeat_heard own]
  simp [State.beatMoves, State.heardBeat, st, taken]

theorem State.heartbeat_fencedKept (own : s.OwnBeat hb path) (st : s.tw.st = .selfFenced) (kept : hb.takenOver = false) :
    s.heartbeat hb path =
      { s with tw := { s.heardBeat hb path with st := .resync, selfFence := false, resyncs := s.tw.resyncs + 1 } } := by
  rw [State.heartbeat_heard own]
  simp [State.beatMoves, State.heardBeat, st, kept]

theorem State.heartbeat_unpaired (own : s.OwnBeat hb path) (st : s.tw.st = .unpaired) :
    s.heartbeat hb path = { s with tw := s.heardBeat hb path } := by
  rw [State.heartbeat_heard own]
  simp [State.beatMoves, State.heardBeat, st]

/-- The next heartbeat of a path. -/
def State.nextBeat (s : State) (path : Nat) : Heartbeat :=
  { authentic := true, serial := s.sv.serial, twinId := s.md.twinId, state := pairCode s.tw.st,
    selfFenced := s.tw.selfFence, takenOver := s.tw.iTookOver, localAck := s.anyLocalAck,
    count := tget s.tw.txCount 0 path + 1, time := BitVec.ofNat 64 s.now.1, reserve := s.es.reserve }

/-- The time is taken, and a heartbeat of the path counted. -/
def State.beatCounted (s : State) (path : Nat) : State :=
  let t := s.now.2
  { t with tw := { t.tw with txCount := tput t.tw.txCount 0 path (tget s.tw.txCount 0 path + 1) } }

theorem State.heartbeatSend_noKeys (no : s.tw.keysAgreed = false) : s.heartbeatSend path = s :=
  if_pos (by simp [no])

theorem State.heartbeatSend_linkDown (link : path = 0) (down : s.tw.linkSt ≠ .active) : s.heartbeatSend path = s :=
  if_pos (by simp [link, down])

theorem State.heartbeatSend_service (keys : s.tw.keysAgreed = true) (run : s.md.st = .run) (service : path ≠ 0) :
    s.heartbeatSend path = (s.beatCounted path).emit (.heartbeat path (s.nextBeat path)) :=
  (if_neg (by simp [keys, run, service])).trans (if_neg (by simpa using service))

theorem State.heartbeatSend_link (keys : s.tw.keysAgreed = true) (run : s.md.st = .run) (link : path = 0)
    (active : s.tw.linkSt = .active) :
    s.heartbeatSend path = (s.beatCounted path).emitTwin (.heartbeat (s.nextBeat path)) :=
  (if_neg (by simp [keys, run, active])).trans (if_pos (by simpa using link))

end Heartbeats

/-- Settles O40: each row by the pair's state; heartbeats by whether they are heard. -/
theorem twinRows : Obligations.TwinRows := by
  unfold Obligations.TwinRows
  refine ⟨?rows, ?beats⟩
  case rows =>
    intro s route segment item got serial id att hb now later
    refine ⟨fun m => State.emitTwin_sent, fun m => State.emitTwin_waits,
      fun segment => answers_of_runIf_eq rfl (decide_eq_true segment) rfl,
      fun st => answers_of_runIf_true rfl (if_pos (by simp [st])),
      fun st => answers_of_runIf_true rfl (if_pos (by simp [st])),
      fun fenced witness near silent => takeover_taken fenced (State.mayDeclare_heard witness near silent),
      fun _ no => takeover_denied (State.mayDeclare_unheard no),
      fun st ok own named => answers_of_runIf_true rfl (if_pos (by simpa [st, ok, own] using named)),
      fun bad => answers_of_runIf_true rfl (if_neg (by simp [bad])),
      fun fence unsent st => answers_of_runIf_true rfl (if_pos (by simp [fence, unsent, State.twinServes, st])),
      fun hr st may => ?planned, fun hr may => ?enabled,
      fun st => answers_of_runIf_true rfl (State.selfFenceNow_detached st),
      fun st => answers_of_runIf_true rfl (State.selfFenceNow_solo st),
      fun on st known named other ok kept =>
        answers_of_runIf_true rfl (State.pair_resync on st known named other ok kept),
      fun on st no => answers_of_runIf_true rfl (State.pair_unattested on st no),
      fun no => answers_of_runIf_true rfl (State.mirrorReceipt_unknown no),
      fun t due commit => answers_of_runIf_true rfl (State.mirrorReceipt_entry due commit),
      fun t h run st => answers_of_runIf_true rfl (State.mirrored_keyGone run st)⟩
    case planned => exact writes_of_odWriteNum (f := State.planFence) rfl hr may (by simp [st]) rfl
    case enabled => exact writes_of_odWriteNum rfl hr may (by simp) rfl
  case beats =>
    intro s hb path hp heard sound own
    have hears {t : State} (h : s.heartbeat hb path = t) : Answers (.heartbeat hb path) s t :=
      answers_of_runIf_eq rfl (decide_eq_true hp) h
    have sends {t : State} (h : s.heartbeatSend path = t) : Answers (.heartbeatSend path) s t :=
      answers_of_runIf_eq rfl (decide_eq_true hp) h
    exact ⟨fun no calm => hears (State.heartbeat_ignored no calm),
      fun no service bad => hears (State.heartbeat_discarded no service bad),
      fun own st => hears (State.heartbeat_solo own st),
      fun own st taken => hears (State.heartbeat_fencedTaken own st taken),
      fun own st kept => hears (State.heartbeat_fencedKept own st kept),
      fun own st => hears (State.heartbeat_unpaired own st),
      fun no => sends (State.heartbeatSend_noKeys no),
      fun keys run => ⟨fun service => sends (State.heartbeatSend_service keys run service),
        fun link active => sends (State.heartbeatSend_link keys run link active),
        fun link down => sends (State.heartbeatSend_linkDown link down)⟩⟩

end Sys2Proof.Machine
end

section
/-! # The service protocol

Public reads, OPEN, requests, and the end of a session (R432-R436), and obligation O57. -/

namespace Sys2Proof.Machine
open Sys2Proof.Safety

section PublicRead
variable {s : State} {at_ : SspTo} {index sub offset : Nat}

/-- A PUBLIC-REPLY on the segment that asked. -/
def State.publicReply (s : State) (at_ : SspTo) (abort : Nat) (body : List Octet) : State :=
  s.emit (.ssp at_.segB s.sv.serial 2 0 0 abort body)

theorem State.publicRead_silent (no : s.md.st = .off ∨ at_.serial ≠ s.sv.serial) :
    s.publicRead at_ index sub offset = s :=
  if_pos (by simpa using no)

theorem State.publicRead_answers (on : s.md.st ≠ .off) (mine : at_.serial = s.sv.serial)
    (may : s.odGate .anyone index sub false true 0 = 0) :
    s.publicRead at_ index sub offset =
      (let value := s.now.2.publicValue index sub s.now.1
       s.now.2.publicReply at_ 0 (replyBody 0 0 offset value.length (pieceOf value offset))) :=
  (if_neg (by simp [on, mine])).trans (if_pos (by simp [may]))

theorem State.publicRead_aborts (on : s.md.st ≠ .off) (mine : at_.serial = s.sv.serial)
    (no : s.odGate .anyone index sub false true 0 ≠ 0) :
    s.publicRead at_ index sub offset =
      s.publicReply at_ (s.odGate .anyone index sub false true 0)
        (replyBody 0 (s.odGate .anyone index sub false true 0) offset 0 []) :=
  (if_neg (by simp [on, mine])).trans (if_neg (by simp [no]))

end PublicRead

/-- Who computes session TAGs: Zenith, or in STANDBY the boot ROM. -/
theorem State.sspServed_iff (s : State) :
    s.sspServed = true ↔ s.md.st ≠ .off ∧ (s.md.st = .standby ∨ s.tn.absent = false) := by
  simp [State.sspServed]

section Opens
variable {s : State} {at_ : SspTo} {role : Nat}

theorem State.sspOpen_foreign (no : at_.serial ≠ s.sv.serial) : s.sspOpen at_ role = s :=
  if_pos (by simp [no])

theorem State.sspOpen_full (full : 8 ≤ s.sv.sessions.length) : s.sspOpen at_ role = s :=
  if_pos (by simp [full])

/-- The test of an OPEN that finds a role, its module and a free session passes. -/
theorem State.sspOpen_admits (served : s.sspServed = true) (mine : at_.serial = s.sv.serial) (lo : 1 ≤ role)
    (hi : role ≤ 3) (free : s.sv.sessions.length < 8) :
    ¬ (at_.serial != s.sv.serial || !s.sspServed || role == 0 || decide (3 < role) ||
      decide (8 ≤ s.sv.sessions.length)) = true := by
  simp [mine, served, Nat.ne_of_gt lo, hi, free]

theorem State.sspOpen_tooOften (served : s.sspServed = true) (mine : at_.serial = s.sv.serial) (lo : 1 ≤ role)
    (hi : role ≤ 3) (free : s.sv.sessions.length < 8) (often : 10 ≤ s.now.2.recentOpens at_.segB s.now.1) :
    s.sspOpen at_ role = s.now.2 :=
  (if_neg (State.sspOpen_admits served mine lo hi free)).trans (if_pos often)

/-- The session that an OPEN takes. -/
def State.newSession (s : State) (at_ : SspTo) (role : Nat) : Session :=
  { id := s.sv.nextSession, segB := at_.segB, role := role, hasKey := s.openKnown role, rxCounter := 0, txCounter := 1,
    lastTag := none, lastReply := (0, []), badTags := 0, piece := none }

theorem State.sspOpen_opens (served : s.sspServed = true) (mine : at_.serial = s.sv.serial) (lo : 1 ≤ role)
    (hi : role ≤ 3) (free : s.sv.sessions.length < 8) (seldom : s.now.2.recentOpens at_.segB s.now.1 < 10) :
    s.sspOpen at_ role =
      (let u := s.now.2
       { u with fresh := u.fresh + 1,
                out := u.out ++ [.ssp at_.segB u.sv.serial 4 u.sv.nextSession 1 0
                  (natOct 32 (Config.randomBits u.fresh).toNat)],
                sv := { u.sv with sessions := u.sv.sessions ++ [s.newSession at_ role], nextSession := u.sv.nextSession + 1,
                                  opens := ((at_.segB, s.now.1) :: u.sv.opens).take 20 } }) :=
  (if_neg (State.sspOpen_admits served mine lo hi free)).trans (if_neg (Nat.not_le.2 seldom))

end Opens

section Requests
variable {s t : State} {q : SspRequest} {x y : Session}

/-- A request that is not accepted leaves what its acceptance leaves, whether it reads or writes. -/
theorem requests_discarded (h : s.acceptRequest q = (none, t)) :
    Answers (.requestRead q) s t ∧ Answers (.requestWrite q) s t :=
  ⟨answers_of_runIf_true rfl (by simp only [State.sspRequest, h]),
    answers_of_runIf_true rfl (by simp only [State.sspRequest, h])⟩

theorem State.acceptRequest_foreign (no : q.to_.serial ≠ s.sv.serial) : s.acceptRequest q = (none, s) :=
  if_pos (by simp [no])

section Mine
variable (served : s.sspServed = true) (mine : q.to_.serial = s.sv.serial)
include served mine

theorem State.acceptRequest_unknown (none_ : s.session q.session = none) :
    s.acceptRequest q = (none, s.countDiscarded) := by
  simp [State.acceptRequest, served, mine, none_]

variable (found : s.session q.session = some x)
include found

theorem State.acceptRequest_old (key : x.hasKey = true) (authentic : q.authentic = true) (old : q.counter ≤ x.rxCounter) :
    s.acceptRequest q = (none, s.countDiscarded) := by
  simp [State.acceptRequest, served, mine, found, key, authentic, old]

/-- A bad TAG is counted; the third ends the session. -/
theorem State.acceptRequest_badTag (bad : q.authentic = false) :
    s.acceptRequest q =
      (none, let u := (s.setSession { x with badTags := x.badTags + 1 }).countDiscarded
             if 3 ≤ x.badTags + 1 then u.endSession { x with badTags := x.badTags + 1 } (some 4) else u) := by
  simp [State.acceptRequest, served, mine, found, bad]

theorem State.acceptRequest_accepts (key : x.hasKey = true) (authentic : q.authentic = true)
    (new : x.rxCounter < q.counter) (small : q.counter < 2 ^ 64) :
    s.acceptRequest q = (some { x with rxCounter := q.counter, badTags := 0, segB := q.to_.segB },
      s.setSession { x with rxCounter := q.counter, badTags := 0, segB := q.to_.segB }) := by
  have fits : (q.counter ≤ x.rxCounter || 2 ^ 64 ≤ q.counter) = false := by
    rw [decide_eq_false (Nat.not_le.2 new), decide_eq_false (Nat.not_le.2 small)]
    rfl
  simp only [State.acceptRequest, served, mine, found, key, authentic, fits, bne_self_eq_false, Bool.not_true,
    Bool.or_self, Bool.and_self, Bool.false_eq_true, if_false]

end Mine

/-- A request that repeats the last one is answered again, and not executed. -/
theorem requests_repeated (h : s.acceptRequest q = (some y, t)) (again : y.lastTag = some q.reqTag) :
    Answers (.requestRead q) s (t.respond y q.reqTag y.lastReply.1 y.lastReply.2) ∧
      Answers (.requestWrite q) s (t.respond y q.reqTag y.lastReply.1 y.lastReply.2) :=
  ⟨answers_of_runIf_true rfl (by simp [State.sspRequest, h, again]),
    answers_of_runIf_true rfl (by simp [State.sspRequest, h, again])⟩

theorem State.sspRequest_runs (h : s.acceptRequest q = (some y, t)) (new : y.lastTag ≠ some q.reqTag)
    {run : State → Session → State × Session × Nat × List Octet} {u : State} {z : Session} {abort : Nat}
    {body : List Octet} (ran : run t y = (u, z, abort, body)) :
    s.sspRequest q run = u.respond z q.reqTag abort body := by
  simp [State.sspRequest, h, new, ran]

theorem State.runRead_answers (ok : (s.odRead (.session x.id) q.index q.sub).sv.answerAbort = 0) :
    s.runRead q x = (let w := s.odRead (.session x.id) q.index q.sub
      (w, x, 0, replyBody q.reqTag 0 q.offset w.sv.answer.length (pieceOf w.sv.answer q.offset))) :=
  if_pos (by simp [ok])

theorem State.runRead_aborts (no : (s.odRead (.session x.id) q.index q.sub).sv.answerAbort ≠ 0) :
    s.runRead q x = (let w := s.odRead (.session x.id) q.index q.sub
      (w, x, w.sv.answerAbort, replyBody q.reqTag w.sv.answerAbort q.offset 0 [])) :=
  if_neg (by simpa using no)

/-- A whole value that the role may write, and that its object takes. -/
theorem State.runWrite_whole {ty : OType}
    (typed : (objRights ((s.routeRole (.session x.id)).getD .anyone) q.index q.sub).1 = some ty) (whole : ty.pieces = false)
    (may : s.odGate ((s.routeRole (.session x.id)).getD .anyone) q.index q.sub true true 1 = 0)
    (short : q.value.length ≤ 1024) (first : q.offset = 0) (last : q.last = true)
    (ok : ((s.setSession { x with piece := none }).odWrite (.session x.id) q.index q.sub q.value).sv.answerAbort = 0) :
    s.runWrite q x = ((s.setSession { x with piece := none }).odWrite (.session x.id) q.index q.sub q.value,
      { x with piece := none }, 0, replyBody q.reqTag 0 q.offset q.value.length []) := by
  simp [State.runWrite, typed, whole, may, Nat.not_lt.2 short, first, last, ok]

end Requests

section Ends
variable {s : State} {id n : Nat} {auth : Bool} {x : Session}

theorem State.sspClose_unknown (none_ : s.session id = none) : s.sspClose id auth n = s.countDiscarded := by
  simp [State.sspClose, none_]

theorem State.sspClose_closes (found : s.session id = some x) (ok : auth = true) (key : x.hasKey = true)
    (new : x.rxCounter < n) : s.sspClose id auth n = s.endSession x none := by
  simp [State.sspClose, found, ok, key, new]

theorem State.sspClose_badTag (found : s.session id = some x) (bad : auth = false) :
    s.sspClose id auth n = s.countDiscarded := by
  simp [State.sspClose, found, bad]

theorem sessionIdle_unknown (none_ : s.session id = none) : Answers (.sessionIdle id) s s :=
  answers_of_runIf_true rfl (by simp only [none_])

theorem sessionIdle_ends (found : s.session id = some x) : Answers (.sessionIdle id) s (s.endSession x (some 3)) :=
  answers_of_runIf_true rfl (by simp only [found])

end Ends

/-- Settles O57: a public read by the gate, an OPEN by the sessions and recent OPENs, a request by what its acceptance
finds, and the two ends of a session. -/
theorem serviceProtocol : Obligations.ServiceProtocol := by
  unfold Obligations.ServiceProtocol
  intro s at_ index sub offset role reason id n nonce q x auth value reply discarded served mine
  refine ⟨fun no => answers_of_runIf_true rfl (State.publicRead_silent no),
    fun on here => ⟨fun may => answers_of_runIf_true rfl (State.publicRead_answers on here may),
      fun no => answers_of_runIf_true rfl (State.publicRead_aborts on here no)⟩,
    fun no => answers_of_runIf_true rfl (State.sspOpen_foreign no), fun serves here lo hi => ?opens,
    fun _ other => requests_discarded (State.acceptRequest_foreign other),
    fun serves own none_ => requests_discarded (State.acceptRequest_unknown (s.sspServed_iff.2 serves) own none_),
    fun serves own found => ?request,
    fun none_ => ⟨answers_of_runIf_true rfl (State.sspClose_unknown none_), sessionIdle_unknown none_⟩,
    fun found => ⟨fun ok key new => answers_of_runIf_true rfl (State.sspClose_closes found ok key new),
      fun bad => answers_of_runIf_true rfl (State.sspClose_badTag found bad), sessionIdle_ends found⟩⟩
  case opens =>
    have serves := s.sspServed_iff.2 serves
    exact ⟨fun full => answers_of_runIf_true rfl (State.sspOpen_full full),
      fun free often => answers_of_runIf_true rfl (State.sspOpen_tooOften serves here lo hi free often),
      fun free seldom => answers_of_runIf_true rfl (State.sspOpen_opens serves here lo hi free seldom)⟩
  case request =>
    have serves := s.sspServed_iff.2 serves
    refine ⟨fun key ok old => requests_discarded (State.acceptRequest_old serves own found key ok old),
      fun bad few => requests_discarded ((State.acceptRequest_badTag serves own found bad).trans
        (congrArg (Prod.mk none) (if_neg (by omega)))),
      fun bad many => (requests_discarded ((State.acceptRequest_badTag serves own found bad).trans
        (congrArg (Prod.mk none) (if_pos (by omega))))).1, fun key ok new small => ?accepted⟩
    have accepted := State.acceptRequest_accepts serves own found key ok new small
    exact ⟨requests_repeated accepted, fun fresh =>
      ⟨⟨fun ok => answers_of_runIf_true rfl (State.sspRequest_runs accepted fresh (State.runRead_answers ok)),
        fun no => answers_of_runIf_true rfl (State.sspRequest_runs accepted fresh (State.runRead_aborts no))⟩,
      fun ty typed whole may short first last ok =>
        answers_of_runIf_true rfl
          (State.sspRequest_runs accepted fresh (State.runWrite_whole typed whole may short first last ok))⟩⟩

end Sys2Proof.Machine
end

section
/-! # Objects and registers

Credentials, object writes by value and by role, the registers of page SV (R423-R429, R433, R474, R476), and obligation
O58. -/

namespace Sys2Proof.Machine
open Sys2Proof.Safety

/-- The state after an object's row, as an object write finds it. -/
theorem nextOf_runIf {s t : State} {ok : Bool} (hok : ok = true) : nextOf s (s.runIf ok t) = t.withQueue s := by
  rw [State.runIf, if_pos hok, nextOf]

theorem State.withQueue_idem (t s : State) : (t.withQueue s).withQueue s = t.withQueue s := rfl

section NoRole
variable {s : State} {route : Route} {index sub v more : Nat} {l : List Octet} {f : State → State}
  (stranger : s.routeRole route = none)
include stranger

/-- A route without a role is answered that there is no such object. -/
theorem State.odWriteNum_stranger : s.odWriteNum route index sub v more f = s.odAnswer 1 [] := by
  simp only [State.odWriteNum, stranger]

theorem State.odWriteOct_stranger : s.odWriteOct route index sub l more f = s.odAnswer 1 [] := by
  simp only [State.odWriteOct, stranger]

theorem State.credentialWrite_stranger : s.credentialWrite route sub l = s.odAnswer 1 [] :=
  State.odWriteOct_stranger stranger

theorem State.setObject_stranger : s.setObject route index sub v l = s.odAnswer 1 [] := by
  unfold State.setObject
  split
  · exact State.odWriteOct_stranger stranger
  · exact State.odWriteOct_stranger stranger

variable (known : wfRoute route = true) {o : Host.Outcome State Fault Refusal}
include known

/-- The row of an object with a number of its own. -/
theorem numRow_stranger (row : o = s.runIf (wfRoute route) (s.odWriteNum route index sub v more f)) :
    (nextOf s o).withQueue s = (s.odAnswer 1 []).withQueue s := by
  rw [row, nextOf_runIf known, State.odWriteNum_stranger stranger, State.withQueue_idem]

/-- The row of an object with octets of its own. -/
theorem octRow_stranger (row : o = s.runIf (wfRoute route) (s.odWriteOct route index sub l more f)) :
    (nextOf s o).withQueue s = (s.odAnswer 1 []).withQueue s := by
  rw [row, nextOf_runIf known, State.odWriteOct_stranger stranger, State.withQueue_idem]

theorem State.customerObject_stranger :
    (s.customerObject route v).withQueue s = (s.odAnswer 1 []).withQueue s := by
  unfold State.customerObject
  split
  case h_1 => exact numRow_stranger (f := fun s => s.customerCommand 1) stranger known rfl
  case h_2 => exact numRow_stranger (f := fun s => s.customerCommand 2) stranger known rfl
  case h_3 => rw [State.odWriteNum_stranger stranger]

/-- A write by a route without a role: each object's own row answers it as the others do. -/
theorem State.odWrite_stranger (tenants : index ≠ 0x1500) (update : index ≠ 0x1800) :
    (s.odWrite route index sub l).withQueue s = (s.odAnswer 1 []).withQueue s := by
  unfold State.odWrite
  extract_lets v fits
  split
  · rw [State.odWriteOct_stranger stranger]
  · split
    case h_1 | h_2 | h_3 => rw [State.credentialWrite_stranger stranger]
    case h_4 | h_5 | h_6 | h_7 | h_8 | h_9 => exact numRow_stranger stranger known rfl
    case h_10 => exact octRow_stranger stranger known rfl
    case h_11 => exact numRow_stranger stranger known rfl
    case h_12 | h_13 => exact absurd rfl tenants
    case h_14 | h_15 | h_16 | h_17 | h_18 => exact numRow_stranger stranger known rfl
    case h_19 => exact absurd rfl update
    case h_20 => exact numRow_stranger stranger known rfl
    case h_21 => exact State.customerObject_stranger stranger known
    case h_22 => rw [State.setObject_stranger stranger]

end NoRole

section Objects
variable {s : State} {route : Route} {index sub : Nat} {l : List Octet}

/-- A permitted credential replaces the role's and ends its sessions. -/
theorem credential_written (known : wfRoute route = true) (lo : 4 ≤ sub) (hi : sub ≤ 6)
    (may : MayWriteOctets s route 0x0300 sub l) :
    Writes (.credential route sub l) s (s.setCredential (sub - 3) l) :=
  answers_of_runIf_eq rfl (by simp [known, lo, hi]) ((odWriteOct_of_mayWrite may _ _).trans (if_pos rfl))

theorem credential_stranger (known : wfRoute route = true) (lo : 4 ≤ sub) (hi : sub ≤ 6)
    (stranger : s.routeRole route = none) : Answers (.credential route sub l) s (s.odAnswer 1 []) :=
  answers_of_runIf_eq rfl (by simp [known, lo, hi]) (State.credentialWrite_stranger stranger)

/-- An object write whose value has the object's form is the object's own. -/
theorem State.odWrite_fits {ty : OType} {n : Nat} (typed : objRights .owner index sub = (some ty, n))
    (fits : ty.fits l = true) (known : wfRoute route = true) :
    ¬ (!(match objRights .owner index sub with
      | (some t, _) => t.fits l
      | _ => true) || !wfRoute route) = true := by
  simp [typed, fits, known]

theorem OType.bool_fits (one : l.length = 1) : OType.bool.fits l = true := by
  simp [OType.fits, OType.lengths, one]

theorem OType.u_fits {n : Nat} (long : l.length = n) : (OType.u n).fits l = true := by
  simp [OType.fits, OType.lengths, long]

theorem objRights_identify : objRights .owner 0x1A00 1 = (some .bool, 3) := by decide

theorem objRights_startPermit : objRights .owner 0x1000 0x0A = (some .bool, 3) := by decide

theorem objRights_tenantSelect : objRights .owner 0x1500 1 = (some (.u 2), 3) := by decide

/-- An object without a command of its own takes the value, and a volatile one is not persisted. -/
theorem State.setObject_volatile (plain : (selectOf index == some (index, sub)) = false)
    (kept : volatileObject index sub = true) {v : Nat} (may : MayWriteOctets s route index sub l)
    (ok : s.setAbort index sub v (s.sel route index) l = 0) :
    s.setObject route index sub v l = (s.setValue index sub v (s.sel route index) l).odAnswer 0 [] := by
  rw [State.setObject, plain, if_neg Bool.false_ne_true, odWriteOct_of_mayWrite may, if_pos ok, kept, if_pos rfl]

/-- A select object is kept per route. -/
theorem State.setObject_select (selects : (selectOf index == some (index, sub)) = true) {v : Nat}
    (may : MayWriteOctets s route index sub l) (ok : selectRange index v = 0) :
    s.setObject route index sub v l =
      ({ s with sv := { s.sv with selects := tput s.sv.selects 0 (s.selectKey route index sub) v } }).odAnswer 0 [] := by
  rw [State.setObject, selects, if_pos rfl, odWriteOct_of_mayWrite may, if_pos ok]

theorem identify_written (known : wfRoute route = true) (may : MayWriteOctets s route 0x1A00 1 l) (one : l.length = 1)
    (bool : octNat l ≤ 1) :
    Writes (.objectWrite route 0x1A00 1 l) s { s with sv := { s.sv with identify := octNat l == 1 } } := by
  have ok : s.setAbort 0x1A00 1 (octNat l) (s.sel route 0x1A00) l = 0 := by
    simp [State.setAbort, objRights_identify, OType.boolOk, bool, rangeOnly]
  exact answers_of_runIf_eq rfl known
    ((if_neg (State.odWrite_fits objRights_identify (OType.bool_fits one) known)).trans
      (State.setObject_volatile rfl rfl may ok))

theorem octNat_append_singleton (l : List Octet) (o : Octet) : octNat (l ++ [o]) = octNat l * 256 + o.toNat := by
  simp [octNat]

theorem octNat_lt (l : List Octet) : octNat l < 256 ^ l.length := by
  induction l using List.reverseRecOn with
  | nil => decide
  | append_singleton l o ih =>
    have small : o.toNat < 256 := o.isLt
    rw [octNat_append_singleton, List.length_append, List.length_singleton, pow_succ]
    omega

/-- Octets of the object's form are a number of the object's form. -/
theorem OType.fits_octNat {ty : OType} (fits : ty.fits l = true) :
    octNat l < 256 ^ ty.lengths.2 ∧ (ty = .w36 → octNat l < 2 ^ 36) := by
  simp only [OType.fits, Bool.and_eq_true, decide_eq_true_eq] at fits
  obtain ⟨⟨_, long⟩, form⟩ := fits
  refine ⟨(octNat_lt l).trans_le (Nat.pow_le_pow_right (by decide) long), ?_⟩
  rintro rfl
  simpa using form

/-- A route that may write the octets may write their number. -/
theorem mayWrite_octNat (may : MayWriteOctets s route index sub l) : MayWrite s route index sub (octNat l) := by
  obtain ⟨r, role, fits, gate⟩ := may
  refine ⟨r, role, ?_, gate⟩
  split
  case h_1 t n typed =>
    rw [typed] at fits
    exact OType.fits_octNat fits
  case h_2 => trivial

theorem startPermit_written (known : wfRoute route = true) (may : MayWriteOctets s route 0x1000 0x0A l)
    (one : l.length = 1) (bool : octNat l ≤ 1) :
    Writes (.objectWrite route 0x1000 0x0A l) s { s with md := { s.md with startPermit := octNat l == 1 } } := by
  have object : s.odWrite route 0x1000 0x0A l = nextOf s (execStartPermit route (octNat l) s) :=
    if_neg (State.odWrite_fits objRights_startPermit (OType.bool_fits one) known)
  have row := odWriteNum_of_mayWrite (mayWrite_octNat may) (rangeOnly (octNat l ≤ 1))
    (fun s => { s with md := { s.md with startPermit := octNat l == 1 } })
  rw [if_pos (by simp [rangeOnly, bool])] at row
  refine answers_of_runIf (u := s.odWrite route 0x1000 0x0A l) rfl known ?_
  rw [object, execStartPermit, nextOf_runIf known, row]
  rfl

theorem tenantSelect_written (known : wfRoute route = true) (may : MayWriteOctets s route 0x1500 1 l)
    (two : l.length = 2) (inside : octNat l < 512) :
    Writes (.objectWrite route 0x1500 1 l) s
      { s with sv := { s.sv with selects := tput s.sv.selects 0 (s.selectKey route 0x1500 1) (octNat l) } } := by
  have ok : selectRange 0x1500 (octNat l) = 0 := by
    have : octNat l ≤ 511 := by omega
    simp [selectRange, within, rangeOnly, this]
  exact answers_of_runIf_eq rfl known
    ((if_neg (State.odWrite_fits objRights_tenantSelect (OType.u_fits two) known)).trans
      (State.setObject_select rfl may ok))

end Objects

section Registers
variable {s : State} {acc : Accessor} {addr : Nat} {v : Word}

/-- A register that the accessor reaches is written by its page. -/
theorem registerWrite_reached {t : State} (ha : wfAccessor acc = true) (inside : addr < 2 ^ 48)
    (reach : s.ctlReach acc addr = true) (h : s.ctlWrite acc addr v = t) : Answers (.registerWrite acc addr v) s t :=
  answers_of_runIf_eq rfl (by rw [ha, decide_eq_true inside]; rfl) ((if_pos reach).trans h)

theorem registerWrite_barred (ha : wfAccessor acc = true) (inside : addr < 2 ^ 48) (barred : s.ctlReach acc addr = false) :
    Answers (.registerWrite acc addr v) s s :=
  answers_of_runIf_eq rfl (by rw [ha, decide_eq_true inside]; rfl) (if_neg (by rw [barred]; decide))

theorem State.ctlReach_host (host : acc.role = .h) : s.ctlReach acc addr = true := by
  simp [State.ctlReach, host]

theorem State.ctlReach_zenith (zenith : acc.role = .z) : s.ctlReach acc addr = true := by
  simp [State.ctlReach, zenith]

theorem State.ctlWrite_outside (outside : ctlPage addr = .outside) : s.ctlWrite acc addr v = s := by
  simp [State.ctlWrite, outside]

theorem State.ctlWrite_sv (page : ctlPage addr = .modulePage 6) : s.ctlWrite acc addr v = s.svWrite acc (addr % 4096) v := by
  simp [State.ctlWrite, page]

/-- The own-core window: each register is written by Zenith, the hypervisor and a guest. -/
theorem State.svWrite_own (right : zhg.contains acc.role = true) :
    s.svWrite acc 1 v = s.setCore acc.core { s.core acc.core with s1rootHi := fld v 11 0 } ∧
    s.svWrite acc 2 v =
      s.setCore acc.core { s.core acc.core with s1root := baseOf (s.core acc.core).s1rootHi v 1024 } ∧
    s.svWrite acc 4 v = s.setCore acc.core { s.core acc.core with vec2 := baseOf (s.core acc.core).vec2Hi v 16 } :=
  ⟨if_pos right, if_pos right, if_pos right⟩

/-- The hypervisor writes its own roots and vectors, and not Zenith's. -/
theorem State.svWrite_host (host : acc.role = .h) :
    s.svWrite acc 0o27 v = { s with tn := { s.tn with h1rootHi := fld v 11 0 } } ∧
    s.svWrite acc 0o32 v = { s with tn := { s.tn with vec1 := baseOf s.tn.vec1Hi v 16 } } ∧
    s.svWrite acc 0o23 v = s := by
  simp [State.svWrite, host, zh]

theorem State.svWrite_zenith (zenith : acc.role = .z) :
    s.svWrite acc 0o26 v = { s with tn := { s.tn with vec0 := baseOf s.tn.vec0Hi v 16 } } := by
  simp [State.svWrite, zenith, zh]

end Registers

/-- Settles O58: credentials and objects by what the route may write, registers by the page and the role. -/
theorem objectsAndRegisters : Obligations.ObjectsAndRegisters := by
  unfold Obligations.ObjectsAndRegisters
  refine ⟨fun s route sub l known lo hi => ⟨credential_written known lo hi, credential_stranger known lo hi⟩, ?objects,
    ?registers⟩
  case objects =>
    exact fun s route l known => ⟨identify_written known, startPermit_written known, tenantSelect_written known,
      fun stranger index sub tenants update =>
        answers_of_runIf rfl known (State.odWrite_stranger stranger known tenants update)⟩
  case registers =>
    intro s acc addr v ha inside off k
    have sv {n : Nat} {t : State} (page : ctlPage addr = .modulePage 6) (reach : s.ctlReach acc addr = true)
        (at_ : addr % 4096 = n) (h : s.svWrite acc n v = t) : Answers (.registerWrite acc addr v) s t :=
      registerWrite_reached ha inside reach ((State.ctlWrite_sv page).trans (at_ ▸ h))
    refine ⟨registerWrite_barred ha inside,
      fun reach outside => registerWrite_reached ha inside reach (State.ctlWrite_outside outside),
      fun reach page right => ?own, fun page host => ?host,
      fun page zenith at_ => sv page (State.ctlReach_zenith zenith) at_ (State.svWrite_zenith zenith)⟩
    case own =>
      obtain ⟨rootHi, root, vectors⟩ := State.svWrite_own (s := s) (v := v) right
      exact ⟨fun at_ => sv page reach at_ rootHi, fun at_ => sv page reach at_ root, fun at_ => sv page reach at_ vectors⟩
    case host =>
      obtain ⟨rootHi, vectors, zenith⟩ := State.svWrite_host (s := s) (v := v) host
      have reach := State.ctlReach_host (s := s) (addr := addr) host
      exact ⟨fun at_ => sv page reach at_ rootHi, fun at_ => sv page reach at_ vectors,
        fun at_ => sv page reach at_ zenith⟩

end Sys2Proof.Machine
end
